-- ==== Sys2Proof/Word.lean ====
section
/-! DEFINITION. The word types of the Lemup L96 model and the index types of Table 0-8 (R20). -/

namespace Sys2Proof

/-- One byte, as the module places it in host memory and on its links (R13). -/
abbrev Byte := BitVec 8

/-- A 64-bit mailbox word or BAR0 register (R14, R596). -/
abbrev W64 := BitVec 64

/-- A 32-bit word: FP32 bit patterns, scalar registers, tags. -/
abbrev W32 := BitVec 32

/-- Tenants 0 to 3 (Table 0-8). -/
abbrev TenantId := Fin 4

/-- Mailboxes 0 to 8: tenant × 2 + class, 8 is maintenance (Table 0-8). -/
abbrev MailboxId := Fin 9

/-- PCIe functions: 0 the physical function, 1 + t the virtual function of tenant t (R592). -/
abbrev FunctionId := Fin 5

/-- Gutter sources 0 to 127 (Table 0-8). -/
abbrev SourceId := Fin 128

/-- Gutter classes 0 (A) to 7 (H). -/
abbrev ClassId := Fin 8

/-- Intake contexts 0 to 23. -/
abbrev ContextId := Fin 24

/-- Ridge ports 0 to 7. -/
abbrev PortId := Fin 8

/-- Strainers 0 to 3. -/
abbrev StrainerId := Fin 4

/-- Vtiles 0 to 9,215: vy × 96 + vx (R5). -/
abbrev VtileId := Fin 9216

/-- Sites 0 to 9,599: sy × 100 + sx. -/
abbrev SiteId := Fin 9600

/-- Lanes 0 to 31 of a tile. -/
abbrev LaneId := Fin 32

/-- Span indexes 0 to 15. -/
abbrev SpanIndex := Fin 16

end Sys2Proof
end

