-- ==== Sys2Proof/Syntax.lean ====
section
/-! DEFINITION. The commands of the Lemup L96 module: one constructor of `Instr` for each row of the opcode table, in
the table's order, with the operands that the spec gives the command or event. The mailbox commands carry their 64-byte
entry as it stands in the ring (`Call`), so that every field is decoded once, in the meaning, from Table 15-9. -/

namespace Sys2Proof

/-! ### Operands shared by several families -/

/-- A mailbox command as it reaches the module: the mailbox and the function it was posted through, the eight words of
its entry (R603), and what the DMA of its buffer lists meets (R610, R611). -/
structure Call where
  /-- The mailbox that carries it. -/
  mbx : MailboxId
  /-- The function through which it was posted. -/
  fn : FunctionId := 0
  /-- W0 to W7. -/
  words : Vector W64 8 := Vector.replicate 8 0
  /-- The bytes that a DMA read of its buffer list delivers, in list order. -/
  data : List Byte := []
  /-- Total length in bytes of the buffers of its list. -/
  room : Nat := 0
  /-- A DMA access of its buffers fails. -/
  dmaFails : Bool := false
  deriving DecidableEq, Repr

/-- How a writable tensor is carried between steps (chapter 13, "The step journal"). -/
inductive CarryMode where
  | readOnly | scratch | append | inPlace
  deriving DecidableEq, Repr

/-- A designated output (R525): scratchpad bytes of a vtile, or bytes of a tensor. -/
inductive OutputRef where
  | scratch (span vtile addr len : Nat)
  | tier (tensor off len : Nat)
  deriving DecidableEq, Repr

/-- A graphical model that a package carries (R349): its description, its vtile-list entries, its replica count and the
scratchpad address of its area in the package data of each vtile. -/
structure ModelDecl where
  description : List Byte
  vtiles : List Nat
  replicas : Nat := 1
  base : Nat := 0
  deriving DecidableEq, Repr

/-- What a package declares, as PACKAGE_LOAD reads it. The package file format belongs to the Ecdom toolchain and is
outside the manual, so the decoded declarations come with the command (log entry 8). -/
structure PackageDecl where
  /-- Rectangle of virtual coordinates: VX0, VY0, VX1, VY1 inclusive (R8). -/
  rect : Nat × Nat × Nat × Nat
  /-- Draw budget D (R301). -/
  budget : Nat := 0
  /-- Span extent E (R503). -/
  extent : Nat := 1
  /-- Instruction-space size in bytes (R75). -/
  imageSize : Nat := 4096
  /-- Step entry address. -/
  entry : Nat := 0
  /-- Scratchpad address of the carried-state area (R69). -/
  carriedBase : Nat := 0
  /-- Length of the carried-state area, 0 to 64 KiB (R69). -/
  carriedLen : Nat := 0
  /-- Package data bytes per vtile (R39, R794). -/
  dataBytes : Nat := 0
  /-- Package image bytes of each vtile: (vtile, address, bytes). -/
  image : List (Nat × Nat × List Byte) := []
  /-- Tensors: (id, size, mode, class). -/
  tensors : List (Nat × Nat × CarryMode × Nat) := []
  /-- Contents of tensors: (id, offset, bytes). -/
  tensorData : List (Nat × Nat × List Byte) := []
  /-- JOURNAL_BYTES (R536). -/
  journalBytes : Nat := 0
  /-- Designated outputs in the order of R525. -/
  outputs : List OutputRef := []
  /-- Designated outputs of each phase (R505). -/
  phases : List (List OutputRef) := []
  /-- Strainers it needs (R9). -/
  strainers : Nat := 0
  /-- Ridge ports it needs (R9). -/
  ports : Nat := 0
  /-- Resource classes it uses, a mask in the order of Table 5-6 (R199). -/
  uses : Nat := 0
  /-- It declares a target model for DECODE_RUN (R436). -/
  decodes : Bool := false
  /-- Largest per-collar schedule in bytes on the mapping without bad sites (R217). -/
  scheduleBytes : Nat := 0
  /-- Slot ids that the schedule of each vtile contains (R80). -/
  slots : List Nat := []
  /-- Cache area of each vtile in bytes, 0 to 256 KiB (R242). -/
  cacheBytes : Nat := 0
  /-- Models it carries (R349). -/
  models : List ModelDecl := []
  /-- Cross-module reductions: (id, element type code, element count, contributor mask, destination, 16 for ALL) (R486). -/
  reductions : List (Nat × Nat × Nat × Nat × Nat) := []
  /-- The parameters that R92, R99, R116 and R413 let PACKAGE_LOAD refuse are all valid. -/
  paramsOk : Bool := true
  deriving DecidableEq, Repr

/-- Kinds of a row (Table 11-1). -/
inductive RowKind where
  | ordinary | draft | group
  deriving DecidableEq, Repr

/-- The parameters of a row (Table 11-1). -/
structure RowParams where
  /-- Entries. -/
  n : Nat
  /-- Score format: 0 FP32, 1 BF16, 2 FP16. -/
  fmt : Nat := 0
  /-- TEMP, FP32 bits. -/
  temp : W32
  /-- TOP_K. -/
  topK : Nat
  /-- TOP_P, FP32 bits. -/
  topP : W32
  /-- STREAM. -/
  stream : Nat
  /-- ROW. -/
  row : Nat
  kind : RowKind := .ordinary
  deriving DecidableEq, Repr

/-- A candidate block (Table 11-2). -/
structure CandBlock where
  /-- The contributor's rank in the row: its first entry's index. -/
  base : Nat
  nan : Bool := false
  nextIndex : Nat
  nextScore : W32
  cands : List (Nat × W32)
  /-- Scaled scores of all entries of the contributor, in index order, from which its normaliser partials follow (R417, R419). -/
  scores : List W32
  deriving DecidableEq, Repr

/-- Element formats (R83, R84, Table 3-2). -/
inductive NumFmt where
  | fp32 | bf16 | fp16 | e5m2 | e4m3 | e3m2 | e2m3 | e2m1 | int4 | int8 | int32 | mxint8
  deriving DecidableEq, Repr

/-- Formats of a tensor-engine operand (Table 3-3). -/
inductive TensorFmt where
  | mxfp8e4m3 | mxfp8e5m2 | mxfp6e3m2 | mxfp6e2m3 | mxfp4 | mxint8 | int8 | int4 | bf16 | fp16
  deriving DecidableEq, Repr

/-- The element format of an operand format. -/
def TensorFmt.num : TensorFmt → NumFmt
  | .mxfp8e4m3 => .e4m3 | .mxfp8e5m2 => .e5m2 | .mxfp6e3m2 => .e3m2 | .mxfp6e2m3 => .e2m3 | .mxfp4 => .e2m1
  | .mxint8 => .mxint8 | .int8 => .int8 | .int4 => .int4 | .bf16 => .bf16 | .fp16 => .fp16

/-- MODE of a pass (Table 4-1). -/
inductive PassMode where
  | initAuto
  | initFixed (tag : BitVec 8)
  | cont
  deriving DecidableEq, Repr

/-- FUSE of a pass (Table 4-1). -/
inductive Fuse where
  | none | add | mul
  deriving DecidableEq, Repr

/-- OUT of a pass with its conversion control (Table 4-1); RND 0b11 is outside the values. -/
inductive PassOut where
  | record
  | final (fmt : NumFmt) (rnd : Fin 3) (sat : Bool) (fuse : Fuse) (cFmt : NumFmt) (cRow : Bool) (cCodes : List Nat)
      (dst : Nat)
  deriving DecidableEq, Repr

/-- A tensor-engine pass: its parameters (Table 4-1), its record and its operands. A holds 16 rows of KP codes, row after
row; B holds KP rows of 16. A scale list gives, for each row of A or column of B, one code for every 32 elements along the
reduction dimension; without scales every scale is 0x7F (R89). -/
structure Pass where
  mode : PassMode
  /-- KP / 32 − 1. -/
  kp : Fin 64
  aFmt : TensorFmt
  bFmt : TensorFmt
  aCodes : List Nat
  aScales : List Nat := []
  bCodes : List Nat
  bScales : List Nat := []
  out : PassOut := .record
  /-- Scratchpad address of the partial-sum record, in units of 16 bytes (R133). -/
  record : Fin 32768
  deriving DecidableEq, Repr

/-- The origin of a command's draws (R314). -/
inductive Origin where
  | next
  | at (o : Nat)
  deriving DecidableEq, Repr

/-- A vector-unit conversion (R98 to R106). Codes are given in ascending index. -/
inductive ConvOp where
  /-- Widening of plain elements to FP32. -/
  | widen (src : NumFmt) (codes : List Nat)
  /-- Widening of block elements to FP32, one scale code for every 32 elements. -/
  | widenBlock (src : NumFmt) (scales codes : List Nat)
  /-- Narrowing with RND in bits [1:0] and SAT in bit [2] of the control. -/
  | narrow (src dst : NumFmt) (ctl : Fin 8) (origin : Origin) (codes : List Nat)
  /-- Conversion of FP32 to a block format. -/
  | toBlock (dst : NumFmt) (ctl : Fin 8) (origin : Origin) (codes : List W32)
  deriving DecidableEq, Repr

/-- An FP32 operation of the vector unit on elements (R95). -/
inductive FpOp where
  | add | sub | mul | fma | div | sqrt
  deriving DecidableEq, Repr

/-- A minimum, maximum or comparison of the vector unit (R96). -/
inductive MinMaxOp where
  | min | max | lt | le | eq | ne | gt | ge
  deriving DecidableEq, Repr

/-- What MOMENTS is asked to return beside S1, S2, e and n (R144). -/
structure MomentsReq where
  sum : Bool := true
  sumsq : Bool := true
  mean : Bool := true
  var : Bool := true
  varSample : Bool := true
  deriving DecidableEq, Repr

/-- A unit of a tile with a command queue (Table 2-1, R75). -/
inductive QueueUnit where
  | tensor | vector | steep | draw | jump | digest
  deriving DecidableEq, Repr

/-- A read-only value of the controller (R75). -/
inductive SpecialReg where
  | vtileId | spanIndex | stepLo | stepHi
  deriving DecidableEq, Repr

/-- What one controller instruction does (R75, R77). The instruction encoding belongs to the package format, so the decoded
effect comes with the command; `illegal` stands for an encoding that the arithmetic level does not define. -/
inductive ScalarOp where
  | illegal
  | write (rd : Fin 32) (value : W32)
  | special (rd : Fin 32) (which : SpecialReg)
  | load (rd : Fin 32) (addr : Nat)
  | store (addr : Nat) (rs : Fin 32)
  | setLoop (k : Fin 4) (value : W32)
  | jump (target : Nat)
  | issue (u : QueueUnit)
  deriving DecidableEq, Repr

/-- A vtile at a span index, the place of a tile command. -/
structure VtileRef where
  span : SpanIndex := 0
  vtile : VtileId
  deriving DecidableEq, Repr

/-- Halo values of one colour that a vtile of another module sends: the values of its local variables from `start` on
(R360, R405, R406). -/
structure HaloMsg where
  src : VtileRef
  colour : Fin 8
  start : Nat
  values : List Nat
  deriving DecidableEq, Repr

/-- One end of a slot: scratchpad bytes of a vtile, bytes of a tensor behind an edge router, or, for a slot of another module, its
span index, its destination slot and the byte offset in it (R461). -/
inductive SlotEnd where
  | spad (v : VtileRef) (addr : Nat)
  | tensor (id off : Nat)
  | remote (index : SpanIndex) (slot off : Nat)
  deriving DecidableEq, Repr

/-- What one slot moves in a frame: its ends, the length, its number at each vtile where its last beat lands or leaves in the
frame, and whether the slot is elidable (R160, R162, R242). -/
structure SlotMove where
  src : SlotEnd
  dst : SlotEnd
  len : Nat
  done : List (VtileRef × Nat) := []
  elidable : Bool := false
  deriving DecidableEq, Repr

/-- Element types of a reduction (R151). -/
inductive ReduceKind where
  | int32 | int64 | fp32
  deriving DecidableEq, Repr

/-- What a scrub access of a scratchpad bank finds (R43 to R45). -/
inductive ScrubResult where
  | clean | corrected | uncorrectable
  deriving DecidableEq, Repr

/-- An end of a ring transfer: a stop (Table 5-3) or an edge router (Table 5-4). -/
inductive RingPlace where
  | stop (k : Fin 16)
  | edge (e : Fin 384)
  deriving DecidableEq, Repr

/-- What a lane known-answer test observed: the two signatures and the jumped state (R321). -/
structure LaneAnswer where
  lane : LaneId
  galois : W64
  outputs : W64
  s0 : W64
  s1 : W64
  deriving DecidableEq, Repr

/-- A tier 1 stack or a tier 2 package. -/
inductive TierDev where
  | stack (s : Fin 8)
  | package (p : Fin 16)
  deriving DecidableEq, Repr

/-- What a read of a tier 1 or tier 2 line finds (R254, R257 to R259, R269): `device` names the die of a tier 2 package that the
correction blames. -/
inductive LineResult where
  | clean
  | corrected (device : Nat)
  | uncorrectable
  | tagMismatch
  deriving DecidableEq, Repr

/-- What a read of a tier 3 page finds (R262, R269). Where a stripe member is lost, `block` held it, and `spare` is the
share of good spare blocks then left, in ten-thousandths of its initial value (R263, R265). -/
inductive PageResult where
  | clean
  | retried (n : Fin 9)
  | rebuilt (block spare : Nat)
  | uncorrectable (block spare : Nat)
  | tagMismatch
  deriving DecidableEq, Repr

/-- Bytes of a tensor of a tenant: the ones that a line or page holds. -/
structure TensorAt where
  tenant : TenantId
  id : Nat
  off : Nat
  deriving DecidableEq, Repr

/-- A read that a tier controller serves: a line of tier 1 or 2 by its device line address and its page or row, or a logical
page of tier 3. -/
inductive TierAccess where
  | line (dev : TierDev) (addr row : Nat) (r : LineResult)
  | page (page : Nat) (r : PageResult)
  deriving DecidableEq, Repr

/-- What a SPAN_HELLO carries (R492), with the sender's L_self (R483) and whether its ports are cabled as its record names them
(R472). -/
structure Hello where
  serial : BitVec 128
  spanId : W64
  digest : BitVec 128
  indices : BitVec 16
  arith : Nat
  iface : Nat
  runs : List (Nat × Nat)
  time : Nat
  cabling : Bool := true
  latency : Nat := 0
  deriving DecidableEq, Repr

/-- What a SPAN_COMMIT carries (R483, R492, R494): the admitted modules with their indices, and the leader's next step of each run
bound to the span. -/
structure SpanCommit where
  digest : BitVec 128
  leader : SpanIndex
  members : List (BitVec 128 × BitVec 16)
  lMax : Nat
  time : Nat
  iface : Nat
  arithMixed : Bool
  runs : List (Nat × Nat)
  deriving DecidableEq, Repr

/-- What a pair message says (R504, R507): the sender's matching command, with its package digest and arithmetic level, or the chain
value, digest and end of a phase. -/
inductive PairMsg where
  | set (package : BitVec 384) (arith : Nat)
  | digest (phase : Nat) (chain own : BitVec 128) (cycles : Nat)
  deriving DecidableEq, Repr

/-- A resource that the Kettle can release by force (Table 16-5): a context of a Strainer, the flits and credits of a tenant on a
Ridge port, the reduction buffers or the frame gate of a tenant, a barrier, or the lock of a retirement copy. -/
inductive Resource where
  | strainer (k : StrainerId) (ctx : Fin 16)
  | flits (p : PortId) (t : TenantId)
  | reduce (t : TenantId)
  | gate (t : TenantId)
  | barrier (n : BitVec 16)
  | lock (dev : TierDev) (row : Nat)
  deriving DecidableEq, Repr

/-- The part of a 64-bit register that an aligned access covers (R596). -/
inductive RegPart where
  | whole | low | high
  deriving DecidableEq, Repr

/-- A host write to BAR0 or BAR2: a register by its number (its offset divided by 8) with the part written, or bytes of the
mailbox rings (R596, R600). -/
inductive HostWrite where
  | bar0 (reg : Fin 8192) (part : RegPart) (value : W64)
  | bar2 (off : Fin 262144) (bytes : List Byte)
  deriving DecidableEq, Repr

/-- A resettable block with its place (Table 16-3, Table 16-4). -/
inductive Block where
  | tileCore (site : Nat)
  | collar (site : Nat)
  | eaveSegment (seg : Nat)
  | tier1Ctl (stack : Nat)
  | tier2Ctl (ctl : Nat)
  | tier3Ctl
  | strainer (k : Nat)
  | ridgePort (p : Nat)
  | intake
  | kettle
  | module
  deriving DecidableEq, Repr

/-- How an instance of a Gutter source reports (R643): an occurrence, or a condition that begins or ends. -/
inductive ReportKind where
  | occurrence | begins | ends
  deriving DecidableEq, Repr

/-- What the instances of one source report in one Gutter cycle, and the tenant to which the event is charged (R661). -/
structure FaultReport where
  src : SourceId
  insts : List Nat
  kind : ReportKind
  charge : Option TenantId := none
  deriving DecidableEq, Repr

/-- A service request that meets a self-test (R676, R677): the step start of a tenant, a row admitted to a Strainer, or SEED_FRESH,
a DRBG reseed or a key generation, which is urgent unless it is a SEED_FRESH of normal class. -/
inductive TestRequest where
  | stepStart (t : TenantId)
  | row (k : StrainerId) (t : TenantId)
  | entropy (urgent : Bool)
  deriving DecidableEq, Repr

/-- What a self-test observed (Table 16-7): the sites of the region whose tile-unit known answers are wrong, the lane answers by
site, and whether the known answers of a Strainer's merge engine or of the TRNG fail. -/
structure TestFindings where
  cores : List SiteId := []
  lanes : List (SiteId × LaneAnswer) := []
  fails : Bool := false
  deriving DecidableEq, Repr

/-- The readings of RECOVERY_L, bit i the level at reading i (R770). -/
abbrev Readings := BitVec 8

/-- What start-up self-test and the calibration of the crossings found (R175, R692): the sites whose core or collar fails, the mesh
links and ring segments that fail, the Strainers whose merge engine fails, the answers of lanes, of tiles and of Strainers, whether
the TRNG fails, and the links whose crossing does not calibrate. -/
structure StartupFindings where
  cores : List SiteId := []
  collars : List SiteId := []
  links : List (Fin 19200) := []
  segments : List (Fin 16) := []
  strainers : List StrainerId := []
  lanes : List (SiteId × LaneAnswer) := []
  streams : List (StrainerId × LaneAnswer) := []
  trng : Bool := false
  crossings : List (Fin 19200) := []
  deriving DecidableEq, Repr

/-- An IMAGE_CHUNK message (Table 12-4, R702, R703; log entry 11): the image header, a chunk, or the answer of the receiver: the
chunks that it still misses, or that it has refused the header. `damaged` names the chunks whose stored copy fails its hash should
the receiver now verify the image. -/
inductive ImageMsg where
  | header (bytes : List Byte)
  | chunk (i : Nat) (bytes : List Byte) (damaged : List Nat)
  | missing (chunks : List Nat)
  | refused
  deriving DecidableEq, Repr

/-- An SPDM request (R721): digests of the certificate chain, a part of the chain, a measurement, a challenge, or the establishing or
ending of an IDE stream of a function by IDE_KM (R594). Any other code is answered with an error. -/
inductive SpdmRequest where
  | digests
  | certificate (off len : Nat)
  | measurement (index : Nat)
  | challenge (nonce : List Byte)
  | ideKeySet (fn : FunctionId)
  | ideKeyStop (fn : FunctionId)
  | other (code : BitVec 8)
  deriving DecidableEq, Repr

/-- An MCTP message over I3C (R779): an MCTP control request, or a PLDM reading of one of the six numeric sensors, in the order in
which R779 names them. -/
inductive I3cRequest where
  | control (command : BitVec 8)
  | sensor (k : Fin 6)
  deriving DecidableEq, Repr

/-- What becomes of the PCIe link (R772, Table 16-1): it goes down, it enters L2 with the endpoint in D3cold, or the endpoint reports
an uncorrectable error. -/
inductive PcieEvent where
  | down | l2 | uncorrectable
  deriving DecidableEq, Repr

/-- A wake trigger (R744): a doorbell, which says whether its command needs the grid or tier 1; a Gutter event at level 2 or above;
a Ridge message or barrier that needs the grid; a command that needs it; or the Kettle's decision to start grid work. -/
inductive WakeCause where
  | doorbell (grid : Bool)
  | fault | message | command | kettle
  deriving DecidableEq, Repr

/-- The commands: mailbox commands, register accesses, and the events of pins, links, timers and engines. -/
inductive Instr where
  /-- Engine-executed command that returns the identity registers and optionally writes the 128-byte identity record (R620). -/
  | queryIdentity (c : Call)
  /-- Writes the status header and the requested status sections into host buffers (R626). -/
  | queryStatus (c : Call)
  /-- Writes one 40-byte entry per counter of the selected scopes into host buffers (R625). -/
  | readCounters (c : Call)
  /-- Opens a tenant on a vtile rectangle after the busy, shape and overlap checks, and draws its tier keys (R192). -/
  | tenantOpen (c : Call)
  /-- Closes a tenant and destroys its tier keys and host tensors (R623). -/
  | tenantClose (c : Call)
  /-- Stages a share set and applies it once every tenant whose wheel positions change is between steps (R200). -/
  | tenantShares (c : Call)
  /-- Loads a package in driving-first order, after checking its parameters, its capacity and its span extent (R36). -/
  | packageLoad (c : Call) (p : PackageDecl)
  /-- Unloads a package and destroys its tier 3 key id (R270). -/
  | packageUnload (c : Call)
  /-- Writes host bytes into a tensor; the write waits for the current step of the run to commit (R623). -/
  | tensorBind (c : Call)
  /-- TENSOR_BIND with the CREATE flag: creates a host tensor of SIZE bytes under a chosen or given id (R623). -/
  | tensorCreate (c : Call)
  /-- Copies committed tensor bytes, or a scratchpad area at a stop point, into host buffers (R624). -/
  | tensorRead (c : Call)
  /-- Changes the residency class of a placed tensor without moving its data (R233). -/
  | residencyHint (c : Call)
  /-- Starts a paced or unpaced run of steps and posts one completion per step (R621). -/
  | stepRun (c : Call)
  /-- Engine-executed command that sets an abort latch on the named run commands and completes at once (R622). -/
  | stepAbort (c : Call)
  /-- Stores a host seed for the tenant unless a run is in progress (R293). -/
  | seedSet (c : Call)
  /-- Generates a seed from the DRBG after a prediction-resistance reseed and returns it with its identifier (R295). -/
  | seedFresh (c : Call)
  /-- Captures the run state of the capture step to tier 3 or to host buffers (R551). -/
  | checkpoint (c : Call)
  /-- Checks a checkpoint and writes its sections and run state (R556). -/
  | restore (c : Call)
  /-- RESTORE with the DISCARD flag: destroys a tier 3 checkpoint slot's key id and restores nothing (R627). -/
  | restoreDiscard (c : Call)
  /-- Draws one token from a host score row on a host-row stream (R415). -/
  | sampleRow (c : Call)
  /-- Runs the draft-and-verify generation loop, one verification round per step (R436). -/
  | decodeRun (c : Call)
  /-- Verifies host-supplied drafted tokens against host target rows in a Strainer (R430). -/
  | specVerify (c : Call)
  /-- Checks, colours, spreads and places a graphical model over replica vtile sets (R344). -/
  | annealLoadModel (c : Call)
  /-- Runs the sweeps of an annealing descriptor as a sequence of steps (R377). -/
  | annealRun (c : Call)
  /-- Copies state-pool entries by rank from the last committed pool into a tensor (R400). -/
  | annealReadPool (c : Call)
  /-- Trains the cabled ports and forms a span from a configuration record (R492). -/
  | spanForm (c : Call)
  /-- Hands the member's span indices to takers at the next step-start barrier and leaves the span (R501). -/
  | spanLeave (c : Call) (able : Bool)
  /-- Forms or ends a lock-step pair comparing phase digests with a partner module (R504). -/
  | pairCompareSet (c : Call)
  /-- Checks up to three field values and stages them all or none (R631). -/
  | configStage (c : Call)
  /-- CONFIG_STAGE with the DISCARD flag: empties the staged sets of the named scopes (R631). -/
  | configDiscard (c : Call)
  /-- Applies the staged fields of the named scopes, or defers them (R634). -/
  | configCommit (c : Call)
  /-- Returns the value in effect and the staged value of one field (R620). -/
  | configRead (c : Call)
  /-- Engine-executed command that returns the sticky bits and class states and optionally the source and class records (R683). -/
  | faultRead (c : Call)
  /-- Engine-executed command that acknowledges sources by clearing their sticky bits (R646). -/
  | faultAck (c : Call)
  /-- FAULT_FORCE action 0: sets a source's force bit, which makes its condition present (R672). -/
  | faultForceSet (c : Call)
  /-- FAULT_FORCE action 1: clears a source's force bit (R672). -/
  | faultForceClear (c : Call)
  /-- FAULT_FORCE action 2: makes the checks of a supported source report injected uncorrectable errors (R673). -/
  | checkInvertOn (c : Call)
  /-- FAULT_FORCE action 3: turns check-invert off for a source (R673). -/
  | checkInvertOff (c : Call)
  /-- Stages a planned fence of the site that carries the named vtile (R65). -/
  | fenceSite (c : Call)
  /-- Checks a firmware image header and starts or resumes receiving that image (R697). -/
  | updateBegin (c : Call)
  /-- Checks one image chunk against its hash, stores it and records it in the chunk map (R699). -/
  | updateChunk (c : Call)
  /-- Verifies the received image and decrypts it into the inactive slot (R700). -/
  | updateVerify (c : Call) (damaged : List Nat) (steps : Fin 8)
  /-- Makes a Kettle restart into the verified slot, or falls back from a trial slot (R704). -/
  | updateActivate (c : Call)
  /-- Confirms the trial slot, raising the SVN fuses and the version floor (R705). -/
  | updateConfirm (c : Call) (steps : Fin 6)
  /-- Sends the staged image over the named Ridge ports as IMAGE_CHUNK messages (R702). -/
  | updateForward (c : Call)
  /-- Replaces the plan of known future event times (R748). -/
  | powerPlan (c : Call)
  /-- Journals a new power profile and applies it at the next divisor change point (R731). -/
  | powerProfile (c : Call)
  /-- Stages one intake context descriptor and returns the ring tensor id (R587). -/
  | intakeConfigure (c : Call)
  /-- INTAKE_CONTROL action START: the context begins accepting frames with FRAME_SEQ 0 (R588). -/
  | intakeStart (c : Call)
  /-- INTAKE_CONTROL action STOP: the context finishes or drops the frame in progress and accepts nothing more (R588). -/
  | intakeStop (c : Call)
  /-- INTAKE_CONTROL action FLUSH: tears the frame in progress and discards landed, unbound frames (R589). -/
  | intakeFlush (c : Call)
  /-- INTAKE_CONTROL action RELEASE: releases a HOST-mode context up to a FRAME_SEQ (R578). -/
  | intakeRelease (c : Call)
  /-- Copies Slate records from a SEQ, optionally signing first and advancing the read mark (R547). -/
  | slateRead (c : Call)
  /-- Replays recorded steps with logged inputs and checks each against the expected records (R558). -/
  | replayBegin (c : Call)
  /-- REPLAY_BEGIN with the CONTINUE flag: resumes a replay halted at its stop point (R560). -/
  | replayContinue (c : Call)
  /-- A write of CMD_TAIL makes posted command entries visible, or is ignored and sets BAD_TAIL (R602). -/
  | commandDoorbell (m : MailboxId) (fn : FunctionId) (value : W64) (ide : Bool)
  /-- The engine takes a visible entry in ring order, copies it and advances CMD_HEAD as acknowledgement (R602). -/
  | commandTake (m : MailboxId)
  /-- The firmware starts a taken command once earlier commands of its mailbox have posted their first completion (R615). -/
  | commandStart (m : MailboxId)
  /-- A command's first-completion deadline falls and it posts ACCEPTED with MORE set (R614). -/
  | commandDeadline (m : MailboxId) (tag : W32)
  /-- A completion is written to the ring once it has free slots, leaving the overflow queue in order (R607). -/
  | completionPost (m : MailboxId)
  /-- The 2 µs limit ends and one held-back interrupt message is sent (R609). -/
  | msixHoldoffExpiry (fn : FunctionId) (vec : Fin 16)
  /-- The host advances the completion consumer index, freeing ring slots (R601). -/
  | cplHeadWrite (m : MailboxId) (fn : FunctionId) (value : W64) (ide : Bool)
  /-- Setting CTRL.EN zeroes the rings and indices, posts the FAULTED completions owed after a reset, and sets READY (R599). -/
  | mailboxEnable (m : MailboxId) (fn : FunctionId) (ide : Bool)
  /-- Clearing CTRL.EN flushes the mailbox and stops taking commands (R599). -/
  | mailboxDisable (m : MailboxId) (fn : FunctionId) (ide : Bool)
  /-- CTRL.FLUSH flushes the mailbox's pending and running commands (R637). -/
  | mailboxFlush (m : MailboxId) (fn : FunctionId) (ide : Bool)
  /-- A write to WIN_TENSOR, WIN_BASE or WIN_CTRL.EN clears READY and selects a new window range (R281). -/
  | windowSelect (fn : FunctionId) (reg : Fin 3) (value : W64) (ide : Bool)
  /-- The window finishes mapping the selected range and sets READY, releasing waiting BAR4 accesses (R281). -/
  | windowReady (fn : FunctionId)
  /-- A host read through the tensor window (R282). -/
  | bar4Read (fn : FunctionId) (off : BitVec 32) (n : Nat) (ide : Bool)
  /-- A host write through the tensor window, accepted or rejected (R283). -/
  | bar4Write (fn : FunctionId) (off : BitVec 32) (bs : List Byte) (ide : Bool)
  /-- A 32-bit read of TIME_NOW bits [31:0] latches the upper half for the next read (R576). -/
  | timeNowRead (fn : FunctionId) (part : RegPart) (ide : Bool)
  /-- A W1C write to GUTTER_STICKY0 or GUTTER_STICKY1 acknowledges sources (R646). -/
  | stickyAckWrite (fn : FunctionId) (hi : Bool) (part : RegPart) (value : W64) (ide : Bool)
  /-- A write of 1 to RECOV_CLR clears a class's RECOVERY counter (R660). -/
  | recovClr (fn : FunctionId) (cls : ClassId) (ide : Bool)
  /-- A BAR0 write to an RWS field stages that field as CONFIG_STAGE would (R630). -/
  | rwsFieldWrite (fn : FunctionId) (reg : Fin 8192) (part : RegPart) (value : W64) (ide : Bool)
  /-- A write to a register that has no row of its own, applied by its access code (R15). -/
  | registerWrite (fn : FunctionId) (w : HostWrite) (ide : Bool)
  /-- A PCIe function-level reset flushes the function's mailboxes and clears its WIN_CTRL (R595). -/
  | functionLevelReset (fn : FunctionId)
  /-- PERST_L resets the PCIe endpoint and flushes every mailbox (R685). -/
  | perstAssert
  /-- An SPDM request over DOE is answered, including measurements and IDE_KM (R721). -/
  | spdmRequest (r : SpdmRequest)
  /-- An MCTP or PLDM message over I3C is answered from the always-on domain (R779). -/
  | i3cMessage (r : I3cRequest)
  /-- The debug probe takes a 32-byte nonce from the security engine (R722). -/
  | debugNonceRequest
  /-- A signed debug challenge response unlocks J11 and zeroises the run state, or is refused (R722). -/
  | debugUnlock (signature : List Byte)
  /-- Input power rises and the always-on supply and error pair come up (R685). -/
  | powerOn (off : Nat) (resetL : Bool) (recovery : Readings)
  /-- Input power is lost without warning; committed items survive and the backup domain runs on the cell (R752). -/
  | powerLoss (slateTorn : Bool)
  /-- A low RESET_L of at least 50 ns makes a module reset and drives the pair to fault (R769). -/
  | resetLAssert (lowNs : Nat)
  /-- RESET_L returns high and the boot ROM starts (R769). -/
  | resetLRelease (highNs : Nat) (recovery : Readings)
  /-- Once the reference is valid and the root locked, stage 1 brings up clocks and tiers and runs start-up self-test (R688). -/
  | stage1Start (f : StartupFindings)
  /-- The main firmware replays the Caddy journal, restores the site map and sets MBX_READY (R688). -/
  | mainFirmwareStart (torn : Nat) (authFails : Nat)
  /-- MBX_READY has held for 10 s and the slot's attempt count resets (R691). -/
  | startComplete
  /-- A Kettle restart ends and the firmware attaches to the running grid and serves mailboxes (R693). -/
  | kettleRestartComplete
  /-- The reference clock is lost and the root PLL enters holdover (R727). -/
  | refclkLoss (at_ : Nat)
  /-- The reference returns and the root PLL relocks (R727). -/
  | refclkReturn (at_ : Nat)
  /-- After 100 ms of holdover without a reference, the module makes a module reset (R727). -/
  | holdoverExpiry
  /-- The root PLL leaves lock (R726). -/
  | pllLock
  /-- A rising edge on FRAME_SYNC_IN is accepted to move the nearest nominal boundary, or is ignored (R582). -/
  | frameSyncEdge (at_ : Nat)
  /-- A rising edge on TIME_PPS is accepted as a whole second or ignored (R773). -/
  | timePpsEdge (at_ : Nat)
  /-- After 8 consecutive seconds with a small offset the time base is locked (R574). -/
  | timeLockAcquired
  /-- After 10 s without a valid reference the time base leaves lock and runs in holdover (R574). -/
  | timeLock
  /-- Once per second while locked, the real-time clock is set from the module time (R754). -/
  | rtcUpdate
  /-- A sensed error-pair level has differed from the driven level for 10 µs (R666). -/
  | errpinReadback (p : Option Bool) (n : Option Bool)
  /-- MIN_ASSERT_US ends and the pair may return to healthy (R665). -/
  | pairMinAssertExpiry
  /-- Once per second on the cell, the backup domain checks its alarm conditions (R755). -/
  | backupAlarmCheck (temp : Int) (cell : Nat) (stopped : Nat)
  /-- A Frame Start short packet begins a frame on its context (R566). -/
  | csiFrameStart (port : Fin 16) (vc : Fin 16) (at_ : Nat)
  /-- A CSI-2 long packet's payload is checked and landed for the context's frame in progress (R566). -/
  | csiLongPacket (port : Fin 16) (vc : Fin 16) (dt : Fin 64) (payload : List Byte) (err : Bool) (fifo : Nat) (at_ : Nat)
  /-- A Frame End short packet ends the context's frame (R566). -/
  | csiFrameEnd (port : Fin 16) (vc : Fin 16) (at_ : Nat)
  /-- An AVTP stream data PDU matched by stream_id is landed; one with the M bit set ends the frame (R565). -/
  | avtpPdu (port : Fin 4) (stream : W64) (seq : BitVec 8) (payload : List Byte) (m : Bool) (fifo : Nat) (at_ : Nat)
  /-- A matched UDP datagram is landed and ends the frame or adds to it (R565). -/
  | udpDatagram (port : Fin 4) (v6 : Bool) (addr : BitVec 128) (dport : BitVec 16) (payload : List Byte) (fifo : Nat) (at_ : Nat)
  /-- A gPTP message disciplines the module time (R574). -/
  | gptpMessage (port : Fin 4) (offset : Int) (at_ : Nat)
  /-- A frame's last byte and digest have been written to tier 2 (R572). -/
  | frameLanded (c : ContextId) (at_ : Nat)
  /-- A frame's last byte has not landed within FRAME_TIMEOUT, and it is dropped as a gap (R572). -/
  | frameTimeout (c : ContextId)
  /-- A STEP-mode frame is released once its step has committed and its mirrors are complete (R578). -/
  | frameRelease (c : ContextId)
  /-- A CSI-2 or Ethernet port used by an enabled context loses lock or link (R590). -/
  | intakeLink (csi : Bool) (port : Fin 16)
  /-- A paced step boundary falls on the step clock (R580). -/
  | stepBoundary (t : TenantId)
  /-- In CADENCE mode a FRAME_SYNC_OUT pulse starts SYNC_OUT_LEAD before a nominal boundary (R586). -/
  | syncOutCadencePulse
  /-- A FRAME_SYNC_OUT pulse ends after SYNC_OUT_WIDTH (R586). -/
  | syncOutPulseEnd
  /-- A vtile's step starts at its boundary or after the previous commit (R78). -/
  | stepStart (t : TenantId)
  /-- The tile controller issues one instruction in program order (R77). -/
  | scalarInstruction (v : VtileRef) (len : Nat) (op : ScalarOp)
  /-- A tensor-engine pass accumulates a 16 × 16 block in fixed point (R121). -/
  | tensorPass (v : VtileRef) (p : Pass)
  /-- A vector-unit narrowing, widening or block conversion (R100). -/
  | vectorConversion (v : VtileRef) (op : ConvOp)
  /-- A vector-unit FP32 add, subtract, multiply, fused multiply-add, divide or square root (R95). -/
  | vectorFp32Arithmetic (v : VtileRef) (op : FpOp) (xs : List (W32 × W32 × W32))
  /-- A vector-unit FP32 minimum, maximum or comparison (R96). -/
  | vectorMinMax (v : VtileRef) (op : MinMaxOp) (xs : List (W32 × W32))
  /-- A vector-unit sequential horizontal sum (R146). -/
  | horizontalSum (v : VtileRef) (xs : List W32)
  /-- A vector-unit sequential dot product (R146). -/
  | dotProduct (v : VtileRef) (xs : List (W32 × W32))
  /-- The vector unit's defined exp2 (R108). -/
  | exp2 (v : VtileRef) (xs : List W32)
  /-- The vector unit's natural exponential, computed as the Strainer exponential (R110). -/
  | naturalExponential (v : VtileRef) (xs : List W32)
  /-- Forms exact sums and the derived sum, mean and variance of a vector (R141). -/
  | moments (v : VtileRef) (fmt : NumFmt) (scales : List Nat) (codes : List Nat) (e : BitVec 8) (req : MomentsReq)
  /-- Delivers 64-bit lane draws per element (R315). -/
  | randBits64 (v : VtileRef) (n : Nat) (origin : Origin)
  /-- Delivers 32-bit lane draws per element (R315). -/
  | randBits32 (v : VtileRef) (n : Nat) (origin : Origin)
  /-- Delivers FP32 uniforms in [0, 1) per element (R315). -/
  | randUniform (v : VtileRef) (n : Nat) (origin : Origin)
  /-- Delivers mask bits by comparing draws with a threshold (R315). -/
  | randBernoulli (v : VtileRef) (n : Nat) (origin : Origin) (threshold : W32)
  /-- The draw unit makes a categorical draw from a short score row (R429). -/
  | drawUnitRow (v : VtileRef) (invT : W32) (scores : List W32)
  /-- Updates every local variable of one colour window by window and exchanges halos (R358). -/
  | steepColour (v : VtileRef) (area : Nat) (colour : Fin 8) (metropolis : Bool) (beta : W32) (wait : Nat)
  /-- Writes the vtile's energy and penalty energy to the model area (R365). -/
  | steepEnergy (v : VtileRef) (area : Nat)
  /-- Makes the replica-exchange attempts of one round at the replica heads (R369). -/
  | steepExchange (area : Nat) (round : Nat) (heads : List VtileRef) (positions : List Nat) (betas : List W32) (energies : List Int)
  /-- A program posts a slot precondition: data complete or buffer overwritable (R161). -/
  | slotPost (v : VtileRef) (slot : Nat)
  /-- A WAIT on a slot completes when its last beat has landed or left (R162). -/
  | slotWait (v : VtileRef) (slot : Nat)
  /-- A wait on a unit completes when the unit finishes the command (R77). -/
  | unitCompletionWait (v : VtileRef) (u : QueueUnit)
  /-- A vtile's program ends its step and its digest contribution closes once its queues drain (R79). -/
  | endStep (v : VtileRef)
  /-- A phase's designated outputs are final and its phase digest forms (R505). -/
  | phaseEnd (t : TenantId) (cycles : Nat) (far : List (List Byte))
  /-- Once every read has returned and every vtile has ended, the outputs become final and the output digest forms (R28). -/
  | endOfStepSequence (t : TenantId) (cycles : Nat) (far : List (List Byte)) (peerInvalid : Bool)
  /-- A Slate record and its commit word are written to the Slate buffer once it has space (R539). -/
  | slateRecordCommit
  /-- After 1,024 records the security engine writes a signed SIGN record (R544). -/
  | signRecord
  /-- The Slate buffer drains a 4 KiB page of records to the tier 3 ring (R545). -/
  | slateDrain
  /-- After an OK step, carried-state areas are copied page by page to tier 1 mirrors (R70). -/
  | mirrorCopy (v : VtileRef)
  /-- An invalidated step is restored from journal and mirrors and run again (R533). -/
  | stepRerun (t : TenantId)
  /-- After a site fails, the tenant is reloaded from mirrors and recent steps are regenerated (R72). -/
  | unplannedLossRecovery (t : TenantId) (regen : List (List (List Byte))) (areas : List (VtileRef × List Byte))
  /-- Vtile state is copied to new sites between steps before an epoch switch (R69). -/
  | plannedMove
  /-- An epoch finishes building in the Kettle and is written into idle schedule banks (R216). -/
  | epochBuildComplete (collars : List Nat) (segments : List Nat) (links : List Nat) (spill : Nat) (fits : Bool)
  /-- An epoch finishes loading and its switch step is named (R224). -/
  | epochLoaded
  /-- A placement or tenant commit reaches its timeout and completes DEFERRED (R244). -/
  | commitTimeout (m : MailboxId) (tag : W32)
  /-- A migrated unit switches to its new copy between steps once no page is marked (R238). -/
  | migrationSwitch (t : TenantId) (tensor : Nat) (index : Nat)
  /-- A migration not switched by the 4th step is abandoned (R240). -/
  | migrationAbandon (t : TenantId) (tensor : Nat) (index : Nat)
  /-- The Kettle schedules a re-admission test of a fenced site (R66). -/
  | readmissionTest (site : SiteId)
  /-- A re-admission test passes, returning the site to SPARE, or fails (R64). -/
  | readmissionTestDone (site : SiteId) (tileOk : Bool) (lanes : List LaneAnswer) (stopped : Bool)
  /-- A bank's 4,096-cycle scrub window ends and a scrub access is made (R44). -/
  | scrubAccess (site : SiteId) (r : ScrubResult)
  /-- A scratchpad read has an uncorrectable error and the step is invalidated (R45). -/
  | spadUncorr (v : VtileId)
  /-- A tile core faults and its site becomes FENCED (R64). -/
  | tileCoreFault (site : SiteId)
  /-- A collar fails and its site becomes HOLED (R177). -/
  | collarFault (site : SiteId)
  /-- A router detects an uncorrectable beat and the owning step is invalidated (R158). -/
  | meshUncorr (link : Fin 19200) (dir : Fin 2) (t : TenantId)
  /-- An in-transit reduction operand is held until its tree partner arrives and is then added (R150). -/
  | reductionOperandArrival (t : TenantId) (red : Nat) (kind : ReduceKind) (path : List Nat) (values : List Int) (v : VtileRef) (addr : Nat)
  /-- A tenant's frame gate opens and the next frame of beats starts (R164). -/
  | frameGateOpen (t : TenantId) (needs : List (VtileRef × Nat)) (c1 : Int) (c2 : Int) (c3 : Int) (c4 : Int) (moves : List SlotMove) (corrected : List Nat)
  /-- A tenant's frame gate has stayed closed for 2^24 grid cycles (R167). -/
  | frameHold (t : TenantId) (unmet : Option (Fin 4))
  /-- A transfer crosses the Eave ring between stops (R181). -/
  | ringTransfer (t : TenantId) (others : List TenantId) (src : RingPlace) (dst : RingPlace) (bytes : Nat) (corrected : Nat) (bad : Option (Fin 16)) (chain : Nat)
  /-- A ring segment is fenced and edge entry epochs are built (R186). -/
  | eaveSegment (k : Fin 16) (inFlight : List TenantId)
  /-- A tier controller serves a line or page read with correction or poison (R274). -/
  | tierRead (o : TensorAt) (others : List TenantId) (a : TierAccess)
  /-- A poisoned read-only line is refetched from its tier 3 master and written back (R275). -/
  | tierRecovered (dev : TierDev) (addr : Nat)
  /-- The tier controller patrol-scrubs lines in use (R271). -/
  | patrolScrub (dev : TierDev) (addr : Nat) (row : Nat) (own : Option TensorAt) (r : LineResult)
  /-- Tier 3 rereads a written page within 14 days and rewrites it if needed (R266). -/
  | retentionRead (page : Nat) (own : Option TensorAt) (r : PageResult)
  /-- A page or row is copied into the spare pool and redirected (R254). -/
  | retirementCopy (dev : TierDev) (row : Nat) (pages : List Nat)
  /-- A retirement copy not done within 1 ms is force-released and retired unplanned (R273). -/
  | retirementLockTimeout (dev : TierDev) (row : Nat) (pages : List Nat) (lines : List (Nat × TensorAt))
  /-- A tier 1 stack or tier 2 package fails and is removed (R256). -/
  | tierStackLost (dev : TierDev) (held : List TensorAt) (mirrors : List (TenantId × Nat))
  /-- A source completes a 1,024-bit block that is health-tested and conditioned or discarded (R324). -/
  | trngBlock (k : Fin 4) (raw : BitVec 1024) (katFails : Bool)
  /-- The DRBG reseeds after 2^16 requests or 1 s (R330). -/
  | drbgReseed
  /-- The DRBG known-answer tests run every 24 hours (R331). -/
  | drbgKat (fails : Bool)
  /-- Start-up has not completed 1 s after reset and waiting SEED_FRESH commands time out (R333). -/
  | seedFreshStartupTimeout
  /-- A SEED_FRESH reseed does not gather its bits within its deadline (R334). -/
  | seedFreshTimeout (m : MailboxId) (tag : W32)
  /-- A row takes a Strainer context and admission slot once free (R443). -/
  | rowAdmission (k : StrainerId) (t : TenantId) (p : RowParams) (contributors : Nat) (group : Nat) (pos : Nat) (size : Nat) (v : VtileRef) (addr : Nat)
  /-- A contributor's candidate block reaches the Strainer; the last one completes the row's draw (R422). -/
  | candidateBlock (t : TenantId) (stream : Nat) (row : Nat) (pos : Nat) (b : CandBlock)
  /-- A row's blocks have not all arrived within STRAINER_TIMEOUT (R444). -/
  | strainerTimeout (t : TenantId) (stream : Nat) (row : Nat) (pos : Nat)
  /-- A Strainer parity error fences the Strainer (R446). -/
  | strainerFault (k : StrainerId)
  /-- One sweep of all colours runs on every replica, followed by any energy pass (R378). -/
  | annealSweep (t : TenantId) (halos : List HaloMsg) (energies : List (Nat × Int × Int)) (decisions : List (Nat × Bool)) (locked : Nat) (wait : Nat)
  /-- Every 1 ms in DETECT a port checks for a peer (R470). -/
  | presenceDetect (p : PortId) (lanes : Fin 23)
  /-- A port finishes training and alignment and goes ACTIVE (R470). -/
  | trainingComplete (p : PortId) (serial : BitVec 128) (peerPort : Fin 8) (iface : Nat) (bad : List (Fin 22)) (sideband : Bool)
  /-- Warm training has not reached ACTIVE within 20 ms and the port trains cold (R471). -/
  | warmTrainingTimeout (p : PortId)
  /-- Cold training has not reached ACTIVE within 500 ms and the port returns to DOWN (R471). -/
  | coldTrainingTimeout (p : PortId)
  /-- A flit is checked and its SIDE acknowledgement or credit field is taken (R457). -/
  | flitReceived (p : PortId) (bytes : List Byte) (errors : List Nat) (credit : Fin 10)
  /-- A received NAK makes the transmitter resend from the named SEQ (R463). -/
  | nak (p : PortId) (seq : BitVec 12)
  /-- A NAK is repeated every 2 µs while no progress is made (R462). -/
  | nakRepeat (p : PortId)
  /-- The transmitter copies a failing lane's symbols onto a spare (R474). -/
  | laneSwapReq (p : PortId) (failing : Fin 22) (spare : Fin 22)
  /-- The transmitter stops driving the failing lane and retires it (R474). -/
  | laneSwapDone (p : PortId) (failing : Fin 22) (spare : Fin 22)
  /-- A lane-control message is acknowledged, ending its repeats (R458). -/
  | laneAck (p : PortId) (kind : BitVec 8) (failing : Fin 22) (spare : Fin 22)
  /-- A request to retrain at a given width (R458). -/
  | retrainReq (p : PortId) (cause : BitVec 8) (width : BitVec 8)
  /-- A lane-swap or retrain request is repeated every 2 µs until answered (R458). -/
  | linkMessageRepeat (p : PortId)
  /-- A lane loses CDR lock or exceeds its corrected-symbol limit and becomes an erasure lane (R473). -/
  | laneFailure (p : PortId) (lane : Fin 22)
  /-- At the alignment block after deskew the receiver takes the spare in place of the failing lane (R474). -/
  | laneSwapTakeover (p : PortId)
  /-- A Ridge message landing data for a destination slot (R461). -/
  | slotData (t : TenantId) (dst : SlotEnd) (bytes : List Byte) (landed : List (VtileRef × Nat)) (model : Nat) (halo : Option HaloMsg)
  /-- A Ridge reducer holds an operand until its partner arrives, then adds and forwards (R487). -/
  | reduceOperand (p : PortId) (t : TenantId) (red : Nat) (node : Nat) (right : Bool) (kind : ReduceKind) (mark : Bool) (values : List Int) (up : Option (SpanIndex × Nat × Bool)) (dest : Fin 17)
  /-- A cross-module reduction result reaches its destination (R487). -/
  | reduceResult (t : TenantId) (red : Nat) (all : Option SpanIndex) (kind : ReduceKind) (mark : Bool) (values : List Int) (v : VtileRef) (addr : Nat)
  /-- A member's packed states reach the pool-keeping member at a capture (R404). -/
  | poolCandidate (src : SpanIndex) (handle : Nat) (capture : Nat) (bytes : List Byte)
  /-- Carried state and tier data of a span index reach its taker (R501). -/
  | stateMove (t : TenantId) (index : SpanIndex) (dst : SlotEnd) (bytes : List Byte) (last : Bool)
  /-- A module's formation greeting is taken by the leader (R492). -/
  | spanHello (p : PortId) (h : Hello)
  /-- The leader's admission commit completes SPAN_FORM on each member (R492). -/
  | spanCommit (k : SpanCommit)
  /-- A member's heartbeat is received and checked against the leader's digest (R496). -/
  | spanHeartbeat (serial : BitVec 128) (digest : BitVec 128) (indices : BitVec 16) (latency : Nat) (lMax : Nat)
  /-- Every 1 ms each member sends SPAN_HEARTBEAT to every other member (R496). -/
  | heartbeatSend
  /-- A member is expelled for a configuration mismatch (R497). -/
  | spanExpel
  /-- Formation reaches FORM_TIMEOUT and commits with the members present or fails (R495). -/
  | formTimeout
  /-- No heartbeat from a member for 10 ms; its indices become uncarried (R498). -/
  | spanMemberLost (lost : SpanIndex)
  /-- A partner's chain value is received and compared (R507). -/
  | pairDigest (partner : BitVec 128) (run : W32) (m : PairMsg)
  /-- A bisection probe exchanges chain values at a midpoint phase (R509). -/
  | pairProbe (partner : BitVec 128) (run : W32) (mid : Nat) (chain : BitVec 128) (own : BitVec 128)
  /-- The partner's chain value has not arrived within PAIR_WAIT (R508). -/
  | pairWaitTimeout (t : TenantId)
  /-- An image header or chunk received over a Ridge port is checked and recorded (R703). -/
  | imageChunk (p : PortId) (m : ImageMsg)
  /-- The leader's time sync message steers a member's time (R494). -/
  | timeSync (time : Nat)
  /-- A child's barrier arrival reaches its parent (R482). -/
  | arrive (p : PortId) (n : BitVec 16) (src : SpanIndex) (crc : Option (BitVec 8))
  /-- A member repeats ARRIVE every 1 µs until RELEASE (R482). -/
  | arriveRepeat (n : BitVec 16)
  /-- A barrier release is received and forwarded to the children (R483). -/
  | release (p : PortId) (n : BitVec 16) (src : SpanIndex) (crc : Option (BitVec 8))
  /-- A copy of RELEASE is received and used when RELEASE itself was lost (R484). -/
  | releaseCopy (p : PortId) (n : BitVec 16) (src : SpanIndex) (crc : Option (BitVec 8))
  /-- A member releases at t + (L_max − L_self) on its next grid cycle (R483). -/
  | barrierLocalRelease (n : BitVec 16) (differ : Bool)
  /-- A barrier abort is received and the waiting steps are invalidated (R485). -/
  | abort (p : PortId) (n : BitVec 16) (src : SpanIndex) (crc : Option (BitVec 8))
  /-- A barrier is not complete within BARRIER_TIMEOUT and the leader sends ABORT (R485). -/
  | barrierTimeout (n : BitVec 16)
  /-- A sideband latency probe is answered with ECHO_REPLY (R483). -/
  | echo (p : PortId) (n : BitVec 16) (src : SpanIndex) (crc : Option (BitVec 8))
  /-- An echo reply measures the sideband latency to the parent (R483). -/
  | echoReply (p : PortId) (n : BitVec 16) (src : SpanIndex) (crc : Option (BitVec 8)) (above : Nat)
  /-- Every 1 s each member measures its parent latency by ECHO (R483). -/
  | echoMeasurement
  /-- An event of an enabled source is shadowed or reacts at its effective level (R645). -/
  | faultEvent (reports : List FaultReport) (ack : BitVec 128)
  /-- A level-3 block reset completes and the reaction ends (R656). -/
  | blockResetComplete (b : Block)
  /-- 10 µs after a level-5 pair assertion the module reset begins (R650). -/
  | gutterModuleReset
  /-- A shadow window closes and covered conditions still present form events (R662). -/
  | shadowWindowClose
  /-- A class's quiet period completes and the class auto-exits the fault state (R656). -/
  | quietPeriodExpiry (cls : ClassId)
  /-- The Kettle force-releases a resource held by a faulted party over the Purlin network (R663). -/
  | forcedRelease (r : Resource) (freed : Bool)
  /-- The Kettle watchdog expires after 10 ms without service (R648). -/
  | kettleWdt
  /-- The two lock-stepped Kettle cores disagree (R648). -/
  | kettleLockstep
  /-- A self-test unit falls due and its test starts in an idle window (R675). -/
  | selftestDue (u : Fin 21)
  /-- A self-test finishes, passing or failing after one repeat (R678). -/
  | selftestComplete (f : TestFindings)
  /-- A service request preempts a test in progress (R676). -/
  | selftestPreemption (q : TestRequest)
  /-- A unit has not completed a test for 4 × PERIOD_S (R675). -/
  | selftestOverdue (u : Fin 21)
  /-- With free journal sectors below 25 %, the sector with the fewest current records is compacted (R716). -/
  | caddyCompaction (fails : Bool)
  /-- At the start of an idle period the module chooses and enters a power state (R741). -/
  | idlePeriodStart (trigger : Bool)
  /-- A wake starts early enough to reach RUN before a known event (R744). -/
  | plannedWakeStart
  /-- A doorbell, fault, message or grid need wakes the module toward RUN (R744). -/
  | wakeTrigger (w : WakeCause)
  /-- A wake ends with scratchpads reloaded and crossings recalibrated (R746). -/
  | wakeComplete (crossings : List (Fin 19200))
  /-- A planned time passes and leaves the plan (R748). -/
  | planTimePassed
  /-- Every 50 µs the thermal sensors are sampled against their thresholds (R733). -/
  | thermalSample (temps : Vector Int 88) (hot : Bool)
  /-- A warn condition held for 100 ms raises the throttle level (R734). -/
  | throttleRise
  /-- Every sensor below its warn level less 5 °C for 1 s lowers the throttle level (R734). -/
  | throttleFall
  /-- Every 1 ms input power is estimated and the limiter may raise the throttle (R737). -/
  | powerEstimate (mw : Nat)
  /-- A decided grid divisor change takes effect at the next step start or within 10 ms (R730). -/
  | divisorChange
  /-- A converter phase fails; a second on the core rail caps the grid divisor (R749). -/
  | vrmPhase (rail : Fin 6)
  /-- An on-module rail over-current is detected (R749). -/
  | vrmOvercurrent (rail : Fin 6)
  /-- A junction reaches 115 °C and the module resets at level 5 (R736). -/
  | thermalTrip (k : Fin 73)
  /-- PERST_L returns high and the PCIe endpoint becomes ready for link training within 100 ms (R771). -/
  | perstLRelease
  /-- The PCIe link goes down, or the endpoint reports an uncorrectable error, and source 24 is raised (R648). -/
  | pcieLink (e : PcieEvent)
  /-- The PCIe link reaches L0, WAKE_L is released and the PCIE_LINK condition ends (R772). -/
  | pcieLinkUp
  /-- An uncorrectable word in the Kettle's private SRAM raises source 9 and resets the Kettle (R648). -/
  | kettleSramUncorr
  /-- A parity error, or a timeout, on a Purlin network transaction raises source 25 (R648). -/
  | purlinErr (endpoint : Nat) (kind : Fin 3)
  /-- A parity error or lock-up in the mailbox engine raises source 54 at level 5 (R648). -/
  | mbxEngine
  /-- The backup cell falls below 2.5 V while main power is present, and source 113 is raised (R648). -/
  | vbatLow (cell : Nat)
  /-- The backup domain loses power with both main input and cell absent, and its contents are gone (R756). -/
  | backupDomainPowerLoss
  /-- A CSI-2 port regains PHY lock, or an Ethernet port regains link, and the INTAKE_LINK condition ends (R590). -/
  | intakeLinkRestored (csi : Bool) (port : Fin 16)
  /-- At the next alignment block, the receiver deskews the spare lane that carries the copied symbols (R474). -/
  | spareDeskew (p : PortId)
  /-- Entry into GATE, RETAIN, DARK or PARK completes; the module is in that state, and in PARK MBX_READY drops (R745). -/
  | stateEntryComplete
  /-- The tier 3 controller's log structure erases a block; an erase failure retires the block and may raise TIER3_WEAR (R263). -/
  | tier3BlockErase (block : Nat) (average : Nat) (fails : Option Nat)
  /-- The power-up scan of every written tier 3 page completes, which ends the need to rescan at each power-up (R267). -/
  | tier3ScanComplete
  /-- An Ethernet frame that is an IP fragment, has an FCS error or matches no flow and is not gPTP is discarded and counted (R565). -/
  | ethFrameDiscard (port : Fin 4)
  deriving DecidableEq, Repr

end Sys2Proof
end

