-- ==== Sys2Proof/Machine/Bytes.lean ====
section
/-! DEFINITION. Byte orders, bit fields and the update of one entry of a fixed register file. -/

namespace Sys2Proof.Machine

open Sys2Proof

/-- The n low bytes of a value, least significant first (R13). -/
def leBytes : Nat → Nat → List Byte
  | 0, _ => []
  | n + 1, v => BitVec.ofNat 8 v :: leBytes n (v / 256)

/-- The value of bytes given least significant first (R13). -/
def ofLe : List Byte → Nat
  | [] => 0
  | b :: bs => b.toNat + 256 * ofLe bs

/-- The n low bytes of a value, most significant first. -/
def beBytes (n v : Nat) : List Byte := (leBytes n v).reverse

/-- The value of bytes given most significant first. -/
def ofBe (bs : List Byte) : Nat := ofLe bs.reverse

/-- Bits [lo + len − 1 : lo] of a value. -/
def field (v lo len : Nat) : Nat := (v >>> lo) % 2 ^ len

/-- Bit i of a value. -/
def bitAt (v i : Nat) : Bool := v.testBit i

/-- 1 for true, 0 for false. -/
def b2n (b : Bool) : Nat := if b then 1 else 0

/-- Bytes i to i + n − 1 of a byte string; bytes beyond its end are zero. -/
def slice (bs : List Byte) (i n : Nat) : List Byte :=
  let t := (bs.drop i).take n
  t ++ List.replicate (n - t.length) 0

/-- The little-endian value of bytes i to i + n − 1. -/
def leAt (bs : List Byte) (i n : Nat) : Nat := ofLe (slice bs i n)

/-- A byte string cut or zero-padded to n bytes. -/
def fit (n : Nat) (bs : List Byte) : List Byte := slice bs 0 n

/-- A byte string with zero bytes up to a multiple of k. -/
def padTo (k : Nat) (bs : List Byte) : List Byte :=
  bs ++ List.replicate ((k - bs.length % k) % k) 0

/-- The ASCII bytes of a name. -/
def ascii (s : String) : List Byte := s.toList.map fun c => BitVec.ofNat 8 c.toNat

/-- The bytes of a bit vector whose width is 8 × n, first byte the most significant. -/
def beOf (n : Nat) {w : Nat} (v : BitVec w) : List Byte := beBytes n v.toNat

/-- Entry i of a register file replaced. -/
def vset {α : Type} {n : Nat} (v : Vector α n) (i : Fin n) (a : α) : Vector α n := v.set i.val a i.isLt

/-- Entry i of a register file changed by a function. -/
def vmod {α : Type} {n : Nat} (v : Vector α n) (i : Fin n) (f : α → α) : Vector α n :=
  v.set i.val (f (v[i.val]'i.isLt)) i.isLt

/-- The value that an association list gives a key. -/
def assoc {α β : Type} [DecidableEq α] (l : List (α × β)) (k : α) : Option β :=
  match l with
  | [] => none
  | (a, b) :: t => if a = k then some b else assoc t k

/-- An association list with the value of one key set. -/
def assocSet {α β : Type} [DecidableEq α] (l : List (α × β)) (k : α) (b : β) : List (α × β) :=
  match l with
  | [] => [(k, b)]
  | (a, c) :: t => if a = k then (k, b) :: t else (a, c) :: assocSet t k b

/-- An association list without one key. -/
def assocDel {α β : Type} [DecidableEq α] (l : List (α × β)) (k : α) : List (α × β) :=
  l.filter fun p => !decide (p.1 = k)

/-- The numbers from a, n of them. -/
def rangeFrom (a n : Nat) : List Nat := (List.range n).map (a + ·)

/-- The smallest number from a on, within n candidates, for which p holds. -/
def firstFree (p : Nat → Bool) (a : Nat) : Nat → Option Nat
  | 0 => none
  | n + 1 => if p a then some a else firstFree p (a + 1) n

/-- Insertion into a list sorted by a strict order; equal elements keep their order of insertion. -/
def insertBy {α : Type} (lt : α → α → Bool) (x : α) : List α → List α
  | [] => [x]
  | y :: ys => if lt x y then x :: y :: ys else y :: insertBy lt x ys

/-- A stable sort by a strict order. -/
def sortBy {α : Type} (lt : α → α → Bool) (l : List α) : List α :=
  l.foldl (fun acc x => insertBy lt x acc) []

end Sys2Proof.Machine
end

