-- ==== Sys2Proof/Machine/Float.lean ====
section
/-! DEFINITION. Number formats, exact values, rounding and the defined functions (chapter "Number formats, conversions and
defined functions"). Values are exact: a finite value is a signed magnitude times a power of two, and every operation
rounds once from an exact rational. -/

namespace Sys2Proof.Machine

open Sys2Proof

/-! ### Formats (R83, R84, R88) -/

/-- A floating format of Table 3-1. -/
structure FloatFmt where
  /-- Exponent bits w. -/
  w : Nat
  /-- Mantissa bits m. -/
  m : Nat
  /-- Bias. -/
  bias : Nat
  /-- Exponent of the largest finite value. -/
  emax : Int
  /-- Its significand with the hidden bit, in quanta of 2^(emax − m). -/
  kmax : Nat
  /-- The top exponent code holds infinities and NaNs. -/
  ieee : Bool
  /-- Only exponent and mantissa all ones is a NaN (FP8 E4M3). -/
  nanOnes : Bool := false
  /-- Canonical NaN, where the format has one. -/
  nan : Nat := 0
  deriving DecidableEq, Repr

/-- The rows of Table 3-1. -/
def fp32 : FloatFmt := { w := 8, m := 23, bias := 127, emax := 127, kmax := 2 ^ 24 - 1, ieee := true, nan := 0x7FC00000 }
def bf16 : FloatFmt := { w := 8, m := 7, bias := 127, emax := 127, kmax := 255, ieee := true, nan := 0x7FC0 }
def fp16 : FloatFmt := { w := 5, m := 10, bias := 15, emax := 15, kmax := 2047, ieee := true, nan := 0x7E00 }
def e5m2 : FloatFmt := { w := 5, m := 2, bias := 15, emax := 15, kmax := 7, ieee := true, nan := 0x7E }
def e4m3 : FloatFmt := { w := 4, m := 3, bias := 7, emax := 8, kmax := 14, ieee := false, nanOnes := true, nan := 0x7F }
def e3m2 : FloatFmt := { w := 3, m := 2, bias := 3, emax := 4, kmax := 7, ieee := false }
def e2m3 : FloatFmt := { w := 2, m := 3, bias := 1, emax := 2, kmax := 15, ieee := false }
def e2m1 : FloatFmt := { w := 2, m := 1, bias := 1, emax := 2, kmax := 3, ieee := false }

/-- The emin of a format: 1 − bias. -/
def FloatFmt.emin (f : FloatFmt) : Int := 1 - (f.bias : Int)

/-- The floating format of an element format. -/
def floatFmt : NumFmt → Option FloatFmt
  | .fp32 => some fp32 | .bf16 => some bf16 | .fp16 => some fp16 | .e5m2 => some e5m2 | .e4m3 => some e4m3
  | .e3m2 => some e3m2 | .e2m3 => some e2m3 | .e2m1 => some e2m1
  | .int4 => none | .int8 => none | .int32 => none | .mxint8 => none

/-- Bits of an element code. -/
def codeBits : NumFmt → Nat
  | .fp32 => 32 | .bf16 => 16 | .fp16 => 16 | .e5m2 => 8 | .e4m3 => 8 | .e3m2 => 6 | .e2m3 => 6 | .e2m1 => 4
  | .int4 => 4 | .int8 => 8 | .int32 => 32 | .mxint8 => 8

/-- The exponent of the largest normal value of a block element format (Table 3-2). -/
def elementEmax : NumFmt → Int
  | .e4m3 => 8 | .e5m2 => 15 | .e3m2 => 4 | .e2m3 => 2 | .e2m1 => 2 | _ => 0

/-! ### Exact values -/

/-- A value: NaN, an infinity, or (−1)^neg × mag × 2^e, zeros keeping their sign. -/
inductive FVal where
  | nan
  | inf (neg : Bool)
  | fin (neg : Bool) (mag : Nat) (e : Int)
  deriving DecidableEq, Repr

/-- A numerator and denominator of n × 2^e. -/
def ratio (n : Nat) (e : Int) : Nat × Nat := if 0 ≤ e then (n * 2 ^ e.toNat, 1) else (n, 2 ^ (-e).toNat)

/-- The floor of log2 of a positive rational. -/
def floorLog2 (num den : Nat) : Int :=
  let l : Int := (Nat.log2 num : Int) - (Nat.log2 den : Int)
  let (n, d) := ratio num (-l)
  if n < den * d then l - 1 else l

/-- The value of a code of a floating format (R83). -/
def FloatFmt.decode (f : FloatFmt) (code : Nat) : FVal :=
  let neg := code.testBit (f.w + f.m)
  let ef := field code f.m f.w
  let mf := field code 0 f.m
  if f.ieee && decide (ef = 2 ^ f.w - 1) then (if mf = 0 then .inf neg else .nan)
  else if f.nanOnes && decide (ef = 2 ^ f.w - 1) && decide (mf = 2 ^ f.m - 1) then .nan
  else if ef = 0 then .fin neg mf (f.emin - f.m)
  else .fin neg (mf + 2 ^ f.m) ((ef : Int) - f.bias - f.m)

/-- The two's complement value of a code of n bits. -/
def signedCode (n code : Nat) : Int := if code.testBit (n - 1) then (code % 2 ^ n : Nat) - (2 ^ n : Int) else (code % 2 ^ n : Nat)

/-- The code of n bits of an integer. -/
def codeOf (n : Nat) (v : Int) : Nat := (v % (2 ^ n : Int)).toNat

/-- A signed integer times a power of two. -/
def ofInt (v : Int) (e : Int) : FVal := .fin (decide (v < 0)) v.natAbs e

/-- The value of an element code (R83, R84, Table 3-2). -/
def decodeNum (f : NumFmt) (code : Nat) : FVal :=
  match floatFmt f with
  | some ff => ff.decode code
  | none => ofInt (signedCode (codeBits f) code) (if f = .mxint8 then -6 else 0)

/-! ### Rounding (R100, R101) -/

/-- Rounding of k quanta and the discarded fraction r / den: 0 to nearest even, 1 toward zero, 2 stochastic with the
16-bit draw u. -/
def roundUp (rnd u k r den : Nat) : Bool :=
  if rnd = 1 then false
  else if rnd = 2 then decide (2 ^ 16 ≤ r * 2 ^ 16 / den + u)
  else decide (den < 2 * r) || (decide (den = 2 * r) && decide (k % 2 = 1))

/-- The rounded number of quanta of a rational num / den. -/
def roundQuanta (rnd u num den : Nat) : Nat :=
  let k := num / den
  if roundUp rnd u k (num % den) den then k + 1 else k

/-- The nearest integer to a signed n × 2^e, ties to even. -/
def rneInt (v : Int) (e : Int) : Int :=
  let (n, d) := ratio v.natAbs e
  let k := roundQuanta 0 0 n d
  if v < 0 then -(k : Int) else k

/-- The magnitude code of k quanta at exponent e, and whether it exceeds the largest finite value. -/
def FloatFmt.pack (f : FloatFmt) (k : Nat) (e : Int) : Nat × Bool :=
  let (k, e) := if k = 2 ^ (f.m + 1) then (2 ^ f.m, e + 1) else (k, e)
  if e > f.emax ∨ (e = f.emax ∧ k > f.kmax) then (0, true)
  else if k < 2 ^ f.m then (k, false)
  else ((e + f.bias).toNat * 2 ^ f.m + (k - 2 ^ f.m), false)

/-- The magnitude code of a positive rational in a floating format, and whether it overflows (R100). -/
def FloatFmt.roundMag (f : FloatFmt) (rnd u num den : Nat) : Nat × Bool :=
  if num = 0 then (0, false)
  else
    let e := max (floorLog2 num den) f.emin
    let (n, d) := ratio num (f.m - e)
    f.pack (roundQuanta rnd u n (d * den)) e

/-- The sign bit of a format. -/
def FloatFmt.signBit (f : FloatFmt) (neg : Bool) : Nat := if neg then 2 ^ (f.w + f.m) else 0

/-- Infinity and largest finite codes of a format, magnitude only. -/
def FloatFmt.infCode (f : FloatFmt) : Nat := (2 ^ f.w - 1) * 2 ^ f.m
def FloatFmt.maxCode (f : FloatFmt) : Nat := (f.emax + f.bias).toNat * 2 ^ f.m + (f.kmax - 2 ^ f.m)

/-- The result of a conversion: its code, and whether it counts in NAN_TO_ZERO or SATURATED (R107). -/
structure Conv where
  code : Nat
  nanToZero : Bool := false
  saturated : Bool := false
  deriving DecidableEq, Repr

/-- The overflow result of a floating target (Table 3-4). -/
def FloatFmt.overflow (f : FloatFmt) (rnd : Nat) (sat neg : Bool) : Conv :=
  if rnd = 1 ∨ (sat ∧ f.m ≤ 3) then { code := f.signBit neg + f.maxCode, saturated := true }
  else if f.ieee then { code := f.signBit neg + f.infCode }
  else { code := f.nan }

/-- The result for an infinite input of a floating target (Table 3-4). -/
def FloatFmt.ofInf (f : FloatFmt) (sat neg : Bool) : Conv :=
  if f.ieee then { code := f.signBit neg + f.infCode }
  else if sat then { code := f.signBit neg + f.maxCode, saturated := true }
  else { code := f.nan }

/-- Conversion of a value to a floating format under R100 and R101. -/
def FloatFmt.convert (f : FloatFmt) (rnd : Nat) (sat : Bool) (u : Nat) : FVal → Conv
  | .nan => { code := f.nan }
  | .inf neg => f.ofInf sat neg
  | .fin neg mag e =>
    let (n, d) := ratio mag e
    let (c, excess) := f.roundMag rnd u n d
    if excess then f.overflow rnd sat neg else { code := f.signBit neg + c }

/-- Least and greatest value in quanta of an integer target. -/
def intMin (f : NumFmt) : Int := -(2 ^ (codeBits f - 1) : Int)
def intMax (f : NumFmt) : Int := 2 ^ (codeBits f - 1) - 1

/-- Conversion of a value to an integer format under R100 and R101. -/
def convertInt (f : NumFmt) (rnd u : Nat) : FVal → Conv
  | .nan => { code := 0, nanToZero := true }
  | .inf neg => { code := codeOf (codeBits f) (if neg then intMin f else intMax f), saturated := true }
  | .fin neg mag e =>
    let (n, d) := ratio mag (if f = .mxint8 then e + 6 else e)
    let k := roundQuanta rnd u n d
    let v : Int := if neg then -(k : Int) else k
    if v < intMin f then { code := codeOf (codeBits f) (intMin f), saturated := true }
    else if intMax f < v then { code := codeOf (codeBits f) (intMax f), saturated := true }
    else { code := codeOf (codeBits f) v }

/-- Conversion of a value to an element format. -/
def convertTo (f : NumFmt) (rnd : Nat) (sat : Bool) (u : Nat) (v : FVal) : Conv :=
  match floatFmt f with
  | some ff => ff.convert rnd sat u v
  | none => convertInt f rnd u v

/-! ### FP32 arithmetic (R95, R96) -/

/-- The value of an FP32 bit pattern. -/
def val32 (x : W32) : FVal := fp32.decode x.toNat

/-- An exact value rounded once to FP32 with ties to even. -/
def rne32 (v : FVal) : W32 := BitVec.ofNat 32 (fp32.convert 0 false 0 v).code

/-- The canonical FP32 NaN. -/
def nan32 : W32 := 0x7FC00000

/-- The signed magnitude of a finite value as an integer at exponent e0 ≤ e. -/
def alignInt (neg : Bool) (mag : Nat) (e e0 : Int) : Int :=
  let n : Int := mag * 2 ^ (e - e0).toNat
  if neg then -n else n

/-- The exact sum of two values; the sign of an exact zero follows IEEE 754 under round to nearest. -/
def addVal : FVal → FVal → FVal
  | .nan, _ => .nan
  | _, .nan => .nan
  | .inf a, .inf b => if a = b then .inf a else .nan
  | .inf a, .fin _ _ _ => .inf a
  | .fin _ _ _, .inf b => .inf b
  | .fin s m e, .fin t n f =>
    let e0 := min e f
    let v := alignInt s m e e0 + alignInt t n f e0
    if v = 0 then .fin (s && t) 0 e0 else ofInt v e0

/-- The exact product of two values. -/
def mulVal : FVal → FVal → FVal
  | .nan, _ => .nan
  | _, .nan => .nan
  | .inf a, .inf b => .inf (xor a b)
  | .inf a, .fin t n _ => if n = 0 then .nan else .inf (xor a t)
  | .fin s m _, .inf b => if m = 0 then .nan else .inf (xor s b)
  | .fin s m e, .fin t n f => .fin (xor s t) (m * n) (e + f)

/-- A value with its sign inverted. -/
def negVal : FVal → FVal
  | .nan => .nan
  | .inf a => .inf (!a)
  | .fin s m e => .fin (!s) m e

/-- FP32 add, subtract, multiply and fused multiply-add (R95). -/
def add32 (a b : W32) : W32 := rne32 (addVal (val32 a) (val32 b))
def sub32 (a b : W32) : W32 := rne32 (addVal (val32 a) (negVal (val32 b)))
def mul32 (a b : W32) : W32 := rne32 (mulVal (val32 a) (val32 b))
def fma32 (a b c : W32) : W32 := rne32 (addVal (mulVal (val32 a) (val32 b)) (val32 c))

/-- A signed rational rounded once to FP32 with ties to even. -/
def rat32 (neg : Bool) (num den : Nat) : W32 :=
  let (c, excess) := fp32.roundMag 0 0 num den
  BitVec.ofNat 32 (fp32.signBit neg + (if excess then fp32.infCode else c))

/-- FP32 divide (R95). -/
def div32 (a b : W32) : W32 :=
  match val32 a, val32 b with
  | .nan, _ => nan32
  | _, .nan => nan32
  | .inf _, .inf _ => nan32
  | .inf s, .fin t _ _ => rne32 (.inf (xor s t))
  | .fin s _ _, .inf t => rne32 (.fin (xor s t) 0 0)
  | .fin s m e, .fin t n f =>
    if n = 0 then (if m = 0 then nan32 else rne32 (.inf (xor s t)))
    else
      let (p, q) := ratio m (e - f)
      rat32 (xor s t) p (q * n)

/-- The integer square root of a number below 2^(2 n), found from the top bit down. -/
def isqrt (v : Nat) : Nat → Nat → Nat
  | 0, r => r
  | n + 1, r =>
    let c := r + 2 ^ n
    isqrt v n (if c * c ≤ v then c else r)

/-- FP32 square root (R95): the root of the magnitude scaled by 2^(2 × 40), with half a unit for a discarded remainder. -/
def sqrt32 (a : W32) : W32 :=
  match val32 a with
  | .nan => nan32
  | .inf s => if s then nan32 else rne32 (.inf false)
  | .fin s m e =>
    if m = 0 then rne32 (.fin s 0 0)
    else if s then nan32
    else
      let odd := e % 2 = 1
      let v := (if odd then 2 * m else m) * 2 ^ 80
      let half := (if odd then e - 1 else e) / 2
      let r := isqrt v 60 0
      let n := 2 * r + (if r * r = v then 0 else 1)
      let (p, q) := ratio n (half - 41)
      rat32 false p q

/-- The order of two values that are not NaN: the sign of a − b, −0 equal to +0. -/
def cmpVal : FVal → FVal → Int
  | .fin s m e, .fin t n f =>
    let e0 := min e f
    alignInt s m e e0 - alignInt t n f e0
  | .inf a, .inf b => if a = b then 0 else if a then -1 else 1
  | .inf a, _ => if a then -1 else 1
  | _, .inf b => if b then 1 else -1
  | _, _ => 0

/-- A pattern is a NaN. -/
def isNan32 (x : W32) : Bool := decide (val32 x = .nan)

/-- a < b; false with a NaN (R96). -/
def lt32 (a b : W32) : Bool := !isNan32 a && !isNan32 b && decide (cmpVal (val32 a) (val32 b) < 0)

/-- a = b; false with a NaN, and −0 equals +0 (R96). -/
def eq32 (a b : W32) : Bool := !isNan32 a && !isNan32 b && decide (cmpVal (val32 a) (val32 b) = 0)

/-- The order of `minimum` and `maximum`: −0 below +0 (R96). -/
def ltTotal32 (a b : W32) : Bool :=
  lt32 a b || (eq32 a b && a.getLsbD 31 && !b.getLsbD 31)

/-- FP32 minimum and maximum (R96). -/
def min32 (a b : W32) : W32 := if isNan32 a || isNan32 b then nan32 else if ltTotal32 b a then b else a
def max32 (a b : W32) : W32 := if isNan32 a || isNan32 b then nan32 else if ltTotal32 a b then b else a

/-! ### Sums in ascending order (R146) -/

/-- A chain of FP32 adds from the first term on; 0 for no term. -/
def sumChain : List W32 → W32
  | [] => 0
  | x :: xs => xs.foldl add32 x

/-- A dot product as a chain of fused multiply-adds from the first rounded product on. -/
def dotChain : List (W32 × W32) → W32
  | [] => 0
  | (a, b) :: xs => xs.foldl (fun acc p => fma32 p.1 p.2 acc) (mul32 a b)

/-! ### exp2 and the Strainer exponential (R108 to R111) -/

/-- The constants of R109. -/
def exp2C1 : W32 := 0x3F317218
def exp2C2 : W32 := 0x3E75FDF0
def exp2C3 : W32 := 0x3D635847

/-- T[j]: 2^(j/64) rounded to FP32. With r = floor of the 64th root of 2^j × 2^(64 × 24), the value lies between r and
r + 1 in units of 2^−24; no entry is a tie, so the half unit decides the rounding. -/
def root64 (v : Nat) : Nat → Nat → Nat
  | 0, r => r
  | n + 1, r =>
    let c := r + 2 ^ n
    root64 v n (if c ^ 64 ≤ v then c else r)

def exp2T (j : Nat) : W32 :=
  let r := root64 (2 ^ (j + 64 * 24)) 25 0
  rat32 false (2 * r + (if r ^ 64 = 2 ^ (j + 64 * 24) then 0 else 1)) (2 ^ 25)

/-- The value times 2^n rounded once to FP32. -/
def scaleRne (v : W32) (n : Int) : W32 :=
  match val32 v with
  | .fin s m e => rne32 (.fin s m (e + n))
  | x => rne32 x

/-- exp2_defined (R108). -/
def exp2Defined (x : W32) : W32 :=
  match val32 x with
  | .nan => nan32
  | .inf s => if s then 0 else 0x7F800000
  | .fin s m e =>
    if cmpVal (.fin s m e) (.fin false 128 0) ≥ 0 then 0x7F800000
    else if cmpVal (.fin s m e) (.fin true 160 0) < 0 then 0
    else
      let (num, den) := ratio m (e + 32)
      let big : Int := if s then -(((num + den - 1) / den : Nat) : Int) else ((num / den : Nat) : Int)
      let n := big / (2 ^ 32 : Int)
      let low := (big % (2 ^ 32 : Int)).toNat
      let j := low / 2 ^ 26
      let r := scaleRne (rne32 (.fin false (low % 2 ^ 26) 0)) (-32)
      let p := fma32 exp2C3 r exp2C2
      let p := fma32 p r exp2C1
      let p := fma32 p r 0x3F800000
      scaleRne (mul32 (exp2T j) p) n

/-- The Strainer exponential (R110). -/
def strainerExp (d : W32) : W32 := exp2Defined (mul32 d 0x3FB8AA3B)

/-! ### The Steep tables (R112, R113) -/

/-- The table index A of an argument. -/
def steepIndex (a : W32) : Int :=
  match val32 a with
  | .nan => 0
  | .inf s => if s then -2048 else 2048
  | .fin s m e =>
    let v : Int := if s then -(m : Int) else m
    max (-2048) (min 2048 (rneInt v (e + 7)))

/-- e^(−k/128) in units of 2^−96, for 0 ≤ k ≤ 2048, as the 16th power (four squarings) of its Taylor sum at k/2048 with
60 terms; the error is far below the distance of any table entry from a half-integer (R114). -/
def expTaylor (k : Nat) : Nat → Int × Int → Int × Int
  | 0, acc => acc
  | n + 1, acc =>
    let (term, sum) := expTaylor k n acc
    let t := -(term * (k : Int)) / ((n + 1 : Nat) * 2048 : Int)
    (t, sum + t)

def expNeg (k : Nat) : Nat :=
  let u : Int := 2 ^ 96
  let (_, s) := expTaylor k 60 (u, u)
  let sq := fun (x : Int) => x * x / u
  (sq (sq (sq (sq s)))).toNat

/-- The logistic column P[A] (R113). For A < 0 it is 2^24 − P[−A], as the exact values of the two add up to 2^24. -/
def steepPPos (k : Nat) : Nat :=
  let u := 2 ^ 96
  let d := u + expNeg k
  (2 * 2 ^ 24 * u + d) / (2 * d)

def steepP (a : Int) : Nat := if 0 ≤ a then steepPPos a.toNat else 2 ^ 24 - steepPPos (-a).toNat

/-- The Metropolis column Q[A] (R113). -/
def steepQ (a : Int) : Nat :=
  if a ≤ 0 then 2 ^ 24 - 1 else max 1 (min (2 ^ 24 - 1) ((expNeg a.toNat * 2 ^ 25 + 2 ^ 96) / 2 ^ 97))

end Sys2Proof.Machine
end

