-- ==== Sys2Proof/Machine/Digest.lean ====
section
/-! DEFINITION. Hashes and check words that the spec names: SHA-384 (FIPS 180-4), GHASH keyed with H_O (R521) and the cyclic
redundancy checks. -/

namespace Sys2Proof.Machine

open Sys2Proof

/-! ### SHA-384 -/

/-- Whether p has no divisor from 2 to n + 1. -/
def noDivisor (p : Nat) : Nat → Bool
  | 0 => true
  | n + 1 => !decide (p % (n + 2) = 0 ∧ n + 2 < p) && noDivisor p n

/-- The first 80 primes, the last of which is 409. -/
def primes80 : List Nat := (rangeFrom 2 408).filter fun p => noDivisor p 21

/-- The integer root of order k of a number below 2^(k n), found from the top bit down. -/
def iroot (k v : Nat) : Nat → Nat → Nat
  | 0, r => r
  | n + 1, r =>
    let c := r + 2 ^ n
    iroot k v n (if c ^ k ≤ v then c else r)

/-- The 80 round constants: the first 64 fraction bits of the cube roots of the primes. -/
def shaK : List W64 := primes80.map fun p => BitVec.ofNat 64 (iroot 3 (p * 2 ^ 192) 68 0)

/-- The SHA-384 start value: the first 64 fraction bits of the square roots of the 9th to 16th primes. -/
def shaIv : List W64 := ((primes80.drop 8).take 8).map fun p => BitVec.ofNat 64 (iroot 2 (p * 2 ^ 128) 68 0)

/-- A message padded to whole 128-byte blocks. -/
def shaPad (m : List Byte) : List Byte :=
  let z := (128 - (m.length + 17) % 128) % 128
  m ++ [0x80] ++ List.replicate z 0 ++ beBytes 16 (8 * m.length)

/-- The message schedule, extended from its last 16 words. -/
def shaSchedule : Nat → List W64 → List W64
  | 0, w => w
  | n + 1, w =>
    let t := w.length
    let g := fun i => w.getD (t - i) 0
    let s0 := (g 15).rotateRight 1 ^^^ (g 15).rotateRight 8 ^^^ ((g 15) >>> 7)
    let s1 := (g 2).rotateRight 19 ^^^ (g 2).rotateRight 61 ^^^ ((g 2) >>> 6)
    shaSchedule n (w ++ [g 16 + s0 + g 7 + s1])

/-- The eight working words. -/
structure ShaVars where
  a : W64
  b : W64
  c : W64
  d : W64
  e : W64
  f : W64
  g : W64
  h : W64
  deriving DecidableEq, Repr

/-- One round. -/
def shaRound (v : ShaVars) (kw : W64 × W64) : ShaVars :=
  let s1 := v.e.rotateRight 14 ^^^ v.e.rotateRight 18 ^^^ v.e.rotateRight 41
  let ch := (v.e &&& v.f) ^^^ (~~~v.e &&& v.g)
  let t1 := v.h + s1 + ch + kw.1 + kw.2
  let s0 := v.a.rotateRight 28 ^^^ v.a.rotateRight 34 ^^^ v.a.rotateRight 39
  let maj := (v.a &&& v.b) ^^^ (v.a &&& v.c) ^^^ (v.b &&& v.c)
  { a := t1 + (s0 + maj), b := v.a, c := v.b, d := v.c, e := v.d + t1, f := v.e, g := v.f, h := v.g }

/-- One block compressed into the eight hash words. -/
def shaBlock (h : List W64) (block : List Byte) : List W64 :=
  let w := shaSchedule 64 ((List.range 16).map fun i => BitVec.ofNat 64 (ofBe (slice block (8 * i) 8)))
  let g := fun i => h.getD i 0
  let v := (shaK.zip w).foldl shaRound
    { a := g 0, b := g 1, c := g 2, d := g 3, e := g 4, f := g 5, g := g 6, h := g 7 }
  [g 0 + v.a, g 1 + v.b, g 2 + v.c, g 3 + v.d, g 4 + v.e, g 5 + v.f, g 6 + v.g, g 7 + v.h]

/-- A byte string cut into pieces of n bytes. -/
def chunks (n : Nat) : Nat → List Byte → List (List Byte)
  | 0, _ => []
  | fuel + 1, l => if l.isEmpty then [] else l.take n :: chunks n fuel (l.drop n)

/-- SHA-384 of a byte string, 48 bytes. -/
def sha384 (m : List Byte) : List Byte :=
  let p := shaPad m
  (((chunks 128 p.length p).foldl shaBlock shaIv).take 6).flatMap (beOf 8)

/-- The first 16 bytes of SHA-384, as the 128-bit value of the bytes most significant first. -/
def sha384First16 (m : List Byte) : BitVec 128 := BitVec.ofNat 128 (ofBe ((sha384 m).take 16))

/-- SHA-384 as a 384-bit value, first byte most significant. -/
def sha384Bits (m : List Byte) : BitVec 384 := BitVec.ofNat 384 (ofBe (sha384 m))

/-- The 16 bytes of a digest held as a 128-bit value. -/
def bytes16 (v : BitVec 128) : List Byte := beOf 16 v

/-! ### GHASH (R521, R525) -/

/-- H_O. -/
def hashKeyO : BitVec 128 := 0x3A9C51E708D26B4FC17E94A35F20D8B6

/-- Multiplication in the field of GHASH, most significant bit first (NIST SP 800-38D). -/
def gmulGo (x : BitVec 128) : Nat → BitVec 128 → BitVec 128 → BitVec 128
  | 0, _, z => z
  | n + 1, v, z =>
    gmulGo x n ((v >>> 1) ^^^ (if v.getLsbD 0 then 0xE1000000000000000000000000000000 else 0))
      (if x.getLsbD n then z ^^^ v else z)

def gmul (x y : BitVec 128) : BitVec 128 := gmulGo x 128 y 0

/-- GHASH with a key over whole 16-byte blocks, from a start value. -/
def ghashFrom (h : BitVec 128) (y : BitVec 128) (m : List Byte) : BitVec 128 :=
  (chunks 16 m.length m).foldl (fun y b => gmul (y ^^^ BitVec.ofNat 128 (ofBe (fit 16 b))) h) y

/-- GHASH keyed with H_O. -/
def ghash (m : List Byte) : BitVec 128 := ghashFrom hashKeyO 0 m

/-- A frame digest (R521). -/
def frameDigest (bs : List Byte) : BitVec 128 := ghash (padTo 16 bs ++ beBytes 8 0 ++ beBytes 8 (8 * bs.length))

/-- An output or phase digest: outputs each padded to 16 bytes, then the number and 8 × the unpadded byte count (R525). -/
def outputDigest (outs : List (List Byte)) (n : Nat) : BitVec 128 :=
  ghash (outs.flatMap (padTo 16) ++ beBytes 8 n ++ beBytes 8 (8 * (outs.map List.length).sum))

/-! ### Cyclic redundancy checks -/

/-- Eight steps of a reflected CRC over one byte. -/
def crcReflByte (poly : Nat) (crc : Nat) (b : Byte) : Nat :=
  (List.range 8).foldl (fun c _ => if c % 2 = 1 then (c / 2) ^^^ poly else c / 2) (crc ^^^ b.toNat)

/-- CRC-32C (Castagnoli), reflected, start and final value all ones. -/
def crc32c (bs : List Byte) : Nat := (bs.foldl (crcReflByte 0x82F63B78) 0xFFFFFFFF) ^^^ 0xFFFFFFFF

/-- CRC-32 (IEEE 802.3), reflected, start and final value all ones. -/
def crc32 (bs : List Byte) : Nat := (bs.foldl (crcReflByte 0xEDB88320) 0xFFFFFFFF) ^^^ 0xFFFFFFFF

end Sys2Proof.Machine
end

