-- ==== Sys2Proof/Machine/Rng.lean ====
section
/-! DEFINITION. The lane generators: xoroshiro128++, seeds, streams and jumps (chapter "Lane generators and the entropy
source"), as functions on states. -/

namespace Sys2Proof.Machine

open Sys2Proof

/-- The state of a generator (R289). -/
structure Rng where
  s0 : W64
  s1 : W64
  deriving DecidableEq, Repr

/-- The output of a state (R289). -/
def Rng.out (r : Rng) : W64 := (r.s0 + r.s1).rotateLeft 17 + r.s0

/-- The next state (R289). -/
def Rng.next (r : Rng) : Rng :=
  let b := r.s1 ^^^ r.s0
  { s0 := r.s0.rotateLeft 49 ^^^ b ^^^ (b <<< 21), s1 := b.rotateLeft 28 }

/-- The state after n draws. -/
def Rng.skip (r : Rng) : Nat → Rng
  | 0 => r
  | n + 1 => (r.next).skip n

/-- The seed state (R291). -/
def seedState (seed : BitVec 128) : Rng :=
  if seed = 0 then { s0 := 0x9E3779B97F4A7C15, s1 := 0xBF58476D1CE4E5B9 }
  else { s0 := seed.setWidth 64, s1 := (seed >>> 64).setWidth 64 }

/-- The seed identifier (R292). -/
def seedId (seed : BitVec 128) : BitVec 128 := sha384First16 (leBytes 16 seed.toNat)

/-! ### Jumps (R305 to R307) -/

/-- A jump by a polynomial c, bit i its coefficient of x^i (R305): i runs from the given start over n bits. -/
def jumpGo (c : BitVec 128) : Nat → Nat → Rng → Rng → Rng
  | 0, _, _, t => t
  | n + 1, i, s, t =>
    jumpGo c n (i + 1) s.next (if c.getLsbD i then { s0 := t.s0 ^^^ s.s0, s1 := t.s1 ^^^ s.s1 } else t)

def jumpApply (c : BitVec 128) (s : Rng) : Rng := jumpGo c 128 0 s { s0 := 0, s1 := 0 }

/-- x^128 modulo P, the low 128 coefficients of the characteristic polynomial of the state update (R305, R306; DEDUCED from
R289: it is the connection polynomial of the sequence, and gives the two check words of R306). -/
def charPoly : BitVec 128 := 0x0031BCF2F855D6E58DAE70779760B081

/-- a × b modulo P, by Horner over the bits of b from the top. -/
def polyMul (a b : BitVec 128) : BitVec 128 :=
  (List.range 128).foldl (fun acc i =>
    let sh := (acc <<< 1) ^^^ (if acc.getLsbD 127 then charPoly else 0)
    if b.getLsbD (127 - i) then sh ^^^ a else sh) 0

/-- The jump words c_k = x^(2^k) modulo P (R306). -/
def jumpWord : Nat → BitVec 128
  | 0 => 2
  | k + 1 => let c := jumpWord k; polyMul c c

/-- A jump by J positions: c_k for each set bit k of J, in ascending k (R307). `fuel` bounds the bits looked at. -/
def jumpBits : Nat → Nat → BitVec 128 → Rng → Rng
  | 0, _, _, s => s
  | fuel + 1, j, c, s =>
    if j = 0 then s
    else jumpBits fuel (j / 2) (polyMul c c) (if j % 2 = 1 then jumpApply c s else s)

def jumpBy (j : Nat) (s : Rng) : Rng := jumpBits 128 j 2 s

/-! ### Streams (R298 to R302) -/

/-- The global index of tile lane l of vtile v at a span index (R298). -/
def laneStream (span v l : Nat) : Nat := ((span * 9216) + v) * 32 + l

/-- The global index of a draw unit, a Strainer stream and a host-row stream (R299). -/
def drawUnitStream (span v : Nat) : Nat := 2 ^ 23 + span * 9216 + v
def strainerStream (span k : Nat) : Nat := 2 ^ 23 + 2 ^ 18 + span * 256 + k
def hostRowStream (k : Nat) : Nat := 2 ^ 23 + 2 ^ 18 + 2 ^ 12 + k

/-- The state of stream G at a position from its start state (R300). -/
def streamAt (seed : BitVec 128) (g pos : Nat) : Rng := jumpBy pos (jumpBy (g * 2 ^ 80) (seedState seed))

/-- The output of stream G at position p of step n with draw budget D (R302). -/
def streamOut (seed : BitVec 128) (g d n p : Nat) : W64 := (streamAt seed g (n * d + p)).out

/-- n outputs from a state on. -/
def Rng.outs (r : Rng) : Nat → List W64
  | 0 => []
  | n + 1 => r.out :: (r.next).outs n

/-! ### The lane known-answer test (R319 to R321) -/

/-- The low 64 bits of the test polynomials of lanes 0 to 31 (R319): the smallest primitive polynomials of degree 64 with
five terms, found with the primitivity test that the chapter names (DEDUCED). -/
def testPolys : List W64 :=
  [0x1B, 0x1D, 0x1A1, 0x251, 0x425, 0x807, 0xA11, 0x1083, 0x1281, 0x2821, 0x400D, 0x12009, 0x28021, 0x48003, 0x48009,
   0x90003, 0x200281, 0x201401, 0x204801, 0x280011, 0x408041, 0x801021, 0x840801, 0x860001, 0x10000A1, 0x1000241,
   0x1200009, 0x2000083, 0x2001005, 0x2002081, 0x2010009, 0x2080009]

/-- One output cycle of the register in Galois form: 64 multiplications by x (R320). -/
def lfsrStep (p : W64) (r : W64) : Nat → W64
  | 0 => r
  | n + 1 => lfsrStep p ((r <<< 1) ^^^ (if r.getLsbD 63 then p else 0)) n

/-- The Galois signature over n output cycles (R320). -/
def lfsrSignature (p : W64) : Nat → W64 → W64 → W64
  | 0, _, sig => sig
  | n + 1, r, sig =>
    let r := lfsrStep p r 64
    lfsrSignature p n r (sig.rotateLeft 1 ^^^ r)

/-- The same signature over generator outputs (R321). -/
def rngSignature : Nat → Rng → W64 → W64
  | 0, _, sig => sig
  | n + 1, r, sig => rngSignature n r.next (sig.rotateLeft 1 ^^^ r.out)

/-- What a lane known-answer test must give for a lane (R321). -/
def laneKatExpected (l : LaneId) : W64 × W64 × Rng :=
  (lfsrSignature (testPolys.getD l.val 0) 4096 1 0, rngSignature 4096 { s0 := 1, s1 := 2 } 0,
   jumpBy (2 ^ 64) { s0 := 1, s1 := 2 })

end Sys2Proof.Machine
end

