-- ==== Sys2Proof/Config.lean ====
section
/-! DEFINITION. The free values of the model: constants without a body, for each value that the spec leaves open or that
comes from a secret. Nothing can be proved about a value of one, so a statement about the module holds for every value.
Each is named in the assumption log. -/

namespace Sys2Proof.Config

/-- Output number k of the DRBG after the entropy it has absorbed, 128 bits (R330; AES keys and counters are inside the
security engine). Log entry 1. -/
opaque drbg : List Bool → Nat → BitVec 128

/-- The ECDSA P-384 signature (r then s) that the security engine makes with the device attestation key over a 384-bit
hash; k separates repeated signatures (R544, R553). Log entry 1. -/
opaque sign : BitVec 384 → Nat → BitVec 768

/-- KEY_ID of the attestation key that DICE derives from the digests, SVN and version of the running firmware (R544,
R720). Log entry 1. -/
opaque keyId : List Byte → Nat → BitVec 128

/-- Whether the signature of an image header verifies under the ROM key that its SIGNER_KEY_ID names; false when it
names none (R697). Log entry 1. -/
opaque imageSignatureOk : List Byte → Bool

/-- The plaintext of an image from its header and ciphertext, when GCM_TAG verifies (R700; the image keys are OTP
secrets). Log entry 1. -/
opaque imagePlaintext : List Byte → List Byte → Option (List Byte)

/-- Whether a debug challenge response is a valid signature over the nonce and the serial number (R722). Log entry 1. -/
opaque debugSignatureOk : List Byte → BitVec 128 → List Byte → Bool

/-- The nonce that the security engine hands to the debug probe (R722). Log entry 1. -/
opaque debugNonce : Nat → List Byte

/-- The 384-bit package digest of a package file (R503, Table 13-7); the package format and its digest belong to the
Ecdom toolchain. Log entry 8. -/
opaque packageDigest : List Byte → BitVec 384

/-- The schedule digest of a tenant (R206), a function of the package digest, the tenant rectangle, the site map, the cut
links, the fenced segments and the firmware build. Log entry 10. -/
opaque scheduleDigest : BitVec 384 → Nat × Nat × Nat × Nat → List Nat → List Nat → Nat → Nat → BitVec 128

/-- The residency-plan digest of a tenant (R206), a function of its units with their tiers. Log entry 10. -/
opaque residencyDigest : List (Nat × Nat × Nat) → BitVec 128

/-- The k-th fresh 64-bit free value: what the module computes where the spec gives no value. Log entry 1. -/
opaque free64 : Nat → BitVec 64

/-- Payload bytes of the record with a SEQ in the Caddy journal (R713 bounds it by 3,968; the payload layouts belong to the
firmware). Log entry 1. -/
opaque journalLength : Nat → Nat → Nat

/-- The boot ROM digest of measurement index 1 (R721). Log entry 1. -/
opaque romDigest : BitVec 384

/-- The bytes of the DeviceID and alias certificate chain (R720, R721). Log entry 1. -/
opaque certificateChain : List Byte → List Byte

/-- The body of a status section whose byte layout the spec does not state (sections 4, 5 and 8), a function of the section id and
of the values that it reports (R626). Log entry 40. -/
opaque statusBody : Nat → List Nat → List Byte

/-- The input voltage in mV that the input-voltage sensor reads (R779). Log entry 1. -/
opaque inputVoltage : Nat → Nat

end Sys2Proof.Config
end

