-- ==== Sys2Proof/Machine/State.lean ====
section
/-! DEFINITION. The state of the Lemup L96 module as plain data: every register, queue, buffer, counter and pin that the
spec gives it, with the reset value of each field as its default, and `State.reset`. Each field's comment names its
width where it has one, the file and rule of the spec that gives it, and its reset value. "Kept" means that a module
reset does not change it. -/

namespace Sys2Proof.Machine

/-- A byte-addressed memory: (address, byte) cells in strictly rising address, none of them zero; an address without a
cell reads 0 (log entry 9). -/
abbrev Mem := List Host.Cell

/-- The kinds of messages the module sends on a Ridge port: Table 12-4, the LINK flits of R458 and the sideband
messages of R481. -/
inductive LinkMsg where
  | slotData | reduceOperand | reduceResult | poolCandidate | stateMove
  | spanHello | spanCommit | spanHeartbeat | spanExpel | pairDigest | pairProbe | imageChunk | timeSync
  | nak | laneSwapReq | laneSwapDone | laneAck | retrainReq
  | arrive | release | abort | echo | echoReply | releaseCopy
  | flit
  deriving DecidableEq, Repr

/-- The counters of READ_COUNTERS, each named as its table names it (R625). -/
inductive Counter where
  | nanToZero | saturated | blockNonfinite | accSaturated | accReplays | reduceOverflow | frames | holdFrames
  | holdCycles | frameHoldEvents | borrowedSlots | edgeEntryBytes | meshCorrected | linkCorrected | eaveCorrected
  | cutLinks | fencedSegments | epochSwitches | epochsAbandoned | deferredCommits | drainSkipped | plannedPending
  | foldedPairs | spillPages | promotions | demotions | migrationsAbandoned | migrationBytes | cacheHits
  | cacheMisses | t1Corrected | t2Corrected | t3Retries | t3Rebuilds | poisonedLines | retiredPages | retiredRows
  | spareLeft | retiredBlocks | spareBlocksPct | peCycles | hostWrites | refreshHot | winWritesRejected
  | winPoisonReads | rctFails | aptFails | blocksGood | blocksDiscarded | vnPairsDropped | drbgReseeds
  | seedFreshWaits | drawBudgetTraps | seedsSpent | steepUpdates | steepChanges | steepHaloWaitCycles
  | exchAttempts | exchAccepts | steepEnergySat | steepBadArea | annealSweeps | poolCaptures | poolInserts
  | poolDuplicates | poolEvictions | poolRejects | hashCollisions | annealReruns | lockedBarrierCycles
  | freeStaleScatters | rows | groups | drafted | accepted | bonus | kShortRows | nanRows | emptyRows
  | rowTimeouts | lateBlocks | candidates | contextWaitCycles | ridgeCorrected | ridgeUncorrCw | ridgeCrcFails
  | ridgeNaks | ridgeRetrains | laneSwaps | protoErrors | sidebandCrc | barriers | barrierInband | barrierWaitCycles
  | ridgeFlits | spanStepAdjust | pairCompares | pairTimingDiff | stepsCommitted | stepsInvalid | reruns
  | rerunFailed | journalLines | journalOverflows | edgeHoldSteps | checkpoints | restores | replaySteps
  | replayMismatches | slateRecords | slateSigns | slateOverwritten | slateTorn | slateStallCycles | framesLanded
  | framesBound | dropsFull | dropsError | frameTimeouts | framesTorn | framesFlushed | csiUnsupported
  | ethDiscards | lateSteps | skippedBoundaries | syncAccepted | syncIgnored | syncExtra | syncOutSuppressed
  | timeSteps | mbxCommands | mbxAccepted | mbxFlushed | mbxBadTail | mbxCplWaitUs | mbxLate | mbxFaultedReset
  | msixSent | ideRejects | events | shadowed | escalations | injected | recovery | latchEvents | pairAssertions
  | pairFaultMs | trapsQueued | forcedReleases | releaseNoops | selftestRuns | selftestPreempts | selftestForced
  | selftestFails | boots | startFails | fallbacks | recoveryEntries | imagesRefused | chunksRefused
  | chunksForwarded | svnFusesLeft | caddyTorn | caddyAuthFails | caddyCompactions | caddyRetired | caddyMaxErases
  | debugUnlocks | throttleUp | throttleEmergency | powerLimitEvents | div10Ms | div16Ms | holdoverMs
  | maxJunctionC | stateEntries | stateMs | wakeAbandoned | wakeLate | planEvents | phaseFails | bkpCold
  | bkpHot | bkpCellDip | bkpOscStop | ppsAccepted | ppsRejected | wakeAssertions | i3cMessages
  deriving DecidableEq, Repr

/-! ### Outputs of the block

What the module puts on its host link, its Ridge ports and its pins as an event, newest first. The levels of the
pins themselves are fields of `Pins`. -/

/-- One thing the module sends out of the block. -/
inductive Output where
  /-- Bytes written by DMA into the buffer list of a command (R610). -/
  | hostBuffer (mbx : Nat) (tag : W32) (bytes : List Byte)
  /-- An MSI-X message of a function's vector (R608, R609). -/
  | msix (fn vec : Nat)
  /-- A non-maskable trap of a Gutter source entered in the Kettle (R650 level 2). -/
  | trap (src : Nat)
  /-- A message on a Ridge port, or on its sideband, with its fields in the order of its table. -/
  | ridge (port : Nat) (msg : LinkMsg) (args : List Nat) (body : List Byte)
  /-- A flit that leaves on a Ridge port (R454). -/
  | ridgeFlit (port : Nat) (bytes : List Byte)
  /-- A value returned on the host link by a register or window read. -/
  | readData (fn : Nat) (offset : Nat) (value : W64)
  /-- The bytes that a read through a function's tensor window returns (R282). -/
  | windowData (fn : Nat) (offset : Nat) (bytes : List Byte)
  /-- The response to an SPDM request (R721). -/
  | spdm (code : Nat) (body : List Byte)
  /-- The response to an I3C message (R779). -/
  | i3c (body : List Nat)
  /-- A nonce or a result on the debug port (R722). -/
  | debug (accepted : Bool) (body : List Byte)
  /-- A FRAME_SYNC_OUT edge (R581, R586). -/
  | syncOut (level : Bool)
  deriving DecidableEq, Repr

/-! ### Mailboxes (chapter "Mailboxes and the host interface") -/

/-- The status codes of Table 15-10 (R628). -/
inductive Status where
  | ok | accepted | busy | deferred | badOpcode | badParam | noSeed | notOwner | noResource | wontFit
  | imageRefused | versionFloor | svnFloor | spanMismatch | caddyReadonly | faulted | stepInvalid | flushed | timeout
  deriving DecidableEq, Repr

/-- A completion that waits for ring room (R607), laid out as R603 and R605 give it. -/
structure Completion where
  /-- TAG of the command. -/
  tag : W32
  /-- STATUS (Table 15-10). -/
  status : Status
  /-- REASON (R629). -/
  reason : Nat := 0
  /-- MORE: further completions follow. -/
  more : Bool := false
  /-- KR: the execution spanned a Kettle restart (R640). -/
  kr : Bool := false
  /-- Number of continuation entries, 0 to 3. -/
  ext : Nat := 0
  /-- Result bytes; those beyond the list are zero (R605). -/
  result : List Byte := []
  /-- NO_INT of the command: no MSI-X message (R609). -/
  noInt : Bool := false
  /-- Word 0 of the command (R641). -/
  w0 : W64 := 0
  deriving DecidableEq, Repr

/-- A command entry that a doorbell has made visible and the engine has not taken (R602). -/
structure Visible where
  /-- Word 0 as the ring held it at the doorbell (R641). -/
  w0 : W64
  /-- Time of the doorbell, from which deadlines run (R613). -/
  rung : Nat
  deriving DecidableEq, Repr

/-- The engine's own copy of an entry it has taken (R602). -/
structure Taken where
  /-- The eight words of the entry. -/
  entry : Vector W64 8
  /-- Time of the doorbell. -/
  rung : Nat
  deriving DecidableEq, Repr

/-- What a STEP_ABORT or a flush has set on a command (R622, R637). -/
inductive Latch where
  | none | abort | flush
  deriving DecidableEq, Repr

/-- A command that the firmware or the engine has started and that has not posted its final completion. -/
structure Started where
  /-- The command. -/
  call : Call
  /-- Time of the doorbell. -/
  rung : Nat
  /-- Its first completion has been posted (R615). -/
  first : Bool := false
  /-- Its execution has spanned a Kettle restart (R640). -/
  kr : Bool := false
  /-- It is a compute command (R613). -/
  compute : Bool := false
  /-- Set by STEP_ABORT or by a flush. -/
  latch : Latch := .none
  deriving DecidableEq, Repr

/-- One mailbox: its registers (Table 15-4), its rings (R600) and the engine's queues. -/
structure Mailbox where
  /-- CMD_TAIL, 9 bits, 15_mailboxes Table 15-4; reset 0. -/
  cmdTail : BitVec 9 := 0
  /-- CMD_HEAD, 9 bits, 15_mailboxes Table 15-4; reset 0. -/
  cmdHead : BitVec 9 := 0
  /-- CPL_HEAD, 9 bits, 15_mailboxes Table 15-4; reset 0. -/
  cplHead : BitVec 9 := 0
  /-- CPL_TAIL, 9 bits, 15_mailboxes Table 15-4; reset 0. -/
  cplTail : BitVec 9 := 0
  /-- CTRL.EN, 1 bit, 15_mailboxes Table 15-4; reset 0. -/
  en : Bool := false
  /-- CTRL.INT_EN as the virtual function that shows the mailbox sets it, 1 bit, 15_mailboxes Table 15-4, R609; reset 0. -/
  intEn : Bool := false
  /-- CTRL.INT_EN as the physical function sets it, 1 bit, 15_mailboxes Table 15-4, R609; reset 0. -/
  intEnPf : Bool := false
  /-- STATUS.FLUSHING, 1 bit, 15_mailboxes Table 15-4; reset 0. -/
  flushing : Bool := false
  /-- STATUS.BAD_TAIL, 1 bit, 15_mailboxes Table 15-4; reset 0. -/
  badTail : Bool := false
  /-- The mailbox's 0x6000 bytes of BAR2: command ring from 0x0000, completion ring from 0x4000 (R600); reset lists nothing. -/
  ring : Mem := []
  /-- Entries visible and not taken, ring order (R602); reset empty. -/
  visible : List Visible := []
  /-- Entries taken and not started, ring order (R602, R615); reset empty. -/
  taken : List Taken := []
  /-- Commands started and not finished, start order (R615); reset empty. -/
  started : List Started := []
  /-- Completions waiting for ring room, oldest first (R607); reset empty. -/
  overflow : List Completion := []
  /-- Since when the oldest completion has found no ring room (MBX_CPL_WAIT_US); reset none. -/
  blockedSince : Option Nat := none
  /-- Word 0 of every visible command that has not posted its final completion, in the order made visible, kept in the always-on
  domain, 15_mailboxes R641; reset empty. -/
  records : List W64 := []
  /-- Word 0 of the entries that still owe a FAULTED completion after a module reset (R641), oldest first; reset empty. -/
  owed : List W64 := []
  deriving DecidableEq, Repr

/-- The 2 µs limit of one MSI-X vector (R609). -/
structure MsixVec where
  /-- Time of the last message sent. -/
  last : Option Nat := none
  /-- A message is held back. -/
  held : Bool := false
  deriving DecidableEq, Repr

/-- The PCIe side of the module. -/
structure HostLink where
  /-- The nine mailboxes, 15_mailboxes R598; reset as `Mailbox`. -/
  mbx : Vector Mailbox 9 := Vector.replicate 9 {}
  /-- The MSI-X limit of vector v of function f, 15_mailboxes R608; 16 slots a function, of which a virtual function uses 4. -/
  msix : Vector (Vector MsixVec 16) 5 := Vector.replicate 5 (Vector.replicate 16 {})
  /-- The endpoint is out of PERST_L and ready for link training, 17_boot R685; reset false. -/
  endpointReady : Bool := false
  /-- The link is in L0, 19_connectors R772; reset false. -/
  linkUp : Bool := false
  /-- The endpoint is in D3cold with its link in L2, 19_connectors R772; reset false. -/
  d3cold : Bool := false
  /-- An IDE stream is established on function f, 15_mailboxes R594; reset none. -/
  ide : Vector Bool 5 := Vector.replicate 5 false
  deriving DecidableEq, Repr

/-! ### The Gutter (chapter "Fault collection, self-test and reaction") -/

/-- A block reset in progress (R654, R656). -/
structure BlockReset where
  /-- The block. -/
  block : Block
  /-- The class whose reaction began it. -/
  cls : ClassId
  /-- When it began. -/
  start : Nat
  deriving DecidableEq, Repr

/-- An open shadow window (R662). -/
structure Shadow where
  /-- The block whose reset opened it. -/
  block : Block
  /-- The tenants whose FRAME_HOLD it covers, fixed when the reset began (Table 16-4). -/
  tenants : List Nat
  /-- When it closes: 100 µs after the reset's maximum, or 100 µs after its completion once that is known. -/
  closeAt : Nat
  deriving DecidableEq, Repr

/-- The state of one Gutter class (R655 to R660). -/
structure GClass where
  /-- IN_FAULT, 16_gutter Table 16-10; reset 0. -/
  inFault : Bool := false
  /-- APPLIED, 3 bits, 16_gutter Table 16-10; reset 0. -/
  applied : Nat := 0
  /-- Start and length in ms of the running quiet period, 16_gutter R656, R682; reset not running. -/
  quiet : Option (Nat × Nat) := none
  /-- Times of the last auto-exits, newest first, 16_gutter R658; reset kept (empty when the domain was lost). -/
  exits : List Nat := []
  /-- RECOVERY, 16 bits, 16_gutter R660; reset kept (0 when the domain was lost). -/
  recovery : Nat := 0
  deriving DecidableEq, Repr

/-- The fault collector. -/
structure Gutter where
  /-- STICKY, 128 bits, 16_gutter Table 16-9; reset kept (0 when the domain was lost). -/
  sticky : BitVec 128 := 0
  /-- LATCHED, 128 bits, 16_gutter Table 16-9; reset kept (0 when the domain was lost). -/
  latched : BitVec 128 := 0
  /-- Force bits, 128 bits, 16_gutter Table 16-9; reset 0. -/
  force : BitVec 128 := 0
  /-- Check-invert, 128 bits, 16_gutter Table 16-9; reset 0. -/
  checkInvert : BitVec 128 := 0
  /-- Conditions present, as (source, instance) pairs, 16_gutter R643; reset none. -/
  cond : List (Nat × Nat) := []
  /-- LAST_LEVEL of each source, 16_gutter Table 16-15; reset 0. -/
  lastLevel : Vector Nat 128 := Vector.replicate 128 0
  /-- The eight classes, 16_gutter Table 16-10; reset as `GClass`. -/
  cls : Vector GClass 8 := Vector.replicate 8 {}
  /-- Block resets in progress, 16_gutter R656; reset none. -/
  resets : List BlockReset := []
  /-- Open shadow windows, 16_gutter R662; reset none. -/
  shadows : List Shadow := []
  /-- Traps queued during a Kettle restart, 16_gutter R671; reset 0. -/
  traps : BitVec 128 := 0
  /-- INIT_DONE, 16_gutter Table 16-8; reset 0. -/
  initDone : Bool := false
  /-- PAIR_FAULT, 16_gutter Table 16-8; reset 1. -/
  pairFault : Bool := true
  /-- When the pair last went to fault (MIN_ASSERT_US, R665), 16_gutter R665; reset 0. -/
  pairSince : Nat := 0
  /-- When a level-5 reaction begins its module reset, 16_gutter R650; reset none. -/
  resetDue : Option Nat := none
  /-- CLASSES of GUTTER_TENANT of each virtual function, 8 bits, 16_gutter Table 16-12; reset 0. -/
  tenantClasses : Vector (BitVec 8) 4 := Vector.replicate 4 0
  /-- Releases journaled and not known done, oldest first, 16_gutter R664; reset none. -/
  releases : List Resource := []
  deriving DecidableEq, Repr

/-- In-field self-test (R675 to R678). -/
structure SelfTest where
  /-- UNIT, 5 bits, 16_gutter Table 16-11; reset 31. -/
  unit : Nat := 31
  /-- RUNNING, 16_gutter Table 16-11; reset 0. -/
  running : Bool := false
  /-- FORCED, 16_gutter Table 16-11; reset 0. -/
  forced : Bool := false
  /-- The current test is the repeat of a failed one, 16_gutter R678; reset false. -/
  repeating : Bool := false
  /-- When the current test started, 16_gutter R675; reset 0. -/
  since : Nat := 0
  /-- Consecutive preemptions of each unit, 16_gutter R677; reset 0. -/
  consec : Vector Nat 21 := Vector.replicate 21 0
  /-- When each unit last completed a test, 16_gutter R675; reset 0 (DESIGN CHOICE, log entry 12: the time of the reset). -/
  lastDone : Vector Nat 21 := Vector.replicate 21 0
  /-- Units due and not yet tested, 16_gutter R675; reset none. -/
  due : List Nat := []
  /-- The unit that falls due next, 16_gutter R675; reset 0. -/
  next : Nat := 0
  /-- When it falls due; none before the main firmware starts, 16_gutter R675; reset none. -/
  nextAt : Option Nat := none
  /-- Units whose SELFTEST_OVERDUE has been raised since their last test, 16_gutter R675; reset none. -/
  overdue : List Nat := []
  deriving DecidableEq, Repr

/-! ### Reset, boot, update and the Caddy -/

/-- BOOT_STAGE of MODULE_STATE (Table 15-3). -/
inductive BootStage where
  | rom | stage1 | main | recovery
  deriving DecidableEq, Repr

/-- A firmware slot name (R688). -/
inductive Slot where
  | a | b
  deriving DecidableEq, Repr

/-- The mark of a slot in the slot table (Table 17-9 kind 0x0010). -/
inductive SlotMark where
  | empty | valid | invalid | failed
  deriving DecidableEq, Repr

/-- A firmware version: major, minor, patch, then build (R697). -/
structure Version where
  major : Nat := 0
  minor : Nat := 0
  patch : Nat := 0
  build : Nat := 0
  deriving DecidableEq, Repr

/-- The part of a stored image header that the module keeps using (Table 17-4). -/
structure ImageInfo where
  /-- MAJOR, MINOR, PATCH and BUILD. -/
  version : Version := {}
  /-- ARITH. -/
  arith : Nat := 1
  /-- IFACE. -/
  iface : Nat := 1
  /-- SVN. -/
  svn : Nat := 0
  /-- FLOOR. -/
  floor : Version := {}
  /-- STAGE1_DIGEST, MAIN_DIGEST and PROGRAM_DIGEST, 48 bytes each. -/
  digests : List Byte := []
  deriving DecidableEq, Repr

/-- One firmware slot. -/
structure SlotRec where
  /-- Slot mark, 17_boot Table 17-9; reset kept. -/
  mark : SlotMark := .empty
  /-- The image it holds, 17_boot R688; reset kept. -/
  image : ImageInfo := {}
  /-- Its header signature verifies, 17_boot R690; reset kept. -/
  signatureOk : Bool := true
  /-- Its stage-1 digest verifies, 17_boot R690; reset kept. -/
  stage1Ok : Bool := true
  /-- Attempt count journalled in the Caddy, 17_boot R691; reset kept. -/
  attempts : Nat := 0
  /-- Attempt count held in the backup domain, 18_power R753; reset kept while the domain lives. -/
  attemptsBkp : Nat := 0
  deriving DecidableEq, Repr

/-- The update states of Table 17-5 (R698). -/
inductive UpdateState where
  | idle | receiving | received | verified | trial
  deriving DecidableEq, Repr

/-- The update state, journalled in the Caddy (R698 to R703). -/
structure Update where
  /-- State of Table 17-5, 17_boot R698; reset kept. -/
  state : UpdateState := .idle
  /-- The 4,096 header bytes of the image in progress, 17_boot R695; reset kept. -/
  header : List Byte := []
  /-- The chunk map with the stored chunks, 17_boot R699; reset kept. -/
  chunks : List (Nat × List Byte) := []
  /-- The image is being received from this Ridge peer, 17_boot R701; reset kept. -/
  fromPeer : Option Nat := none
  /-- The slot that the image in progress goes into, 17_boot R698, R711; reset kept, B as shipped. -/
  target : Slot := .b
  /-- A verified image is still staged, 17_boot Table 17-5; reset kept. -/
  staged : Bool := false
  /-- Peers still being sent the image, as (port, chunks reported missing), 17_boot R702; reset none. -/
  forward : List (Nat × List Nat) := []
  /-- Ports of the UPDATE_FORWARD in progress whose peer holds every chunk, 17_boot R702; reset 0. -/
  forwarded : Nat := 0
  deriving DecidableEq, Repr

/-- CONFIRM_INTENT (R705): the slot, its SVN and its FLOOR. -/
structure ConfirmIntent where
  slot : Slot
  svn : Nat
  floor : Version
  deriving DecidableEq, Repr

/-- The boot state, the slots and the OTP items that the model needs. -/
structure Boot where
  /-- BOOT_STAGE, 15_mailboxes Table 15-3; reset 0 (boot ROM). -/
  stage : BootStage := .rom
  /-- ENGINE_READY, 15_mailboxes Table 15-3; reset 0. -/
  engineReady : Bool := false
  /-- MBX_READY, 15_mailboxes Table 15-3; reset 0. -/
  mbxReady : Bool := false
  /-- When the module reset in force or last made ended, 08_randomness R333; reset 0. -/
  resetAt : Nat := 0
  /-- When MBX_READY last became 1 (R613, R691), 17_boot R691; reset 0. -/
  readySince : Nat := 0
  /-- KETTLE_RESTARTING, 15_mailboxes Table 15-3; reset 0. -/
  kettleRestarting : Bool := false
  /-- KETTLE_RESTARTS, 32 bits saturating, 15_mailboxes Table 15-3; reset 0. -/
  restarts : Nat := 0
  /-- A module reset is in force: RESET_L is held, 17_boot R685; at reset true. -/
  inReset : Bool := true
  /-- The ROM has chosen a slot and waits for the reference to start stage 1, 17_boot R728; reset false. -/
  romReady : Bool := false
  /-- Reset-cause byte, 17_boot Table 17-3; at reset 0x01 POWER_ON. -/
  cause : Nat := 1
  /-- The boot holds before stage 1 until every junction reads below 95 °C, 18_power R736; reset false. -/
  tripHold : Bool := false
  /-- The slot that runs or is starting, 17_boot R690; reset slot A (DESIGN CHOICE, log entry 4). -/
  running : Slot := .a
  /-- Slot A, 17_boot R688; as shipped it holds the first firmware (DESIGN CHOICE, log entry 4). -/
  slotA : SlotRec := { mark := .valid }
  /-- Slot B, 17_boot R688; as shipped empty (DESIGN CHOICE, log entry 4). -/
  slotB : SlotRec := {}
  /-- The confirmed slot, 17_boot R690; reset kept, slot A as shipped. -/
  confirmed : Slot := .a
  /-- The trial slot, 17_boot R690; reset kept, none as shipped. -/
  trial : Option Slot := none
  /-- The start of the running slot is complete, 17_boot R691; reset false. -/
  startComplete : Bool := false
  /-- Blown SVN fuses, 0 to 128, 17_boot R706; kept for ever, 0 as shipped. -/
  svnFuses : Nat := 0
  /-- Confirmed version floor, 17_boot R705; reset kept. -/
  floor : Version := {}
  /-- A CONFIRM_INTENT without its CONFIRM_DONE, 17_boot R705; reset kept. -/
  intent : Option ConfirmIntent := none
  /-- The update state, 17_boot R698; reset kept. -/
  update : Update := {}
  /-- The activation or fallback whose restart is in progress, by its cause code, 17_boot R704; reset none. -/
  switching : Option Nat := none
  /-- The Kettle restart in progress found no eligible slot, 17_boot R690, R708; reset false. -/
  noSlot : Bool := false
  /-- The debug port is unlocked, 17_boot R722; reset false. -/
  debugUnlocked : Bool := false
  /-- The outstanding debug nonce, 17_boot R722; reset none. -/
  nonce : Option (List Byte) := none
  /-- PHY training records for tiers 1 and 2 are in the Caddy, 17_boot R689; kept, false as shipped. -/
  phyRecords : Bool := false
  /-- PART, fused, 15_mailboxes Table 15-3; 0 FNM-L96-AV (DESIGN CHOICE, log entry 4). -/
  part : Nat := 0
  /-- STEP_LETTER, fused ASCII, 15_mailboxes Table 15-3; B (DESIGN CHOICE, log entry 4). -/
  stepLetter : Byte := 0x42
  /-- STEP_DIGIT, fused ASCII, 15_mailboxes Table 15-3; 1 (DESIGN CHOICE, log entry 4). -/
  stepDigit : Byte := 0x31
  /-- Serial number, 128 bits, fused, 15_mailboxes Table 15-3; 0 (DESIGN CHOICE, log entry 4). -/
  serial : BitVec 128 := 0
  deriving DecidableEq, Repr

/-- One committed journal record (R713, R714). The value of each kind lives in the field of the state that it
journals; what is kept here is its place, its length and its SEQ. -/
structure JournalRec where
  seq : Nat
  kind : Nat
  inst : Nat
  length : Nat
  deriving DecidableEq, Repr

/-- A journal sector that has been used (R713, R717). -/
structure CaddySector where
  num : Nat
  erases : Nat := 0
  retired : Bool := false
  used : Nat := 64
  recs : List JournalRec := []
  deriving DecidableEq, Repr

/-- The journal of the Caddy (R712 to R718). -/
structure Caddy where
  /-- SEQ of the next record, 64 bits, 17_boot R714; kept, 1 as shipped. -/
  nextSeq : Nat := 1
  /-- The sector at the head of the journal, 17_boot R716; kept, 512 as shipped. -/
  head : Nat := 512
  /-- Sectors that hold records or have been erased or retired, 17_boot R713; kept, none as shipped. -/
  sectors : List CaddySector := []
  /-- The Caddy is read-only, 17_boot R718; kept. -/
  readOnly : Bool := false
  deriving DecidableEq, Repr

/-- The backup domain (R753) beyond what the Gutter, the slots and the mailboxes keep in it. -/
structure Backup where
  /-- Seconds of TAI in the real-time clock, 18_power R754; no reset value: 0 (DESIGN CHOICE, log entry 5). -/
  rtc : Nat := 0
  /-- Root time at which `rtc` was last set; the model's own field, log entry 2; 0 at reset. -/
  rtcAt : Nat := 0
  /-- TIME_STATUS.RTC_LOST, 14_sensor Table 14-4, 18_power R756; at first power-up 1. -/
  rtcLost : Bool := true
  /-- The backup alarm latch, 18_power R755; cleared at initialisation (R669). -/
  alarm : Bool := false
  /-- The domain has lost power since the last Gutter initialisation, 16_gutter R670; at first power-up true. -/
  lost : Bool := true
  deriving DecidableEq, Repr

/-! ### Clocks, power states and supply -/

/-- A power profile (R729, R731). -/
inductive Profile where
  | full | vehicle
  deriving DecidableEq, Repr

/-- The power states of Table 18-3 (R738). -/
inductive PState where
  | run | gate | retain | dark | park | backup
  deriving DecidableEq, Repr

/-- The clock tree, throttle and supply (R725 to R737, R749). -/
structure Clocks where
  /-- REFCLK is present and within ±1,000 ppm, 18_power R726; reset true (DESIGN CHOICE, log entry 5). -/
  refclk : Bool := true
  /-- The root PLL is in lock, 18_power R726; reset true (DESIGN CHOICE, log entry 5). -/
  locked : Bool := true
  /-- Since when holdover runs, 18_power R727; reset none. -/
  holdover : Option Nat := none
  /-- Active profile, 18_power R731; kept, Vehicle on FNM-L96-AV. -/
  profile : Profile := .vehicle
  /-- A journalled profile waiting for its change point, 18_power R731; reset none. -/
  newProfile : Option Profile := none
  /-- Throttle level, 0 to 2, 18_power R734; reset 0. -/
  throttle : Nat := 0
  /-- Grid divisor in effect, 18_power R729; reset 10, the Vehicle profile's. -/
  divisor : Nat := 10
  /-- When a pending divisor change was decided, 18_power R730; reset none. -/
  pending : Option Nat := none
  /-- Time of the last change of throttle level, 18_power R734; reset 0. -/
  throttleSince : Nat := 0
  /-- The level was raised by the input-power limiter and its 1 s average has not yet allowed a fall, 18_power R737; reset false. -/
  limited : Bool := false
  /-- The last 1,000 one-millisecond input-power estimates in mW, newest first, 18_power R737; reset none. -/
  estimates : List Nat := []
  /-- Last sample of each sensor in °C (0 to 63 grid, 64 to 71 Eave, 72 Kettle, 73 to 80 tier 1 stacks, 81 to 86 VRM, 87 inlet), 18_power R733; no reset value: 25 (DESIGN CHOICE, log entry 5). -/
  temp : Vector Int 88 := Vector.replicate 88 25
  /-- A first sample has been taken, 19_connectors R779; reset false. -/
  sampled : Bool := false
  /-- Sensor holds its warn condition since this time, 18_power R733; reset none. -/
  warnSince : Vector (Option Nat) 88 := Vector.replicate 88 none
  /-- Sensor holds its emergency condition, 18_power R733; reset false. -/
  emergency : Vector Bool 88 := Vector.replicate 88 false
  /-- Since when every throttling sensor is below its warn threshold less 5 °C, 18_power R734; reset since 0. -/
  coolSince : Option Nat := some 0
  /-- Failed converter phases of each rail group, 18_power R749; reset 0. -/
  phaseFails : Vector Nat 6 := Vector.replicate 6 0
  /-- The grid core rail caps the divisor at 16, 18_power R749; reset false. -/
  capped : Bool := false
  /-- Since when a tier 1 or tier 2 device has been above 85 °C, less the whole seconds counted (REFRESH_HOT), 07_tiers R271; reset
  none. -/
  hotSince : Option Nat := none
  /-- Since when the divisor in effect has been in effect (DIV10_MS, DIV16_MS), 18_power R758; reset 0. -/
  divSince : Nat := 0
  deriving DecidableEq, Repr

/-- Power states and the power policy (R738 to R748). -/
structure Power where
  /-- The power state, 18_power R738; reset RUN. -/
  state : PState := .run
  /-- Since when the module is in it (STATE_MS), 18_power R758; reset 0. -/
  since : Nat := 0
  /-- Nanoseconds in each state that its STATE_MS has not counted yet, 18_power R758; reset 0. -/
  rest : Vector Nat 6 := Vector.replicate 6 0
  /-- A state being entered, 18_power R745; reset none. -/
  entering : Option PState := none
  /-- A wake in progress: the state left and when it ends at the latest, 18_power R744; reset none. -/
  waking : Option (PState × Nat) := none
  /-- Start of the current idle period, 18_power R741; reset none. -/
  idleSince : Option Nat := none
  /-- The last 8 intervals in ns, newest first, 18_power R741; reset none. -/
  intervals : List Nat := []
  /-- Intervals measured since the module reset, 18_power R743; reset 0. -/
  measured : Nat := 0
  /-- The plan of known future module times in ns, ascending, 18_power R748; reset empty. -/
  plan : List Nat := []
  /-- Scratchpads are saved in tier 1 and must be reloaded, 18_power R746; reset false. -/
  saved : Bool := false
  deriving DecidableEq, Repr

/-- The levels at the module's pins (R768). -/
structure Pins where
  /-- Input power at J1 is at or above 36 V, 19_connectors R783; at reset true. -/
  vin : Bool := true
  /-- VBAT in mV, 18_power R753; at reset 3,000 (DESIGN CHOICE, log entry 5). -/
  vbat : Nat := 3000
  /-- RESET_L level, 19_connectors R769; at reset low: the reset is in force. -/
  resetL : Bool := false
  /-- PERST_L level, 19_connectors R771; at reset low (module pull-down). -/
  perstL : Bool := false
  /-- RECOVERY_L level, 19_connectors R770; at reset high (module pull-up). -/
  recoveryL : Bool := true
  /-- WAKE_L is asserted (driven low), 19_connectors R772; reset released. -/
  wakeL : Bool := false
  /-- FRAME_SYNC_OUT level, 19_connectors R775; reset low. -/
  syncOut : Bool := false
  /-- ERR_P as driven, 16_gutter Table 16-13; reset 0. -/
  errP : Bool := false
  /-- ERR_N as driven, 16_gutter Table 16-13; reset 1. -/
  errN : Bool := true
  /-- P_SENSED, none for a level between low and high, 16_gutter Table 16-13, 19_connectors R778; reset 0. -/
  senseP : Option Bool := some false
  /-- N_SENSED, none for a level between low and high, 16_gutter Table 16-13, 19_connectors R778; reset 0. -/
  senseN : Option Bool := some false
  deriving DecidableEq, Repr

/-! ### Sites, vtiles and scratchpads (chapter "Tiles, sites and the virtual grid") -/

/-- The states of Table 2-4 (R63). -/
inductive SiteState where
  | hosting | spare | fenced | holed | testing | foldHost
  deriving DecidableEq, Repr

/-- What the module records of one site beyond its state in the map (R46, R64, R67, R68). A site without a record is
one in the state that the mapping of R207 to R209 gives it and with no history. -/
structure SiteRec where
  /-- Site id (R49). -/
  id : Nat
  /-- The site is bad: fenced, holed or testing (R54). -/
  bad : Option SiteState := none
  /-- A planned fence is committed and waits for its epoch switch (R67). -/
  planned : Bool := false
  /-- Returns from FENCED or HOLED to SPARE (R68). -/
  returns : Nat := 0
  /-- Times of uncorrected scratchpad errors, newest first (R46). -/
  uncorrected : List Nat := []
  /-- Times of the corrected scratchpad errors of the last 24 hours, newest first (R46). -/
  corrected : List Nat := []
  /-- Corrected-error counter (R43). -/
  correctedCount : Nat := 0
  deriving DecidableEq, Repr

/-- The controller and unit state of one vtile within a step (R75, R78). -/
structure VtileState where
  /-- Vtile id (R5). -/
  id : Nat
  /-- Program counter, 02_tiles R75; set to the step entry address at a step start. -/
  pc : Nat := 0
  /-- Scalar registers x0 to x31, 32 bits each, 02_tiles R75; zero at a step start (R78). -/
  x : Vector W32 32 := Vector.replicate 32 0
  /-- Hardware loop counters, 32 bits each, 02_tiles R75; zero at a step start (R78). -/
  loops : Vector W32 4 := Vector.replicate 4 0
  /-- Commands in each unit's queue, depth 16, 02_tiles R75; empty at a step start. -/
  queues : Vector Nat 6 := Vector.replicate 6 0
  /-- Commands that each unit has finished and that no wait has taken yet, 02_tiles R77; none at a step start. -/
  finished : Vector Nat 6 := Vector.replicate 6 0
  /-- Draws made by each lane in the step, 08_randomness R311; zero at a step start. -/
  draws : Vector Nat 32 := Vector.replicate 32 0
  /-- The slot on which a WAIT of the controller has not completed, 05_mesh R162; none at a step start. -/
  waits : Option Nat := none
  /-- Draw-unit rows issued in the step, 08_randomness R317; zero at a step start. -/
  rows : Nat := 0
  /-- END_STEP has executed and the queues have drained, 02_tiles R79; false at a step start. -/
  ended : Bool := false
  /-- Cause of the trap that stopped it (Table 2-6), 0 for none, 02_tiles R80; 0 at a step start. -/
  trap : Nat := 0
  /-- The result of the last vector, draw or tensor unit command, as 32-bit words. -/
  result : List W32 := []
  /-- Pages of the carried-state area not yet copied to the mirror, 02_tiles R71; none. -/
  uncopied : List Nat := []
  deriving DecidableEq, Repr

/-! ### Packages, tensors and models -/

/-- A tensor of a tenant (R229, R623). -/
structure Tensor where
  /-- Tensor id: packages declare those below 0x8000_0000, host tensors take the rest (R623). -/
  id : Nat
  /-- SIZE in bytes. -/
  size : Nat
  /-- Carry mode; a read-only tensor has its master copy in tier 3 (R229). -/
  mode : CarryMode := .inPlace
  /-- Residency class, 0 to 4 (Table 6-3). -/
  cls : Nat := 0
  /-- The package that declares it; none for a host tensor. -/
  package : Option Nat := none
  /-- It is the ring of this intake context (R569). -/
  ring : Option Nat := none
  /-- Its bytes, by offset. -/
  bytes : Mem := []
  /-- Its creating command has posted its final completion (R619). -/
  ready : Bool := true
  /-- Its bytes are lost or damaged: (offset of a 64-byte line or page, length) (R276, R278). -/
  lost : List (Nat × Nat) := []
  deriving DecidableEq, Repr

/-- A loaded package. -/
structure Package where
  /-- HANDLE returned by PACKAGE_LOAD. -/
  handle : Nat
  /-- Its declarations. -/
  decl : PackageDecl
  /-- Package digest, 384 bits (R503, Table 13-7). -/
  digest : BitVec 384
  /-- It was marked DRIVING (R36). -/
  driving : Bool := false
  /-- Its load has posted its final completion (R619). -/
  ready : Bool := true
  deriving DecidableEq, Repr

/-- A package stored in tier 3 (R270, R686). -/
structure StoredPackage where
  tenant : Nat
  decl : PackageDecl
  digest : BitVec 384
  deriving DecidableEq, Repr

/-! ### Annealing models (chapters "The Steep engine" and "Annealing runs and the state pool") -/

/-- An entry of the state pool (Table 10-2). -/
structure PoolEntry where
  energy : Int
  penalty : Int
  /-- Pool sweep number. -/
  sweep : Nat
  /-- Step counter value of the capture's step. -/
  step : Nat
  hash : BitVec 128
  replica : Nat
  position : Nat
  /-- FLAGS.FINAL and FLAGS.FREE. -/
  final : Bool
  free : Bool
  /-- Packed state (R394). -/
  states : List Byte
  deriving DecidableEq, Repr

/-- A loaded graphical model (R342 to R353). -/
structure Model where
  /-- MODEL handle. -/
  handle : Nat
  /-- The package that carries it, if any. -/
  package : Option Nat := none
  /-- Number of variables. -/
  nvar : Nat
  /-- Colours used. -/
  ncolour : Nat
  /-- Q, the binary point of energies. -/
  q : Int
  /-- W, the lane positions of a sweep (R379). -/
  w : Nat
  /-- Number of replicas R. -/
  replicas : Nat
  /-- Vtile numbers (span index × 16,384 + vtile) in the order of R344: replica by replica, ascending within each. -/
  vtiles : List Nat
  /-- Scratchpad address of the model area of each of them, in the same order. -/
  bases : List Nat
  /-- Length of the model area of each of them, in the same order. -/
  lengths : List Nat
  /-- States of each variable by model id; 0 for a binary one. -/
  card : List Nat
  /-- Rank of the vtile within a part, and local index, of each variable by model id. -/
  place : List (Nat × Nat)
  /-- Every penalty weight L is positive (R409). -/
  positive : Bool
  /-- Replica positions p(r) as the last committed step left them (R380). -/
  positions : List Nat
  /-- Replica positions as the step in progress has them. -/
  working : List Nat
  /-- Sweep base of the pool (R392). -/
  sweepBase : Nat := 0
  /-- POOL_SIZE of the last run. -/
  poolSize : Nat := 0
  /-- The pool committed by the last step, in rank order (R399). -/
  pool : List PoolEntry := []
  /-- The pool as the step in progress has it (R399). -/
  newPool : List PoolEntry := []
  deriving DecidableEq, Repr

/-! ### Steps and runs (chapters 13 and 14) -/

/-- One manifest entry (Table 13-3). -/
structure ManifestEntry where
  context : Nat
  gap : Bool
  torn : Bool
  seq : Nat
  length : Nat
  stamp : Nat
  digest : BitVec 128
  deriving DecidableEq, Repr

/-- The step in progress of a tenant's run. -/
structure Step where
  /-- Step counter value. -/
  n : Nat
  /-- Module time of its boundary or start (Table 13-7). -/
  boundary : Nat
  /-- FLAGS of the STEP record, bits 0 to 12 (Table 13-7). -/
  flags : BitVec 16 := 0
  /-- The manifest of the frames bound to it (R522). -/
  manifest : List ManifestEntry := []
  /-- INTAKE_HASH (R523). -/
  intakeHash : BitVec 128 := 0
  /-- HOST_DIGEST (R524). -/
  hostDigest : BitVec 128 := 0
  /-- It has started (R78). -/
  started : Bool := false
  /-- Phases that have ended, oldest first, with their phase digests (R505). -/
  phases : List (Nat × BitVec 128) := []
  /-- It is halted at a stop point (R560). -/
  halted : Bool := false
  /-- The first reason that invalidated it (Table 13-5), with the first uncorrected source. -/
  reason : Option Nat := none
  /-- That reason came of an injected error (R674). -/
  injected : Bool := false
  /-- FIRST_UNCORR (Table 13-7). -/
  firstUncorr : Nat := 255
  /-- CLASS_MASK. -/
  classMask : BitVec 8 := 0
  /-- CORRECTED. -/
  corrected : Nat := 0
  /-- SHADOWED. -/
  shadowed : Nat := 0
  /-- RETRIES. -/
  retries : Nat := 0
  /-- HOLD_CYCLES. -/
  hold : Nat := 0
  /-- BARRIER_WAIT. -/
  barrierWait : Nat := 0
  /-- Output digest and chain value of a valid step, once its end-of-step sequence has formed them. -/
  outcome : Option (BitVec 128 × BitVec 128) := none
  /-- The replay's comparison code of the step (Table 15-9), 0 for MATCH. -/
  matchCode : Nat := 0
  /-- STEP_CYCLES, set when the end-of-step sequence starts. -/
  cycles : Nat := 0
  /-- MAX_DIVISOR. -/
  maxDivisor : Nat := 8
  /-- The step journal: (tensor, line offset, old bytes), oldest first (R536). -/
  journal : List (Nat × Nat × List Byte) := []
  /-- Old bytes of every write of the step to a tensor, (tensor, offset, bytes), newest first: what the last committed step
  left, which TENSOR_READ and CHECKPOINT still return (R552, R624). -/
  undo : List (Nat × Nat × List Byte) := []
  /-- The journal has overflowed (R537). -/
  overflowed : Bool := false
  /-- Strainer rows used in the step: stream, row, and position + 1 of a group's target row or 0 (R414). -/
  rows : List (Nat × Nat × Nat) := []
  /-- Tokens of a DECODE_RUN round (R437). -/
  tokens : List Nat := []
  /-- FLAGS of a DECODE_RUN round: bit 0 STOPPED, 2 EMPTY, 3 LIMIT. -/
  decodeFlags : Nat := 0
  /-- Sweeps done by an annealing step. -/
  sweeps : Nat := 0
  /-- Captures made by an annealing step. -/
  captures : Nat := 0
  /-- Pool entries inserted by its captures, in order of insertion, in the layout of Table 10-2 (R382). -/
  inserted : List (List Byte) := []
  /-- It started late, so that its record and that of a rerun carry LATE (R245, R607, R747). -/
  startedLate : Bool := false
  deriving DecidableEq, Repr

/-- What a run command runs. -/
inductive RunKind where
  | steps
  | decode (limit nDraft temp topP topK stream prompt stop : Nat)
  | anneal (model : Nat) (desc : List Byte) (stepwise : Bool)
  deriving DecidableEq, Repr

/-- A replay (R558 to R560). -/
structure Replay where
  /-- F and L. -/
  first : Nat
  last : Nat
  /-- Expected-records, intake-log and host-input-log tensors. -/
  expected : Nat
  log : Nat
  hosts : Nat
  /-- The stop point (step, phase). -/
  stop : Option (Nat × Nat) := none
  keepGoing : Bool := false
  /-- Bytes of the intake log and of the host-input log that the steps so far have taken. -/
  logAt : Nat := 0
  hostAt : Nat := 0
  deriving DecidableEq, Repr

/-- Why a run is not running. -/
inductive RunState where
  | none | running | stopped
  deriving DecidableEq, Repr

/-- A seed held by a tenant (R292). -/
structure Seed where
  value : BitVec 128
  id : BitVec 128
  fresh : Bool := false
  deriving DecidableEq, Repr

/-- The run of a tenant (R528, R580). -/
structure Run where
  /-- The command that started it. -/
  call : Call
  /-- What it runs. -/
  kind : RunKind
  /-- It replays recorded steps (R558). -/
  replay : Option Replay := none
  /-- The seed that applies to it (R293). -/
  seed : Seed
  /-- Draw budget D of its package or model (R301). -/
  budget : Nat := 0
  /-- The package it runs; none for a model of ANNEAL_LOAD_MODEL. -/
  package : Option Nat := none
  /-- Steps still to run; none for until aborted. -/
  left : Option Nat := none
  /-- Step period in ns; 0 unpaced. -/
  period : Nat := 0
  /-- The anchor of the cadence, in root time (R584). -/
  anchor : Nat := 0
  /-- The next nominal boundary (R584). -/
  nominal : Nat := 0
  /-- The target of an accepted edge for the next nominal boundary (R582). -/
  moved : Option Nat := none
  /-- Accepted edges for later nominal boundaries: how many boundaries ahead, target, and when the boundary falls (R582). -/
  ahead : List (Nat × Nat × Nat) := []
  /-- The first boundary has fallen. -/
  begun : Bool := false
  /-- The step in progress. -/
  step : Option Step := none
  /-- The record of the finished step that waits for Slate space (R545): since when. -/
  committing : Option Nat := none
  /-- The STEP record of the step is committed, and its completion waits for a free entry of the overflow queue (R28). -/
  recorded : Bool := false
  /-- The step in progress is a rerun of an invalid one. -/
  rerun : Bool := false
  /-- The invalid step that waits to be rerun, with its manifest and its journal (R533). -/
  redo : Option Step := none
  /-- When the end-of-step sequence of an overrunning step ended: the late boundary falls then (R31, R583). -/
  lateAt : Option Nat := none
  /-- The span barrier at which the run waits (R224). -/
  barrier : Option Nat := none
  /-- The barrier of the next step start has been released (R483). -/
  released : Bool := false
  /-- Grid cycles waited at the barrier of the next step start (Table 13-7). -/
  barrierWait : Nat := 0
  /-- STEP_ADJUSTED is set in the next step record (R494). -/
  adjusted : Bool := false
  /-- TEST_WAIT is set in the next step record: its start waited for a preempted self-test (R676). -/
  testWait : Bool := false
  /-- The barrier of the next step start used the in-band fallback (R484, Table 13-4). -/
  inband : Bool := false
  /-- A step start has waited for room in the mailbox's overflow queue (R607). -/
  waited : Bool := false
  /-- The next step starts late: its boundary was held by a commit with FORCE_DRAIN, a wake or a full completion ring, and its
  record carries LATE (R245, R607, R747). -/
  lateStart : Bool := false
  /-- Tokens kept by a DECODE_RUN so far, and its position (R437). -/
  kept : Nat := 0
  /-- Sweeps run so far by an ANNEAL_RUN. -/
  swept : Nat := 0
  /-- A step of it was recorded FREE (FREE_USED). -/
  freeUsed : Bool := false
  /-- Remote halo values that have arrived since the last scatter, as (source vtile number, colour) (R406, R410). -/
  freshHalo : List (Nat × Nat) := []
  /-- Packed states received from other members: (capture number, lowest index of the member, bytes) (R404). -/
  candidates : List (Nat × Nat × List Byte) := []
  /-- Captures of the committed steps of an ANNEAL_RUN. -/
  captures : Nat := 0
  /-- SWEEPS of an ANNEAL_RUN that STEP_ABORT or a flush has shortened (R384). -/
  limit : Option Nat := none
  /-- The step that stopped the run without committing: its reason, and whether its journal had overflowed (R551). -/
  dirty : Option (Nat × Bool) := none
  deriving DecidableEq, Repr

/-- The carried-state mirror of one committed step (R70). -/
structure Mirror where
  /-- Counter value of the step that starts from it: one more than that of the step it mirrors. -/
  next : Nat
  /-- Vtile, number of 4 KiB pages copied so far, and the bytes copied. -/
  areas : List (Nat × Nat × List Byte)
  complete : Bool := false
  deriving DecidableEq, Repr

/-- One residency unit of 2 MiB with a copy beyond its master, or with heat (R228). -/
structure RUnit where
  tensor : Nat
  index : Nat
  /-- Tier that holds the nearest copy: 1, 2 or 3. -/
  tier : Nat
  /-- Heat, 32 bits saturating (R234). -/
  heat : Nat := 0
  /-- Accesses in the step in progress (R234). -/
  count : Nat := 0
  /-- The tier a migration in progress copies to, and the steps since it started (R238, R240). -/
  migrating : Option (Nat × Nat) := none
  /-- Pages of it marked for copying again (R238). -/
  marked : List Nat := []
  /-- The unit is marked for the tier-0 cache (R243). -/
  cached : Bool := false
  deriving DecidableEq, Repr

/-- A schedule epoch (R216): its number and what its schedules use, which FRAME_HOLD shadows and build abandonment need. -/
structure Epoch where
  number : Nat
  /-- The bad sites of the site map at the start of its build, ascending (R210). -/
  bad : List Nat := []
  /-- Sites whose collars its schedules route through. -/
  collars : List Nat := []
  /-- Eave ring segments its edge routers use. -/
  segments : List Nat := []
  /-- Mesh links its schedules use. -/
  links : List Nat := []
  deriving DecidableEq, Repr

/-- A checkpoint stored in tier 3 (R555, R627). -/
structure StoredCheckpoint where
  slot : Nat
  tenant : Nat
  bytes : List Byte
  deriving DecidableEq, Repr

/-- A CHECKPOINT that waits for its capture step (R551). -/
structure PendingCheckpoint where
  call : Call
  tenant : Nat
  deriving DecidableEq, Repr

/-- A lock-step pair of a tenant's run (R504 to R512). -/
structure Pair where
  /-- The PAIR_COMPARE_SET command. -/
  call : Call
  runId : Nat
  partner : BitVec 128
  key : BitVec 128
  every : Nat
  timing : Bool
  /-- The partner has issued the matching command. -/
  formed : Bool := false
  /-- STATE of the completions: 0 EQUAL, 1 MISMATCH, 2 LATE. -/
  state : Nat := 0
  /-- The own running chain value and the number of phases it covers. -/
  chain : BitVec 128 := 0
  phases : Nat := 0
  /-- Own values sent and not yet compared, oldest first: (F, when its phase ended). -/
  own : List (Nat × Nat) := []
  /-- Partner values received and not yet compared: (F, chain value, phase digest, phase end in grid cycles). -/
  theirs : List (Nat × BitVec 128 × BitVec 128 × Nat) := []
  /-- The last 4,096 phases, newest first: (p, d_p, C_p, end in grid cycles from the start of its step). -/
  ring : List (Nat × BitVec 128 × BitVec 128 × Nat) := []
  /-- Phases known to have compared equal, from phase 0 on. -/
  equalTo : Nat := 0
  /-- A bisection in progress: the first phase that may differ and one that does. -/
  bisect : Option (Nat × Nat) := none
  /-- The first phase found to differ, with both modules' phase digests. -/
  found : Option (Nat × BitVec 128 × BitVec 128) := none
  deriving DecidableEq, Repr

/-- A tenant (R192, R529, R543). -/
structure Tenant where
  /-- The tenant is open, 05_mesh R192; reset closed. -/
  isOpen : Bool := false
  /-- VX0, VY0, VX1, VY1, 05_mesh R192; reset 0. -/
  rect : Nat × Nat × Nat × Nat := (0, 0, 0, 0)
  /-- Strict mode, 05_mesh R198; reset work-conserving. -/
  strict : Bool := false
  /-- The share word in the layout of W2 to W5 of TENANT_SHARES, 05_mesh R195; reset 0. -/
  shares : BitVec 64 := 0
  /-- Active epoch, 06_placement R216; reset number 0. -/
  epoch : Epoch := { number := 0 }
  /-- An epoch that is loaded and waits for its switch step, 06_placement R224; reset none. -/
  nextEpoch : Option Epoch := none
  /-- The planned-move copies of the loaded epoch are done, 06_placement R224; reset false. -/
  nextReady : Bool := false
  /-- The seed, 08_randomness R292; reset none. -/
  seed : Option Seed := none
  /-- The run id that the tenant holds, 13_determinism R528; reset none. -/
  runId : Option Nat := none
  /-- Next step value, 13_determinism R529; reset 0. -/
  nextStep : Nat := 0
  /-- Run-chain value, 128 bits, 13_determinism R527; reset 0. -/
  chain : BitVec 128 := 0
  /-- State of the run, 15_mailboxes Table 15-16; reset none. -/
  runState : RunState := .none
  /-- The run, 13_determinism R528; reset none. -/
  run : Option Run := none
  /-- Loaded packages, 06_placement R36; reset none. -/
  packages : List Package := []
  /-- Tensors, 15_mailboxes R623; reset none. -/
  tensors : List Tensor := []
  /-- Models, 09_steep R342; reset none. -/
  models : List Model := []
  /-- Old bytes of the tensor writes of a step that stopped the run without committing, newest first, 13_determinism R551;
  reset none. -/
  residue : List (Nat × Nat × List Byte) := []
  /-- Host inputs accepted since the last commit, as the bytes of R524; reset empty. -/
  hostInputs : List Byte := []
  /-- How many bytes of them the last run received before it ended; the rest came since, 13_determinism R524; reset 0. -/
  runInputs : Nat := 0
  /-- The last committed step, 15_mailboxes R624; reset none. -/
  lastStep : Option Nat := none
  /-- TENSOR_BIND writes that wait for the step to commit, 15_mailboxes R623; reset none. -/
  binds : List Call := []
  /-- The carried-state mirrors of the newest steps, newest first, 02_tiles R70; reset none. -/
  mirrors : List Mirror := []
  /-- Committed steps that regeneration may need: (step, output digest), newest first, 02_tiles R73; reset none. -/
  digests : List (Nat × BitVec 128) := []
  /-- Residency units, 06_placement R228; reset none. -/
  units : List RUnit := []
  /-- Steps after which heat was updated, 06_placement R235; reset 0. -/
  heatSteps : Nat := 0
  /-- Fold spill pages in tier 1, 02_tiles R61; reset 0. -/
  spill : Nat := 0
  /-- No routing of a later epoch fits (GRID_CAPACITY), 06_placement R218; reset false. -/
  noRoute : Bool := false
  /-- A planned move that affects the tenant is pending, 06_placement R246; reset false. -/
  movePending : Bool := false
  /-- Slot preconditions posted and not yet used by a frame, as vtile number × 65,536 + slot, 05_mesh R161; reset none. -/
  posted : List Nat := []
  /-- Slots whose last beat has landed or left, as vtile number × 65,536 + slot, 05_mesh R162; reset none. -/
  landed : List Nat := []
  /-- Frames started in the step, 05_mesh R163; reset 0. -/
  frames : Nat := 0
  /-- The frame-hold watchdog has expired in this hold, 05_mesh R167; reset false. -/
  gateEvent : Bool := false
  /-- The first unmet condition of R163 that FRAME_HOLD named in this hold, 0 for condition 1, 05_mesh R167; reset none. -/
  gateUnmet : Option Nat := none
  /-- In-transit reduction operands held for their tree partner: (reduction, node, overflow mark, elements), 04_accumulation
  R150, 05_mesh R172; reset none. -/
  held : List (Nat × Nat × Bool × List Int) := []
  /-- Blocks held in the cache areas of vtiles: (vtile number, tensor, offset, length), 06_placement R242; reset none. -/
  cacheBlocks : List (Nat × Nat × Nat × Nat) := []
  /-- Lines lent and positions borrowed are counters; CHECKPOINTs that wait, 13_determinism R551; reset none. -/
  checkpoints : List PendingCheckpoint := []
  /-- The lock-step pair, 12_ridge R504; reset none. -/
  pair : Option Pair := none
  /-- Restored from a checkpoint and not yet compared at a barrier, 13_determinism R557; reset false. -/
  restored : Bool := false
  /-- Sampling position after DECODE_RUN, 13_determinism R553; reset 0. -/
  decodePos : Nat := 0
  /-- Kept-token count after DECODE_RUN, 13_determinism R553; reset 0. -/
  decodeKept : Nat := 0
  /-- Conditions that stop the run from the tiers: a writable line is lost, 07_tiers R276; reset false. -/
  damaged : Bool := false
  deriving DecidableEq, Repr

/-! ### The Slate (R539 to R550) -/

/-- A record that waits to be written to the Slate buffer, with the completion that follows it (R28, R29). -/
structure SlateWait where
  kind : Nat
  tenant : Nat
  record : List Byte
  deriving DecidableEq, Repr

/-- The Slate: buffer, ring and index. -/
structure Slate where
  /-- SEQ of the next record, 64 bits, 13_determinism R539; kept, 0 on a new module. -/
  nextSeq : Nat := 0
  /-- Committed records in the MRAM buffer, oldest first, 256 bytes each, 13_determinism R539; kept, empty on a new module. -/
  buffer : List (Nat × List Byte) := []
  /-- Records of the tier 3 ring still held, oldest first, 13_determinism R545; kept, empty on a new module. -/
  ring : List (Nat × List Byte) := []
  /-- SHA-384 of the newest record (PREV of the next), 13_determinism R541; kept, 48 zero bytes on a new module. -/
  prev : BitVec 384 := 0
  /-- LAST_SEQ of the newest SIGN record plus one: FIRST_SEQ of the next, 13_determinism R544; kept, 0. -/
  signFrom : Nat := 0
  /-- Read mark, 13_determinism R546; kept, 0 on a new module. -/
  readMark : Nat := 0
  /-- Drained records since the last Caddy index update, 13_determinism R545; kept, 0. -/
  sinceIndex : Nat := 0
  /-- Records a power loss tore in the middle of their write, found at the next boot, 13_determinism R540; kept, 0. -/
  torn : Nat := 0
  /-- Records waiting for buffer space, oldest first, 13_determinism R545; reset none. -/
  waiting : List SlateWait := []
  /-- SLATE_STALL condition present, 13_determinism R545; reset false. -/
  stalled : Bool := false
  deriving DecidableEq, Repr

/-! ### Sensor intake (chapter 14) -/

/-- Source kinds of a context (Table 14-5). -/
inductive SourceKind where
  | csi | avtp | udp
  deriving DecidableEq, Repr

/-- A context descriptor (Table 14-5). -/
structure Descriptor where
  enable : Bool := false
  tenant : Nat := 0
  kind : SourceKind := .csi
  port : Nat := 0
  /-- CSI virtual channel, AVTP stream_id or UDP address. -/
  matchKey : Nat := 0
  /-- CSI data-type mask or UDP port (and bit 16 for IPv6). -/
  matchAux : Nat := 0
  seqCheck : Bool := false
  frameLen : Nat := 0
  frameMax : Nat := 0
  /-- FRAME_TIMEOUT in ms; 0 selects 100 ms. -/
  timeout : Nat := 0
  ringBytes : Nat := 0
  /-- RELEASE_MODE HOST. -/
  host : Bool := false
  deriving DecidableEq, Repr

/-- A frame of a context. -/
structure SensorFrame where
  seq : Nat
  stamp : Nat
  bytes : List Byte
  /-- Root time of its first byte (R572). -/
  first : Nat
  /-- Landing instant in root time, once landed (R572). -/
  landed : Option Nat := none
  /-- Where it starts in the ring, in bytes (R569). -/
  off : Nat := 0
  /-- The step it is bound to. -/
  bound : Option Nat := none
  /-- It is released (R578); its space is freed in ring order. -/
  released : Bool := false
  /-- The host has released it (R578). -/
  hostOk : Bool := false
  deriving DecidableEq, Repr

/-- States of a context (Table 15-17). -/
inductive ContextState where
  | disabled | enabled | started | stopping
  deriving DecidableEq, Repr

/-- One intake context. -/
structure Context where
  /-- Descriptor in effect, 14_sensor Table 14-5; reset disabled. -/
  desc : Descriptor := {}
  /-- State, 15_mailboxes Table 15-17; reset disabled. -/
  state : ContextState := .disabled
  /-- FRAME_SEQ of the next frame to begin, 32 bits, 14_sensor R568; reset 0. -/
  frameSeq : Nat := 0
  /-- The frame in progress, 14_sensor R566; reset none. -/
  current : Option SensorFrame := none
  /-- Bytes of the frame in progress still in the landing FIFO, 14_sensor R571; reset 0. -/
  fifo : Nat := 0
  /-- Bytes are discarded until the next frame delimiter, 14_sensor R567, R589; reset false. -/
  discarding : Bool := false
  /-- Frames in the ring, oldest first: ended, landed, bound and not yet freed, 14_sensor R569; reset none. -/
  ring : List SensorFrame := []
  /-- GAP is due on the next bound frame, 14_sensor R567; reset false. -/
  gap : Bool := false
  /-- TORN is due on the next bound frame, 14_sensor R589; reset false. -/
  torn : Bool := false
  /-- The next sequence number expected, AVTP or UDP, 14_sensor R567; reset none. -/
  expect : Option Nat := none
  /-- FRAME_SEQ of the last landed frame, 15_mailboxes Table 15-9; reset none. -/
  lastLanded : Option Nat := none
  /-- Ring byte at which the next frame starts, 14_sensor R569; reset 0. -/
  head : Nat := 0
  /-- Host release of a HOST-mode ring: frames up to this number are released, 14_sensor R578; reset none. -/
  hostReleased : Option Nat := none
  /-- The INTAKE_STOP command that waits for the frame in progress, 14_sensor R588; reset none. -/
  stopCall : Option Call := none
  /-- Ring tensor id, 14_sensor R578; reset none. -/
  tensor : Option Nat := none
  deriving DecidableEq, Repr

/-- The intake with its ports. -/
structure Intake where
  /-- The 24 contexts, 14_sensor R563; reset as `Context`. -/
  ctx : Vector Context 24 := Vector.replicate 24 {}
  /-- CSI-2 port p has PHY lock, 14_sensor Table 14-6; reset true (DESIGN CHOICE, log entry 6). -/
  csiLock : Vector Bool 16 := Vector.replicate 16 true
  /-- Ethernet port e has link, 14_sensor Table 14-6; reset true (DESIGN CHOICE, log entry 6). -/
  ethLink : Vector Bool 4 := Vector.replicate 4 true
  /-- Staged descriptors by context, 14_sensor R587; kept in the Caddy, none as shipped. -/
  staged : List (Nat × Descriptor) := []
  deriving DecidableEq, Repr

/-! ### Module time (R573 to R576) -/

/-- Discipline in effect (Table 14-4 SOURCE). -/
inductive TimeSource where
  | free | gptp | pps | span
  deriving DecidableEq, Repr

/-- The time base and the FRAME_SYNC signals. -/
structure TimeBase where
  /-- Module time less root time, in ns, 14_sensor R574; reset 0 (TIME_NOW reads the root time). -/
  shift : Int := 0
  /-- A slew in progress: when it began and the ns that it adds in all, 14_sensor R574; reset none. -/
  slew : Nat × Int := (0, 0)
  /-- OFFSET, int32, 14_sensor Table 14-4; reset 0. -/
  offset : Int := 0
  /-- LOCKED, 14_sensor Table 14-4; reset 0. -/
  locked : Bool := false
  /-- HOLDOVER, 14_sensor Table 14-4; reset 0. -/
  holdover : Bool := false
  /-- Root time since which every offset has been below 100 ns, 14_sensor R574; reset none. -/
  goodSince : Option Nat := none
  /-- Root time of the last valid reference, 14_sensor R574; reset none. -/
  lastRef : Option Nat := none
  /-- Root time of the last accepted TIME_PPS edge, 19_connectors R773; reset none. -/
  lastPps : Option Nat := none
  /-- TAI seconds that the next TIME_PPS edge takes from TIME_SET, 14_sensor R574; reset none. -/
  timeSet : Option Nat := none
  /-- Upper half of TIME_NOW latched for the next read of function f, 14_sensor Table 14-3; reset none. -/
  latch : Vector (Option W32) 5 := Vector.replicate 5 none
  /-- Root time at which the FRAME_SYNC_OUT pulse in progress ends, 14_sensor R586; reset none. -/
  pulseEnd : Option Nat := none
  /-- The nominal boundary whose CADENCE pulse was handled last, 14_sensor R586; reset none. -/
  lastCadence : Option Nat := none
  deriving DecidableEq, Repr

/-! ### Memory tiers (chapter 7) -/

/-- State of a stack or package (Table 15-12 section 5). -/
inductive DeviceHealth where
  | good | degraded | lost
  deriving DecidableEq, Repr

/-- A poisoned line, or a unit lost with its stack or package: device address, page or row, and the tensor bytes it holds (R274,
R279). -/
structure PoisonRec where
  addr : Nat
  row : Nat
  tenant : Nat
  tensor : Nat
  off : Nat
  len : Nat := 64
  deriving DecidableEq, Repr

/-- A tier 1 stack or a tier 2 package (R254 to R260). -/
structure MemDevice where
  /-- Health, 07_tiers R256, R260; kept. -/
  health : DeviceHealth := .good
  /-- Retired pages or rows, 07_tiers R254, R258; kept in the Caddy. -/
  retired : List Nat := []
  /-- Spare pool pages used (4 KiB), 07_tiers R254; kept. -/
  spareUsed : Nat := 0
  /-- Residency units removed from the capacity, 07_tiers R255; kept. -/
  removed : List Nat := []
  /-- Poisoned lines, 07_tiers R274, R279; reset none. -/
  poison : List PoisonRec := []
  /-- Corrections of the last 24 hours: (time, page or row), newest first, 07_tiers R254, R258; reset none. -/
  corrections : List (Nat × Nat) := []
  /-- Corrections by device of a tier 2 package: (time, device, row), newest first, 07_tiers R259; reset none. -/
  byDevice : List (Nat × Nat × Nat) := []
  /-- Times and pages of uncorrectable lines, newest first, 07_tiers R256; reset none. -/
  uncorrectable : List (Nat × Nat) := []
  /-- Devices marked failed, 07_tiers R259; kept. -/
  failed : List Nat := []
  /-- Retirement copies in progress: (page or row, start), 07_tiers R273; reset none. -/
  copying : List (Nat × Nat) := []
  deriving DecidableEq, Repr

/-- Tier 3 and its controller (R261 to R267). -/
structure Tier3 where
  /-- Good spare blocks in ten-thousandths of the initial number, 07_tiers R265; kept, 10,000 as shipped. -/
  spare : Nat := 10000
  /-- Retired blocks, 07_tiers R263; kept. -/
  retiredBlocks : List Nat := []
  /-- Packages stored, by tenant and digest, 07_tiers R270; kept. -/
  packages : List StoredPackage := []
  /-- Checkpoints by slot, 15_mailboxes R627; kept. -/
  checkpoints : List StoredCheckpoint := []
  /-- A scan of every written page is due at each power-up until it completes, 07_tiers R267; kept. -/
  scanDue : Bool := false
  /-- The scan is running, 07_tiers R267; reset false. -/
  scanning : Bool := false
  /-- Time each page was last read or rewritten: (page, time), newest first, 07_tiers R266; kept. -/
  lastRead : List (Nat × Nat) := []
  /-- Pages known uncorrectable, 07_tiers R278; kept. -/
  lost : List Nat := []
  /-- TIER3_WEAR condition present, 07_tiers R265; reset false. -/
  wearRaised : Bool := false
  deriving DecidableEq, Repr

/-- The tiers. -/
structure Tiers where
  /-- The eight tier 1 stacks, 07_tiers R250; as shipped good. -/
  stackDevs : Vector MemDevice 8 := Vector.replicate 8 {}
  /-- The sixteen tier 2 packages, 07_tiers R250; as shipped good. -/
  packages : Vector MemDevice 16 := Vector.replicate 16 {}
  /-- Tier 3, 07_tiers R261; kept. -/
  t3 : Tier3 := {}
  /-- Tenants that hold tier 1 and tier 2 keys, a mask, 07_tiers R268; reset 0. -/
  keys : BitVec 4 := 0
  deriving DecidableEq, Repr

/-- The tensor window of one function (R280). -/
structure Window where
  /-- WIN_TENSOR.TENANT, 2 bits, 07_tiers Table 7-5; reset 0. -/
  tenant : BitVec 2 := 0
  /-- WIN_TENSOR.TENSOR_ID, 32 bits, 07_tiers Table 7-5; reset 0. -/
  tensor : W32 := 0
  /-- WIN_BASE.BASE in 4 KiB units, 52 bits, 07_tiers Table 7-6; reset 0. -/
  base : BitVec 52 := 0
  /-- WIN_CTRL.WR_EN, 07_tiers Table 7-7; reset 0. -/
  wrEn : Bool := false
  /-- WIN_CTRL.EN, 07_tiers Table 7-7; reset 0. -/
  en : Bool := false
  /-- WIN_STATUS.READY, 07_tiers Table 7-8; reset 0. -/
  ready : Bool := false
  /-- WIN_STATUS.WR_REJECTED, 07_tiers Table 7-8; reset 0. -/
  rejected : Bool := false
  /-- BAR4 accesses that wait for READY: (offset, write?, bytes), oldest first, 07_tiers R281; reset none. -/
  waiting : List (Nat × Bool × List Byte) := []
  deriving DecidableEq, Repr

/-! ### The mesh and the Eave ring (chapter 5) -/

/-- Error history of one mesh link (R159). -/
structure MeshLink where
  /-- Link id of R626: site id × 2 + d. -/
  id : Nat
  /-- The link is cut. -/
  cut : Bool := false
  /-- A planned cut waits for the next epoch switch. -/
  planned : Bool := false
  /-- Times of uncorrectable beats, newest first. -/
  uncorrected : List Nat := []
  /-- Times of corrected beats, newest first. -/
  corrected : List Nat := []
  deriving DecidableEq, Repr

/-- An epoch that the placer is building or loading (R216, R220). -/
structure Build where
  tenant : Nat
  /-- The group of its trigger, 1 to 5 (R220). -/
  group : Nat
  /-- The bad sites when its build started. -/
  bad : List Nat
  /-- The epoch, once it is built and being written into idle schedule banks. -/
  built : Option Epoch := none
  deriving DecidableEq, Repr

/-- Mesh links and ring segments with history, and the ring's arbitration. -/
structure Fabric where
  /-- Mesh links that have history, 05_mesh R159; cut links are kept until a reset tests them. -/
  links : List MeshLink := []
  /-- FENCED_SEGMENTS, 16 bits, 05_mesh Table 5-8; kept until a reset tests them. -/
  fenced : BitVec 16 := 0
  /-- Times of uncorrectable words of each ring segment, newest first, 05_mesh chapter text before R186; reset none. -/
  segErrors : Vector (List Nat) 16 := Vector.replicate 16 []
  /-- Wheel position of each arbitration unit (class, unit), 05_mesh R196; reset position 0 (log entry 7). -/
  wheel : List ((Nat × Nat) × Nat) := []
  /-- The tenant that last borrowed on each arbitration unit, 05_mesh R197; reset none (log entry 7). -/
  borrower : List ((Nat × Nat) × Nat) := []
  /-- Regions whose crossings are calibrated, 05_mesh R173; reset false. -/
  calibrated : Bool := false
  /-- Triggers that wait for the placer, as (group, tenant), in order of arrival, 06_placement R220; reset none. -/
  triggers : List (Nat × Nat) := []
  /-- The epoch being built or loaded, 06_placement R216, R220; reset none. -/
  build : Option Build := none
  /-- GRID_CAPACITY is present, 02_tiles R58; reset false. -/
  noCapacity : Bool := false
  deriving DecidableEq, Repr

/-! ### Entropy (chapter 8) -/

/-- One noise source (R324 to R326). -/
structure NoiseSource where
  /-- SRC_OK bit, 08_randomness Table 8-6; reset 0. -/
  ok : Bool := false
  /-- The last raw bit and the run of equal bits it ends, 08_randomness R325; reset none. -/
  run : Option (Bool × Nat) := none
  /-- Conditioning mode in effect for its next block, 08_randomness R328; reset XOR. -/
  mode : Bool := false
  deriving DecidableEq, Repr

/-- The TRNG and the DRBG. -/
structure Entropy where
  /-- The four noise sources, 08_randomness R324. -/
  src : Vector NoiseSource 4 := Vector.replicate 4 {}
  /-- STARTUP_COUNT, 0 to 1,024, 08_randomness Table 8-6; reset 0. -/
  startup : Nat := 0
  /-- Conditioned bits gathered and not used, oldest first, 08_randomness R327; reset none. -/
  pool : List Bool := []
  /-- The DRBG is instantiated, 08_randomness R330; reset false. -/
  instantiated : Bool := false
  /-- DRBG_FAILED, 08_randomness Table 8-6; reset 0. -/
  failed : Bool := false
  /-- TRNG_SELFTEST failed: no entropy is delivered, 16_gutter R678; reset false. -/
  stopped : Bool := false
  /-- Generate requests since the last reseed, 08_randomness R330; reset 0. -/
  requests : Nat := 0
  /-- Time of the last reseed, 08_randomness R330; reset 0. -/
  reseeded : Nat := 0
  /-- Entropy absorbed by the DRBG so far: all conditioned bits of its instantiation and reseeds, 08_randomness R330; reset none. -/
  absorbed : List Bool := []
  /-- Outputs generated since the module reset, the argument of the free DRBG output; reset 0. -/
  generated : Nat := 0
  /-- The start-up time-out of R333 has passed, 08_randomness R333; reset false. -/
  timedOut : Bool := false
  /-- A reseed is due and waits for conditioned bits, 08_randomness R330; reset false. -/
  reseedDue : Bool := false
  /-- SEED_FRESH and TENANT_OPEN commands that wait for entropy, oldest first, 08_randomness R333, R334; reset none. -/
  waits : List Call := []
  /-- When start-up completed, 08_randomness R333; reset 0. -/
  startedAt : Nat := 0
  deriving DecidableEq, Repr

/-! ### Strainers (chapter 11) -/

/-- A kept set with its weights (R430, R431): (token, weight) in rank order, their sum. -/
structure KeptSet where
  kept : List (Nat × Nat) := []
  sum : Nat := 0
  deriving DecidableEq, Repr

/-- What a row comes to (R422 to R427). -/
structure RowOut where
  /-- The kept set; empty when the row is EMPTY. -/
  set : KeptSet
  /-- Drawn token, 0xFFFFFFFF without one. -/
  token : Nat := 0xFFFFFFFF
  /-- MAX and Z. -/
  max : W32
  z : W32
  kEff : Nat
  greedy : Bool := false
  kShort : Bool := false
  nan : Bool := false
  empty : Bool := false
  deriving DecidableEq, Repr

/-- A row in a Strainer context, or waiting for one (R443). -/
structure RowCtx where
  tenant : Nat
  params : RowParams
  /-- Contributors of the row. -/
  expect : Nat
  /-- Blocks that have arrived, oldest first. -/
  blocks : List CandBlock := []
  /-- When it asked for admission. -/
  asked : Nat
  /-- Admission time (R444). -/
  admitted : Nat
  /-- Group, position and number of drafted tokens, for DRAFT and GROUP rows. -/
  group : Nat := 0
  pos : Nat := 0
  size : Nat := 0
  /-- Vtile number and scratchpad address where its result lands. -/
  dest : Nat
  addr : Nat
  /-- A target row of a group, processed and waiting for the rest of its group (R431). -/
  out : Option RowOut := none
  deriving DecidableEq, Repr

/-- A row of a draft table (R430). -/
structure DraftRow where
  tenant : Nat
  group : Nat
  pos : Nat
  out : RowOut
  deriving DecidableEq, Repr

/-- One Strainer. -/
structure Strainer where
  /-- Fenced, 11_strainers R446; reset false. -/
  fenced : Bool := false
  /-- The 16 row contexts in use, 11_strainers R443; reset none. -/
  ctx : List RowCtx := []
  /-- The 4 draft tables of 8 rows, 11_strainers R430, R443; reset none. -/
  drafts : List DraftRow := []
  /-- Rows that wait for a context, an admission slot or a draft table, oldest first, 11_strainers R443; reset none. -/
  queue : List RowCtx := []
  /-- The result record of the last row or group completed, 11_strainers Table 11-3, R435; reset empty. -/
  result : List Byte := []
  deriving DecidableEq, Repr

/-! ### Ridge ports and spans (chapter 12) -/

/-- Port states with the codes of Table 12-5 in order. -/
inductive PortState where
  | down | detect | equalise | align | active | retrain | fenced
  deriving DecidableEq, Repr

/-- A sequenced flit in the replay buffer (R463). -/
structure Flit where
  /-- TYPE is MGMT. -/
  mgmt : Bool
  vc : Nat
  seq : Nat
  payload : List Byte
  deriving DecidableEq, Repr

/-- A lane swap in progress at the receiver (R474): failing lane, spare, and the alignment blocks seen. -/
structure LaneSwap where
  failing : Nat
  spare : Nat
  /-- The transmitter has acknowledged LANE_SWAP_REQ. -/
  acked : Bool := false
  /-- The spare is deskewed. -/
  deskewed : Bool := false
  /-- The receiver has taken the spare and sent LANE_SWAP_DONE. -/
  taken : Bool := false
  deriving DecidableEq, Repr

/-- An operand that a reducer holds in the receive buffer of its port (R487, R489): `right` is bit 0 of OFFSET. -/
structure HeldOperand where
  vc : Nat
  red : Nat
  node : Nat
  right : Bool
  mark : Bool
  values : List Int
  /-- Credit channels of the buffers that it takes. -/
  bufs : List Nat := []
  deriving DecidableEq, Repr

/-- One Ridge port. -/
structure Ridge where
  /-- STATE, 12_ridge Table 12-10; reset DOWN. -/
  state : PortState := .down
  /-- When the training in progress began, 12_ridge R471; reset 0. -/
  since : Nat := 0
  /-- The training in progress is warm, 12_ridge R471; reset false. -/
  warmTry : Bool := false
  /-- WARM, 12_ridge Table 12-10; reset 0. -/
  warm : Bool := false
  /-- SIDEBAND_OK, 12_ridge Table 12-10; reset 0. -/
  sideband : Bool := false
  /-- PEER_PORT, 12_ridge Table 12-10; reset 0. -/
  peerPort : Nat := 0
  /-- Interface level of the peer of the last ALIGN, 12_ridge R472; reset 0. -/
  peerIface : Nat := 0
  /-- PEER_INDEX, 12_ridge Table 12-10; reset 0. -/
  peerIndex : Nat := 0
  /-- Peer module serial number of the last ALIGN, 12_ridge R472; reset 0. -/
  peerSerial : BitVec 128 := 0
  /-- The peer reports the cabled port the span configuration names, 12_ridge R472; reset true. -/
  cablingOk : Bool := true
  /-- ACTIVE_LANES, 12_ridge Table 12-10; reset 0. -/
  activeLanes : Nat := 0
  /-- Retired lanes, 22 bits, 12_ridge Table 12-10 BAD_LANES; reset 0. -/
  badLanes : BitVec 22 := 0
  /-- Lanes that carry the active positions, in position order, 12_ridge R450; reset none. -/
  lanes : List Nat := []
  /-- Lanes decoded as erasures, 12_ridge R452; reset none. -/
  erasures : List Nat := []
  /-- Swaps in progress as receiver, 12_ridge R474; reset none. -/
  swaps : List LaneSwap := []
  /-- Lanes whose symbols the transmitter copies: (failing, spare), 12_ridge R474; reset none. -/
  copies : List (Nat × Nat) := []
  /-- Transmit lanes not driven any more, 12_ridge R474; reset none. -/
  undriven : List Nat := []
  /-- Next SEQ to send, 12 bits, 12_ridge R455; reset 0 (DESIGN CHOICE, log entry 7). -/
  txSeq : Nat := 0
  /-- SEQ expected next, 12 bits, 12_ridge R462; reset 0 (DESIGN CHOICE, log entry 7). -/
  rxSeq : Nat := 0
  /-- Flits that wait to be sent, oldest first, 12_ridge R463, R469; reset empty. -/
  txq : List Flit := []
  /-- Which of the last 32 flits sent were MGMT flits, newest first, 12_ridge R469; reset none. -/
  sentMgmt : List Bool := []
  /-- Replay buffer, oldest first, 12_ridge R463; reset empty. -/
  replay : List Flit := []
  /-- A NAK is outstanding: the SEQ it names, and how many have been sent, 12_ridge R462; reset none. -/
  nak : Option (Nat × Nat) := none
  /-- The SEQ named by the last NAK received and how many have named it, 12_ridge R464; reset none. -/
  nakSeen : Nat × Nat := (0, 0)
  /-- Credits available to the transmitter on channels 0 to 9, 12_ridge R466; reset 0. -/
  credits : Vector Nat 10 := Vector.replicate 10 0
  /-- Last CREDIT value taken on channels 0 to 9, 12_ridge R459; reset 0. -/
  lastCredit : Vector Nat 10 := Vector.replicate 10 0
  /-- Credits freed by this receiver on channels 0 to 9, modulo 1,024, 12_ridge R459; reset 0. -/
  freed : Vector Nat 10 := Vector.replicate 10 0
  /-- SIDE of the next flit: false ACK, true CREDIT, and its CREDIT channel, 12_ridge R459; reset ACK, channel 0. -/
  side : Bool × Nat := (false, 0)
  /-- Bytes of the message being received on channels 0 to 8, 12_ridge R460; reset empty. -/
  rxMsg : Vector (List Byte) 9 := Vector.replicate 9 []
  /-- Operands held for a reducer partner, 12_ridge R487; reset none. -/
  operands : List HeldOperand := []
  /-- Buffers of reduction operands not yet taken by the reducer: (VC, credit channel), 12_ridge R487; reset none. -/
  opBufs : List (Nat × Nat) := []
  /-- A RETRAIN_REQ is being repeated: (cause, width), 12_ridge R458; reset none. -/
  retrainReq : Option (Nat × Nat) := none
  /-- Sideband latency to the peer measured by ECHO, ns, 12_ridge R483; reset none. -/
  echo : Option Nat := none
  /-- When the outstanding ECHO was sent, 12_ridge R483; reset none. -/
  echoSent : Option Nat := none
  deriving DecidableEq, Repr

/-- Stored equalisation coefficients (R471): port, peer serial, peer port. -/
structure Coeff where
  port : Nat
  serial : BitVec 128
  peerPort : Nat
  deriving DecidableEq, Repr

/-- A module seen in formation or admitted as a member (R492). -/
structure Member where
  serial : BitVec 128
  /-- Span indices it carries, a mask. -/
  indices : Nat
  digest : BitVec 128
  arith : Nat
  iface : Nat
  /-- The Ridge ports by which it is reached. -/
  ports : List Nat := []
  /-- Next step of each span-bound run it holds: (run id, next step). -/
  runs : List (Nat × Nat) := []
  /-- Its ports are cabled as the record names them. -/
  cabling : Bool := true
  /-- Sum of sideband latencies on its path (L_self). -/
  latency : Nat := 0
  /-- When its last heartbeat arrived. -/
  heard : Nat := 0
  deriving DecidableEq, Repr

/-- A barrier in progress (R482). -/
structure Barrier where
  number : Nat
  /-- This module has reached it, and when. -/
  reached : Option Nat := none
  /-- Children whose ARRIVE has come (lowest span index). -/
  arrived : List Nat := []
  /-- RELEASE or its copy has come, and the release instant of R483. -/
  releaseAt : Option Nat := none
  /-- A hop of it used the in-band fallback. -/
  inband : Bool := false
  /-- Tenants whose steps wait on it. -/
  tenants : List Nat := []
  deriving DecidableEq, Repr

/-- The span protocol of this module. -/
structure Span where
  /-- FORMED, 12_ridge Table 12-11; reset 0. -/
  formed : Bool := false
  /-- The 544 bytes of the configuration record, 12_ridge Table 12-8; reset empty. -/
  record : List Byte := []
  /-- Configuration digest, 12_ridge R491; reset 0. -/
  digest : BitVec 128 := 0
  /-- CARRIED, 16 bits, 12_ridge Table 12-11; reset 0. -/
  carried : BitVec 16 := 0
  /-- MEMBERS, 16 bits, 12_ridge Table 12-11; reset 0. -/
  members : BitVec 16 := 0
  /-- LEADER, 4 bits, 12_ridge Table 12-11; reset 0. -/
  leader : Nat := 0
  /-- TOPOLOGY, 2 bits, 12_ridge Table 12-11; reset 0. -/
  topology : Nat := 0
  /-- ARITH_MIXED, 12_ridge Table 12-11; reset 0. -/
  arithMixed : Bool := false
  /-- Interface level in use, 12_ridge Table 12-9; reset 0. -/
  iface : Nat := 0
  /-- A SPAN_FORM in progress and when it began, 12_ridge R492; reset none. -/
  forming : Option (Call × Nat) := none
  /-- Modules present in formation, or admitted members, this module excepted, 12_ridge R492; reset none. -/
  peers : List Member := []
  /-- L_self and L_max in ns, 12_ridge R483; reset 0. -/
  lSelf : Nat := 0
  lMax : Nat := 0
  /-- The number of the next barrier, modulo 2^16, 12_ridge R481; reset 0. -/
  nextBarrier : Nat := 0
  /-- Barriers in progress, 12_ridge R482; reset none. -/
  barriers : List Barrier := []
  /-- The number of the next heartbeat, 12_ridge Table 12-4; reset 0. -/
  heartbeat : Nat := 0
  /-- This part of a split span has lost it: runs complete with PARTITIONED, 12_ridge R499; reset false. -/
  partitioned : Bool := false
  /-- Members last committed, this module among them, by their lowest span index, 12_ridge R499; reset none. -/
  committed : List Nat := []
  /-- Modules that have come after the commit and wait for the leader's next heartbeat, 12_ridge R495; reset none. -/
  arrivals : List Member := []
  /-- Indices to hand over at the next step-start barrier, with the lowest index of the member that takes each, 12_ridge R495,
  R501; reset none. -/
  moves : List (Nat × Nat) := []
  /-- A SPAN_LEAVE in progress, 12_ridge R501; reset none. -/
  leaving : Option Call := none
  /-- Commits made by this module as leader, the OFFSET of SPAN_COMMIT, 12_ridge Table 12-4; reset 0. -/
  commitNumber : Nat := 0
  /-- Matching PAIR_COMPARE_SETs that partners have announced: (serial number, low 32 bits of the run id, package digest,
  arithmetic level), 12_ridge R504; reset none. -/
  pairOffers : List (BitVec 128 × Nat × BitVec 384 × Nat) := []
  /-- The leader's time offset applied by the last TIME_SYNC, ns, 12_ridge Table 12-9; reset 0. -/
  syncOffset : Int := 0
  deriving DecidableEq, Repr

/-! ### The whole device -/

/-- A value of the configuration with its scope (R630, R634). -/
inductive Scope where
  | module
  | tenant (t : TenantId)
  | placement
  deriving DecidableEq, Repr

/-- One staged field (R631): its id, its value and its scope. -/
structure StagedField where
  scope : Scope
  field : Nat
  value : Nat
  deriving DecidableEq, Repr

/-- A commit, or a TENANT_SHARES, that waits for its instant (R244, R634, R635, R200). -/
structure Commit where
  call : Call
  /-- The scopes still to apply. -/
  scopes : List Scope
  /-- Fields applied so far. -/
  applied : Nat := 0
  /-- A scope was deferred. -/
  deferred : Bool := false
  /-- When its timeout expires; none with FORCE_DRAIN. -/
  deadline : Option Nat := none
  /-- The share set of a TENANT_SHARES: strict mask and the four share words. -/
  shares : Option (Nat × List (BitVec 64)) := none
  deriving DecidableEq, Repr

/-- Everything the spec gives the module. -/
structure Device where
  /-- The number of the next free value (`Config`); the model's own field, DESIGN CHOICE log entry 1; 0 at reset. -/
  fresh : Nat := 0
  /-- Root time in ns since the first power-on; the model's own field, DESIGN CHOICE log entry 2; 0 at reset. -/
  now : Nat := 0
  /-- What the module has sent out, newest first; the model's own field, DESIGN CHOICE log entry 3; empty at reset. -/
  out : List Output := []
  /-- Every counter that is not 0, by (counter, instance), 15_mailboxes R625; reset as each counter table states. -/
  counters : List ((Counter × Nat) × Nat) := []
  /-- Values in effect of the staged fields that differ from their default, by field id, 15_mailboxes R630; kept in the Caddy. -/
  cfg : List (Nat × Nat) := []
  /-- Staged sets, 15_mailboxes R631; kept in the Caddy. -/
  staged : List StagedField := []
  /-- Staged share set of a deferred TENANT_SHARES, 05_mesh R200; kept in the Caddy. -/
  stagedShares : Option (Nat × List (BitVec 64)) := none
  /-- Committed values of fields that take effect at a later instant, 15_mailboxes R634; kept in the Caddy. -/
  cfgLater : List (Nat × Nat) := []
  /-- Commits that wait, oldest first, 15_mailboxes R634; reset none. -/
  commits : List Commit := []
  /-- PACKAGE_LOADs that wait for the driving packages queued before or during boot, 01_module R36; reset none. -/
  loads : List (Call × PackageDecl) := []
  host : HostLink := {}
  gutter : Gutter := {}
  selftest : SelfTest := {}
  boot : Boot := {}
  caddy : Caddy := {}
  backup : Backup := {}
  clocks : Clocks := {}
  power : Power := {}
  pins : Pins := {}
  time : TimeBase := {}
  /-- Sites with history or a bad state, 02_tiles R63, R67; kept in the Caddy. -/
  sites : List SiteRec := []
  fabric : Fabric := {}
  /-- Vtiles that a step has touched, 02_tiles R75; reset none. -/
  vtiles : List VtileState := []
  /-- Every vtile's scratchpad: byte a of vtile v of span index i is cell (i × 16,384 + v) × 2^19 + a, 02_tiles R39. -/
  scratch : Mem := []
  /-- Halo values that a vtile has gathered: (vtile number, model handle, colour), with the first local index and the nibbles,
  09_steep R360; reset none. -/
  halo : List ((Nat × Nat × Nat) × (Nat × List Nat)) := []
  /-- The four tenants, 05_mesh R192; reset closed. -/
  tenants : Vector Tenant 4 := Vector.replicate 4 {}
  tiers : Tiers := {}
  /-- The tensor window of each function, 07_tiers R280. -/
  windows : Vector Window 5 := Vector.replicate 5 {}
  entropy : Entropy := {}
  strainers : Vector Strainer 4 := Vector.replicate 4 {}
  ridge : Vector Ridge 8 := Vector.replicate 8 {}
  /-- Stored equalisation coefficients, 12_ridge R471; kept in the Caddy. -/
  coeffs : List Coeff := []
  span : Span := {}
  slate : Slate := {}
  intake : Intake := {}
  deriving DecidableEq, Repr

/-- The state of the block: the commands that wait and everything the spec gives the module. -/
structure State where
  /-- Commands that wait, first in, first out. -/
  pending : List Instr := []
  /-- The module. -/
  dev : Device := {}
  deriving DecidableEq, Repr

/-- Why the machine stops with a fault. No command of this block does: each has an effect in every state. -/
inductive Fault where
  /-- Never raised. It is here because the interface asks for a type; safe. -/
  | none
  deriving DecidableEq, Repr

/-- Why a command is refused. -/
inductive Refusal where
  /-- The command has no meaning in the model yet; `exec` answers it, by the mnemonic of the opcode table; safe. -/
  | notModelled (mnemonic : String)
  deriving DecidableEq, Repr

/-- The module at its first power-on, with RESET_L held low (R783): the reset is in force, every field is at its reset
value, and nothing runs until RESET_L is released. The queue is empty. -/
def State.reset : State := { pending := [], dev := {} }

end Sys2Proof.Machine
end

