-- ==== Sys2Proof/Machine/Counters.lean ====
section
/-! DEFINITION. The counter tables of the spec: name, width, scope (Table 15-15) and whether a module reset keeps the
counter. -/

namespace Sys2Proof.Machine

/-- What a counter table says of one counter. -/
structure CounterInfo where
  /-- The counter. -/
  counter : Counter
  /-- Its name, as READ_COUNTERS gives it. -/
  name : String
  /-- Its width in bits. -/
  width : Nat
  /-- Its scope number in Table 15-15. -/
  scope : Nat
  /-- A module reset keeps it. -/
  kept : Bool
  deriving DecidableEq, Repr

/-- Counters 0 to 23, in the order of the chapters. -/
def counterInfos0 : List CounterInfo :=
  [⟨.nanToZero, "NAN_TO_ZERO", 64, 1, false⟩,
   ⟨.saturated, "SATURATED", 64, 1, false⟩,
   ⟨.blockNonfinite, "BLOCK_NONFINITE", 64, 1, false⟩,
   ⟨.accSaturated, "ACC_SATURATED", 64, 1, false⟩,
   ⟨.accReplays, "ACC_REPLAYS", 64, 1, false⟩,
   ⟨.reduceOverflow, "REDUCE_OVERFLOW", 64, 1, false⟩,
   ⟨.frames, "FRAMES", 64, 1, false⟩,
   ⟨.holdFrames, "HOLD_FRAMES", 64, 1, false⟩,
   ⟨.holdCycles, "HOLD_CYCLES", 64, 1, false⟩,
   ⟨.frameHoldEvents, "FRAME_HOLD_EVENTS", 32, 1, false⟩,
   ⟨.borrowedSlots, "BORROWED_SLOTS", 64, 1, false⟩,
   ⟨.edgeEntryBytes, "EDGE_ENTRY_BYTES", 64, 1, false⟩,
   ⟨.meshCorrected, "MESH_CORRECTED", 64, 0, false⟩,
   ⟨.linkCorrected, "LINK_CORRECTED", 16, 12, false⟩,
   ⟨.eaveCorrected, "EAVE_CORRECTED", 64, 0, false⟩,
   ⟨.cutLinks, "CUT_LINKS", 16, 0, false⟩,
   ⟨.fencedSegments, "FENCED_SEGMENTS", 16, 0, false⟩,
   ⟨.epochSwitches, "EPOCH_SWITCHES", 32, 1, false⟩,
   ⟨.epochsAbandoned, "EPOCHS_ABANDONED", 32, 0, false⟩,
   ⟨.deferredCommits, "DEFERRED_COMMITS", 32, 1, false⟩,
   ⟨.drainSkipped, "DRAIN_SKIPPED", 64, 1, false⟩,
   ⟨.plannedPending, "PLANNED_PENDING", 16, 0, false⟩,
   ⟨.foldedPairs, "FOLDED_PAIRS", 16, 0, false⟩,
   ⟨.spillPages, "SPILL_PAGES", 32, 1, false⟩]

/-- Counters 24 to 47, in the order of the chapters. -/
def counterInfos1 : List CounterInfo :=
  [⟨.promotions, "PROMOTIONS", 64, 1, false⟩,
   ⟨.demotions, "DEMOTIONS", 64, 1, false⟩,
   ⟨.migrationsAbandoned, "MIGRATIONS_ABANDONED", 32, 1, false⟩,
   ⟨.migrationBytes, "MIGRATION_BYTES", 64, 1, false⟩,
   ⟨.cacheHits, "CACHE_HITS", 64, 1, false⟩,
   ⟨.cacheMisses, "CACHE_MISSES", 64, 1, false⟩,
   ⟨.t1Corrected, "T1_CORRECTED", 64, 4, false⟩,
   ⟨.t2Corrected, "T2_CORRECTED", 64, 4, false⟩,
   ⟨.t3Retries, "T3_RETRIES", 64, 0, false⟩,
   ⟨.t3Rebuilds, "T3_REBUILDS", 32, 0, false⟩,
   ⟨.poisonedLines, "POISONED_LINES", 32, 4, false⟩,
   ⟨.retiredPages, "RETIRED_PAGES", 32, 4, true⟩,
   ⟨.retiredRows, "RETIRED_ROWS", 32, 4, true⟩,
   ⟨.spareLeft, "SPARE_LEFT", 16, 4, false⟩,
   ⟨.retiredBlocks, "RETIRED_BLOCKS", 32, 0, true⟩,
   ⟨.spareBlocksPct, "SPARE_BLOCKS_PCT", 8, 0, false⟩,
   ⟨.peCycles, "PE_CYCLES", 32, 0, true⟩,
   ⟨.hostWrites, "HOST_WRITES", 64, 0, true⟩,
   ⟨.refreshHot, "REFRESH_HOT", 64, 0, false⟩,
   ⟨.winWritesRejected, "WIN_WRITES_REJECTED", 32, 7, false⟩,
   ⟨.winPoisonReads, "WIN_POISON_READS", 32, 7, false⟩,
   ⟨.rctFails, "RCT_FAILS", 32, 17, false⟩,
   ⟨.aptFails, "APT_FAILS", 32, 17, false⟩,
   ⟨.blocksGood, "BLOCKS_GOOD", 64, 17, false⟩]

/-- Counters 48 to 71, in the order of the chapters. -/
def counterInfos2 : List CounterInfo :=
  [⟨.blocksDiscarded, "BLOCKS_DISCARDED", 64, 17, false⟩,
   ⟨.vnPairsDropped, "VN_PAIRS_DROPPED", 64, 0, false⟩,
   ⟨.drbgReseeds, "DRBG_RESEEDS", 64, 0, false⟩,
   ⟨.seedFreshWaits, "SEED_FRESH_WAITS", 32, 0, false⟩,
   ⟨.drawBudgetTraps, "DRAW_BUDGET_TRAPS", 32, 1, false⟩,
   ⟨.seedsSpent, "SEEDS_SPENT", 16, 1, false⟩,
   ⟨.steepUpdates, "STEEP_UPDATES", 64, 1, false⟩,
   ⟨.steepChanges, "STEEP_CHANGES", 64, 1, false⟩,
   ⟨.steepHaloWaitCycles, "STEEP_HALO_WAIT_CYCLES", 64, 1, false⟩,
   ⟨.exchAttempts, "EXCH_ATTEMPTS", 64, 1, false⟩,
   ⟨.exchAccepts, "EXCH_ACCEPTS", 64, 1, false⟩,
   ⟨.steepEnergySat, "STEEP_ENERGY_SAT", 32, 1, false⟩,
   ⟨.steepBadArea, "STEEP_BAD_AREA", 32, 1, false⟩,
   ⟨.annealSweeps, "ANNEAL_SWEEPS", 64, 1, false⟩,
   ⟨.poolCaptures, "POOL_CAPTURES", 64, 1, false⟩,
   ⟨.poolInserts, "POOL_INSERTS", 64, 1, false⟩,
   ⟨.poolDuplicates, "POOL_DUPLICATES", 64, 1, false⟩,
   ⟨.poolEvictions, "POOL_EVICTIONS", 64, 1, false⟩,
   ⟨.poolRejects, "POOL_REJECTS", 64, 1, false⟩,
   ⟨.hashCollisions, "HASH_COLLISIONS", 32, 1, false⟩,
   ⟨.annealReruns, "ANNEAL_RERUNS", 32, 1, false⟩,
   ⟨.lockedBarrierCycles, "LOCKED_BARRIER_CYCLES", 64, 1, false⟩,
   ⟨.freeStaleScatters, "FREE_STALE_SCATTERS", 64, 1, false⟩,
   ⟨.rows, "ROWS", 64, 1, false⟩]

/-- Counters 72 to 95, in the order of the chapters. -/
def counterInfos3 : List CounterInfo :=
  [⟨.groups, "GROUPS", 64, 1, false⟩,
   ⟨.drafted, "DRAFTED", 64, 1, false⟩,
   ⟨.accepted, "ACCEPTED", 64, 1, false⟩,
   ⟨.bonus, "BONUS", 64, 1, false⟩,
   ⟨.kShortRows, "K_SHORT_ROWS", 32, 1, false⟩,
   ⟨.nanRows, "NAN_ROWS", 32, 1, false⟩,
   ⟨.emptyRows, "EMPTY_ROWS", 32, 1, false⟩,
   ⟨.rowTimeouts, "ROW_TIMEOUTS", 32, 1, false⟩,
   ⟨.lateBlocks, "LATE_BLOCKS", 32, 1, false⟩,
   ⟨.candidates, "CANDIDATES", 64, 5, false⟩,
   ⟨.contextWaitCycles, "CONTEXT_WAIT_CYCLES", 64, 5, false⟩,
   ⟨.ridgeCorrected, "RIDGE_CORRECTED", 64, 2, false⟩,
   ⟨.ridgeUncorrCw, "RIDGE_UNCORR_CW", 64, 2, false⟩,
   ⟨.ridgeCrcFails, "RIDGE_CRC_FAILS", 64, 2, false⟩,
   ⟨.ridgeNaks, "RIDGE_NAKS", 64, 2, false⟩,
   ⟨.ridgeRetrains, "RIDGE_RETRAINS", 32, 2, false⟩,
   ⟨.laneSwaps, "LANE_SWAPS", 16, 2, false⟩,
   ⟨.protoErrors, "PROTO_ERRORS", 32, 2, false⟩,
   ⟨.sidebandCrc, "SIDEBAND_CRC", 32, 2, false⟩,
   ⟨.barriers, "BARRIERS", 64, 0, false⟩,
   ⟨.barrierInband, "BARRIER_INBAND", 32, 0, false⟩,
   ⟨.barrierWaitCycles, "BARRIER_WAIT_CYCLES", 64, 1, false⟩,
   ⟨.ridgeFlits, "RIDGE_FLITS", 64, 1, false⟩,
   ⟨.spanStepAdjust, "SPAN_STEP_ADJUST", 16, 0, false⟩]

/-- Counters 96 to 119, in the order of the chapters. -/
def counterInfos4 : List CounterInfo :=
  [⟨.pairCompares, "PAIR_COMPARES", 64, 1, false⟩,
   ⟨.pairTimingDiff, "PAIR_TIMING_DIFF", 64, 1, false⟩,
   ⟨.stepsCommitted, "STEPS_COMMITTED", 64, 1, false⟩,
   ⟨.stepsInvalid, "STEPS_INVALID", 64, 1, false⟩,
   ⟨.reruns, "RERUNS", 32, 1, false⟩,
   ⟨.rerunFailed, "RERUN_FAILED", 32, 1, false⟩,
   ⟨.journalLines, "JOURNAL_LINES", 64, 1, false⟩,
   ⟨.journalOverflows, "JOURNAL_OVERFLOWS", 32, 1, false⟩,
   ⟨.edgeHoldSteps, "EDGE_HOLD_STEPS", 64, 1, false⟩,
   ⟨.checkpoints, "CHECKPOINTS", 32, 1, false⟩,
   ⟨.restores, "RESTORES", 32, 1, false⟩,
   ⟨.replaySteps, "REPLAY_STEPS", 64, 1, false⟩,
   ⟨.replayMismatches, "REPLAY_MISMATCHES", 32, 1, false⟩,
   ⟨.slateRecords, "SLATE_RECORDS", 64, 0, true⟩,
   ⟨.slateSigns, "SLATE_SIGNS", 32, 0, true⟩,
   ⟨.slateOverwritten, "SLATE_OVERWRITTEN", 64, 0, true⟩,
   ⟨.slateTorn, "SLATE_TORN", 16, 0, true⟩,
   ⟨.slateStallCycles, "SLATE_STALL_CYCLES", 64, 0, false⟩,
   ⟨.framesLanded, "FRAMES_LANDED", 64, 3, false⟩,
   ⟨.framesBound, "FRAMES_BOUND", 64, 3, false⟩,
   ⟨.dropsFull, "DROPS_FULL", 32, 3, false⟩,
   ⟨.dropsError, "DROPS_ERROR", 32, 3, false⟩,
   ⟨.frameTimeouts, "FRAME_TIMEOUTS", 32, 3, false⟩,
   ⟨.framesTorn, "FRAMES_TORN", 32, 3, false⟩]

/-- Counters 120 to 143, in the order of the chapters. -/
def counterInfos5 : List CounterInfo :=
  [⟨.framesFlushed, "FRAMES_FLUSHED", 32, 3, false⟩,
   ⟨.csiUnsupported, "CSI_UNSUPPORTED", 32, 10, false⟩,
   ⟨.ethDiscards, "ETH_DISCARDS", 64, 11, false⟩,
   ⟨.lateSteps, "LATE_STEPS", 64, 1, false⟩,
   ⟨.skippedBoundaries, "SKIPPED_BOUNDARIES", 64, 1, false⟩,
   ⟨.syncAccepted, "SYNC_ACCEPTED", 64, 0, false⟩,
   ⟨.syncIgnored, "SYNC_IGNORED", 64, 0, false⟩,
   ⟨.syncExtra, "SYNC_EXTRA", 32, 0, false⟩,
   ⟨.syncOutSuppressed, "SYNC_OUT_SUPPRESSED", 32, 0, false⟩,
   ⟨.timeSteps, "TIME_STEPS", 32, 0, false⟩,
   ⟨.mbxCommands, "MBX_COMMANDS", 64, 9, false⟩,
   ⟨.mbxAccepted, "MBX_ACCEPTED", 64, 9, false⟩,
   ⟨.mbxFlushed, "MBX_FLUSHED", 32, 9, false⟩,
   ⟨.mbxBadTail, "MBX_BAD_TAIL", 32, 9, false⟩,
   ⟨.mbxCplWaitUs, "MBX_CPL_WAIT_US", 64, 9, false⟩,
   ⟨.mbxLate, "MBX_LATE", 32, 9, false⟩,
   ⟨.mbxFaultedReset, "MBX_FAULTED_RESET", 32, 9, false⟩,
   ⟨.msixSent, "MSIX_SENT", 64, 7, false⟩,
   ⟨.ideRejects, "IDE_REJECTS", 32, 7, false⟩,
   ⟨.events, "EVENTS", 32, 6, false⟩,
   ⟨.shadowed, "SHADOWED", 32, 6, false⟩,
   ⟨.escalations, "ESCALATIONS", 32, 6, false⟩,
   ⟨.injected, "INJECTED", 32, 6, false⟩,
   ⟨.recovery, "RECOVERY", 16, 8, false⟩]

/-- Counters 144 to 167, in the order of the chapters. -/
def counterInfos6 : List CounterInfo :=
  [⟨.latchEvents, "LATCH_EVENTS", 16, 8, false⟩,
   ⟨.pairAssertions, "PAIR_ASSERTIONS", 32, 0, false⟩,
   ⟨.pairFaultMs, "PAIR_FAULT_MS", 64, 0, false⟩,
   ⟨.trapsQueued, "TRAPS_QUEUED", 32, 0, false⟩,
   ⟨.forcedReleases, "FORCED_RELEASES", 32, 0, false⟩,
   ⟨.releaseNoops, "RELEASE_NOOPS", 32, 0, false⟩,
   ⟨.selftestRuns, "SELFTEST_RUNS", 32, 13, false⟩,
   ⟨.selftestPreempts, "SELFTEST_PREEMPTS", 32, 13, false⟩,
   ⟨.selftestForced, "SELFTEST_FORCED", 32, 13, false⟩,
   ⟨.selftestFails, "SELFTEST_FAILS", 16, 13, false⟩,
   ⟨.boots, "BOOTS", 32, 0, true⟩,
   ⟨.startFails, "START_FAILS", 16, 16, true⟩,
   ⟨.fallbacks, "FALLBACKS", 16, 0, true⟩,
   ⟨.recoveryEntries, "RECOVERY_ENTRIES", 16, 0, true⟩,
   ⟨.imagesRefused, "IMAGES_REFUSED", 32, 0, false⟩,
   ⟨.chunksRefused, "CHUNKS_REFUSED", 32, 0, false⟩,
   ⟨.chunksForwarded, "CHUNKS_FORWARDED", 64, 0, false⟩,
   ⟨.svnFusesLeft, "SVN_FUSES_LEFT", 8, 0, false⟩,
   ⟨.caddyTorn, "CADDY_TORN", 32, 0, true⟩,
   ⟨.caddyAuthFails, "CADDY_AUTH_FAILS", 32, 0, true⟩,
   ⟨.caddyCompactions, "CADDY_COMPACTIONS", 32, 0, true⟩,
   ⟨.caddyRetired, "CADDY_RETIRED", 16, 0, true⟩,
   ⟨.caddyMaxErases, "CADDY_MAX_ERASES", 32, 0, true⟩,
   ⟨.debugUnlocks, "DEBUG_UNLOCKS", 16, 0, true⟩]

/-- Counters 168 to 188, in the order of the chapters. -/
def counterInfos7 : List CounterInfo :=
  [⟨.throttleUp, "THROTTLE_UP", 32, 0, false⟩,
   ⟨.throttleEmergency, "THROTTLE_EMERGENCY", 32, 0, false⟩,
   ⟨.powerLimitEvents, "POWER_LIMIT_EVENTS", 32, 0, false⟩,
   ⟨.div10Ms, "DIV10_MS", 64, 0, false⟩,
   ⟨.div16Ms, "DIV16_MS", 64, 0, false⟩,
   ⟨.holdoverMs, "HOLDOVER_MS", 32, 0, false⟩,
   ⟨.maxJunctionC, "MAX_JUNCTION_C", 8, 0, false⟩,
   ⟨.stateEntries, "STATE_ENTRIES", 32, 14, false⟩,
   ⟨.stateMs, "STATE_MS", 64, 14, false⟩,
   ⟨.wakeAbandoned, "WAKE_ABANDONED", 32, 0, false⟩,
   ⟨.wakeLate, "WAKE_LATE", 32, 1, false⟩,
   ⟨.planEvents, "PLAN_EVENTS", 32, 0, false⟩,
   ⟨.phaseFails, "PHASE_FAILS", 8, 15, false⟩,
   ⟨.bkpCold, "BKP_COLD", 16, 0, true⟩,
   ⟨.bkpHot, "BKP_HOT", 16, 0, true⟩,
   ⟨.bkpCellDip, "BKP_CELL_DIP", 16, 0, true⟩,
   ⟨.bkpOscStop, "BKP_OSC_STOP", 16, 0, true⟩,
   ⟨.ppsAccepted, "PPS_ACCEPTED", 64, 0, false⟩,
   ⟨.ppsRejected, "PPS_REJECTED", 32, 0, false⟩,
   ⟨.wakeAssertions, "WAKE_ASSERTIONS", 32, 0, false⟩,
   ⟨.i3cMessages, "I3C_MESSAGES", 64, 0, false⟩]

/-- Every counter, in the order of the chapters. -/
def counterInfos : List CounterInfo :=
  counterInfos0 ++ counterInfos1 ++ counterInfos2 ++ counterInfos3 ++ counterInfos4 ++ counterInfos5 ++ counterInfos6 ++ counterInfos7

/-- What its table says of a counter. -/
def Counter.info (c : Counter) : CounterInfo :=
  (counterInfos.find? fun i => decide (i.counter = c)).getD ⟨c, "", 64, 0, false⟩

end Sys2Proof.Machine
end

