-- ==== Sys2Proof/Machine/Ops.lean ====
section
/-! DEFINITION. The named operations that every family shares: memory, counters, outputs, time, free values and the
configuration in effect. -/

namespace Sys2Proof.Machine

open Sys2Proof

/-! ### Memory -/

/-- One byte of a memory; an unlisted address reads 0 (log entry 9). -/
def Mem.read : Mem → Nat → Byte
  | [], _ => 0
  | (a, b) :: t, x => if a = x then b else Mem.read t x

/-- A memory with one byte written, in canonical form: rising addresses, and no cell that holds what an unlisted
address reads as. -/
def Mem.write : Mem → Nat → Byte → Mem
  | [], x, v => if v = 0 then [] else [(x, v)]
  | (a, b) :: t, x, v =>
    if x < a then (if v = 0 then (a, b) :: t else (x, v) :: (a, b) :: t)
    else if x = a then (if v = 0 then t else (a, v) :: t)
    else (a, b) :: Mem.write t x v

/-- n bytes from an address on. -/
def Mem.readN (m : Mem) (a n : Nat) : List Byte := (List.range n).map fun i => m.read (a + i)

/-- Bytes written from an address on. -/
def Mem.writeN (m : Mem) (a : Nat) : List Byte → Mem
  | [] => m
  | b :: bs => Mem.writeN (m.write a b) (a + 1) bs

/-- The canonical form: strictly rising addresses from a lower bound on, and no zero byte. -/
def Mem.wfFrom : Nat → Mem → Bool
  | _, [] => true
  | lo, (a, b) :: t => decide (lo ≤ a) && !decide (b = 0) && Mem.wfFrom (a + 1) t

/-- The canonical form of a memory. -/
def Mem.wf (m : Mem) : Bool := Mem.wfFrom 0 m

/-- A little-endian value of n bytes in memory. -/
def Mem.readLe (m : Mem) (a n : Nat) : Nat := ofLe (m.readN a n)

/-- A little-endian value of n bytes written to memory. -/
def Mem.writeLe (m : Mem) (a n v : Nat) : Mem := m.writeN a (leBytes n v)

/-! ### Outputs, free values and time -/

/-- Something leaves the block. -/
def emit (o : Output) (d : Device) : Device := { d with out := o :: d.out }

/-- A fresh 64-bit free value and the state that has used it (log entry 1). -/
def freshValue (d : Device) : BitVec 64 × Device := (Config.free64 d.fresh, { d with fresh := d.fresh + 1 })

/-- The root time reaches at least t: an event that names its time, or the expiry of a timer that runs (log entry 2). -/
def advanceTo (t : Nat) (d : Device) : Device := { d with now := max d.now t }

/-- One tick of an idle step: 10 ns of root time (log entry 2). -/
def idleTick (d : Device) : Device := { d with now := d.now + 10 }

/-- What a slew has added by a root time: at most 100 ppm of the time since it began (R574). -/
def slewed (s : Nat × Int) (t : Nat) : Int :=
  let most : Int := Int.ofNat ((t - s.1) / 10000)
  if s.2 < 0 then max s.2 (-most) else min s.2 most

/-- The module time in ns at a root time (R574). -/
def moduleTimeAt (d : Device) (t : Nat) : Nat := (Int.ofNat t + d.time.shift + slewed d.time.slew t).toNat

/-- The module time in ns now. -/
def moduleTime (d : Device) : Nat := moduleTimeAt d d.now

/-- The module time shifted by a number of ns at once, which ends a slew in progress where it stands. -/
def stepTime (by_ : Int) (d : Device) : Device :=
  { d with time := { d.time with shift := d.time.shift + slewed d.time.slew d.now + by_, slew := (d.now, 0) } }

/-- The value of an int32 field that saturates. -/
def satInt32 (x : Int) : Int := max (-2147483648) (min 2147483647 x)

/-- Nanoseconds in a microsecond, a millisecond and a second. -/
def us : Nat := 1000
def ms : Nat := 1000000
def sec : Nat := 1000000000

/-! ### Counters -/

/-- The value of a counter's instance. -/
def Device.count (d : Device) (c : Counter) (i : Nat := 0) : Nat := (assoc d.counters (c, i)).getD 0

/-- A counter set to a value, saturating at its width (R642 and the other counter rules). -/
def setCount (c : Counter) (i v : Nat) (d : Device) : Device :=
  { d with counters := assocSet d.counters (c, i) (min v (2 ^ c.info.width - 1)) }

/-- A counter that counts k more, saturating. -/
def bumpBy (c : Counter) (i k : Nat) (d : Device) : Device := setCount c i (d.count c i + k) d

/-- A counter that counts one more, saturating. -/
def bump (c : Counter) (i : Nat) (d : Device) : Device := bumpBy c i 1 d

/-- Counters that a predicate keeps. -/
def keepCounters (keep : Counter → Nat → Bool) (d : Device) : Device :=
  { d with counters := d.counters.filter fun p => keep p.1.1 p.1.2 }

/-- A tenant's counters start again at TENANT_OPEN: those of scope 1, whose instance is t + 4 × sub (Table 15-15). -/
def resetTenantCounters (t : Nat) : Device → Device :=
  keepCounters fun c i => !(decide (c.info.scope = 1) && decide (i % 4 = t))

/-- The time base is corrected for an offset of the module time from its reference: it slews below 1 µs and steps otherwise; an
offset of 100 ns or more ends the good seconds (R574). The time is then set (R756). -/
def discipline (offset : Int) (d : Device) : Device :=
  let small := decide (-1000 < offset) && decide (offset < 1000)
  let good := decide (-100 < offset) && decide (offset < 100)
  let d := if small then stepTime 0 d else bump .timeSteps 0 (stepTime (-offset) d)
  let d := if small then { d with time := { d.time with slew := (d.now, -offset) } } else d
  { d with
    time := { d.time with
      offset := satInt32 offset, lastRef := some d.now
      goodSince := if good then some (d.time.goodSince.getD d.now) else none }
    backup := { d.backup with rtcLost := false } }

/-- A self-test unit is under test (Table 16-7). -/
def underTest (d : Device) (u : Nat) : Bool := d.selftest.running && decide (d.selftest.unit = u)

/-! ### Configuration -/

/-- The default of a staged field, for each id that exists (Table 15-13, Table 16-1, Table 16-3, Table 16-14).
The Gutter's per-source defaults come in by `Gutter.lean`, which completes this list. -/
def baseDefault (f : Nat) : Option Nat :=
  if f = 0x01000001 then some 50
  else if f = 0x01000002 then some 0
  else if f = 0x04000001 then some 0
  else if f = 0x04000002 then some 0
  else if f = 0x05000001 then some 0
  else if f = 0x05000002 then some 0
  else if f = 0x05000003 then some 0
  else if f = 0x05000004 then some 10
  else if f = 0x05000005 then some 0
  else if f = 0x06000001 then some 0
  else if f = 0x07000001 then some 100
  else if f % 0x10000 = 1 ∧ f / 0x1000000 = 8 ∧ (f / 0x10000) % 0x100 < 16 then some 8
  else none

/-- The value in effect of a field whose default is given. -/
def cfgOr (d : Device) (f dflt : Nat) : Nat := (assoc d.cfg f).getD dflt

/-- COMMIT_TIMEOUT in ms. -/
def commitTimeout (d : Device) : Nat := cfgOr d 0x01000001 50

/-- IDE_REQUIRED (R594). -/
def ideRequired (d : Device) : Bool := decide (cfgOr d 0x01000002 0 = 1)

/-- SYNC_TENANT (R581). -/
def syncTenant (d : Device) : Nat := cfgOr d 0x05000001 0

/-! ### Tenants -/

/-- The tenant record of a number. -/
def Device.tenant (d : Device) (t : TenantId) : Tenant := d.tenants[t.val]'t.isLt

/-- A tenant record changed. -/
def modTenant (t : TenantId) (f : Tenant → Tenant) (d : Device) : Device :=
  { d with tenants := vmod d.tenants t f }

/-- The run of a tenant changed. -/
def modRun (t : TenantId) (f : Run → Run) : Device → Device :=
  modTenant t fun x => { x with run := x.run.map f }

/-- The step in progress of a tenant changed. -/
def modStep (t : TenantId) (f : Step → Step) : Device → Device :=
  modRun t fun r => { r with step := r.step.map f }

/-- The step in progress of a tenant. -/
def Device.stepOf (d : Device) (t : TenantId) : Option Step := (d.tenant t).run.bind (·.step)

/-- A step of the tenant has started and has not finished. -/
def Device.inStep (d : Device) (t : TenantId) : Bool :=
  match d.stepOf t with
  | some s => s.started
  | none => false

/-- Every tenant number. -/
def allTenants : List TenantId := [0, 1, 2, 3]

/-- The tenants in a list of numbers. -/
def tenantOf (n : Nat) : Option TenantId := if h : n < 4 then some ⟨n, h⟩ else none

/-- A meaning that completes: the next state with the device changed. -/
def done (s : State) (d : Device) : Host.Outcome State Fault Refusal := .next { s with dev := d }

end Sys2Proof.Machine
end

