-- ==== Sys2Proof/Machine/Msix.lean ====
section
/-! DEFINITION. MSI-X messages and their 2 µs limit (R608, R609). -/

namespace Sys2Proof.Machine

open Sys2Proof

/-- The state of one vector. -/
def msixVec (d : Device) (fn : FunctionId) (v : Fin 16) : MsixVec := (d.host.msix[fn.val]'fn.isLt)[v.val]'v.isLt

/-- The state of one vector set. -/
def setMsixVec (fn : FunctionId) (v : Fin 16) (m : MsixVec) (d : Device) : Device :=
  { d with host := { d.host with msix := vmod d.host.msix fn fun r => vset r v m } }

/-- The message leaves the module and is counted. -/
def msixSent (fn : FunctionId) (v : Fin 16) (d : Device) : Device :=
  emit (.msix fn.val v.val) (bump .msixSent fn.val (setMsixVec fn v { last := some d.now, held := false } d))

/-- Something waits to be sent to the host: WAKE_L is asserted while the endpoint is in D3cold with its link in L2 (R772). -/
def wakeHost (d : Device) : Device :=
  if d.host.d3cold && !d.pins.wakeL then bump .wakeAssertions 0 { d with pins := { d.pins with wakeL := true } } else d

/-- A message is sent, or held back when the vector sent one less than 2 µs ago (R609) or while the link is in L2. -/
def sendMsix (fn : FunctionId) (v : Fin 16) (d : Device) : Device :=
  let m := msixVec d fn v
  if d.host.d3cold then wakeHost (setMsixVec fn v { m with held := true } d)
  else match m.last with
  | some t => if d.now < t + 2 * us then setMsixVec fn v { m with held := true } d else msixSent fn v d
  | none => msixSent fn v d

/-- The virtual function of a tenant (R592). -/
def vfOf (t : TenantId) : FunctionId := ⟨1 + t.val, by omega⟩

/-- The announcement of a change of MODULE_STATE bits [3:1] (Table 15-6): vector 10 of the physical function and vector 3
of each virtual function. -/
def announceState (d : Device) : Device :=
  allTenants.foldl (fun d t => sendMsix (vfOf t) 3 d) (sendMsix 0 10 d)

end Sys2Proof.Machine
end

