-- ==== Sys2Proof/Machine/Journal.lean ====
section
/-! DEFINITION. The journal of the Caddy: kinds of records, sectors, and the writing of a record (R712 to R714). The value that a
record holds is the field of the state that it journals; what the journal itself keeps is where each record lies. -/

namespace Sys2Proof.Machine

open Sys2Proof

/-- The journal sectors (Table 17-7). -/
def journalSectors : List Nat := rangeFrom 512 3584

/-- Kinds of records (Table 17-9). -/
def kStaged : Nat := 1
def kApplied : Nat := 2
def kSiteMap : Nat := 3
def kCounters : Nat := 4
def kSlateIndex : Nat := 5
def kCoeffs : Nat := 6
def kPhy : Nat := 7
def kProgress : Nat := 8
def kForcedRelease : Nat := 9
def kSlots : Nat := 0x10
def kAttempt : Nat := 0x11
def kUpdate : Nat := 0x12
def kChunk : Nat := 0x13
def kFloor : Nat := 0x14
def kIntent : Nat := 0x15
def kDone : Nat := 0x16
def kTombstone : Nat := 0xFFFF

/-- The record of a sector, when it has been used. -/
def Caddy.sector (c : Caddy) (n : Nat) : CaddySector := (c.sectors.find? fun s => decide (s.num = n)).getD { num := n }

/-- A sector record changed. -/
def Caddy.modSector (c : Caddy) (n : Nat) (f : CaddySector → CaddySector) : Caddy :=
  { c with sectors := f (c.sector n) :: c.sectors.filter fun s => !decide (s.num = n) }

/-- Usable journal sectors: those not retired (R717). -/
def Caddy.usable (c : Caddy) : Nat := 3584 - (c.sectors.filter (·.retired)).length

/-- Free journal sectors: usable ones that hold no record. -/
def Caddy.free (c : Caddy) : Nat := 3584 - (c.sectors.filter fun s => s.retired || !s.recs.isEmpty).length

/-- The next free sector after the head, in cyclic order. -/
def Caddy.nextFree (c : Caddy) : Option Nat :=
  let ok := fun n => !(c.sector n).retired && (c.sector n).recs.isEmpty
  match (rangeFrom (c.head + 1) (4095 - c.head)).find? ok with
  | some n => some n
  | none => (rangeFrom 512 (c.head - 512)).find? ok

/-- Bytes that a record of a payload length takes (Table 17-8). -/
def recordBytes (len : Nat) : Nat := 16 + ((len + 15) / 16) * 16 + 16 + 8

/-- A record appended at the head of the journal; it never crosses a sector boundary (R713). -/
def Caddy.append (c : Caddy) (r : JournalRec) : Caddy :=
  let n := recordBytes r.length
  let c := if (c.sector c.head).used + n ≤ 65536 ∧ !(c.sector c.head).retired then c
    else match c.nextFree with
      | some h => { c with head := h }
      | none => c
  c.modSector c.head fun s => { s with recs := s.recs ++ [r], used := s.used + n }

/-- A record of a kind and instance is committed to the journal (R714); a read-only Caddy takes none (R718). -/
def journal (kind inst : Nat) (d : Device) : Device :=
  if d.caddy.readOnly then d
  else
    let seq := d.caddy.nextSeq
    let c := d.caddy.append { seq := seq, kind := kind, inst := inst, length := Config.journalLength kind seq % 3969 }
    { d with caddy := { c with nextSeq := seq + 1 } }

end Sys2Proof.Machine
end

