-- ==== Sys2Proof/Machine/Slots.lean ====
section
/-! DEFINITION. The firmware slots: which one a boot or a Kettle restart starts, and its attempt count (R690, R691, R697). -/

namespace Sys2Proof.Machine

open Sys2Proof

/-- A slot record. -/
def Device.slot (d : Device) : Slot → SlotRec
  | .a => d.boot.slotA
  | .b => d.boot.slotB

/-- A slot record changed. -/
def modSlot (k : Slot) (f : SlotRec → SlotRec) (d : Device) : Device :=
  match k with
  | .a => { d with boot := { d.boot with slotA := f d.boot.slotA } }
  | .b => { d with boot := { d.boot with slotB := f d.boot.slotB } }

/-- The image that runs. -/
def runningImage (d : Device) : ImageInfo := (d.slot d.boot.running).image

/-- The other slot. -/
def otherSlot : Slot → Slot
  | .a => .b
  | .b => .a

/-- The number of a slot, as counters, journal records and results give it. -/
def Slot.index : Slot → Nat
  | .a => 0
  | .b => 1

/-- Version order: major, minor, patch, then build (R697). -/
def Version.le (a b : Version) : Bool :=
  if a.major ≠ b.major then decide (a.major < b.major)
  else if a.minor ≠ b.minor then decide (a.minor < b.minor)
  else if a.patch ≠ b.patch then decide (a.patch < b.patch)
  else decide (a.build ≤ b.build)

/-- The larger of two versions. -/
def Version.max (a b : Version) : Version := if a.le b then b else a

/-- The attempt count that the ROM uses: the larger of the two that are kept (R691). -/
def slotAttempts (s : SlotRec) : Nat := max s.attempts s.attemptsBkp

/-- A slot that may be started, its attempts apart (R690). -/
def slotSound (d : Device) (k : Slot) : Bool :=
  let s := d.slot k
  !decide (s.mark = .empty) && s.signatureOk && s.stage1Ok && d.boot.floor.le s.image.version && decide (d.boot.svnFuses ≤ s.image.svn)

/-- A slot is eligible (R690). -/
def slotEligible (d : Device) (k : Slot) : Bool := slotSound d k && decide (slotAttempts (d.slot k) < 3)

/-- The ROM passes over the trial slot: it is marked FAILED, and the update falls back to IDLE with its image still staged (R690,
Table 17-5). -/
def passOver (k : Slot) (d : Device) : Device :=
  let d := modSlot k (fun s => { s with mark := .failed }) d
  let d := { d with boot := { d.boot with trial := none, update := { d.boot.update with state := .idle } } }
  journal kUpdate 0 (journal kSlots 0 (bump .fallbacks 0 d))

/-- The slot that the ROM takes: the trial slot, the confirmed one, the other one, or none (R690). -/
def chooseSlot (d : Device) : Option Slot × Device :=
  let rest := fun (d : Device) =>
    if slotEligible d d.boot.confirmed then some d.boot.confirmed
    else if slotEligible d (otherSlot d.boot.confirmed) then some (otherSlot d.boot.confirmed) else none
  match d.boot.trial with
  | none => (rest d, d)
  | some k => if slotEligible d k then (some k, d) else (rest (passOver k d), passOver k d)

/-- The attempt is journalled and counted before a slot is started (R690, R691); a read-only Caddy keeps its last count. -/
def startAttempt (k : Slot) (d : Device) : Device :=
  let d := journal kAttempt k.index d
  modSlot k (fun s => { s with
    attempts := if d.caddy.readOnly then s.attempts else slotAttempts s + 1, attemptsBkp := slotAttempts s + 1 }) d

/-- The attempt count of a slot starts again (R691, R711). -/
def clearAttempts (k : Slot) (d : Device) : Device :=
  let d := journal kAttempt k.index d
  modSlot k (fun s => { s with attempts := if d.caddy.readOnly then s.attempts else 0, attemptsBkp := 0 }) d

/-- A step of R705, from 1 to 5: CONFIRM_INTENT, the fuses, the confirmed version floor, the confirmed slot, CONFIRM_DONE. Each leaves
the same state when it is repeated (R707). -/
def confirmStep (i : ConfirmIntent) (d : Device) (k : Nat) : Device :=
  let b := d.boot
  if k = 1 then journal kIntent 0 { d with boot := { b with intent := some i } }
  else if k = 2 then { d with boot := { b with svnFuses := max b.svnFuses (min i.svn 128) } }
  else if k = 3 then journal kFloor 0 { d with boot := { b with floor := b.floor.max i.floor } }
  else if k = 4 then journal kSlots 0 { d with boot := { b with confirmed := i.slot, trial := none } }
  else journal kUpdate 0 (journal kDone 0 { d with boot := { b with intent := none, update := { b.update with state := .idle } } })

/-- A confirmation that was interrupted is completed before a slot is chosen (R707). -/
def finishIntent (d : Device) : Device :=
  match d.boot.intent with
  | none => d
  | some i => [2, 3, 4, 5].foldl (confirmStep i) d

/-- A start that ends before it is complete is a failed attempt of its slot (R691). -/
def failStart (d : Device) : Device :=
  let starting := d.boot.romReady || decide (d.boot.stage = .stage1) || decide (d.boot.stage = .main) || d.boot.kettleRestarting
  if starting && !d.boot.startComplete && !decide (d.boot.stage = .recovery) then bump .startFails d.boot.running.index d else d

end Sys2Proof.Machine
end

