-- ==== Sys2Proof/Machine/Wake.lean ====
section
/-! DEFINITION. Power states, idle periods and the start of a wake (R738 to R745, R758). -/

namespace Sys2Proof.Machine

open Sys2Proof

/-- Entry time of a power state in ns (Table 18-3). -/
def entryTime : PState → Nat
  | .run => 0 | .gate => 1 * us | .retain => 20 * us | .dark => 600 * us | .park => 5 * ms | .backup => 0

/-- Wake time of a power state in ns (Table 18-3). -/
def wakeTime : PState → Nat
  | .run => 0 | .gate => 2 * us | .retain => 120 * us | .dark => 6 * ms | .park => 250 * ms | .backup => 0

/-- Codes of Table 18-3. -/
def PState.code : PState → Nat
  | .run => 0 | .gate => 1 | .retain => 2 | .dark => 3 | .park => 4 | .backup => 5

/-- A power state by its code, as an index. -/
def PState.fin (p : PState) : Fin 6 := ⟨p.code, by cases p <;> decide⟩

/-- The module is in RUN and neither enters nor leaves a power state. -/
def awake (d : Device) : Bool := decide (d.power.state = .run) && d.power.entering.isNone && d.power.waking.isNone

/-- Time in the current state that its STATE_MS has not counted, in ns. -/
def uncounted (d : Device) : Nat := (d.now - d.power.since) + d.power.rest[d.power.state.code]'(by cases d.power.state <;> decide)

/-- The module changes its power state; the time in the old one is counted (STATE_MS). -/
def changeState (p : PState) (d : Device) : Device :=
  let n := uncounted d
  let d := bumpBy .stateMs d.power.state.code (n / ms) d
  { d with power := { d.power with rest := vset d.power.rest d.power.state.fin (n % ms), state := p, since := d.now } }

/-- The idle period ends, and its length is an interval (R741). -/
def endIdle (t : Nat) (d : Device) : Device :=
  match d.power.idleSince with
  | none => d
  | some s => { d with power := { d.power with
      idleSince := none, intervals := ((t - s) :: d.power.intervals).take 8, measured := d.power.measured + 1 } }

/-- The wake to RUN starts from a state (R744, R745). -/
def startWake (p : PState) (d : Device) : Device :=
  { d with power := { d.power with entering := none, waking := some (p, d.now + wakeTime p) } }

/-- A wake trigger: the idle period ends; an entry in progress stops at its next safe point and the module wakes from the state that
it was entering (R744, R745). -/
def wakeUp (d : Device) : Device :=
  let d := endIdle d.now d
  match d.power.entering with
  | some p => startWake p (bump .wakeAbandoned 0 d)
  | none =>
    if d.power.state = .run ∨ d.power.state = .backup ∨ d.power.waking.isSome then d else startWake d.power.state d

/-- Opcodes of commands that need the grid or tier 1 (log entry 50). -/
def needsGrid (op : Nat) : Bool :=
  [0x20, 0x22, 0x23, 0x30, 0x34, 0x35, 0x40, 0x41, 0x42, 0x50, 0x51, 0x52, 0xC1].contains op

end Sys2Proof.Machine
end

