-- ==== Sys2Proof/Machine/Gutter.lean ====
section
/-! DEFINITION. The Gutter: sources, events, escalation, reactions, shadows, quiet periods, latching and the error pair
(chapter "Fault collection, self-test and reaction"). -/

namespace Sys2Proof.Machine

open Sys2Proof

/-! ### The source table (R648) -/

/-- How Table 16-1 names a source's block; the instance then gives the place. -/
inductive BlockKind where
  | none | tileCore | tier1 | tier2 | tier3 | tier12 | kettle | receivingCollar | eave | ridge | intake | collar
  | coreOrStrainer | strainer
  deriving DecidableEq, Repr

/-- One row of Table 16-1. -/
structure Source where
  num : Nat
  name : String
  cls : ClassId
  level : Nat
  enabled : Bool
  block : BlockKind
  deriving DecidableEq, Repr

/-- Table 16-1. -/
def sourceTable : List Source :=
  [⟨0, "SPAD_UNCORR", 0, 2, true, .tileCore⟩,
   ⟨1, "TIER1_UNCORR", 0, 2, true, .tier1⟩,
   ⟨2, "TIER2_UNCORR", 0, 2, true, .tier2⟩,
   ⟨3, "TIER3_UNCORR", 0, 2, true, .tier3⟩,
   ⟨4, "TIER_RECOVERED", 0, 1, true, .none⟩,
   ⟨5, "TIER2_DEVICE", 0, 2, true, .none⟩,
   ⟨6, "TIER_STACK_LOST", 0, 2, true, .tier12⟩,
   ⟨7, "TIER3_WEAR", 0, 1, true, .none⟩,
   ⟨8, "CADDY_WORN", 0, 1, true, .none⟩,
   ⟨9, "KETTLE_SRAM_UNCORR", 0, 3, true, .kettle⟩,
   ⟨16, "MESH_UNCORR", 1, 2, true, .receivingCollar⟩,
   ⟨17, "EAVE_UNCORR", 1, 2, true, .eave⟩,
   ⟨18, "EAVE_SEGMENT", 1, 2, true, .none⟩,
   ⟨19, "RIDGE_LINK_DOWN", 1, 2, true, .ridge⟩,
   ⟨20, "RIDGE_LANES_OUT", 1, 1, true, .none⟩,
   ⟨21, "RIDGE_SIDEBAND", 1, 1, true, .none⟩,
   ⟨22, "INTAKE_LINK", 1, 1, true, .intake⟩,
   ⟨23, "INTAKE_DROP", 1, 1, false, .none⟩,
   ⟨24, "PCIE_LINK", 1, 2, true, .none⟩,
   ⟨25, "PURLIN_ERR", 1, 2, true, .none⟩] ++
  [⟨32, "TILE_TRAP", 2, 1, true, .none⟩,
   ⟨33, "TILE_CORE_FAULT", 2, 2, true, .tileCore⟩,
   ⟨34, "COLLAR_FAULT", 2, 2, true, .collar⟩,
   ⟨35, "TILE_KAT", 2, 2, true, .tileCore⟩,
   ⟨36, "LANE_KAT", 2, 2, true, .coreOrStrainer⟩,
   ⟨37, "STRAINER_FAULT", 2, 2, true, .strainer⟩,
   ⟨38, "ACC_SATURATED", 2, 1, false, .none⟩,
   ⟨39, "GRID_CAPACITY", 2, 4, true, .none⟩,
   ⟨40, "REGEN_MISMATCH", 2, 4, true, .none⟩,
   ⟨41, "SELFTEST_OVERDUE", 2, 1, true, .none⟩,
   ⟨48, "FRAME_HOLD", 3, 1, true, .none⟩,
   ⟨49, "STEP_LATE", 3, 1, false, .none⟩,
   ⟨50, "SLATE_STALL", 3, 2, true, .none⟩,
   ⟨51, "SLATE_WRAP", 3, 1, true, .none⟩,
   ⟨52, "KETTLE_WDT", 3, 3, true, .kettle⟩,
   ⟨53, "KETTLE_LOCKSTEP", 3, 3, true, .kettle⟩,
   ⟨54, "MBX_ENGINE", 3, 5, true, .none⟩,
   ⟨55, "ERRPIN_READBACK", 3, 2, true, .none⟩,
   ⟨56, "FORCED_RELEASE", 3, 1, true, .none⟩,
   ⟨64, "CROSS_CAL", 4, 2, true, .none⟩] ++
  [⟨65, "TIME_LOCK", 4, 1, true, .none⟩,
   ⟨66, "PLL_LOCK", 4, 5, true, .none⟩,
   ⟨67, "REFCLK_LOSS", 4, 5, true, .none⟩,
   ⟨68, "THERMAL_WARN", 4, 1, true, .none⟩,
   ⟨69, "THERMAL_EMERGENCY", 4, 2, true, .none⟩,
   ⟨70, "THERMAL_TRIP", 4, 5, true, .none⟩,
   ⟨71, "VRM_PHASE", 4, 2, true, .none⟩,
   ⟨72, "VRM_OVERCURRENT", 4, 5, true, .none⟩,
   ⟨80, "TIER_AUTH", 5, 2, true, .none⟩,
   ⟨81, "DRBG_KAT", 5, 2, true, .none⟩,
   ⟨82, "TRNG_SELFTEST", 5, 2, true, .none⟩,
   ⟨83, "DEBUG_UNLOCK", 5, 4, true, .none⟩,
   ⟨84, "DEBUG_DENIED", 5, 1, true, .none⟩,
   ⟨85, "IMAGE_AUTH", 5, 1, true, .none⟩,
   ⟨86, "IDE_INTEGRITY", 5, 1, true, .none⟩,
   ⟨96, "SPAN_CONFIG_MISMATCH", 6, 2, true, .none⟩,
   ⟨97, "SPAN_MEMBER_LOST", 6, 2, true, .none⟩,
   ⟨98, "BARRIER_TIMEOUT", 6, 1, true, .none⟩,
   ⟨99, "PAIR_DIVERGE", 6, 4, true, .none⟩,
   ⟨112, "BACKUP_ALARM", 7, 2, true, .none⟩] ++
  [⟨113, "VBAT_LOW", 7, 1, true, .none⟩,
   ⟨114, "BACKUP_LOST", 7, 1, true, .none⟩]

/-- The row of a source; reserved numbers have none (R648). -/
def sourceRow (s : Nat) : Option Source := sourceTable.find? fun r => decide (r.num = s)

/-- The class of a source: sixteen sources a class (Table 0-8). -/
def classOf (s : SourceId) : ClassId := ⟨s.val / 16, by omega⟩

/-- ENABLE in effect; THERMAL_TRIP is always enabled (R644, R649). -/
def srcEnabled (d : Device) (s : Nat) : Bool :=
  match sourceRow s with
  | none => false
  | some r => decide (s = 70) || decide (cfgOr d (0x02000001 + s * 0x10000) (b2n r.enabled) = 1)

/-- LEVEL in effect (R650); THERMAL_TRIP is fixed at 5. -/
def srcLevel (d : Device) (s : Nat) : Nat :=
  match sourceRow s with
  | none => 0
  | some r => if s = 70 then 5 else cfgOr d (0x02000002 + s * 0x10000) r.level

/-- The default of a class setting (Table 16-3): 1 QUIET_MS, 2 THRESHOLD, 3 WINDOW_S. -/
def classDefault (k : Nat) (which : Nat) : Nat :=
  if which = 1 then (if k = 1 then 100 else if k = 4 then 10000 else if k = 5 then 60000 else if k = 7 then 1 else 1000)
  else if which = 2 then (if k = 7 then 0 else 8)
  else 3600

/-- A class setting in effect (Table 16-10). -/
def classCfg (d : Device) (k : ClassId) (which : Nat) : Nat :=
  cfgOr d (0x02800000 + k.val * 0x10000 + which) (classDefault k.val which)

/-- GUTTER_CTRL.EN in effect. -/
def gutterEn (d : Device) : Bool := decide (cfgOr d 0x02FF0001 1 = 1)

/-- ERRPIN_CTRL.MIN_ASSERT_US in effect. -/
def minAssertUs (d : Device) : Nat := cfgOr d 0x03000001 1000

/-- ERRPIN_CTRL.PAIR_TEST in effect. -/
def pairTest (d : Device) : Bool := decide (cfgOr d 0x03000002 0 = 1)

/-! ### Blocks and shadows -/

/-- The instance that stands for a force bit, which no place of the module holds (R672). -/
def forcedInstance : Nat := 1000000000

/-- The site whose router receives on direction `inst % 2` of mesh link `inst / 2`: link id = site × 2 + d (R626); on
direction 0 the beat runs to the east or north neighbour, on direction 1 back to the site. -/
def receivingSite (inst : Nat) : Nat :=
  let link := inst / 2
  let site := link / 2
  if inst % 2 = 1 then site else if link % 2 = 0 then site + 1 else site + 100

/-- The block that a level-3 reaction resets for a source's instance (Table 16-1); a forced event names no place, so it
has a block only where the block is unique. -/
def blockOf (k : BlockKind) (inst : Nat) : Option Block :=
  match k with
  | .none => none
  | .tier3 => some .tier3Ctl
  | .kettle => some .kettle
  | .intake => some .intake
  | _ =>
    if inst = forcedInstance then none
    else match k with
      | .tileCore => some (.tileCore inst)
      | .tier1 => some (.tier1Ctl inst)
      | .tier2 => some (.tier2Ctl (inst / 4))
      | .tier12 => some (if inst < 16 then .tier1Ctl inst else .tier2Ctl ((inst - 16) / 4))
      | .receivingCollar => some (.collar (receivingSite inst))
      | .eave => some (.eaveSegment inst)
      | .ridge => some (.ridgePort inst)
      | .collar => some (.collar inst)
      | .coreOrStrainer => some (if inst < 9600 then .tileCore inst else .strainer (inst - 9600))
      | .strainer => some (.strainer inst)
      | _ => none

/-- Whether a mesh link, by its id, is one of the four links of a site. -/
def linkOfSite (link site : Nat) : Bool :=
  decide (link / 2 = site) || decide (link = (site - 1) * 2 ∧ 0 < site) || decide (link = (site - 100) * 2 + 1 ∧ 100 ≤ site)

/-- Maximum reset time of a block in ns (Table 16-4). The module row ends when the Gutter is initialised. -/
def maxReset : Block → Nat
  | .tileCore _ => 20 * us
  | .collar _ => 20 * us
  | .eaveSegment _ => 200 * us
  | .tier1Ctl _ => 5 * ms
  | .tier2Ctl _ => 5 * ms
  | .tier3Ctl => 100 * ms
  | .strainer _ => 50 * us
  | .ridgePort _ => 500 * ms
  | .intake => 2 * ms
  | .kettle => 50 * ms
  | .module => 0

/-- Whether a window covers an instance of a source (Table 16-4). `reach` lists the members that are reached only
through the window's Ridge port. -/
def covers (w : Shadow) (reach : List Nat) (s inst : Nat) : Bool :=
  match w.block with
  | .tileCore n => (s = 0 ∨ s = 33 ∨ s = 35 ∨ s = 36 ∨ s = 32) && decide (inst = n)
  | .collar n =>
    (decide (s = 16) && linkOfSite (inst / 2) n) || (decide (s = 64) && linkOfSite inst n) ||
      (decide (s = 34) && decide (inst = n)) || (decide (s = 48) && w.tenants.contains inst)
  | .eaveSegment n => (decide (s = 17) && decide (inst = n)) || (decide (s = 48) && w.tenants.contains inst)
  | .tier1Ctl n => ((s = 1 ∨ s = 4 ∨ s = 6) && decide (inst = n)) || decide (s = 48)
  | .tier2Ctl n =>
    ((s = 2 ∨ s = 5) && decide (inst / 4 = n)) || ((s = 4 ∨ s = 6) && decide (16 ≤ inst ∧ (inst - 16) / 4 = n)) ||
      decide (s = 48)
  | .tier3Ctl => s = 3 ∨ s = 7 ∨ s = 50 ∨ s = 48
  | .strainer n => (decide (s = 37) && decide (inst = n)) || (decide (s = 36) && decide (inst = 9600 + n))
  | .ridgePort n =>
    ((s = 19 ∨ s = 20 ∨ s = 21) && decide (inst = n)) || ((s = 98 ∨ s = 97) && reach.contains inst)
  | .intake => s = 22 ∨ s = 23
  | .kettle => (s = 52 ∨ s = 53 ∨ s = 9) || (decide (s = 25) && decide (inst % 4 = 1))
  | .module => decide (s < 112) && !decide (s = 55)

/-- Members of the span reached only through one port. -/
def onlyThrough (d : Device) (p : Nat) : List Nat :=
  (d.span.peers.filter fun m => decide (m.ports = [p])).map fun m => (firstFree (fun i => bitAt m.indices i) 0 16).getD 0

/-- Whether an open window covers an instance of a source (R662). -/
def shadowed (d : Device) (s inst : Nat) : Bool :=
  d.gutter.shadows.any fun w => covers w (match w.block with | .ridgePort p => onlyThrough d p | _ => []) s inst

/-! ### Conditions -/

/-- The condition of a source is present: an instance holds it, or its force bit is set (R643). -/
def condPresent (d : Device) (s : Nat) : Bool :=
  (d.gutter.cond.any fun p => decide (p.1 = s)) || d.gutter.force.getLsbD s

/-- The sources of a class. -/
def classSources (k : ClassId) : List Nat := rangeFrom (16 * k.val) 16

/-- A mask of a class's sources. -/
def classMask (k : ClassId) : BitVec 128 := (BitVec.ofNat 128 0xFFFF) <<< (16 * k.val)

/-! ### The error pair (R665) -/

/-- The pair must show fault (R665), which it also does while the boot waits for the reference or for the junctions to cool
(R728, R736). -/
def pairWantsFault (d : Device) : Bool :=
  !d.gutter.initDone || d.boot.inReset || !gutterEn d || pairTest d ||
    (d.boot.romReady && (d.boot.tripHold || !d.clocks.refclk || !d.clocks.locked)) ||
    (d.gutter.cls.toList.any fun c => c.inFault && decide (4 ≤ c.applied)) ||
    ((List.range 128).any fun s => d.gutter.latched.getLsbD s && decide (4 ≤ srcLevel d s))

/-- The pair and its pins driven to a state (Table 16-6); both pins are sensed as driven. Without input power both legs are low. -/
def drivePair (fault : Bool) (d : Device) : Device :=
  let p := d.pins.vin && !fault
  let n := d.pins.vin && fault
  { d with
    gutter := { d.gutter with pairFault := fault }
    pins := { d.pins with errP := p, errN := n, senseP := some p, senseN := some n } }

/-- The pair goes to fault. -/
def assertPair (d : Device) : Device :=
  if d.gutter.pairFault then d
  else
    let d := drivePair true (bump .pairAssertions 0 d)
    { d with gutter := { d.gutter with pairSince := d.now } }

/-- The pair goes back to healthy, and the milliseconds at fault are counted. -/
def releasePair (d : Device) : Device :=
  if d.gutter.pairFault then drivePair false (bumpBy .pairFaultMs 0 ((d.now - d.gutter.pairSince) / ms) d) else d

/-- The pair evaluated under R665: it stays at fault for at least MIN_ASSERT_US. -/
def evalPair (d : Device) : Device :=
  if pairWantsFault d then assertPair d
  else if d.gutter.pairFault && decide (d.gutter.pairSince + minAssertUs d * us ≤ d.now) then releasePair d
  else d

/-! ### Quiet periods -/

/-- The record of a class. -/
def classRec (d : Device) (k : ClassId) : GClass := d.gutter.cls[k.val]'k.isLt

/-- A class record changed. -/
def modClass (k : ClassId) (f : GClass → GClass) (d : Device) : Device :=
  { d with gutter := { d.gutter with cls := vmod d.gutter.cls k f } }

/-- Whether the quiet period of a class may run (R656). -/
def mayBeQuiet (d : Device) (k : ClassId) : Bool :=
  (classRec d k).inFault && !(d.gutter.resets.any fun r => decide (r.cls = k)) && d.gutter.resetDue.isNone &&
    !((classSources k).any (condPresent d)) && decide (d.gutter.latched &&& classMask k = 0)

/-- The quiet period of a class starts, goes on or stops as R656 has it. -/
def requiet (k : ClassId) (d : Device) : Device :=
  if mayBeQuiet d k then
    (if (classRec d k).quiet.isNone then modClass k (fun c => { c with quiet := some (d.now, classCfg d k 1) }) d else d)
  else modClass k (fun c => { c with quiet := none }) d

/-- The quiet period of a class restarts. -/
def restartQuiet (k : ClassId) (d : Device) : Device :=
  requiet k (modClass k (fun c => { c with quiet := none }) d)

/-- Every class's quiet period looked at again. -/
def requietAll (d : Device) : Device := ([0, 1, 2, 3, 4, 5, 6, 7] : List ClassId).foldl (fun d k => requiet k d) d

/-! ### Reactions (R650) -/

/-- The Kettle goes down for a restart (Table 17-1): MBX_READY falls until the firmware serves mailboxes again, the restart is
counted and announced, and every command in execution has then spanned it (R639, R640). A start that was not complete
counts as a failed attempt (R691). A restart before the main firmware runs, or in recovery mode, leaves the boot where it is. -/
def kettleDown (d : Device) : Device :=
  let d := failStart d
  let d :=
    { d with
      boot := { d.boot with
        stage := if d.boot.stage = .main then .rom else d.boot.stage
        mbxReady := false, kettleRestarting := true, startComplete := false
        restarts := min (d.boot.restarts + 1) 0xFFFFFFFF }
      host := { d.host with mbx := d.host.mbx.map fun m => { m with started := m.started.map fun c => { c with kr := true } } } }
  announceState d

/-- The slot that a Kettle restart starts (R693): the one that ran, until its third failed attempt; then the ROM chooses again
(R690). A restart in recovery mode starts none. -/
def restartSlot (d : Device) : Device :=
  if d.boot.stage = .recovery then d
  else if slotAttempts (d.slot d.boot.running) < 3 then startAttempt d.boot.running d
  else match chooseSlot d with
    | (some k, d) => startAttempt k { d with boot := { d.boot with running := k, switching := some 6 } }
    | (none, d) => { d with boot := { d.boot with noSlot := true } }

/-- A Kettle restart of a level-3 reaction begins. -/
def beginKettleRestart (d : Device) : Device := restartSlot (kettleDown d)

/-- A Kettle restart into a slot begins, with its cause code (R694, R704). -/
def restartInto (k : Slot) (cause : Nat) (d : Device) : Device :=
  let d := kettleDown d
  startAttempt k { d with boot := { d.boot with running := k, switching := some cause } }

/-- Tenants whose active epoch routes through a collar. -/
def tenantsOnCollar (d : Device) (site : Nat) : List Nat :=
  ((allTenants.filter fun t => (d.tenant t).isOpen && (d.tenant t).epoch.collars.contains site)).map (·.val)

/-- Tenants whose active epoch uses a ring segment. -/
def tenantsOnSegment (d : Device) (seg : Nat) : List Nat :=
  ((allTenants.filter fun t => (d.tenant t).isOpen && (d.tenant t).epoch.segments.contains seg)).map (·.val)

/-- The tenants whose FRAME_HOLD a block's window covers, fixed as the reset begins (Table 16-4). -/
def shadowTenants (d : Device) : Block → List Nat
  | .collar n => tenantsOnCollar d n
  | .eaveSegment n => tenantsOnSegment d n
  | _ => []

/-- A block reset begins and opens its shadow window (R650 level 3, R662). -/
def beginBlockReset (b : Block) (k : ClassId) (d : Device) : Device :=
  let w : Shadow := { block := b, tenants := shadowTenants d b, closeAt := d.now + maxReset b + 100 * us }
  let d := { d with gutter := { d.gutter with
    resets := d.gutter.resets ++ [{ block := b, cls := k, start := d.now }], shadows := d.gutter.shadows ++ [w] } }
  if b = .kettle then beginKettleRestart d else d

/-- Level 1: the Gutter's vectors, and GUTTER_TENANT of the tenant charged (R650). -/
def reactMessage (k : ClassId) (charge : Option TenantId) (d : Device) : Device :=
  let d := sendMsix 0 9 d
  match charge with
  | none => d
  | some t =>
    sendMsix (vfOf t) 2 { d with gutter := { d.gutter with
      tenantClasses := vmod d.gutter.tenantClasses t fun b => b ||| (1#8 <<< k.val) } }

/-- Level 2: the trap, queued at most once a source during a Kettle restart (R650, R671). -/
def reactTrap (s : SourceId) (d : Device) : Device :=
  if d.boot.kettleRestarting then
    (if d.gutter.traps.getLsbD s.val then d
     else bump .trapsQueued 0 { d with gutter := { d.gutter with traps := d.gutter.traps ||| (1#128 <<< s.val) } })
  else emit (.trap s.val) d

/-- The actions of every level from 1 to n (R650, R651); an event at level 2 or above wakes the module (R744). Level 4 is the pair, which `evalPair` drives from the applied
level; level 5 sets the instant at which the module reset begins. A reset of the Kettle begins before the handler of the trap could be
entered, so that the trap is queued (R671, log entry 60). -/
def react (s : SourceId) (n : Nat) (inst : Nat) (charge : Option TenantId) (d : Device) : Device :=
  let k := classOf s
  let d := reactMessage k charge d
  let d := if 3 ≤ n then
      (match (sourceRow s.val).bind fun r => blockOf r.block inst with
       | some b => beginBlockReset b k d
       | none => d)
    else d
  let d := if 2 ≤ n then wakeUp (reactTrap s d) else d
  if 5 ≤ n then { d with gutter := { d.gutter with resetDue := some (match d.gutter.resetDue with | some t => t | none => d.now + 10 * us) } }
  else d

/-- The effective level of an event of a source (R652): the LEVEL, one higher while a sticky bit of the class is set. -/
def effectiveLevel (d : Device) (s : SourceId) : Nat :=
  min 5 (srcLevel d s.val + (if d.gutter.sticky &&& classMask (classOf s) = 0 then 0 else 1))

/-- The fault class charged to a tenant's step (Table 13-7 CLASS_MASK). -/
def chargeStep (s : SourceId) (charge : Option TenantId) (d : Device) : Device :=
  match charge with
  | none => d
  | some t => modStep t (fun x => { x with classMask := x.classMask ||| (1#8 <<< (classOf s).val) }) d

/-- The instances of one source that report in one Gutter cycle, none covered by a window: one reacting event, each
instance counted in EVENTS (R645, R661). While GUTTER_CTRL.EN is 0 it is recorded and takes no action, THERMAL_TRIP
excepted (R797). -/
def reactingEvent (s : SourceId) (insts : List Nat) (charge : Option TenantId) (d : Device) : Device :=
  let k := classOf s
  let n := effectiveLevel d s
  let esc := decide (srcLevel d s.val < n) || (decide (srcLevel d s.val = 5) && !decide (d.gutter.sticky &&& classMask k = 0))
  let d := bumpBy .events s.val insts.length d
  let d := if esc then bump .escalations s.val d else d
  let d := { d with gutter := { d.gutter with
    sticky := d.gutter.sticky ||| (1#128 <<< s.val), lastLevel := vset d.gutter.lastLevel s n } }
  let d := modClass k (fun c => { c with
    inFault := true, applied := if c.inFault then max c.applied n else n, quiet := none }) d
  let d := if gutterEn d || decide (s.val = 70) then react s n (insts.headD 0) charge d else d
  chargeStep s charge d

/-- The Gutter's part of the events of one source in one cycle (R644, R645): shadowed instances count in SHADOWED only. Until the
Gutter is initialised it acts on none (R668). -/
def sourceEvent (s : SourceId) (insts : List Nat) (charge : Option TenantId) (d : Device) : Device :=
  if srcEnabled d s.val && d.gutter.initDone then
    let cov := insts.filter (shadowed d s.val)
    let open_ := insts.filter fun i => !shadowed d s.val i
    let d := bumpBy .shadowed s.val cov.length d
    let d := match charge with
      | some t => modStep t (fun x => { x with shadowed := x.shadowed + cov.length }) d
      | none => d
    if open_.isEmpty then d else reactingEvent s open_ charge d
  else d

/-- The end of a Gutter cycle (R661 steps 4 and 5): quiet periods and the pair. -/
def endCycle (d : Device) : Device := evalPair (requietAll d)

/-- A single occurrence of a source at one instance, as a Gutter cycle of its own. -/
def occur (s : SourceId) (inst : Nat) (charge : Option TenantId) (d : Device) : Device :=
  endCycle (sourceEvent s [inst] charge d)

/-- A condition of a source becomes present at an instance: an event when the source's condition was absent (R643). -/
def condBegin (s : SourceId) (inst : Nat) (charge : Option TenantId) (d : Device) : Device :=
  if d.gutter.cond.contains (s.val, inst) then d
  else
    let was := condPresent d s.val
    let d := { d with gutter := { d.gutter with cond := d.gutter.cond ++ [(s.val, inst)] } }
    if was then endCycle d else endCycle (sourceEvent s [inst] charge d)

/-- A condition of a source ends at an instance; the sticky bit stays (R646). -/
def condEnd (s : SourceId) (inst : Nat) (d : Device) : Device :=
  endCycle { d with gutter := { d.gutter with cond := d.gutter.cond.filter fun p => !decide (p = (s.val, inst)) } }

/-- An acknowledgement clears sticky bits; acknowledging the last latched source of a class clears its latches and
restarts its quiet period (R646, R659). -/
def acknowledge (mask : BitVec 128) (d : Device) : Device :=
  let before := d.gutter.latched
  let d := { d with gutter := { d.gutter with sticky := d.gutter.sticky &&& ~~~mask, latched := before &&& ~~~mask } }
  ([0, 1, 2, 3, 4, 5, 6, 7] : List ClassId).foldl (fun d k =>
    if before &&& classMask k ≠ 0 ∧ d.gutter.latched &&& classMask k = 0 then restartQuiet k d else d) d

/-- The class leaves the fault state (R656, R657). -/
def autoExit (k : ClassId) (d : Device) : Device :=
  modClass k (fun c => { c with inFault := false, applied := 0, quiet := none }) d

/-- The end of a class's quiet period (R656, R658, R660): RECOVERY rises; the class exits, or, when this exit would be
the THRESHOLD-th within WINDOW_S and a sticky bit of the class is set, its sticky sources latch and it stays. -/
def quietEnds (k : ClassId) (d : Device) : Device :=
  let c := classRec d k
  let th := classCfg d k 2
  let recent := (c.exits.filter fun t => decide (d.now ≤ t + classCfg d k 3 * sec)).length + 1
  let latch := decide (0 < th) && decide (th ≤ recent) && !decide (d.gutter.sticky &&& classMask k = 0)
  let d := modClass k (fun c => { c with
    recovery := min (c.recovery + 1) 65535, exits := (d.now :: c.exits).take (max th 1), quiet := none }) d
  if latch then
    bump .latchEvents k.val { d with gutter := { d.gutter with latched := d.gutter.latched ||| (d.gutter.sticky &&& classMask k) } }
  else autoExit k d

end Sys2Proof.Machine
end

