-- ==== Sys2Proof/Machine/Mailbox.lean ====
section
/-! DEFINITION. The mailbox engine: entries, the checks every command meets, completions, rings, deadlines and flushes
(chapter "Mailboxes and the host interface"). -/

namespace Sys2Proof.Machine

open Sys2Proof

/-! ### The fields of an entry (Table 15-5, Table 15-9) -/

end Sys2Proof.Machine

namespace Sys2Proof

open Sys2Proof.Machine

/-- Word n of an entry as a number. -/
def Call.w (c : Call) (n : Fin 8) : Nat := (c.words[n.val]'n.isLt).toNat

/-- TAG. -/
def Call.tag (c : Call) : W32 := BitVec.ofNat 32 (c.w 0 >>> 32)

/-- CLASS: 0 urgent, 1 normal. -/
def Call.cls (c : Call) : Nat := field (c.w 0) 18 1

/-- TENANT. -/
def Call.tenant (c : Call) : TenantId := ⟨field (c.w 0) 16 2, Nat.mod_lt _ (by decide)⟩

/-- NO_INT. -/
def Call.noInt (c : Call) : Bool := bitAt (c.w 0) 15

/-- Flag n, bit n of word 0, for n from 8 to 14. -/
def Call.flag (c : Call) (n : Nat) : Bool := bitAt (c.w 0) n

/-- OPCODE. -/
def Call.opcode (c : Call) : Nat := field (c.w 0) 0 8

end Sys2Proof

namespace Sys2Proof.Machine

open Sys2Proof

/-- What Table 15-9 and the rules about whole groups of commands say of an opcode. -/
structure OpInfo where
  /-- OPCODE. -/
  code : Nat
  /-- "Mbx" is 8 only. -/
  only8 : Bool := false
  /-- It acts on one tenant, which must be open on whatever mailbox it comes (R618). -/
  byTenant : Bool := false
  /-- It is one of the four that R618 excepts from the open-tenant check. -/
  excepted : Bool := false
  /-- It is a compute command (R613). -/
  compute : Bool := false
  /-- The engine executes it (R617). -/
  engine : Bool := false
  /-- It is refused while the Caddy is read-only (R633, R698). -/
  caddy : Bool := false
  /-- The flag bits the table names. -/
  flags : Nat := 0
  /-- The bits of W1 to W7 that the table names; words beyond the list are reserved. -/
  masks : List Nat := []
  deriving DecidableEq, Repr

/-- All 64 bits of a word. -/
def allBits : Nat := 2 ^ 64 - 1

/-- The packed row word of Table 15-8: bit 23 is reserved. -/
def rowBits : Nat := allBits - 2 ^ 23

/-- Table 15-9. -/
def opTable : List OpInfo :=
  [{ code := 0x01, excepted := true, engine := true, masks := [allBits, 0xFFFF] },
   { code := 0x02, excepted := true, masks := [allBits, 0xFFFF, 0x1FF] },
   { code := 0x03, excepted := true, masks := [allBits, 0xFFFF, 0x3FFFF] },
   { code := 0x10, only8 := true, masks := [3, 0xFFFFFFFF] },
   { code := 0x11, only8 := true, flags := 0x100, masks := [3] },
   { code := 0x12, only8 := true, caddy := true, flags := 0x100,
     masks := [0xF, 2 ^ 42 - 1, 2 ^ 42 - 1, 2 ^ 42 - 1, 2 ^ 42 - 1, 0xFFFF] },
   { code := 0x20, byTenant := true, flags := 0x300, masks := [allBits, 0xFFFF, allBits, allBits] },
   { code := 0x21, byTenant := true, flags := 0x100, masks := [0xFFFFFFFF] },
   { code := 0x22, byTenant := true, flags := 0x100, masks := [allBits, allBits, 0xFFFFFFFF, allBits, 0xFFFF, allBits, 1] },
   { code := 0x23, byTenant := true, flags := 0x100, masks := [0xFFFFFFFF, allBits, allBits, allBits, 0xFFFF] },
   { code := 0x24, byTenant := true, masks := [0xFFFFFFFF, 7] },
   { code := 0x30, byTenant := true, compute := true, masks := [0xFFFFFFFF, allBits, allBits, 0xFFFFFFFF, 0x3FFFFFFF] },
   { code := 0x31, byTenant := true, engine := true, masks := [0xFFFFFFFF] },
   { code := 0x32, byTenant := true, masks := [allBits, allBits] },
   { code := 0x33, byTenant := true },
   { code := 0x34, byTenant := true, masks := [1, allBits, 0xFFFF] },
   { code := 0x35, byTenant := true, flags := 0x100, masks := [0xFFFF0001, allBits, 0xFFFF] },
   { code := 0x40, byTenant := true, compute := true, masks := [rowBits, allBits, 0x7FF, 2 ^ 48 - 1, allBits, 0xFFFF] },
   { code := 0x41, byTenant := true, compute := true,
     masks := [0xFFFFFFFF, allBits, allBits, 2 ^ 36 - 1, allBits, 0xFF07FF, allBits] }] ++
  [{ code := 0x42, byTenant := true, compute := true, masks := [rowBits, allBits, 0xF07FF, 2 ^ 48 - 1, allBits, 0xFFFF] },
   { code := 0x50, byTenant := true, masks := [0xFFFFFFFF, 2 ^ 40 - 1] },
   { code := 0x51, byTenant := true, compute := true, flags := 0x100, masks := [0xFFFFFFFF, 0xFFFFFFFF] },
   { code := 0x52, byTenant := true, masks := [0xFFFFFFFF, 0xFFFFFFFF, 0xFFFFFFFF] },
   { code := 0x60, only8 := true, masks := [allBits, 0xFFFF] },
   { code := 0x61, only8 := true, masks := [0x1FF01FF] },
   { code := 0x62, byTenant := true, masks := [allBits, allBits, allBits, allBits, allBits, 0x101FF] },
   { code := 0x70, caddy := true, flags := 0x100,
     masks := [0xFFFFFFFF, allBits, 0xFFFFFFFF, allBits, 0xFFFFFFFF, allBits, 7] },
   { code := 0x71, caddy := true, flags := 0x100, masks := [7, 0xFFFF] },
   { code := 0x72, masks := [0xFFFFFFFF] },
   { code := 0x80, excepted := true, engine := true, masks := [allBits, 0xFFFF] },
   { code := 0x81, only8 := true, engine := true, masks := [allBits, allBits] },
   { code := 0x82, only8 := true, engine := true, masks := [0x37F] },
   { code := 0x83, only8 := true, caddy := true, masks := [0xF3FFF] },
   { code := 0x90, only8 := true, caddy := true, masks := [allBits, 0xFFFF] },
   { code := 0x91, only8 := true, caddy := true, masks := [0xFFFFFFFF, allBits, 0xFFFF] },
   { code := 0x92, only8 := true, caddy := true },
   { code := 0x93, only8 := true, caddy := true },
   { code := 0x94, only8 := true, caddy := true }] ++
  [{ code := 0x95, only8 := true, masks := [0xFF] },
   { code := 0xA0, only8 := true, masks := [0x1F, allBits, 0xFFFF] },
   { code := 0xA1, only8 := true, masks := [1] },
   { code := 0xB0, caddy := true,
     masks := [0x1010F0303011F, allBits, allBits, 0x1FFFF, allBits, 0xFFFF0000FFFF] },
   { code := 0xB1, masks := [0x31F, 0xFFFFFFFF] },
   { code := 0xC0, flags := 0x300, masks := [allBits, 0xFFFFFFFF, allBits, 0xFFFF] },
   { code := 0xC1, byTenant := true, compute := true, flags := 0x300,
     masks := [allBits, allBits, allBits, allBits, 0xFFFFFFFF, allBits, 0xFFFFFFFF] }]

end Sys2Proof.Machine

namespace Sys2Proof

open Sys2Proof.Machine

/-- What the table says of the opcode of an entry. -/
def Call.info (c : Call) : Option OpInfo := opTable.find? fun o => decide (o.code = c.opcode)

/-- A reserved bit of the entry is set (R620). -/
def Call.reservedSet (c : Call) (o : OpInfo) : Bool :=
  decide (field (c.w 0) 19 13 ≠ 0) || decide ((field (c.w 0) 8 7) * 256 &&& (0x7F00 - o.flags) ≠ 0) ||
    (List.range 7).any fun i => decide ((c.words.toList.getD (i + 1) 0).toNat &&& (allBits - o.masks.getD i 0) ≠ 0)

end Sys2Proof

namespace Sys2Proof.Machine

open Sys2Proof

/-- The module is in recovery mode (R708). -/
def recovering (d : Device) : Bool := decide (d.boot.stage = .recovery)

/-- The reason codes of Table 15-11 that several families use. -/
def rsnIndexUncarried : Nat := 0x34
def rsnWrongMailbox : Nat := 0x60
def rsnReservedSet : Nat := 0x61
def rsnBufferShort : Nat := 0x62
def rsnBufferFault : Nat := 0x63
def rsnUnknownHandle : Nat := 0x64
def rsnStepSequence : Nat := 0x65
def rsnFieldScope : Nat := 0x66

/-- The checks that every command meets before its own (R604, R618, R620, R633), in that order (log entry 20): the
completion that refuses it, if any. -/
def preCheck (c : Call) (d : Device) : Option (Status × Nat) :=
  if c.mbx.val < 8 ∧ c.tenant.val * 2 + c.cls ≠ c.mbx.val then some (.badParam, rsnWrongMailbox)
  else match c.info with
    | none => some (.badOpcode, 0)
    | some o =>
      if o.only8 ∧ c.mbx.val ≠ 8 then some (.notOwner, 0)
      else if c.reservedSet o then some (.badParam, rsnReservedSet)
      else if (o.byTenant ∨ (c.mbx.val < 8 ∧ !o.excepted)) ∧ !(d.tenant c.tenant).isOpen then some (.notOwner, 0)
      else if o.caddy ∧ d.caddy.readOnly then some (.caddyReadonly, 0)
      else none

/-! ### Buffers (R610, R611) -/

/-- What reading or writing the buffer list of a command meets. -/
inductive Buf where
  | ok (bytes : List Byte)
  | short
  | fault
  deriving DecidableEq, Repr

end Sys2Proof.Machine

namespace Sys2Proof

open Sys2Proof.Machine

/-- The list of word n has entries: its count word is not 0. -/
def Call.hasList (c : Call) (countWord : Fin 8) : Bool := decide (field (c.w countWord) 0 16 ≠ 0)

/-- Reading n bytes from the buffer list whose count stands in the given word. -/
def Call.readBuf (c : Call) (countWord : Fin 8) (n : Nat) : Buf :=
  let room := if c.hasList countWord then c.room else 0
  if room < n then .short else if c.dmaFails ∧ 0 < n then .fault else .ok (fit n c.data)

end Sys2Proof

namespace Sys2Proof.Machine

open Sys2Proof

/-! ### Mailboxes and completions -/

/-- The state of a mailbox. -/
def Device.mb (d : Device) (m : MailboxId) : Mailbox := d.host.mbx[m.val]'m.isLt

/-- A mailbox changed. -/
def modMbx (m : MailboxId) (f : Mailbox → Mailbox) (d : Device) : Device :=
  { d with host := { d.host with mbx := vmod d.host.mbx m f } }

/-- A function shows a mailbox (R592, R598). -/
def shows (fn : FunctionId) (m : MailboxId) : Bool :=
  decide (fn.val = 0) || (decide (m.val < 8) && decide (m.val / 2 + 1 = fn.val))

/-- Entries of a completion: one, and its continuations (R605). -/
def Completion.entries (c : Completion) : Nat := 1 + c.ext

/-- STATUS.OVERFLOW: entries that wait for ring room, at most 64; completions behind them are held by whoever posts them
(R607). -/
def Mailbox.overflowEntries (m : Mailbox) : Nat := min 64 ((m.overflow.map Completion.entries).sum)

/-- The overflow queue can take another completion (R607). -/
def Mailbox.hasRoom (m : Mailbox) : Bool := decide ((m.overflow.map Completion.entries).sum < 64)

/-- Two entries are the same command of one mailbox: all eight words agree, the TAG among them. -/
def sameCommand (a b : Call) : Bool := decide (a.words = b.words)

/-- The record of a started command. -/
def startedRec (d : Device) (c : Call) : Option Started := (d.mb c.mbx).started.find? fun x => sameCommand x.call c

/-- The deadline of the first completion in ns (Table 15-7). -/
def firstDeadline (cls : Nat) : Nat := if cls = 0 then 1 * ms else 10 * ms

/-- When a started command's first completion is due (R613). -/
def dueTime (d : Device) (x : Started) : Nat :=
  let engine := match x.call.info with | some o => o.engine | none => false
  (if engine then x.rung else max x.rung d.boot.readySince) + firstDeadline x.call.cls

/-- Continuation entries that a result of n bytes takes (R605). -/
def extOf (n : Nat) : Nat := (n - 24 + 23) / 24

/-- The overflow queue of a mailbox takes a completion. -/
def queueCompletion (m : MailboxId) (k : Completion) (d : Device) : Device :=
  modMbx m (fun x => { x with overflow := x.overflow ++ [k] }) d

/-- A command posts a completion. With MORE = 0 it is finished and leaves the started commands; KR tells whether its
execution spanned a Kettle restart (R640). Accepted, flushed and late completions are counted (Table 15-14). -/
def post (c : Call) (st : Status) (reason : Nat) (result : List Byte) (more : Bool) (d : Device) : Device :=
  let r := startedRec d c
  let kr := match r with | some x => x.kr | none => false
  let late := match r with
    | some x => !x.first && !x.compute && !x.kr && decide (dueTime d x < d.now)
    | none => false
  let d := if late then bump .mbxLate c.mbx.val d else d
  let d := if st = .accepted then bump .mbxAccepted c.mbx.val d else if st = .flushed then bump .mbxFlushed c.mbx.val d else d
  let d := queueCompletion c.mbx
    { tag := c.tag, status := st, reason := reason, more := more, kr := kr, ext := extOf result.length, result := result,
      noInt := c.noInt, w0 := c.words[0] } d
  modMbx c.mbx (fun x => { x with
    started :=
      if more then x.started.map (fun y => if sameCommand y.call c then { y with first := true } else y)
      else x.started.eraseP (fun y => sameCommand y.call c) }) d

/-- A final completion without result bytes. -/
def finish (c : Call) (st : Status) (reason : Nat) (d : Device) : Device := post c st reason [] false d

/-- BAD_PARAM with a reason. -/
def badParam (c : Call) (reason : Nat) (d : Device) : Device := finish c .badParam reason d

/-- BUFFER_SHORT, with the length needed (R611). -/
def bufferShort (c : Call) (need : Nat) (d : Device) : Device := post c .badParam rsnBufferShort (leBytes 8 need) false d

/-- BUFFER_FAULT (R611). -/
def bufferFault (c : Call) (d : Device) : Device := badParam c rsnBufferFault d

/-- A command that needs n bytes of its buffer list goes on with them, or is refused under R611; a list of more than
4,096 entries is refused (R610). -/
def withBuf (c : Call) (countWord : Fin 8) (n : Nat) (k : List Byte → Device → Device) (d : Device) : Device :=
  if 4096 < field (c.w countWord) 0 16 then badParam c 0 d
  else match c.readBuf countWord n with
    | .ok bs => k bs d
    | .short => bufferShort c n d
    | .fault => bufferFault c d

/-- A command writes bytes to its buffer list and goes on, or is refused under R611. -/
def withOut (c : Call) (countWord : Fin 8) (bytes : List Byte) (k : Device → Device) (d : Device) : Device :=
  if 4096 < field (c.w countWord) 0 16 then badParam c 0 d
  else match c.readBuf countWord bytes.length with
    | .ok _ => k (if bytes.isEmpty then d else emit (.hostBuffer c.mbx.val c.tag bytes) d)
    | .short => bufferShort c bytes.length d
    | .fault => bufferFault c d

/-- The entry is among the commands in execution: taken from the ring copy when it came that way (R602, R615); a command that
came without a doorbell is recorded as one that it made visible (R641). -/
def acceptCall (c : Call) (d : Device) : Device :=
  modMbx c.mbx (fun x =>
    if x.started.any fun y => sameCommand y.call c then
      { x with started := x.started.map (fun y => if sameCommand y.call c then { y with call := c } else y) }
    else
      let compute := match c.info with | some o => o.compute | none => false
      let own := x.taken.find? fun y => decide (y.entry = c.words)
      let rung := match own with | some y => y.rung | none => d.now
      { x with
        records := if own.isSome then x.records else x.records ++ [c.words[0]]
        taken := x.taken.eraseP fun y => decide (y.entry = c.words)
        started := x.started ++ [{ call := c, rung := rung, first := compute, compute := compute }] }) d

/-- Opcodes that the ROM serves in recovery mode (R709). -/
def recoveryOpcode (op : Nat) : Bool :=
  op = 0x01 ∨ op = 0x80 ∨ op = 0x81 ∨ op = 0x82 ∨ op = 0x90 ∨ op = 0x91 ∨ op = 0x92 ∨ op = 0x93

/-- A command that the firmware executes: it waits for MBX_READY, is refused by the common checks, or runs (R613, R617,
R620). In recovery mode only mailbox 8 of the physical function is served, and only the opcodes of R709. A command that needs
the grid or tier 1 wakes the module and waits until it is in RUN (R744). -/
def runFw (c : Call) (body : Device → Device) (d : Device) : Device :=
  if d.boot.inReset then d
  else if recovering d then
    (if c.mbx.val = 8 ∧ c.fn.val = 0 then
      let d := acceptCall c d
      if d.boot.kettleRestarting then d
      else if recoveryOpcode c.opcode then
        (match preCheck c d with
         | some (st, r) => finish c st r d
         | none => body d)
      else finish c .busy 0 d
     else d)
  else
    let d := acceptCall c d
    if d.boot.mbxReady then
      (match preCheck c d with
       | some (st, r) => finish c st r d
       | none => if needsGrid c.opcode && !awake d then wakeUp d else body d)
    else d

/-- A command that the engine executes (R617): it needs ENGINE_READY only. -/
def runEngine (c : Call) (body : Device → Device) (d : Device) : Device :=
  if recovering d ∧ ¬(c.mbx.val = 8 ∧ c.fn.val = 0) then d
  else if d.boot.engineReady then
    let d := acceptCall c d
    match preCheck c d with
    | some (st, r) => finish c st r d
    | none => if recovering d ∧ !recoveryOpcode c.opcode then finish c .busy 0 d else body d
  else d

/-! ### Host writes and IDE (R594) -/

/-- A host access that IDE_REQUIRED lets through; one outside an established stream is counted and ignored. None reaches a module
that is held in reset. -/
def hostAccess (fn : FunctionId) (ide : Bool) (k : Device → Device) (d : Device) : Device :=
  if d.boot.inReset then d
  else if ideRequired d && !(ide && d.host.ide[fn.val]'fn.isLt) then bump .ideRejects fn.val d else k d

/-! ### Command rings -/

/-- Offset of slot i of the command ring and of the completion ring in a mailbox's part of BAR2 (R600). -/
def cmdSlot (i : Nat) : Nat := 64 * (i % 256)
def cplSlot (i : Nat) : Nat := 0x4000 + 32 * (i % 256)

/-- The distance from index a to index b modulo 512 (R601). -/
def ringDist (a b : BitVec 9) : Nat := (b - a).toNat

/-- Word n of the entry at an index of the command ring. -/
def ringWord (m : Mailbox) (i n : Nat) : W64 := BitVec.ofNat 64 (m.ring.readLe (cmdSlot i + 8 * n) 8)

/-- The eight words of the entry at an index of the command ring. -/
def ringEntry (m : Mailbox) (i : Nat) : Vector W64 8 := Vector.ofFn fun n => ringWord m i n.val

/-- A doorbell for an entry is a wake trigger: its command needs the grid or tier 1, or, in PARK, the firmware executes it (R744). -/
def doorbellWakes (d : Device) (w0 : W64) : Bool :=
  let op := field w0.toNat 0 8
  let engine := match opTable.find? fun o => decide (o.code = op) with | some o => o.engine | none => false
  needsGrid op || (!engine && (decide (d.power.state = .park) || decide (d.power.entering = some .park)))

/-- A doorbell: a TAIL behind HEAD or more than 256 entries ahead of it is ignored, sets BAD_TAIL and is counted; any other
makes the entries up to it visible, or withdraws those it leaves out (R599, R602), and may wake the module (R744). -/
def doorbell (m : MailboxId) (value : W64) (d : Device) : Device :=
  let x := d.mb m
  if !x.en then d
  else
    let tail : BitVec 9 := value.setWidth 9
    let n := ringDist x.cmdHead tail
    if 256 < n then bump .mbxBadTail m.val (modMbx m (fun x => { x with badTail := true }) d)
    else
      let old := x.visible.take n
      let new := (rangeFrom old.length (n - old.length)).map fun i =>
        ({ w0 := ringWord x (x.cmdHead.toNat + i) 0, rung := d.now } : Visible)
      let gone := (x.visible.drop n).map (·.w0)
      let kept := (gone.foldl (fun (l : List W64) w => l.erase w) x.records.reverse).reverse
      let d := modMbx m (fun x => { x with cmdTail := tail, visible := old ++ new, records := kept ++ new.map (·.w0) }) d
      if new.any fun v => doorbellWakes d v.w0 then wakeUp d else d

/-- The acknowledgement deadline in ns (Table 15-7). -/
def ackDeadline (cls : Nat) : Nat := if cls = 0 then 50 * us else 1 * ms

/-- The engine takes the next visible entry, which acknowledges it (R602). FAULTED completions owed after a reset come
first (R641), and a doorbell that arrives during a flush is taken after it (R637). -/
def takeCommand (m : MailboxId) (d : Device) : Device :=
  let x := d.mb m
  match x.visible with
  | [] => d
  | v :: rest =>
    if x.en && d.boot.engineReady && x.owed.isEmpty && !x.flushing then
      let late := decide (v.rung + ackDeadline (field v.w0.toNat 18 1) < d.now)
      let d := if late then bump .mbxLate m.val d else d
      bump .mbxCommands m.val (modMbx m (fun x => { x with
        cmdHead := x.cmdHead + 1, visible := rest
        taken := x.taken ++ [{ entry := ringEntry x x.cmdHead.toNat, rung := v.rung }] }) d)
    else d

/-- The class of a mailbox: even ones are urgent; mailbox 8 by its commands. -/
def urgentEntry (m : MailboxId) (t : Taken) : Bool :=
  if m.val = 8 then !bitAt (t.entry[0]).toNat 18 else decide (m.val % 2 = 0)

/-- An urgent mailbox has a command that waits to start (R615). -/
def urgentWaits (d : Device) : Bool :=
  (List.finRange 9).any fun m =>
    match (d.mb m).taken with
    | t :: _ => urgentEntry m t && ((d.mb m).started.all (·.first)) && (d.mb m).hasRoom
    | [] => false

/-- The next taken command of a mailbox starts (R615): an engine command at once, another once the firmware serves,
every earlier command has posted its first completion, the overflow queue has room (R607), and no urgent mailbox
waits before a normal one. The common checks may refuse it here. -/
def startCommand (m : MailboxId) (d : Device) : Device :=
  let x := d.mb m
  match x.taken with
  | [] => d
  | t :: _ =>
    let c : Call := { mbx := m, words := t.entry }
    let engine := match c.info with | some o => o.engine | none => false
    if engine then runEngine c id d
    else if !recovering d && (!(x.started.all (·.first)) || !x.hasRoom || (!urgentEntry m t && urgentWaits d)) then d
    else if !recovering d && !d.boot.mbxReady then d
    else runFw c id d

/-- The first-completion deadline of a started command falls: it posts ACCEPTED with MORE (R614). While the Kettle
restarts, the deadline of a firmware command moves on with the restart (R617). The deadline of SEED_FRESH ends its wait with
TIMEOUT (R334) and not with ACCEPTED. -/
def deadlineFalls (m : MailboxId) (tag : W32) (d : Device) : Device :=
  match (d.mb m).started.find? fun x => decide (x.call.tag = tag) && !x.first && !x.compute && !decide (x.call.opcode = 0x33) with
  | none => d
  | some x =>
    let engine := match x.call.info with | some o => o.engine | none => false
    if !engine && (d.boot.kettleRestarting || !d.boot.mbxReady) then d
    else post x.call .accepted 0 [] true (advanceTo (dueTime d x) d)

/-! ### Completion rings (R605 to R609) -/

/-- STATUS codes (Table 15-10). -/
def Status.code : Status → Nat
  | .ok => 0x0000 | .accepted => 0x0001 | .busy => 0x0002 | .deferred => 0x0003
  | .badOpcode => 0x0010 | .badParam => 0x0011 | .noSeed => 0x0012 | .notOwner => 0x0013
  | .noResource => 0x0020 | .wontFit => 0x0021
  | .imageRefused => 0x0030 | .versionFloor => 0x0031 | .svnFloor => 0x0032
  | .spanMismatch => 0x0040 | .caddyReadonly => 0x0050
  | .faulted => 0x0060 | .stepInvalid => 0x0061 | .flushed => 0x0070 | .timeout => 0x0071

/-- PHASE of an entry written at an index: the inverse of the lap bit (R606). -/
def phaseBit (i : BitVec 9) : Nat := if i.getLsbD 8 then 0 else 1

/-- Word 0 of the first entry of a completion written at an index (Table 15-5). -/
def cplWord0 (k : Completion) (i : BitVec 9) : Nat :=
  k.tag.toNat * 2 ^ 32 + b2n k.kr * 2 ^ 28 + (k.ext % 4) * 2 ^ 26 + b2n k.more * 2 ^ 25 + phaseBit i * 2 ^ 24 +
    (k.reason % 256) * 2 ^ 16 + k.status.code

/-- Word 0 of a continuation entry (R605). -/
def contWord0 (k : Completion) (i : BitVec 9) : Nat := k.tag.toNat * 2 ^ 32 + 2 ^ 29 + phaseBit i * 2 ^ 24

/-- The entries of a completion written from an index on: words 1 to 3 carry the result bytes (R605, R606). -/
def writeEntries (k : Completion) (i : BitVec 9) : Nat → Mem → Mem
  | 0, r => r
  | n + 1, r =>
    let r := writeEntries k i n r
    let j := i + BitVec.ofNat 9 n
    let w0 := if n = 0 then cplWord0 k j else contWord0 k j
    (r.writeLe (cplSlot j.toNat) 8 w0).writeN (cplSlot j.toNat + 8) (slice k.result (24 * n) 24)

/-- The completion written and CPL_TAIL advanced past its entries. -/
def writeCompletion (k : Completion) (m : Mailbox) : Mailbox :=
  { m with ring := writeEntries k m.cplTail k.entries m.ring, cplTail := m.cplTail + BitVec.ofNat 9 k.entries }

/-- The completion ring has e free slots (R601, R607). -/
def Mailbox.freeSlots (m : Mailbox) (e : Nat) : Bool := decide (ringDist m.cplHead m.cplTail + e ≤ 256)

/-- The messages of a posted completion (R609): each function that shows the mailbox and has INT_EN set receives one. -/
def notify (m : MailboxId) (k : Completion) (d : Device) : Device :=
  if k.noInt then d
  else
    let x := d.mb m
    let d := if x.intEnPf then sendMsix 0 ⟨m.val, by omega⟩ d else d
    if h : m.val < 8 then
      (if x.intEn then sendMsix ⟨1 + m.val / 2, by omega⟩ ⟨m.val % 2, by omega⟩ d else d)
    else d

/-- The FAULTED completion that a kept word 0 still owes (R641). -/
def owedCompletion (w0 : W64) : Completion :=
  { tag := BitVec.ofNat 32 (w0.toNat >>> 32), status := .faulted, noInt := bitAt w0.toNat 15 }

/-- One owed FAULTED completion is posted, when the ring has room. -/
def postOwed (m : MailboxId) (d : Device) : Device :=
  let x := d.mb m
  match x.owed with
  | [] => d
  | w :: rest =>
    if x.en && x.freeSlots 1 then
      let d := modMbx m (fun x => writeCompletion (owedCompletion w) { x with owed := rest }) d
      notify m (owedCompletion w) (bump .mbxFaultedReset m.val d)
    else d

/-- A FLUSHED completion of the mailbox is still to be posted, or a flushed compute command still runs (R637). -/
def flushLeft (m : Mailbox) : Bool :=
  (m.overflow.any fun k => decide (k.status = .flushed)) || (m.started.any fun s => decide (s.latch = .flush))

/-- The oldest completion of the overflow queue is written to the ring once it has the slots (R606, R607). -/
def postNext (m : MailboxId) (d : Device) : Device :=
  let x := d.mb m
  if !x.owed.isEmpty then postOwed m d
  else match x.overflow with
    | [] => d
    | k :: rest =>
      if x.freeSlots k.entries then
        let waited := match x.blockedSince with | some t => (d.now - t) / us | none => 0
        let d := bumpBy .mbxCplWaitUs m.val waited d
        let d := modMbx m (fun x =>
          let y := writeCompletion k { x with overflow := rest, blockedSince := none }
          { y with flushing := y.flushing && flushLeft y
                   records := if k.more then y.records else y.records.erase k.w0 }) d
        notify m k d
      else
        wakeHost (modMbx m (fun x => { x with blockedSince := match x.blockedSince with | some t => some t | none => some d.now }) d)

/-! ### Flushes (R637) -/

/-- A command that was taken and not started completes with FLUSHED. -/
def flushedCompletion (c : Call) (d : Device) : Device :=
  bump .mbxFlushed c.mbx.val
    (queueCompletion c.mbx { tag := c.tag, status := .flushed, noInt := c.noInt, w0 := c.words[0] } d)

/-- A flush of a mailbox: commands taken and not started complete with FLUSHED; compute commands in progress are
marked to stop as STEP_ABORT would stop them; entries not yet taken are discarded. -/
def flushMailbox (m : MailboxId) (d : Device) : Device :=
  let x := d.mb m
  let d := modMbx m (fun x => { x with
    taken := [], visible := [], cmdHead := x.cmdTail
    records := ((x.visible.map (·.w0)).foldl (fun (l : List W64) w => l.erase w) x.records.reverse).reverse
    started := x.started.map fun s => if s.compute && decide (s.latch = .none) then { s with latch := .flush } else s }) d
  let d := x.taken.foldl (fun d t => flushedCompletion { mbx := m, words := t.entry } d) d
  modMbx m (fun x => { x with flushing := flushLeft x }) d

/-- The latch that STEP_ABORT or a flush has set on the command of a run. -/
def latchOf (d : Device) (c : Call) : Latch := match startedRec d c with | some x => x.latch | none => .none

/-- Setting CTRL.EN zeroes both rings and all four indices, posts the FAULTED completions owed after a reset, and sets
READY (R599, R641). -/
def enableMailbox (m : MailboxId) (d : Device) : Device :=
  if (d.mb m).en then d
  else
    let d := modMbx m (fun x => { x with
      en := true, ring := [], cmdTail := 0, cmdHead := 0, cplHead := 0, cplTail := 0, visible := [] }) d
    (List.range 256).foldl (fun d _ => postOwed m d) d

/-- Clearing CTRL.EN flushes the mailbox and then takes no further command (R599). -/
def disableMailbox (m : MailboxId) (d : Device) : Device :=
  if (d.mb m).en then modMbx m (fun x => { x with en := false }) (flushMailbox m d) else d

/-! ### Meanings of the engine's events -/

/-- COMMAND_DOORBELL (R602, R599): a write of CMD_TAIL through a function that shows the mailbox. -/
def execCommandDoorbell (m : MailboxId) (fn : FunctionId) (value : W64) (ide : Bool) (s : State) :
    Host.Outcome State Fault Refusal :=
  done s (hostAccess fn ide (fun d => if shows fn m then doorbell m value d else d) s.dev)

/-- COMMAND_TAKE (R602). -/
def execCommandTake (m : MailboxId) (s : State) : Host.Outcome State Fault Refusal := done s (takeCommand m s.dev)

/-- COMMAND_START (R615). -/
def execCommandStart (m : MailboxId) (s : State) : Host.Outcome State Fault Refusal := done s (startCommand m s.dev)

/-- COMMAND_DEADLINE (R614). -/
def execCommandDeadline (m : MailboxId) (tag : W32) (s : State) : Host.Outcome State Fault Refusal :=
  done s (deadlineFalls m tag s.dev)

/-- COMPLETION_POST (R606, R607). -/
def execCompletionPost (m : MailboxId) (s : State) : Host.Outcome State Fault Refusal := done s (postNext m s.dev)

/-- MSIX_HOLDOFF_EXPIRY (R609): one message for what was held back, at the end of the 2 µs. -/
def execMsixHoldoffExpiry (fn : FunctionId) (vec : Fin 16) (s : State) : Host.Outcome State Fault Refusal :=
  done s
    (let x := msixVec s.dev fn vec
     if x.held && !s.dev.host.d3cold then msixSent fn vec (advanceTo ((x.last.getD 0) + 2 * us) s.dev) else s.dev)

/-- CPL_HEAD_WRITE (R599, R601): the host frees completion slots. -/
def execCplHeadWrite (m : MailboxId) (fn : FunctionId) (value : W64) (ide : Bool) (s : State) :
    Host.Outcome State Fault Refusal :=
  done s (hostAccess fn ide (fun d =>
    if shows fn m && (d.mb m).en then modMbx m (fun x => { x with cplHead := value.setWidth 9 }) d else d) s.dev)

/-- MAILBOX_ENABLE (R599, R641). -/
def execMailboxEnable (m : MailboxId) (fn : FunctionId) (ide : Bool) (s : State) : Host.Outcome State Fault Refusal :=
  done s (hostAccess fn ide (fun d => if shows fn m then enableMailbox m d else d) s.dev)

/-- MAILBOX_DISABLE (R599, R637). -/
def execMailboxDisable (m : MailboxId) (fn : FunctionId) (ide : Bool) (s : State) : Host.Outcome State Fault Refusal :=
  done s (hostAccess fn ide (fun d => if shows fn m then disableMailbox m d else d) s.dev)

/-- MAILBOX_FLUSH (R637). -/
def execMailboxFlush (m : MailboxId) (fn : FunctionId) (ide : Bool) (s : State) : Host.Outcome State Fault Refusal :=
  done s (hostAccess fn ide (fun d => if shows fn m then flushMailbox m d else d) s.dev)

end Sys2Proof.Machine
end

