-- ==== Sys2Proof/Machine/Caddy.lean ====
section
/-! DEFINITION. Compaction and wear of the Caddy's journal (R714 to R718). -/

namespace Sys2Proof.Machine

open Sys2Proof

/-- The newest record of a kind and instance anywhere in the journal. -/
def Caddy.newest (c : Caddy) (r : JournalRec) : Nat :=
  (c.sectors.flatMap (·.recs)).foldl (fun m x => if x.kind = r.kind ∧ x.inst = r.inst then max m x.seq else m) 0

/-- A record is current: the newest committed one of its kind and instance (R714). -/
def Caddy.current (c : Caddy) (r : JournalRec) : Bool := decide (c.newest r = r.seq)

/-- Current records of a sector. -/
def Caddy.currentOf (c : Caddy) (s : CaddySector) : List JournalRec := s.recs.filter c.current

/-- Compaction is due (R716). -/
def Caddy.due (c : Caddy) : Bool := decide (4 * c.free < c.usable)

/-- The sector that compaction takes: fewest current records, lowest number on a tie; the head is not taken (R716). -/
def Caddy.victim (c : Caddy) : Option CaddySector :=
  (sortBy (fun a b => decide ((c.currentOf a).length < (c.currentOf b).length) ||
      (decide ((c.currentOf a).length = (c.currentOf b).length) && decide (a.num < b.num)))
    (c.sectors.filter fun s => !s.retired && !s.recs.isEmpty && !decide (s.num = c.head))).head?

/-- The compaction of a sector (R716, R717): its current records are copied to the head with their own SEQ, then it is erased
and its erase count rises by one, or it is retired when an erase or program of it fails or the count reaches 100,000. -/
def Caddy.compact (c : Caddy) (s : CaddySector) (fails : Bool) : Caddy :=
  let c' := (c.currentOf s).foldl Caddy.append c
  c'.modSector s.num fun x => { num := x.num, erases := x.erases + 1, retired := fails || decide (100000 ≤ x.erases + 1) }

/-- The Caddy becomes read-only and raises CADDY_WORN (R718). -/
def checkWorn (d : Device) : Device :=
  if d.caddy.usable < 8 ∧ !d.caddy.readOnly then
    condBegin 8 0 none { d with caddy := { d.caddy with readOnly := true } }
  else d

/-- CADDY_COMPACTION (R716 to R718): the sector with the fewest current records is compacted once the free sectors fall
below a quarter of the usable ones. `fails`: its erase or a program of it failed. -/
def caddyCompaction (fails : Bool) (d : Device) : Device :=
  if d.caddy.readOnly || !d.caddy.due then d
  else match d.caddy.victim with
    | none => d
    | some s =>
      let c := d.caddy.compact s fails
      let d := bump .caddyCompactions 0 { d with caddy := c }
      let d := setCount .caddyMaxErases 0 (max (d.count .caddyMaxErases) (s.erases + 1)) d
      let d := if (c.sector s.num).retired then bump .caddyRetired 0 d else d
      checkWorn d

/-- CADDY_COMPACTION. -/
def execCaddyCompaction (fails : Bool) (s : State) : Host.Outcome State Fault Refusal :=
  done s (caddyCompaction fails s.dev)

end Sys2Proof.Machine
end

