-- ==== Sys2Proof/Machine/Sites.lean ====
section
/-! DEFINITION. Sites, vtiles, the mapping between them and the site map (R49 to R63, R207 to R209), and the placer's
triggers (R210, R220, R221). -/

namespace Sys2Proof.Machine

open Sys2Proof

/-! ### Places (R49 to R51) -/

/-- The site at a column and row. -/
def siteAt (sx sy : Nat) : Nat := sy * 100 + sx

/-- Column and row of a site. -/
def siteX (s : Nat) : Nat := s % 100
def siteY (s : Nat) : Nat := s / 100

/-- Column and row of a vtile (R5). -/
def vtX (v : Nat) : Nat := v % 96
def vtY (v : Nat) : Nat := v / 96

/-- Region of a vtile (R50) and of a site (R49). -/
def vtRegion (v : Nat) : Nat := (vtY v / 24) * 4 + vtX v / 24
def siteRegion (s : Nat) : Nat := (siteY s / 24) * 4 + siteX s / 25

/-! ### The mapping of one region row (R207) -/

/-- The good sites of a region row, in ascending column, given the bad sites of the module. -/
def goodSites (bad : List Nat) (region sy : Nat) : List Nat :=
  (rangeFrom (siteAt (25 * (region % 4)) sy) 25).filter fun s => !bad.contains s

/-- s, p and o of R207 for g good sites. -/
def rowPlan (g : Nat) : Nat × Nat × Nat :=
  let f := 25 - g
  let s := min 24 (26 - 2 * f)
  let p := min (g - s) ((24 - s) / 2)
  (s, p, 24 - s - 2 * p)

/-- The site of its own region row that carries a vtile, or none when it overflows. -/
def inRow (bad : List Nat) (v : Nat) : Option Nat :=
  let good := goodSites bad (vtRegion v) (vtY v)
  let (s, p, _) := rowPlan good.length
  let i := vtX v % 24
  if i < s then good[i]?
  else if (i - s) / 2 < p then good[s + (i - s) / 2]?
  else none

/-- How many vtiles of its own region row a site carries. -/
def rowLoad (bad : List Nat) (site : Nat) : Nat :=
  let good := goodSites bad (siteRegion site) (siteY site)
  let (s, p, _) := rowPlan good.length
  let i := (good.takeWhile fun x => !decide (x = site)).length
  if bad.contains site then 0 else if i < s then 1 else if i < s + p then 2 else 0

/-! ### Overflow vtiles (R208, R209) -/

/-- Distance of two rows. -/
def absDiff (a b : Nat) : Nat := if a ≤ b then b - a else a - b

/-- The rows of a region by ascending distance from a row c, the lower row first on a tie. -/
def rowsFrom (region c : Nat) : List Nat :=
  sortBy (fun a b => decide (absDiff a c < absDiff b c) || (decide (absDiff a c = absDiff b c) && decide (a < b)))
    (rangeFrom (24 * (region / 4)) 24)

/-- Distance of two regions. -/
def regionDistance (g h : Nat) : Nat := absDiff (g % 4) (h % 4) + absDiff (g / 4) (h / 4)

/-- The sites in the order of R208 for an overflow vtile. -/
def searchOrder (v : Nat) : List Nat :=
  let g := vtRegion v
  let sy := vtY v
  let row := fun (h y : Nat) => ((rangeFrom (siteAt (25 * (h % 4)) y) 25).reverse)
  let own := ((rowsFrom g sy).filter fun y => !decide (y = sy)).flatMap (row g)
  let others := sortBy (fun a b => decide (regionDistance g a < regionDistance g b)) ((List.range 16).filter fun h => !decide (h = g))
  own ++ others.flatMap fun h =>
    let c := min (max sy (24 * (h / 4))) (24 * (h / 4) + 23)
    (rowsFrom h c).flatMap (row h)

/-- The vtiles that overflow, in ascending vtile id. -/
def overflowVtiles (bad : List Nat) : List Nat :=
  if bad.length < 14 then [] else (List.range 9216).filter fun v => (inRow bad v).isNone

/-- Vtiles that a site carries with some overflow vtiles already placed. -/
def loadWith (bad : List Nat) (placed : List (Nat × Nat)) (site : Nat) : Nat :=
  rowLoad bad site + (placed.filter fun p => decide (p.2 = site)).length

/-- The overflow vtiles placed under R208 and R209, in ascending vtile id, as (vtile, site). -/
def placeOverflow (bad : List Nat) : List (Nat × Nat) :=
  (overflowVtiles bad).foldl (fun placed v =>
    let order := (searchOrder v).filter fun s => !bad.contains s
    match order.find? fun s => decide (loadWith bad placed s = 1) with
    | some s => placed ++ [(v, s)]
    | none =>
      match order.find? fun s => decide (loadWith bad placed s = 0) with
      | some s => placed ++ [(v, s)]
      | none => placed) []

/-- The site that carries a vtile, on a set of bad sites (R207 to R209). -/
def carrier (bad : List Nat) (v : Nat) : Option Nat :=
  match inRow bad v with
  | some s => some s
  | none => assoc (placeOverflow bad) v

/-! ### The state of sites -/

/-- The record of a site. -/
def Device.site (d : Device) (s : Nat) : SiteRec := (d.sites.find? fun r => decide (r.id = s)).getD { id := s }

/-- A site record changed; records stay in ascending site id. -/
def modSite (s : Nat) (f : SiteRec → SiteRec) (d : Device) : Device :=
  { d with sites := insertBy (fun a b => decide (a.id < b.id)) (f (d.site s)) (d.sites.filter fun r => !decide (r.id = s)) }

/-- The bad sites of the site map, ascending (R54). -/
def badSites (d : Device) : List Nat := (d.sites.filter fun r => r.bad.isSome).map (·.id)

/-- The bad sites with those whose planned fence is committed and waits for its switch: the map from which the placer
builds, ascending (R67, R210). -/
def plannedBad (d : Device) : List Nat := (d.sites.filter fun r => r.bad.isSome || r.planned).map (·.id)

/-- The open tenant whose rectangle holds a vtile. -/
def tenantOfVtile (d : Device) (v : Nat) : Option TenantId :=
  allTenants.find? fun t =>
    let x := d.tenant t
    let (x0, y0, x1, y1) := x.rect
    x.isOpen && decide (x0 ≤ vtX v) && decide (vtX v ≤ x1) && decide (y0 ≤ vtY v) && decide (vtY v ≤ y1)

/-- The bad sites on which the mapping of a vtile in effect rests: those of its tenant's active epoch, else the site map. -/
def mappingOf (d : Device) (v : Nat) : List Nat :=
  match tenantOfVtile d v with
  | some t => (d.tenant t).epoch.bad
  | none => badSites d

/-- The site that carries a vtile now. -/
def carrierOf (d : Device) (v : Nat) : Option Nat := carrier (mappingOf d v) v

/-- The site number of a vtile as an instance of a Gutter source. -/
def siteOfVtile (d : Device) (v : Nat) : Nat := (carrierOf d v).getD 0

/-- The vtiles that a site carries now. -/
def carries (d : Device) (site : Nat) : List Nat :=
  let row := rangeFrom (siteY site * 96 + 24 * (siteX site / 25)) 24
  let far := ((badSites d :: allTenants.map fun t => (d.tenant t).epoch.bad).flatMap overflowVtiles).eraseDups
  ((row ++ far.filter fun v => !row.contains v).filter fun v => decide (carrierOf d v = some site))

/-- The state of a site (Table 2-4). -/
def siteState (d : Device) (site : Nat) : SiteState :=
  match (d.site site).bad with
  | some b => b
  | none =>
    match carries d site with
    | [] => .spare
    | [v] => if vtRegion v = siteRegion site ∧ vtY v = siteY site then .hosting else .foldHost
    | _ => .foldHost

/-- The state codes of Table 2-4. -/
def SiteState.code : SiteState → Nat
  | .hosting => 0 | .spare => 1 | .fenced => 2 | .holed => 3 | .testing => 4 | .foldHost => 5

/-- The 4,800 bytes of the site map (R63). -/
def siteMap (d : Device) : List Byte :=
  (List.range 4800).map fun i =>
    BitVec.ofNat 8 ((siteState d (2 * i)).code + 16 * (siteState d (2 * i + 1)).code)

/-- Good sites of the module (R57). -/
def goodCount (d : Device) : Nat := 9600 - (badSites d).length

/-! ### Tenants and the placer's triggers (R210, R211, R220, R221) -/

/-- Vtiles of a rectangle. -/
def rectVtiles (r : Nat × Nat × Nat × Nat) : List Nat :=
  let (x0, y0, x1, y1) := r
  (rangeFrom y0 (y1 + 1 - y0)).flatMap fun y => (rangeFrom x0 (x1 + 1 - x0)).map fun x => y * 96 + x

/-- The tenant has vtiles that two sets of bad sites map differently (R211). -/
def mapsDiffer (a b : List Nat) (r : Nat × Nat × Nat × Nat) : Bool :=
  !decide (a = b) && (rectVtiles r).any fun v => !decide (carrier a v = carrier b v)

/-- Open tenants whose vtiles the current site map maps otherwise than their active epoch. -/
def tenantsMoved (d : Device) : List TenantId :=
  allTenants.filter fun t =>
    let x := d.tenant t
    x.isOpen && mapsDiffer x.epoch.bad (badSites d) x.rect

/-- The placer abandons the epoch it is building or loading (R221, R222). -/
def abandonBuild (d : Device) : Device :=
  match d.fabric.build with
  | none => d
  | some b =>
    bump .epochsAbandoned 0 { d with fabric := { d.fabric with
      build := none, triggers := (b.group, b.tenant) :: d.fabric.triggers } }

/-- The next trigger by group, then arrival (R220). -/
def nextTrigger (l : List (Nat × Nat)) : Option (Nat × Nat) := (sortBy (fun a b => decide (a.1 < b.1)) l).head?

/-- The placer starts its next build when it is idle (R220); the new epoch covers every trigger of its tenant. -/
def startBuild (d : Device) : Device :=
  match d.fabric.build, nextTrigger d.fabric.triggers with
  | none, some (g, t) =>
    { d with fabric := { d.fabric with
      build := some { tenant := t, group := g, bad := plannedBad d }
      triggers := d.fabric.triggers.filter fun x => !decide (x.2 = t) } }
  | _, _ => d

/-- A trigger for a tenant's new epoch. One of a higher group abandons a build of a lower group (R221). -/
def trigger (group : Nat) (t : TenantId) (d : Device) : Device :=
  if !(d.tenant t).isOpen then d
  else
    let lower := match d.fabric.build with | some b => decide (group < b.group) | none => false
    let d := if lower then abandonBuild d else d
    startBuild { d with fabric := { d.fabric with
      triggers := if d.fabric.triggers.contains (group, t.val) then d.fabric.triggers else d.fabric.triggers ++ [(group, t.val)] } }

/-- A change of the map that makes a site, link or segment unusable that the build in progress uses abandons it (R210). -/
def abandonIf (p : Build → Bool) (d : Device) : Device :=
  match d.fabric.build with
  | some b => if p b then startBuild (abandonBuild d) else d
  | none => d

/-- The site map is recorded in the Caddy at each change (R67). -/
def recordMap (d : Device) : Device := journal kSiteMap 0 d

/-- Some vtile cannot be carried (R57, R58). -/
def gridShort (d : Device) : Bool := decide (goodCount d < 4608)

/-- GRID_CAPACITY present or gone, as the number of good sites has it (R58). -/
def updateCapacity (d : Device) : Device :=
  if gridShort d && !d.fabric.noCapacity then
    condBegin 39 0 none { d with fabric := { d.fabric with noCapacity := true } }
  else if !gridShort d && d.fabric.noCapacity then
    condEnd 39 0 { d with fabric := { d.fabric with noCapacity := false } }
  else d

/-- A vtile of a rectangle has no site on the current map. -/
def uncarried (d : Device) (r : Nat × Nat × Nat × Nat) : Bool :=
  gridShort d && (rectVtiles r).any fun v => (carrier (badSites d) v).isNone

/-- A vtile of the tenant is carried, under its active epoch, by a site that is bad now. -/
def lostSite (d : Device) (t : TenantId) : Bool :=
  let x := d.tenant t
  let bad := badSites d
  !decide (x.epoch.bad = bad) && (rectVtiles x.rect).any fun v =>
    match carrier x.epoch.bad v with | some s => bad.contains s | none => false

/-- Open tenants with a vtile that a site carries now. -/
def tenantsCarried (d : Device) (site : Nat) : List TenantId :=
  let vs := carries d site
  allTenants.filter fun t => vs.any fun v => decide (tenantOfVtile d v = some t)

/-- A self-test runs on a region with a site that carries a vtile of the tenant (Table 16-7). -/
def regionTest (d : Device) (t : TenantId) : Bool :=
  d.selftest.running && (rectVtiles (d.tenant t).rect).any fun v =>
    match carrierOf d v with | some s => decide (siteRegion s = d.selftest.unit) | none => false

/-! ### The edge (R182, R189, R191) -/

/-- The sides that a rectangle touches: 0 south, 1 east, 2 north, 3 west. -/
def sidesOf (r : Nat × Nat × Nat × Nat) : List Nat :=
  let (x0, y0, x1, y1) := r
  (if y0 = 0 then [0] else []) ++ (if x1 = 95 then [1] else []) ++ (if y1 = 95 then [2] else []) ++ (if x0 = 0 then [3] else [])

/-- Every segment of a side is fenced: nothing enters through it, directly or by edge entry (Table 5-5). -/
def sideShut (d : Device) (k : Nat) : Bool := [0, 1, 2, 3].all fun i => d.fabric.fenced.getLsbD (4 * k + i)

/-- An open tenant has no edge router with ring attachment left, directly or through edge entry (R191). -/
def edgeless (d : Device) (t : TenantId) : Bool := (d.tenant t).isOpen && (sidesOf (d.tenant t).rect).all (sideShut d)

/-- GRID_CAPACITY present or gone for the tenants without an edge (R191). -/
def updateEdges (d : Device) : Device :=
  allTenants.foldl (fun d t => if edgeless d t then condBegin 39 (5 + t.val) (some t) d else
    if d.gutter.cond.contains (39, 5 + t.val) then condEnd 39 (5 + t.val) d else d) d

/-- A link record. -/
def Device.link (d : Device) (l : Nat) : MeshLink := (d.fabric.links.find? fun x => decide (x.id = l)).getD { id := l }

/-- A link record changed; records stay in ascending link id. -/
def modLink (l : Nat) (f : MeshLink → MeshLink) (d : Device) : Device :=
  { d with fabric := { d.fabric with
    links := insertBy (fun a b => decide (a.id < b.id)) (f (d.link l)) (d.fabric.links.filter fun x => !decide (x.id = l)) } }

/-- The cut links, ascending. -/
def cutLinks (d : Device) : List Nat := (d.fabric.links.filter (·.cut)).map (·.id)

/-- Planned cuts take effect at an epoch switch (R159). -/
def cutPlanned (d : Device) : Device :=
  let n := (d.fabric.links.filter fun x => x.planned && !x.cut).length
  bumpBy .cutLinks 0 n { d with fabric := { d.fabric with
    links := d.fabric.links.map fun x => if x.planned then { x with cut := true, planned := false } else x } }

end Sys2Proof.Machine
end

