-- ==== Sys2Proof/Machine/Slate.lean ====
section
/-! DEFINITION. The Slate: records, commit, signatures, drain and reading (R539 to R548). -/

namespace Sys2Proof.Machine

open Sys2Proof

/-! ### The firmware that runs -/

/-- KEY_ID of the device attestation key (R544, R720). -/
def deviceKeyId (d : Device) : BitVec 128 := Config.keyId (runningImage d).digests (runningImage d).svn

/-- Grid cycles in a number of ns at a divisor of the 9.6 GHz root (R12). -/
def gridCycles (divisor ns : Nat) : Nat := ns * 48 / (5 * divisor)

/-! ### Records (Table 13-6, Table 13-8) -/

/-- Record kinds. -/
def recStep : Nat := 1
def recManifest : Nat := 2
def recSign : Nat := 3
def recBoot : Nat := 4
def recSeed : Nat := 5
def recAdjust : Nat := 6
def recCheckpoint : Nat := 7
def recRestore : Nat := 8
def recReplay : Nat := 9
def recTenant : Nat := 10

/-- TENANT of a module record. -/
def moduleRecord : Nat := 0xFF

/-- A record with SEQ, TIME and PREV still zero. -/
def slateRecord (kind tenant flags status reason : Nat) (body : List Byte) : List Byte :=
  leBytes 8 0 ++ leBytes 1 kind ++ leBytes 1 tenant ++ leBytes 2 flags ++ leBytes 2 status ++ leBytes 1 reason ++ leBytes 1 0 ++
    leBytes 8 0 ++ leBytes 8 0 ++ fit 176 body ++ List.replicate 48 0

/-- A record completed with its SEQ, TIME and PREV. -/
def sealRecord (seq time : Nat) (prev : BitVec 384) (r : List Byte) : List Byte :=
  leBytes 8 seq ++ slice r 8 8 ++ leBytes 8 time ++ slice r 24 184 ++ beOf 48 prev

/-- The 8-byte commit word of a record (R539). -/
def commitWord (r : List Byte) : Nat := ((leAt r 0 4) ^^^ 0x5A3C96E1) * 2 ^ 32 + crc32c r

/-- The Slate buffer holds 16,384 records. -/
def slateCells : Nat := 16384

/-- The Slate ring holds 268,435,456 records. -/
def ringCells : Nat := 268435456

/-- A record is committed to the buffer (R539, R541). -/
def commitRecord (r : List Byte) (d : Device) : Device :=
  let s := d.slate
  let bytes := sealRecord s.nextSeq (moduleTime d) s.prev r
  bump .slateRecords 0 { d with slate := { s with
    nextSeq := s.nextSeq + 1, buffer := s.buffer ++ [(s.nextSeq, bytes)], prev := sha384Bits bytes } }

/-- The buffer has a free cell. -/
def slateRoom (d : Device) : Bool := decide (d.slate.buffer.length < slateCells)

/-- A record waits for buffer space, and the Slate stalls (R545). -/
def slateWait (kind tenant : Nat) (r : List Byte) (d : Device) : Device :=
  let d := { d with slate := { d.slate with
    waiting := d.slate.waiting ++ [{ kind := kind, tenant := tenant, record := r }], stalled := true } }
  condBegin 50 0 none d

/-- A record is committed, or waits behind others for space; the flag tells whether it was committed. -/
def putRecord (kind tenant flags status reason : Nat) (body : List Byte) (d : Device) : Device × Bool :=
  let r := slateRecord kind tenant flags status reason body
  if slateRoom d && d.slate.waiting.isEmpty then (commitRecord r d, true) else (slateWait kind tenant r d, false)

/-- A record whose writer does not wait. -/
def writeRecord (kind tenant : Nat) (body : List Byte) (d : Device) : Device := (putRecord kind tenant 0 0 0 body d).1

/-- The oldest waiting record is committed once there is space; the stall ends with the last of them. -/
def commitWaiting (d : Device) : Device :=
  match d.slate.waiting with
  | [] => d
  | w :: rest =>
    if slateRoom d then
      let d := commitRecord w.record { d with slate := { d.slate with waiting := rest } }
      if rest.isEmpty then condEnd 50 0 { d with slate := { d.slate with stalled := false } } else d
    else d

/-- Every record that is still held, oldest first. -/
def heldRecords (d : Device) : List (Nat × List Byte) := d.slate.ring ++ d.slate.buffer

/-- The bytes of a held record. -/
def recordAt (d : Device) (seq : Nat) : List Byte := (assoc (heldRecords d) seq).getD []

/-- KIND of a record. -/
def kindOf (r : List Byte) : Nat := leAt r 8 1

/-! ### Signatures (R544) -/

/-- A SIGN record for the range from the last signature to LAST_SEQ. -/
def signTo (last : Nat) (d : Device) : Device :=
  let first := d.slate.signFrom
  let head := sha384 (recordAt d last)
  let start := leBytes 8 first ++ leBytes 8 last ++ head
  let signed := sealRecord d.slate.nextSeq (moduleTime d) 0 (slateRecord recSign moduleRecord 0 0 0 start)
  let sig := Config.sign (sha384Bits (signed.take 96)) d.fresh
  let d := { d with fresh := d.fresh + 1, slate := { d.slate with signFrom := last + 1 } }
  bump .slateSigns 0 (writeRecord recSign moduleRecord (start ++ beOf 96 sig ++ bytes16 (deviceKeyId d)) d)

/-- The 1,024th record other than SIGN counted from the start of the range. -/
def signPoint (d : Device) : Option Nat :=
  (((heldRecords d).filter fun r => decide (d.slate.signFrom ≤ r.1) && !decide (kindOf r.2 = recSign))[1023]?).map (·.1)

/-- SIGN_RECORD (R544): the signature of each 1,024 records. -/
def signRecord (d : Device) : Device :=
  match signPoint d with
  | some last => signTo last d
  | none => d

/-- A SIGN record for every committed record not yet signed (R547, R548). -/
def signNow (d : Device) : Device := if d.slate.signFrom < d.slate.nextSeq then signTo (d.slate.nextSeq - 1) d else d

/-! ### Drain (R545, R546) -/

/-- Space in the ring for n records: the pages with the oldest are overwritten; records at or above the read mark are
counted and raise SLATE_WRAP. -/
def makeRoom (n : Nat) (d : Device) : Device :=
  let excess := d.slate.ring.length + n - ringCells
  let gone := d.slate.ring.take (16 * ((excess + 15) / 16))
  let lost := (gone.filter fun r => decide (d.slate.readMark ≤ r.1)).length
  let d := { d with slate := { d.slate with ring := d.slate.ring.drop gone.length } }
  if 0 < lost then occur 51 0 none (bumpBy .slateOverwritten 0 lost d) else d

/-- n records move from the buffer to the ring; the Caddy index follows every 4,096 drained records. -/
def drainRecords (n : Nat) (d : Device) : Device :=
  let page := d.slate.buffer.take n
  let d := makeRoom page.length d
  let total := d.slate.sinceIndex + page.length
  let d := { d with slate := { d.slate with
    buffer := d.slate.buffer.drop n, ring := d.slate.ring ++ page, sinceIndex := total % 4096 } }
  let d := bumpBy .hostWrites 0 (256 * page.length) d
  if 4096 ≤ total then journal kSlateIndex 0 d else d

/-- SLATE_DRAIN: a 4 KiB page of 16 records drains to the ring. -/
def slateDrain (d : Device) : Device := if 16 ≤ d.slate.buffer.length then drainRecords 16 d else d

/-! ### The Slate part of a boot (R548) -/

/-- The body of a BOOT record (Table 13-8). -/
def bootBody (d : Device) : List Byte :=
  let i := runningImage d
  leBytes 2 i.version.major ++ leBytes 2 i.version.minor ++ leBytes 2 i.version.patch ++ leBytes 4 i.version.build ++
    leBytes 1 i.arith ++ leBytes 1 i.iface ++ leBytes 1 i.svn ++ [d.boot.stepLetter, d.boot.stepDigit] ++
    leBytes 1 d.boot.cause ++ leBytes 2 0 ++ (sha384 (siteMap d)).take 16 ++ leBytes 1 (b2n d.backup.rtcLost)

/-- A BOOT record. -/
def bootRecord (d : Device) : Device := writeRecord recBoot moduleRecord (bootBody d) d

/-- Torn records are counted, the buffer is drained, and a BOOT record and a SIGN record for the unsigned ones follow. -/
def slateBoot (d : Device) : Device :=
  let d := bumpBy .slateTorn 0 d.slate.torn { d with slate := { d.slate with torn := 0 } }
  signNow (bootRecord (drainRecords d.slate.buffer.length d))

/-! ### Reading (R547, R627) -/

/-- SLATE_READ. -/
def slateRead (c : Call) (d : Device) : Device :=
  if c.mbx.val < 8 ∧ c.flag 8 then finish c .notOwner 0 d
  else
    let d := if c.flag 9 then signNow d else d
    let from_ := max (c.w 1) (((heldRecords d).head?.map (·.1)).getD (c.w 1))
    let mine := fun r : Nat × List Byte =>
      decide (c.mbx.val = 8) || decide (leAt r.2 9 1 = c.tenant.val) || decide (leAt r.2 9 1 = moduleRecord)
    let recs := ((heldRecords d).filter fun r => decide (from_ ≤ r.1) && mine r).take (c.w 2)
    let first := (recs.head?.map (·.1)).getD from_
    withOut c 4 (recs.flatMap (·.2)) (fun d =>
      let mark := match c.flag 8, recs.getLast? with | true, some r => r.1 + 1 | _, _ => d.slate.readMark
      let d := { d with slate := { d.slate with readMark := mark } }
      post c .ok 0 (leBytes 8 first ++ leBytes 8 recs.length ++ leBytes 8 mark) false d) d

/-! ### Meanings -/

/-- SIGN_RECORD. -/
def execSignRecord (s : State) : Host.Outcome State Fault Refusal := done s (signRecord s.dev)

/-- SLATE_DRAIN. -/
def execSlateDrain (s : State) : Host.Outcome State Fault Refusal := done s (slateDrain s.dev)

/-- SLATE_READ. -/
def execSlateRead (c : Call) (s : State) : Host.Outcome State Fault Refusal := done s (runFw c (slateRead c) s.dev)

end Sys2Proof.Machine
end

