-- ==== Sys2Proof/Machine/TileCore.lean ====
section
/-! DEFINITION. What every tile command shares: which vtiles run, scratchpad access, traps, draws and charges to the step
(R39, R70 to R81, R310 to R316). -/

namespace Sys2Proof.Machine

open Sys2Proof

/-! ### The step and its charges -/

/-- The step of a tenant is invalidated, with the first reason and the first uncorrected source that touch it (R30, R532). -/
def invalidate (t : TenantId) (reason : Nat) (src : Option Nat) (d : Device) : Device :=
  modStep t (fun s =>
    { s with
      reason := match s.reason with | some r => some r | none => some reason
      firstUncorr := if s.firstUncorr = 255 then src.getD 255 else s.firstUncorr }) d

/-- A flag of the step's record is set (Table 13-7). -/
def setFlag (t : TenantId) (bit : Nat) (d : Device) : Device :=
  modStep t (fun s => { s with flags := s.flags ||| (1#16 <<< bit) }) d

/-- A corrected error charged to a tenant's step. -/
def chargeCorrected (t : Option TenantId) (d : Device) : Device :=
  match t with
  | some t => modStep t (fun s => { s with corrected := min (s.corrected + 1) 0xFFFFFFFF }) d
  | none => d

/-- An uncorrectable error of a source with check-invert on is injected: it raises its source, counts in INJECTED and
invalidates the step that read the data (R673, R674). -/
def injectedError (s : SourceId) (inst : Nat) (t : Option TenantId) (reason : Nat) (d : Device) : Device :=
  let d := occur s inst t (bump .injected s.val d)
  match t with
  | some t =>
    invalidate t reason (some s.val) (modStep t (fun x => { x with injected := x.injected || x.reason.isNone }) d)
  | none => d

/-- Check-invert is on for a source. -/
def checkInverted (d : Device) (s : SourceId) : Bool := d.gutter.checkInvert.getLsbD s.val

/-! ### Vtiles -/

/-- The number of a vtile at a span index. -/
def vtNum (v : VtileRef) : Nat := v.span.val * 16384 + v.vtile.val

/-- The controller and unit state of a vtile. -/
def vt (d : Device) (v : VtileRef) : VtileState := (d.vtiles.find? fun x => decide (x.id = vtNum v)).getD { id := vtNum v }

/-- The state of a vtile changed. -/
def modVt (v : VtileRef) (f : VtileState → VtileState) (d : Device) : Device :=
  { d with vtiles := f (vt d v) :: d.vtiles.filter fun x => !decide (x.id = vtNum v) }

/-- The module carries a span index: those of its formed span, or index 0 alone. -/
def carriesIndex (d : Device) (i : Nat) : Bool := if d.span.formed then d.span.carried.getLsbD i else decide (i = 0)

/-- The package that a tenant's run uses. -/
def runPackage (d : Device) (t : TenantId) : Option Package :=
  (d.tenant t).run.bind fun r => r.package.bind fun h => (d.tenant t).packages.find? fun p => decide (p.handle = h)

/-- The declarations of the running package. -/
def runDecl (d : Device) (t : TenantId) : Option PackageDecl := (runPackage d t).map (·.decl)

/-- The tenant whose program a vtile runs now: its step has started, is not halted, and the vtile has not ended it. -/
def vtRuns (d : Device) (v : VtileRef) : Option TenantId :=
  match tenantOfVtile d v.vtile.val with
  | none => none
  | some t =>
    match d.stepOf t with
    | some s => if s.started && !s.halted && !(vt d v).ended && carriesIndex d v.span.val then some t else none
    | none => none

/-- A command of a vtile acts while the vtile runs its program, and not otherwise. -/
def onVtile (v : VtileRef) (k : TenantId → Device → Device) (d : Device) : Device :=
  match vtRuns d v with
  | some t => k t d
  | none => d

/-- A unit has finished a command: it leaves the unit's queue and can be waited for. -/
def unitDone (v : VtileRef) (u : Fin 6) (d : Device) : Device :=
  modVt v (fun x => { x with queues := vmod x.queues u (· - 1), finished := vmod x.finished u (· + 1) }) d

/-- The result words of a unit's command. -/
def setResult (v : VtileRef) (ws : List W32) (d : Device) : Device := modVt v (fun x => { x with result := ws }) d

/-- The 64-bit value as two words, low word first. -/
def words64 (x : W64) : List W32 := [x.setWidth 32, (x >>> 32).setWidth 32]

/-! ### Traps (R80, R81, Table 2-6) -/

/-- The causes of Table 2-6. -/
def trapIllegal : Nat := 1
def trapRange : Nat := 2
def trapBudget : Nat := 3
def trapImage : Nat := 4
def trapDeadlock : Nat := 5

/-- A program fault: TILE_TRAP is raised, the step is invalidated with reason TILE_TRAP, and the vtile runs no further. -/
def tileTrap (v : VtileRef) (t : TenantId) (cause : Nat) (d : Device) : Device :=
  let d := if cause = trapBudget then bump .drawBudgetTraps t.val d else d
  let d := modVt v (fun x => { x with ended := true, trap := cause }) d
  invalidate t 0x10 none (occur 32 (siteOfVtile d v.vtile.val) (some t) d)

/-! ### Scratchpad (R39, R71) -/

/-- The cell of a scratchpad address. -/
def spadCell (v : VtileRef) (a : Nat) : Nat := vtNum v * 2 ^ 19 + a

/-- A package may access n bytes from an address (Table 2-2). -/
def spadOk (a n : Nat) : Bool := decide (a + n ≤ 0x7F000)

/-- Bytes of a scratchpad. -/
def spadRead (d : Device) (v : VtileRef) (a n : Nat) : List Byte := d.scratch.readN (spadCell v a) n

/-- Bytes of a scratchpad written, mirrors apart. -/
def spadPut (v : VtileRef) (a : Nat) (bs : List Byte) (d : Device) : Device :=
  { d with scratch := d.scratch.writeN (spadCell v a) bs }

/-- The newest mirror of a tenant changed. -/
def modMirror (t : TenantId) (f : Mirror → Mirror) (d : Device) : Device :=
  modTenant t (fun x => { x with mirrors := match x.mirrors with | m :: ms => f m :: ms | [] => [] }) d

/-- The bytes of a vtile in a mirror. -/
def Mirror.area (m : Mirror) (n : Nat) : List Byte := ((m.areas.find? fun a => decide (a.1 = n)).map (·.2.2)).getD []

/-- The next page of a vtile's carried-state area is copied to the newest mirror, in ascending order (R71). -/
def copyPage (v : VtileRef) (t : TenantId) (d : Device) : Device :=
  match (vt d v).uncopied, runDecl d t with
  | p :: rest, some k =>
    let bs := spadRead d v (k.carriedBase + 4096 * p) 4096
    let d := modMirror t (fun m => { m with
      areas := (vtNum v, p + 1, m.area (vtNum v) ++ bs) :: m.areas.filter fun a => !decide (a.1 = vtNum v) }) d
    modVt v (fun x => { x with uncopied := rest }) d
  | _, _ => d

/-- Pages are copied until the page of an address has been (R71, R552). -/
def copyThrough (v : VtileRef) (t : TenantId) (a n : Nat) (d : Device) : Device :=
  match runDecl d t with
  | none => d
  | some k =>
    let top := (vt d v).uncopied.filter fun p => decide (k.carriedBase + 4096 * p < a + n)
    if top.any fun p => decide (a < k.carriedBase + 4096 * (p + 1)) then top.foldl (fun d _ => copyPage v t d) d else d

/-- A write of a program waits until its page has been copied, and then lands (R71). -/
def spadWrite (v : VtileRef) (t : TenantId) (a : Nat) (bs : List Byte) (d : Device) : Device :=
  spadPut v a bs (copyThrough v t a bs.length d)

/-- A read of the scratchpad with check-invert on fails as injected (R673). -/
def spadChecked (v : VtileRef) (t : TenantId) (d : Device) : Device :=
  if checkInverted d 0 then injectedError 0 (siteOfVtile d v.vtile.val) (some t) 0x01 d else d

/-- n bytes read by a unit, or SPAD_RANGE. -/
def withSpad (v : VtileRef) (t : TenantId) (a n : Nat) (k : List Byte → Device → Device) (d : Device) : Device :=
  if spadOk a n then k (spadRead d v a n) (spadChecked v t d) else tileTrap v t trapRange d

/-- Bytes written by a unit, or SPAD_RANGE. -/
def storeSpad (v : VtileRef) (t : TenantId) (a : Nat) (bs : List Byte) (d : Device) : Device :=
  if spadOk a bs.length then spadWrite v t a bs d else tileTrap v t trapRange d

/-! ### Draws (R310 to R316) -/

/-- Outputs that each lane reserves for n items with k fields an output. -/
def laneCounts (n k : Nat) : List Nat := (List.range 32).map fun l => ((n + 31 - l) / 32 + (k - 1)) / k

/-- The seed, step and budget of the draws of a tenant's step. -/
def drawKey (d : Device) (t : TenantId) : BitVec 128 × Nat × Nat :=
  match (d.tenant t).run, d.stepOf t with
  | some r, some s => (r.seed.value, s.n, r.budget)
  | _, _ => (0, 0, 0)

/-- Outputs from a position of a stream in the step. -/
def drawOuts (d : Device) (t : TenantId) (g pos n : Nat) : List W64 :=
  let (seed, step, budget) := drawKey d t
  if n = 0 then [] else (streamAt seed g (step * budget + pos)).outs n

/-- A command's reservation: the outputs of each lane, and the state with the reservation position moved; none past the
budget (R311, R312, R314). -/
def reserve (v : VtileRef) (t : TenantId) (o : Origin) (counts : List Nat) (d : Device) : Option (List (List W64) × Device) :=
  let (_, _, budget) := drawKey d t
  let x := vt d v
  let start := fun l => match o with | .next => x.draws.toList.getD l 0 | .at p => p
  if (List.range 32).any fun l => decide (0 < counts.getD l 0 ∧ budget < start l + counts.getD l 0) then none
  else
    let outs := (List.range 32).map fun l =>
      drawOuts d t (laneStream v.span.val v.vtile.val l) (start l) (counts.getD l 0)
    match o with
    | .next => some (outs, modVt v (fun x => { x with draws := Vector.ofFn fun l => x.draws[l.val]'l.isLt + counts.getD l.val 0 }) d)
    | .at _ => some (outs, d)

/-- The field of item i, of the given width, from the outputs of its lane (R316). -/
def itemField (outs : List (List W64)) (width i : Nat) : Nat :=
  let per := 64 / width
  let q := i / 32
  field ((outs.getD (i % 32) []).getD (q / per) 0).toNat (width * (q % per)) width

/-- A command that draws goes on with its outputs, or traps with DRAW_BUDGET (R312). -/
def withDraws (v : VtileRef) (t : TenantId) (o : Origin) (counts : List Nat) (k : List (List W64) → Device → Device)
    (d : Device) : Device :=
  match reserve v t o counts d with
  | some (outs, d) => k outs d
  | none => tileTrap v t trapBudget d

end Sys2Proof.Machine
end

