-- ==== Sys2Proof/Machine/Clock.lean ====
section
/-! DEFINITION. The grid divisor: what decides it, when a change takes effect and what a step records of it (R729 to R732,
R734, R758). -/

namespace Sys2Proof.Machine

open Sys2Proof

/-- Divisor of a profile (R729). -/
def profileDivisor : Profile → Nat
  | .full => 8
  | .vehicle => 10

/-- Divisor of a throttle level (R734). -/
def throttleDivisor (p : Profile) (level : Nat) : Nat :=
  if level = 0 then profileDivisor p else if level = 1 then (match p with | .full => 10 | .vehicle => 16) else 16

/-- The profile that the next change point puts into effect. -/
def nextProfile (d : Device) : Profile := d.clocks.newProfile.getD d.clocks.profile

/-- The divisor that the profile, the throttle level and the supply-phase cap select (R729). -/
def wantedDivisor (d : Device) : Nat :=
  max (throttleDivisor (nextProfile d) d.clocks.throttle) (if d.clocks.capped then 16 else 8)

/-- Milliseconds at a divisor in effect above the profile's are counted (DIV10_MS, DIV16_MS). -/
def countDivisor (d : Device) : Device :=
  let n := (d.now - d.clocks.divSince) / ms
  let above := decide (profileDivisor d.clocks.profile < d.clocks.divisor)
  let d := if above && decide (d.clocks.divisor = 10) then bumpBy .div10Ms 0 n d
    else if above && decide (d.clocks.divisor = 16) then bumpBy .div16Ms 0 n d else d
  { d with clocks := { d.clocks with divSince := d.now } }

/-- What a step in progress records of the divisor in effect: its largest, and THROTTLED when it is larger than the
profile's or while holdover runs (R727, R732). -/
def stepDivisor (d : Device) (s : Step) : Step :=
  { s with
    maxDivisor := max s.maxDivisor d.clocks.divisor
    flags := if profileDivisor d.clocks.profile < d.clocks.divisor ∨ d.clocks.holdover.isSome then s.flags ||| (1#16 <<< 7) else s.flags }

/-- The wanted divisor and the journalled profile take effect, in one root-clock cycle for the whole grid; POWER_PROFILE
completes with the profile now in effect (R730, R731). -/
def changeDivisor (d : Device) : Device :=
  let d := countDivisor d
  let d := { d with clocks := { d.clocks with
    divisor := wantedDivisor d, profile := nextProfile d, newProfile := none, pending := none } }
  let d := allTenants.foldl (fun d t => if d.inStep t then modStep t (stepDivisor d) d else d) d
  let waits := d.host.mbx.toList.flatMap fun m => (m.started.filter fun s => decide (s.call.opcode = 0xA1)).map (·.call)
  waits.foldl (fun d c => post c .ok 0 (leBytes 1 (match d.clocks.profile with | .full => 0 | .vehicle => 1)) false d) d

/-- A change is decided, or no longer wanted: it takes effect at once while no tenant has a step in progress, and waits for a
change point otherwise (R730). -/
def decideDivisor (d : Device) : Device :=
  if wantedDivisor d = d.clocks.divisor ∧ d.clocks.newProfile.isNone then { d with clocks := { d.clocks with pending := none } }
  else if allTenants.any d.inStep then
    { d with clocks := { d.clocks with pending := match d.clocks.pending with | some t => some t | none => some d.now } }
  else changeDivisor d

/-- A step start of any tenant is a change point. -/
def divisorPoint (d : Device) : Device := if d.clocks.pending.isSome then changeDivisor d else d

/-- DIVISOR_CHANGE: 10 ms after the decision at the latest. -/
def divisorChange (d : Device) : Device :=
  match d.clocks.pending with
  | none => d
  | some t => changeDivisor (if allTenants.any d.inStep then advanceTo (t + 10 * ms) d else d)

/-- DIVISOR_CHANGE. -/
def execDivisorChange (s : State) : Host.Outcome State Fault Refusal := done s (divisorChange s.dev)

end Sys2Proof.Machine
end

