-- ==== Sys2Proof/Machine/Wheel.lean ====
section
/-! DEFINITION. Tenant shares on the shared resources: the wheel of each arbitration unit, lending and borrowing (R195 to
R201). Arbitration changes when an access is served, never a value. -/

namespace Sys2Proof.Machine

open Sys2Proof

/-- The wheel order of R196. -/
def wheelOrder : List Nat :=
  [0, 16, 8, 24, 4, 20, 12, 28, 2, 18, 10, 26, 6, 22, 14, 30, 1, 17, 9, 25, 5, 21, 13, 29, 3, 19, 11, 27, 7, 23, 15, 31]

/-- Wheel positions of each tenant, in ascending tenant number, for one resource class of a share set. -/
def wheelOf (strict : Nat) (shares : List Nat) : List (List Nat) :=
  let order := ([0, 1, 2, 3].filter fun t => bitAt strict t) ++ [0, 1, 2, 3].filter fun t => !bitAt strict t
  let starts := (order.foldl (fun (acc : List (Nat × Nat) × Nat) t => (acc.1 ++ [(t, acc.2)], acc.2 + shares.getD t 0)) ([], 0)).1
  [0, 1, 2, 3].map fun t => (wheelOrder.drop ((assoc starts t).getD 0)).take (shares.getD t 0)

/-- The share set in effect: strict mask and share words. -/
def sharesNow (d : Device) : Nat × List (BitVec 64) :=
  (((List.range 4).map fun t => b2n ((d.tenants.toList.map (·.strict)).getD t false) * 2 ^ t).sum, d.tenants.toList.map (·.shares))

/-- Shares of a class in a set. -/
def classShares (ws : List (BitVec 64)) (k : Nat) : List Nat := ws.map fun w => field w.toNat (6 * k) 6

/-- The tenant that uses the slot at a wheel position, and whether it borrows it (R197, R198): the owner when it has work;
otherwise, unless the owner is strict, the next work-conserving tenant with work after the last borrower. -/
def slotUser (own : List (List Nat)) (strict : Nat) (ready : List Nat) (last pos : Nat) : Option (Nat × Bool) :=
  let lend := (([1, 2, 3, 4].map fun k => (last + k) % 4).find? fun u => ready.contains u && !bitAt strict u).map fun u => (u, true)
  match [0, 1, 2, 3].find? fun w => (own.getD w []).contains pos with
  | some w => if ready.contains w then some (w, false) else if bitAt strict w then none else lend
  | none => lend

/-- One slot of an arbitration unit passes: who used it, and the unit's wheel and last borrower moved on (log entry 7). -/
def passSlot (cls unit : Nat) (ready : List Nat) (d : Device) : Option (Nat × Bool) × Device :=
  let sh := sharesNow d
  let pos := (assoc d.fabric.wheel (cls, unit)).getD 0
  let last := (assoc d.fabric.borrower (cls, unit)).getD 3
  let user := slotUser (wheelOf sh.1 (classShares sh.2 cls)) sh.1 ready last pos
  let f := { d.fabric with wheel := assocSet d.fabric.wheel (cls, unit) ((pos + 1) % 32) }
  let f := match user with
    | some (u, true) => { f with borrower := assocSet f.borrower (cls, unit) u }
    | _ => f
  (user, { d with fabric := f })

/-- Slots pass until a tenant has used one; a lent one that it uses counts in BORROWED_SLOTS of its resource class (Table
15-15). A tenant that gets no slot in two turns of the wheel goes on waiting. -/
def takeSlot (cls unit : Nat) (t : TenantId) (ready : List Nat) : Nat → Device → Option Device
  | 0, _ => none
  | n + 1, d =>
    match passSlot cls unit ready d with
    | (some (u, b), d) =>
      if u = t.val then some (if b then bump .borrowedSlots (t.val + 4 * (1 + cls)) d else d) else takeSlot cls unit t ready n d
    | (none, d) => takeSlot cls unit t ready n d

/-- A tenant uses n slots of an arbitration unit; none when it gets no slot (R199). `others` have work ready as well. -/
def useSlots (cls unit : Nat) (t : TenantId) (others : List TenantId) : Nat → Device → Option Device
  | 0, d => some d
  | n + 1, d => (takeSlot cls unit t (t.val :: others.map (·.val)) 256 d).bind (useSlots cls unit t others n)

end Sys2Proof.Machine
end

