-- ==== Sys2Proof/Machine/Flits.lean ====
section
/-! DEFINITION. The flits of the Ridge ports: layout, messages, credits, arbitration and sending (R454 to R460, R463, R466, R467,
R469). -/

namespace Sys2Proof.Machine

open Sys2Proof

/-- A Ridge port. -/
def Device.port (d : Device) (p : PortId) : Ridge := d.ridge[p.val]'p.isLt

/-- A port changed. -/
def modPort (p : PortId) (f : Ridge → Ridge) (d : Device) : Device := { d with ridge := vmod d.ridge p f }

/-- Every port. -/
def allPorts : List PortId := List.finRange 8

/-! ### Layout (Table 12-2, Table 12-3) -/

/-- Flit types. -/
def flitData : Nat := 0
def flitMgmt : Nat := 1
def flitLink : Nat := 2
def flitIdle : Nat := 3

/-- The 256 bytes of a flit: header, payload and CRC. -/
def flitBytes (type vc seq side : Nat) (payload : List Byte) : List Byte :=
  let head := leBytes 4 (type * 2 ^ 30 + vc * 2 ^ 27 + seq * 2 ^ 15 + side) ++ fit 248 payload
  head ++ leBytes 4 (crc32 head)

/-- A CREDIT side field for a channel (bits [14:0]). -/
def creditSide (r : Ridge) (ch : Nat) : Nat := 2 ^ 14 + ch * 2 ^ 10 + r.freed.toList.getD ch 0 % 1024

/-- The side field of the next flit, ACK and CREDIT in turn, and the port with the turn moved on (R459). -/
def nextSide (r : Ridge) : Nat × Ridge :=
  match r.side with
  | (false, ch) => (r.rxSeq, { r with side := (true, ch) })
  | (true, ch) => (creditSide r ch, { r with side := (false, (ch + 1) % 10) })

/-- A sequenced flit leaves the port, or leaves it again, with its side field filled afresh. -/
def putFlit (p : PortId) (f : Flit) (d : Device) : Device :=
  let (side, r) := nextSide (d.port p)
  emit (.ridgeFlit p.val (flitBytes (if f.mgmt then flitMgmt else flitData) f.vc f.seq side f.payload)) (modPort p (fun _ => r) d)

/-- A LINK flit leaves the port. It carries an ACK and does not take part in the turn of side fields (R459). -/
def putLink (p : PortId) (bytes : List Byte) (d : Device) : Device :=
  emit (.ridgeFlit p.val (flitBytes flitLink 0 0 (d.port p).rxSeq bytes)) d

/-! ### Credits (R466, R467) -/

/-- Ridge shares of the four tenants. -/
def ridgeShares (d : Device) : List Nat := classShares (sharesNow d).2 6

/-- Credits that link initialisation and a commit of TENANT_SHARES set: 32 a virtual channel, with the reserve of a strict tenant
split between its two, 128 for management, and the shared pool. -/
def initCredits (d : Device) : Vector Nat 10 :=
  let sh := ridgeShares d
  let strict := (sharesNow d).1
  let reserve := fun t => if bitAt strict t then 112 * sh.getD t 0 else 0
  Vector.ofFn fun c =>
    if c.val < 8 then 32 + reserve (c.val / 2) / 2
    else if c.val = 8 then 128
    else 4096 - 256 - ([0, 1, 2, 3].map reserve).sum

/-- The channel whose credit a flit takes: that of its virtual channel or of management; a work-conserving tenant's may take a
shared one. -/
def creditFor (d : Device) (p : PortId) (f : Flit) : Option (Fin 10) :=
  let r := d.port p
  let has := fun c : Fin 10 => decide (0 < r.credits[c.val]'c.isLt)
  if f.mgmt then (if has 8 then some 8 else none)
  else
    let own : Fin 10 := ⟨f.vc % 8, by omega⟩
    if has own then some own
    else if !bitAt (sharesNow d).1 (f.vc / 2 % 4) && has 9 then some 9
    else none

/-! ### Sending (R463, R469) -/

/-- The first waiting flit of a virtual channel or of management. -/
def firstOf (q : List Flit) (mgmt : Bool) (vc : Nat) : Option Flit :=
  q.find? fun f => decide (f.mgmt = mgmt) && (mgmt || decide (f.vc = vc))

/-- The flit of a tenant that goes first: class 0 before class 1, with a credit. -/
def tenantFlit (d : Device) (p : PortId) (t : Nat) : Option (Flit × Fin 10) :=
  let pick := fun vc => (firstOf (d.port p).txq false vc).bind fun f => (creditFor d p f).map fun c => (f, c)
  match pick (2 * t) with
  | some x => some x
  | none => pick (2 * t + 1)

/-- Slots of the port's wheel pass until one is used; a lent one counts in BORROWED_SLOTS. -/
def dataTurn (p : PortId) (ready : List Nat) : Nat → Device → Option Nat × Device
  | 0, d => (none, d)
  | n + 1, d =>
    match passSlot 6 (p.val * 2) ready d with
    | (some (u, b), d) => (some u, if b then bump .borrowedSlots (u + 4 * 7) d else d)
    | (none, d) => dataTurn p ready n d

/-- A waiting flit is sent: it takes its credit and its SEQ, enters the replay buffer and leaves. -/
def sendFlit (p : PortId) (f : Flit) (c : Fin 10) (d : Device) : Device :=
  let r := d.port p
  let g := { f with seq := r.txSeq }
  let d := modPort p (fun r => { r with
    txq := r.txq.erase f, txSeq := (r.txSeq + 1) % 4096, replay := r.replay ++ [g], credits := vmod r.credits c (· - 1)
    sentMgmt := (f.mgmt :: r.sentMgmt).take 32 }) d
  let d := if f.mgmt then d else bump .ridgeFlits (f.vc / 2 + 4 * (8 + 2 * p.val)) d
  putFlit p g d

/-- A MGMT flit may go next: never more than 2 in any 32 flits while a DATA flit waits. -/
def mgmtTurn (r : Ridge) : Bool :=
  !(r.txq.any fun f => !f.mgmt) || decide (((r.sentMgmt.take 31).filter id).length < 2)

/-- The port sends its next flit: management first, then data by the tenant wheel; a port whose cabling differs from the span
configuration carries management only (R472). -/
def sendNext (p : PortId) (d : Device) : Option Device :=
  let r := d.port p
  if !decide (r.state = .active) || decide (2048 ≤ r.replay.length) then none
  else
    let mgmt := if mgmtTurn r then (firstOf r.txq true 0).bind (fun f => (creditFor d p f).map fun c => (f, c)) else none
    match mgmt with
    | some (f, c) => some (sendFlit p f c d)
    | none =>
      if !r.cablingOk then none
      else
        let ready := [0, 1, 2, 3].filter fun t => (tenantFlit d p t).isSome
        if ready.isEmpty then none
        else match dataTurn p ready 64 d with
          | (some t, d) => (tenantFlit d p t).map fun x => sendFlit p x.1 x.2 d
          | (none, _) => none

/-- Waiting flits are sent as far as the replay buffer, the credits and the wheel allow. -/
def pumpGo (p : PortId) : Nat → Device → Device
  | 0, d => d
  | n + 1, d =>
    match sendNext p d with
    | some d => pumpGo p n d
    | none => d

/-- The port sends what it can. -/
def pump (p : PortId) (d : Device) : Device := pumpGo p (d.port p).txq.length d

/-! ### Messages (R460, Table 12-4) -/

/-- KIND codes; a barrier message that goes in-band has none of its own in the table (log entry 11). -/
def kindCode : LinkMsg → Nat
  | .slotData => 0x01 | .reduceOperand => 0x02 | .reduceResult => 0x03 | .poolCandidate => 0x04 | .stateMove => 0x05
  | .spanHello => 0x80 | .spanCommit => 0x81 | .spanHeartbeat => 0x82 | .spanExpel => 0x83
  | .pairDigest => 0x88 | .pairProbe => 0x89 | .imageChunk => 0x90 | .timeSync => 0x91
  | _ => 0

/-- The KINDs that DATA and MGMT flits carry. -/
def dataKinds : List Nat := [1, 2, 3, 4, 5]
def mgmtKinds : List Nat := [0x80, 0x81, 0x82, 0x83, 0x88, 0x89, 0x90, 0x91]

/-- The 16-byte message header. -/
def messageHead (kind src dst vc len handle off : Nat) : List Byte :=
  leBytes 1 kind ++ leBytes 1 (dst * 16 + src) ++ leBytes 1 (vc / 2 + 4 * (vc % 2)) ++ leBytes 1 0 ++ leBytes 4 len ++
    leBytes 4 handle ++ leBytes 4 off

/-- Consecutive 248-byte payloads. -/
def payloads : Nat → List Byte → List (List Byte)
  | 0, _ => []
  | n + 1, bs => if bs.isEmpty then [] else fit 248 bs :: payloads n (bs.drop 248)

/-- The flits of a message join the port's queue, and the port sends what it can. -/
def queueBytes (p : PortId) (vc : Option Nat) (all : List Byte) (d : Device) : Device :=
  let flits := (payloads (all.length / 248 + 1) all).map fun b =>
    ({ mgmt := vc.isNone, vc := vc.getD 0, seq := 0, payload := b } : Flit)
  pump p (modPort p (fun r => { r with txq := r.txq ++ flits }) d)

/-- A message is handed to a port: HANDLE and OFFSET are the first two of its fields, and what follows them goes into its body
(log entry 11). `vc` is none for a MGMT message. -/
def sendMessage (p : PortId) (src dst : Nat) (vc : Option Nat) (kind : LinkMsg) (args : List Nat) (body : List Byte)
    (d : Device) : Device :=
  let bytes := (args.drop 2).flatMap (leBytes 8) ++ body
  let bytes := if bytes.isEmpty then [0] else bytes
  let head := messageHead (kindCode kind) (src % 16) (dst % 16) (vc.getD 0) bytes.length (args.getD 0 0) (args.getD 1 0)
  queueBytes p vc (head ++ bytes) (emit (.ridge p.val kind args body) d)

end Sys2Proof.Machine
end

