-- ==== Sys2Proof/Machine/Models.lean ====
section
/-! DEFINITION. Model descriptions and their placement: the checks of Table 9-7, colouring, spread, coupling exponents and
the model areas of the vtiles (R212 to R215, R338 to R353, R371, R373). -/

namespace Sys2Proof.Machine

open Sys2Proof

/-! ### Descriptions (Table 9-1) -/

/-- A signed little-endian field. -/
def intAt (bs : List Byte) (i n : Nat) : Int := signedCode (8 * n) (leAt bs i n)

/-- One variable record. -/
structure VarRec where
  colour : Nat
  /-- States of a categorical variable, 0 for a binary one. -/
  card : Nat
  bias : Int
  /-- Categorical biases of states 0 to 15. -/
  cat : List Int
  deriving DecidableEq, Repr

/-- One penalty group. -/
structure PenRec where
  l : Int
  r : Nat
  mode : Nat
  count : Nat
  /-- Literals: (variable, state). -/
  members : List (Nat × Nat)
  deriving DecidableEq, Repr

/-- One dense block: sides and codes, row-major over X. -/
structure DenseRec where
  xs : List Nat
  ys : List Nat
  codes : List Int
  deriving DecidableEq, Repr

/-- A description as read. -/
structure Desc where
  enc : Nat
  precoloured : Bool
  prepartitioned : Bool
  nvar : Nat
  sigma : Int
  tau : Int
  rho : Int
  vars : List VarRec
  /-- Coupling records: I, J, W. -/
  coups : List (Nat × Nat × Int)
  pens : List PenRec
  dense : List DenseRec
  part : List Nat
  deriving DecidableEq, Repr

/-- All bytes of a range are zero. -/
def zeroAt (bs : List Byte) (i n : Nat) : Bool := (slice bs i n).all fun b => decide (b = 0)

/-- INT4 element k packed under R90 from a byte position on. -/
def int4At (bs : List Byte) (pos k : Nat) : Int := signedCode 4 (field (leAt bs (pos + k / 2) 1) (4 * (k % 2)) 4)

/-- Rounded up to a multiple of 8. -/
def up8 (n : Nat) : Nat := (n + 7) / 8 * 8

/-- Dense blocks one after another from a position on; none when one runs beyond the tensor or a reserved byte is set. -/
def denseBlocks (bs : List Byte) : Nat → Nat → Option (List DenseRec)
  | 0, _ => some []
  | n + 1, pos =>
    if bs.length < pos + 8 then none
    else
      let nx := leAt bs pos 2
      let ny := leAt bs (pos + 2) 2
      let codesAt := pos + up8 (8 + 4 * (nx + ny))
      let next := codesAt + up8 ((nx * ny + 1) / 2)
      if !zeroAt bs (pos + 4) 4 || decide (bs.length < codesAt + (nx * ny + 1) / 2) ||
          !zeroAt bs (pos + 8 + 4 * (nx + ny)) (codesAt - (pos + 8 + 4 * (nx + ny))) then none
      else
        let ids := (List.range (nx + ny)).map fun k => leAt bs (pos + 8 + 4 * k) 4
        (denseBlocks bs n next).map fun rest =>
          { xs := ids.take nx, ys := ids.drop nx, codes := (List.range (nx * ny)).map (int4At bs codesAt) } :: rest

/-- A section lies on an 8-byte boundary within the tensor. -/
def sectionOk (bs : List Byte) (off len : Nat) : Bool := decide (len = 0) || (decide (off % 8 = 0) && decide (off + len ≤ bs.length))

/-- The header is within Table 9-1 and its fixed-size sections lie in the tensor. -/
def headerOk (bs : List Byte) : Bool :=
  let flags := leAt bs 3 1
  let nvar := leAt bs 4 4
  decide (96 ≤ bs.length) && decide (leAt bs 0 2 = 1) && decide (leAt bs 2 1 < 2) && decide (flags < 4) && decide (1 ≤ nvar) &&
    decide (nvar ≤ 528482304) && zeroAt bs 21 11 && zeroAt bs 80 16 && sectionOk bs (leAt bs 32 8) (4 * nvar) &&
    sectionOk bs (leAt bs 48 8) (12 * leAt bs 8 4) && sectionOk bs (leAt bs 56 8) (72 * leAt bs 12 4) &&
    sectionOk bs (leAt bs 64 8) (leAt bs 16 2) && (flags < 2 || sectionOk bs (leAt bs 72 8) (2 * nvar))

/-- A variable record's fields are those Table 9-1 allows. -/
def varOk (w : Nat) : Bool :=
  decide (field w 16 16 = 0) && (if bitAt w 12 then decide (field w 8 4 ≠ 0) && decide (field w 0 8 = 0) else decide (field w 8 4 = 0))

/-- The variables with their categorical biases, given the word of each and the number of categorical ones before it. -/
def varList (bs : List Byte) (catOff : Nat) : Nat → List Nat → List VarRec
  | _, [] => []
  | c, w :: ws =>
    if bitAt w 12 then
      { colour := field w 13 3, card := field w 8 4 + 1, bias := 0,
        cat := (List.range 16).map fun t => intAt bs (catOff + 16 * c + t) 1 } :: varList bs catOff (c + 1) ws
    else { colour := field w 13 3, card := 0, bias := signedCode 8 (field w 0 8), cat := [] } :: varList bs catOff c ws

/-- A penalty record at a position. -/
def penAt (bs : List Byte) (p : Nat) : PenRec :=
  let count := leAt bs (p + 3) 1
  { l := intAt bs p 1, r := leAt bs (p + 1) 1, mode := leAt bs (p + 2) 1, count := count,
    members := (List.range (min count 8)).map fun k => (leAt bs (p + 8 + 8 * k) 4, leAt bs (p + 12 + 8 * k) 1) }

/-- The reserved bytes and unused members of a penalty record are zero. -/
def penReservedOk (bs : List Byte) (p : Nat) : Bool :=
  let count := min (leAt bs (p + 3) 1) 8
  zeroAt bs (p + 4) 4 && ((List.range count).all fun k => zeroAt bs (p + 13 + 8 * k) 3) && zeroAt bs (p + 8 + 8 * count) (64 - 8 * count)

/-- The description in a tensor; none where the refusal is MODEL_FORMAT. Fields that Table 9-1 fixes and Table 9-7 does not
name apart count as MODEL_FORMAT (log entry 23). -/
def readDesc (bs : List Byte) (perPart : Nat) : Option Desc :=
  if !headerOk bs then none
  else
    let nvar := leAt bs 4 4
    let flags := leAt bs 3 1
    let words := (List.range nvar).map fun i => leAt bs (leAt bs 32 8 + 4 * i) 4
    let ncat := (words.filter fun w => bitAt w 12).length
    let catOff := leAt bs 40 8
    let coupOff := leAt bs 48 8
    let penOff := leAt bs 56 8
    let vars := varList bs catOff 0 words
    let cats := vars.filter fun v => decide (v.card ≠ 0)
    let part := if flags < 2 then [] else (List.range nvar).map fun i => leAt bs (leAt bs 72 8 + 2 * i) 2
    if !(words.all varOk) || !sectionOk bs catOff (16 * ncat) ||
        !((cats.zip (List.range cats.length)).all fun x => zeroAt bs (catOff + 16 * x.2 + x.1.card) (16 - x.1.card)) ||
        !((List.range (leAt bs 8 4)).all fun i => decide (intAt bs (coupOff + 12 * i + 8) 2 ≠ 0) && zeroAt bs (coupOff + 12 * i + 10) 2) ||
        !((List.range (leAt bs 12 4)).all fun i => penReservedOk bs (penOff + 72 * i)) ||
        !(part.all fun p => decide (p < perPart)) then none
    else
      (denseBlocks bs (leAt bs 16 2) (leAt bs 64 8)).map fun dense =>
        { enc := leAt bs 2 1, precoloured := bitAt flags 0, prepartitioned := bitAt flags 1, nvar := nvar,
          sigma := intAt bs 18 1, tau := intAt bs 19 1, rho := intAt bs 20 1, vars := vars,
          coups := (List.range (leAt bs 8 4)).map fun i =>
            (leAt bs (coupOff + 12 * i) 4, leAt bs (coupOff + 12 * i + 4) 4, intAt bs (coupOff + 12 * i + 8) 2),
          pens := (List.range (leAt bs 12 4)).map fun i => penAt bs (penOff + 72 * i), dense := dense, part := part }

/-! ### Checks over a description -/

/-- States of a variable: 0 binary. -/
def Desc.card (m : Desc) (i : Nat) : Nat := match m.vars[i]? with | some v => v.card | none => 0

/-- The pairs of a dense block with their codes. -/
def DenseRec.pairs (b : DenseRec) : List (Nat × Nat × Int) :=
  (List.range (b.xs.length * b.ys.length)).map fun k =>
    (b.xs.getD (k / b.ys.length) 0, b.ys.getD (k % b.ys.length) 0, b.codes.getD k 0)

/-- A pair in ascending order. -/
def ordered (p : Nat × Nat) : Nat × Nat := if p.1 ≤ p.2 then p else (p.2, p.1)

/-- Every coupled pair: the records, then the dense blocks. -/
def Desc.pairs (m : Desc) : List (Nat × Nat) :=
  (m.coups.map fun c => (c.1, c.2.1)) ++ m.dense.flatMap fun b => b.pairs.map fun p => ordered (p.1, p.2.1)

/-- MODEL_DUPLICATE. -/
def Desc.duplicate (m : Desc) : Bool :=
  (m.coups.any fun c => decide (c.2.1 ≤ c.1) || decide (m.nvar ≤ c.2.1)) ||
    (m.dense.any fun b => (b.xs ++ b.ys).any fun i => decide (m.nvar ≤ i)) ||
    (m.pens.any fun g => g.members.any fun x => decide (m.nvar ≤ x.1)) || !decide m.pairs.Nodup

/-- MODEL_KIND_MISMATCH. -/
def Desc.kindMismatch (m : Desc) : Bool :=
  (m.coups.any fun c => !decide ((m.card c.1 = 0) ↔ (m.card c.2.1 = 0))) ||
    m.dense.any fun b => (b.xs ++ b.ys).any fun i => decide (m.card i ≠ 0)

/-- Penalty groups that a variable belongs to. -/
def Desc.groupsOf (m : Desc) (i : Nat) : List Nat :=
  (List.range m.pens.length).filter fun g => match m.pens[g]? with | some p => p.members.any (fun x => decide (x.1 = i)) | none => false

/-- MODEL_PENALTY. -/
def Desc.badPenalty (m : Desc) : Bool :=
  (m.pens.any fun g =>
    decide (g.count = 0) || decide (8 < g.count) || decide (2 < g.mode) || !decide (g.members.map (·.1)).Nodup ||
      g.members.any fun x => decide ((if m.card x.1 = 0 then 2 else m.card x.1) ≤ x.2)) ||
    (List.range m.nvar).any fun i => decide (16 < (m.groupsOf i).length)

/-- Conflicting pairs of R212. -/
def Desc.conflicts (m : Desc) : List (Nat × Nat) :=
  (m.coups.map fun c => (c.1, c.2.1)) ++
    (m.dense.flatMap fun b => (b.pairs.filter fun p => decide (p.2.2 ≠ 0)).map fun p => (p.1, p.2.1)) ++
    m.pens.flatMap fun g => g.members.flatMap fun x => (g.members.filter fun y => !decide (y.1 = x.1)).map fun y => (x.1, y.1)

/-- The variables that conflict with each variable. -/
def Desc.neighbours (m : Desc) : List (List Nat) :=
  let cs := m.conflicts
  (List.range m.nvar).map fun i =>
    (cs.filterMap fun p => if p.1 = i then some p.2 else if p.2 = i then some p.1 else none).eraseDups

/-- Variables coloured in an order, each with the lowest colour that no conflicting coloured variable holds (R213). -/
def greedyColour (nb : List (List Nat)) (order : List Nat) : Option (List (Nat × Nat)) :=
  order.foldl (fun acc i =>
    match acc with
    | none => none
    | some l =>
      let used := (nb.getD i []).filterMap fun j => assoc l j
      (firstFree (fun c => !used.contains c) 0 8).map fun c => (i, c) :: l) (some [])

/-- The colours of the placer, by model id (R213). -/
def placerColours (m : Desc) : Option (List Nat) :=
  let nb := m.neighbours
  let ids := List.range m.nvar
  let second := sortBy (fun a b => decide ((nb.getD b []).length < (nb.getD a []).length)) ids
  let r := match greedyColour nb ids with
    | some l => some l
    | none => greedyColour nb second
  r.map fun l => ids.map fun i => (assoc l i).getD 0

/-- MODEL_COLOUR_CONFLICT of a pre-colouring. -/
def Desc.colourConflict (m : Desc) : Bool :=
  let col := fun i => match m.vars[i]? with | some v => v.colour | none => 0
  m.precoloured && m.conflicts.any fun p => decide (col p.1 = col p.2)

/-! ### Spread (R214, R344 to R346) -/

/-- Rank of the vtile of each variable. -/
def Desc.ranks (m : Desc) (perPart : Nat) : List Nat :=
  if m.prepartitioned then m.part
  else
    let c := (m.nvar + perPart - 1) / perPart
    (List.range m.nvar).map fun i => i / (max c 1)

/-- A model coloured and spread. -/
structure Spread where
  desc : Desc
  perPart : Nat
  colours : List Nat
  ranks : List Nat
  /-- The variables of each rank in ascending (colour, model id): local index by place (R345). -/
  locals : List (List Nat)
  deriving DecidableEq, Repr

/-- The spread of a description with its colours. -/
def spreadOf (m : Desc) (perPart : Nat) (colours : List Nat) : Spread :=
  let ranks := m.ranks perPart
  let ids := (List.range m.nvar).zip (ranks.zip colours)
  { desc := m, perPart := perPart, colours := colours, ranks := ranks,
    locals := (List.range perPart).map fun r =>
      (sortBy (fun (a b : Nat × Nat × Nat) => decide (a.2.2 < b.2.2)) (ids.filter fun x => decide (x.2.1 = r))).map (·.1) }

/-- Rank and local index of a variable. -/
def Spread.place (s : Spread) (i : Nat) : Nat × Nat :=
  let r := s.ranks.getD i 0
  (r, firstIdxOf i (s.locals.getD r []))
where
  firstIdxOf (i : Nat) (l : List Nat) : Nat := (l.takeWhile fun x => !decide (x = i)).length

/-- Coupling records that a rank stores: those with an end in it. -/
def Spread.coupsOf (s : Spread) (r : Nat) : List (Nat × Nat × Int) :=
  s.desc.coups.filter fun c => decide (s.ranks.getD c.1 0 = r) || decide (s.ranks.getD c.2.1 0 = r)

/-- Penalty groups that a rank stores. -/
def Spread.pensOf (s : Spread) (r : Nat) : List PenRec :=
  s.desc.pens.filter fun g => g.members.any fun x => decide (s.ranks.getD x.1 0 = r)

/-- Dense blocks of a rank: the rank of their first member. -/
def Spread.denseOf (s : Spread) (r : Nat) : List DenseRec :=
  s.desc.dense.filter fun b => decide (s.ranks.getD ((b.xs ++ b.ys).headD 0) 0 = r)

/-- Foreign variables of a rank in the order of its halo slots: ascending (colour, rank, local index) (R346). -/
def Spread.halos (s : Spread) (r : Nat) : List Nat :=
  let far := (((s.coupsOf r).flatMap fun c => [c.1, c.2.1]) ++ ((s.pensOf r).flatMap fun g => g.members.map (·.1))).eraseDups.filter
    fun i => !decide (s.ranks.getD i 0 = r)
  let key := fun i => (s.colours.getD i 0, s.place i)
  sortBy (fun a b =>
    let (ca, ra, la) := key a
    let (cb, rb, lb) := key b
    decide (ca < cb) || (decide (ca = cb) && (decide (ra < rb) || (decide (ra = rb) && decide (la < lb))))) far

/-- MODEL_DENSE_SHAPE. -/
def Spread.badDense (s : Spread) : Bool :=
  (s.desc.dense.any fun b =>
    b.xs.isEmpty || b.ys.isEmpty || decide (512 < b.xs.length + b.ys.length) || (b.xs.any b.ys.contains) ||
      decide (1 < (((b.xs ++ b.ys).map fun i => s.ranks.getD i 0).eraseDups).length)) ||
    (List.range s.perPart).any fun r => decide (4 < (s.denseOf r).length)

/-- The model quantum exponent (R341). -/
def Desc.q (m : Desc) : Int := min m.sigma (min m.tau m.rho)

/-- A value is a code from −7 to 7 times 2^e. -/
def codable (w : Int) (e : Nat) : Bool := decide (w % (2 ^ e : Int) = 0) && decide (-7 ≤ w / 2 ^ e) && decide (w / 2 ^ e ≤ 7)

/-- e_v of a rank (R347). -/
def Spread.exponent (s : Spread) (r : Nat) : Option Nat :=
  let ws := ((s.coupsOf r).map (·.2.2)) ++ (s.denseOf r).flatMap (·.codes)
  firstFree (fun e => ws.all fun w => codable w e) 0 13

/-- SH_W of a rank. -/
def Spread.shW (s : Spread) (r : Nat) : Nat := (s.desc.sigma + ((s.exponent r).getD 0 : Nat) - s.desc.q).toNat

/-- MODEL_RANGE. -/
def Spread.badRange (s : Spread) : Bool :=
  let out := fun (x : Int) => decide (x < -24) || decide (24 < x)
  out s.desc.sigma || out s.desc.tau || out s.desc.rho || (s.desc.dense.any fun b => b.codes.any fun c => decide (c = -8)) ||
    ((List.range s.perPart).any fun r => (s.exponent r).isNone || decide (31 < s.shW r)) ||
    decide (31 < (s.desc.tau - s.desc.q).toNat) || decide (31 < (s.desc.rho - s.desc.q).toNat)

/-- The end with the lower (rank, local index) counts a coupling or owns a group (R366). -/
def Spread.firstPlace (s : Spread) (l : List Nat) : Nat × Nat :=
  match l.map s.place with
  | [] => (0, 0)
  | p :: ps => ps.foldl (fun a b => if b.1 < a.1 ∨ (b.1 = a.1 ∧ b.2 < a.2) then b else a) p

/-- The bound of R348 for a rank. -/
def Spread.energyBound (s : Spread) (r : Nat) : Nat :=
  let q := s.desc.q
  let biases := ((s.locals.getD r []).map fun i => max 1 (s.desc.card i)).sum
  let counted := ((s.coupsOf r).filter fun c => decide ((s.firstPlace [c.1, c.2.1]).1 = r)).length +
    ((s.denseOf r).map fun b => b.codes.length).sum
  let owned := ((s.pensOf r).filter fun g => decide ((s.firstPlace (g.members.map (·.1))).1 = r)).length
  127 * 2 ^ (s.desc.tau - q).toNat * biases + 7 * 2 ^ s.shW r * counted + 127 * 2 ^ (s.desc.rho - q).toNat * 65025 * owned

/-! ### Model areas (R349 to R353) -/

/-- Rounded up to a multiple of 16. -/
def up16 (n : Nat) : Nat := (n + 15) / 16 * 16

/-- The index of a variable in a rank's area: local index or halo slot. -/
def Spread.index (s : Spread) (r : Nat) (halos : List Nat) (i : Nat) : Nat :=
  let p := s.place i
  if p.1 = r then p.2 else 3584 + (halos.takeWhile fun x => !decide (x = i)).length

/-- The 16-bit entries of a local variable: its couplings, then its memberships (R351). -/
def Spread.entries (s : Spread) (r : Nat) (halos : List Nat) (e i : Nat) : List Nat :=
  let coup := (s.coupsOf r).filterMap fun c =>
    if c.1 = i then some (c.2.1, c.2.2) else if c.2.1 = i then some (c.1, c.2.2) else none
  let pens := s.pensOf r
  (coup.map fun c => s.index r halos c.1 * 16 + codeOf 4 (c.2 / 2 ^ e)) ++
    ((List.range pens.length).filter fun g => match pens[g]? with | some p => p.members.any (fun x => decide (x.1 = i)) | none => false).map
      fun g => g * 16 + 8

/-- Bytes of nibbles packed under R90. -/
def packNibbles : List Nat → List Byte
  | a :: b :: rest => BitVec.ofNat 8 (a % 16 + 16 * (b % 16)) :: packNibbles rest
  | [a] => [BitVec.ofNat 8 (a % 16)]
  | [] => []

/-- The starts of colours 0 to 8 in a list of variables in ascending colour. -/
def colourStarts (cols : List Nat) : List Nat := (List.range 9).map fun c => (cols.filter fun x => decide (x < c)).length

/-- The sections of a rank's area, in the order of the header's offsets: DESC, BIAS, ENTRY, STATE, HALO, CATBIAS, PEN, DENSE
and SLOTS. `part` gives the vtile numbers of the replica. Slot numbers of the transfers follow one another from 0; the
schedule that fixes them is the placer's (log entry 24). -/
def Spread.sections (s : Spread) (r : Nat) (part : List Nat) (denseBase : Nat) : List (List Byte) :=
  let vars := s.locals.getD r []
  let halos := s.halos r
  let e := (s.exponent r).getD 0
  let ents := vars.map (s.entries r halos e)
  let starts := ents.foldl (fun acc x => acc ++ [acc.getLastD 0 + x.length]) [0]
  let cats := vars.filter fun i => decide (s.desc.card i ≠ 0)
  let rec' := fun i => s.desc.vars.getD i { colour := 0, card := 0, bias := 0, cat := [] }
  let desc := ((vars.zip (List.range vars.length)).flatMap fun x =>
      let k := s.desc.card x.1
      let slot := (cats.takeWhile fun y => !decide (y = x.1)).length
      leBytes 8 (starts.getD x.2 0 + (if k = 0 then 0 else 2 ^ 47 + (k - 1) * 2 ^ 48 + slot * 2 ^ 52))) ++
    leBytes 8 (starts.getLastD 0)
  let bias := vars.map fun i => BitVec.ofInt 8 (rec' i).bias
  let entry := ents.flatten.flatMap fun x => leBytes 2 x
  let halo := halos.flatMap fun i =>
    let p := s.place i
    let v := part.getD p.1 0
    leBytes 2 p.2 ++ leBytes 2 (v % 16384) ++ leBytes 1 (v / 16384) ++ leBytes 1 (s.colours.getD i 0) ++ leBytes 2 0
  let cat := cats.flatMap fun i => (rec' i).cat.map fun b => BitVec.ofInt 8 b
  let pen := (s.pensOf r).flatMap fun g =>
    [BitVec.ofInt 8 g.l] ++ leBytes 1 g.r ++ leBytes 1 g.mode ++ leBytes 1 g.count ++
      fit 16 (g.members.flatMap fun x => leBytes 2 (s.index r halos x.1 * 16 + x.2)) ++
      leBytes 1 (b2n (decide ((s.firstPlace (g.members.map (·.1))).1 = r))) ++ leBytes 3 0
  let blocks := s.denseOf r
  let bodies := blocks.map fun b =>
    let row := (b.ys.length + 31) / 32 * 32
    let codes := ((List.range b.xs.length).flatMap fun x =>
      packNibbles ((List.range row).map fun y => if y < b.ys.length then codeOf 4 (b.codes.getD (x * b.ys.length + y) 0 / 2 ^ e) else 0))
    let idx := (b.xs ++ b.ys).flatMap fun i => leBytes 2 (s.place i).2
    (b, codes, padTo 16 idx)
  let heads := bodies.foldl (fun (acc : List Byte × Nat) x =>
      let offW := acc.2
      let offI := offW + x.2.1.length
      (acc.1 ++ leBytes 2 x.1.xs.length ++ leBytes 2 x.1.ys.length ++ leBytes 4 0 ++ leBytes 4 offW ++ leBytes 4 offI,
        offI + x.2.2.length)) ([], denseBase + 16 * blocks.length)
  let dense := heads.1 ++ bodies.flatMap fun x => x.2.1 ++ x.2.2
  let inOf := fun c => (((halos.filter fun i => decide (s.colours.getD i 0 = c)).map fun i => (s.place i).1).eraseDups).length
  let outOf := fun c => ((List.range s.perPart).filter fun r' => !decide (r' = r) &&
      (s.halos r').any fun i => decide (s.ranks.getD i 0 = r) && decide (s.colours.getD i 0 = c)).length
  let counts := (List.range 8).map inOf ++ (List.range 8).map outOf
  let slots := (counts.flatMap fun n => leBytes 2 n) ++ (List.range counts.sum).flatMap fun n => leBytes 2 n
  [desc, bias, entry, List.replicate 2048 0, halo, cat, pen, dense, slots]

/-- The offsets of sections laid out one after another on 16-byte boundaries from 128 on. -/
def offsetsOf (lens : List Nat) : List Nat := (lens.foldl (fun (acc : List Nat × Nat) n => (acc.1 ++ [acc.2], acc.2 + up16 n)) ([], 128)).1

/-- The area of a rank for a replica. -/
def Spread.area (s : Spread) (r replica : Nat) (part : List Nat) : List Byte :=
  let lens := (s.sections r part 0).map (·.length)
  let offs := offsetsOf lens
  let secs := s.sections r part (offs.getD 7 0)
  let vars := s.locals.getD r []
  let halos := s.halos r
  let q := s.desc.q
  let used := (s.colours.foldl max 0) + 1
  let header := leBytes 2 vars.length ++ leBytes 2 halos.length ++ leBytes 1 s.desc.enc ++ leBytes 1 used ++
    leBytes 1 (s.denseOf r).length ++ leBytes 1 replica ++ leBytes 1 (s.shW r) ++ leBytes 1 (s.desc.tau - q).toNat ++
    leBytes 1 (s.desc.rho - q).toNat ++ [BitVec.ofInt 8 q] ++ leBytes 2 (s.pensOf r).length ++ leBytes 1 0xFF ++ leBytes 1 0 ++
    ((colourStarts (vars.map fun i => s.colours.getD i 0)).flatMap fun n => leBytes 2 n) ++
    ((colourStarts (halos.map fun i => s.colours.getD i 0)).flatMap fun n => leBytes 2 (3584 + n)) ++ List.replicate 12 0 ++
    List.replicate 16 0 ++ (offs.flatMap fun n => leBytes 4 n) ++ List.replicate 12 0
  header ++ secs.flatMap (padTo 16)

/-- W of R379: the largest sum over colours of ⌈n_c / 32⌉. -/
def Spread.lanePositions (s : Spread) : Nat :=
  (s.locals.map fun vars =>
    ((List.range 8).map fun c => ((vars.filter fun i => decide (s.colours.getD i 0 = c)).length + 31) / 32).sum).foldl max 0

/-! ### Refusals (R373, Table 9-7) -/

/-- Reason codes of Table 9-7. -/
def rsnColoursExceeded : Nat := 0x01
def rsnColourConflict : Nat := 0x02
def rsnModelFormat : Nat := 0x03
def rsnKindMismatch : Nat := 0x04
def rsnDuplicate : Nat := 0x05
def rsnModelRange : Nat := 0x06
def rsnPenalty : Nat := 0x07
def rsnDenseShape : Nat := 0x08
def rsnReplicas : Nat := 0x09
def rsnVtileList : Nat := 0x0A
def rsnModelCapacity : Nat := 0x10
def rsnEnergyRange : Nat := 0x11

/-- A vtile-list entry names a vtile of a rectangle. -/
def vtileEntryOk (rect : Nat × Nat × Nat × Nat) (w : Nat) : Bool :=
  let v := field w 0 14
  let (x0, y0, x1, y1) := rect
  decide (v < 9216) && decide (field w 14 14 = 0) && decide (x0 ≤ vtX v) && decide (vtX v ≤ x1) && decide (y0 ≤ vtY v) &&
    decide (vtY v ≤ y1)

/-- The vtile number of an entry: span index × 16,384 + vtile. -/
def vtileOfEntry (w : Nat) : Nat := field w 28 4 * 16384 + field w 0 14

/-- The parts of the vtile list, each in ascending vtile number (R344). -/
def partsOfList (vts : List Nat) (r : Nat) : List (List Nat) :=
  (groupsOfN (vts.length / r) r vts).map fun p => sortBy (fun a b => decide (a < b)) p
where
  groupsOfN (n : Nat) : Nat → List Nat → List (List Nat)
    | 0, _ => []
    | k + 1, l => l.take n :: groupsOfN n k (l.drop n)

/-- A model checked as far as the capacity of its vtiles does not matter: the first reason of R373's order that holds, or
the spread. -/
def checkModel (bs : List Byte) (rect : Nat × Nat × Nat × Nat) (entries : List Nat) (r : Nat) : Except Nat Spread :=
  let listOk := entries.all (vtileEntryOk rect) && decide (entries.map vtileOfEntry).Nodup
  let repOk := decide (1 ≤ r) && decide (r ≤ 64) && decide (entries.length % r = 0) && !entries.isEmpty
  match readDesc bs (if repOk then entries.length / r else 65536) with
  | none => .error rsnModelFormat
  | some m =>
    if !listOk then .error rsnVtileList
    else if !repOk then .error rsnReplicas
    else if m.duplicate then .error rsnDuplicate
    else if m.kindMismatch then .error rsnKindMismatch
    else if m.badPenalty then .error rsnPenalty
    else if (spreadOf m (entries.length / r) []).badDense then .error rsnDenseShape
    else if m.colourConflict then .error rsnColourConflict
    else match (if m.precoloured then some (m.vars.map (·.colour)) else placerColours m) with
      | none => .error rsnColoursExceeded
      | some cols =>
        let s := spreadOf m (entries.length / r) cols
        if s.badRange then .error rsnModelRange else .ok s

/-- The spread exceeds a limit of Table 9-5 that counts as capacity (R215, R371). -/
def Spread.tooLarge (s : Spread) : Bool :=
  (List.range s.perPart).any fun r =>
    decide (3584 < (s.locals.getD r []).length) || decide (512 < (s.halos r).length) || decide (4096 < (s.pensOf r).length)

/-- Some vtile's energy could leave the int32 range (R348). -/
def Spread.energyTooLarge (s : Spread) : Bool :=
  (List.range s.perPart).any fun r => decide (2 ^ 31 - 1 < s.energyBound r)

end Sys2Proof.Machine
end

