-- ==== Sys2Proof/Machine/Steep.lean ====
section
/-! DEFINITION. The Steep engine: fields, updates, halos, energies and replica exchange over the model areas in the
scratchpads (R354 to R370, R795, R796). -/

namespace Sys2Proof.Machine

open Sys2Proof

/-! ### The area of a command -/

/-- The vtile of a vtile number. -/
def refOf (n : Nat) : VtileRef :=
  { span := ⟨n / 16384 % 16, Nat.mod_lt _ (by decide)⟩, vtile := ⟨n % 16384 % 9216, Nat.mod_lt _ (by decide)⟩ }

/-- A model area with the fields of its header that the engine uses (Table 9-2). -/
structure Area where
  v : VtileRef
  base : Nat
  nvar : Nat
  nhalo : Nat
  enc : Nat
  ncolour : Nat
  ndense : Nat
  replica : Nat
  shW : Nat
  shB : Nat
  shP : Nat
  q : Int
  npen : Nat
  last : Nat
  colourStart : List Nat
  haloStart : List Nat
  /-- Section offsets, DESC to SLOTS. -/
  offs : List Nat
  /-- The loaded model whose area it is, when there is one. -/
  model : Option Model
  deriving DecidableEq, Repr

/-- n bytes of an area as a number; 0 beyond the package space of the scratchpad. -/
def areaNat (d : Device) (v : VtileRef) (base off n : Nat) : Nat :=
  if base + off + n ≤ 0x7F000 then d.scratch.readLe (spadCell v (base + off)) n else 0

/-- The model of a tenant that has an area at an address of a vtile. -/
def modelAt (d : Device) (t : TenantId) (v : VtileRef) (base : Nat) : Option Model :=
  (d.tenant t).models.find? fun m => (m.vtiles.zip m.bases).any fun x => decide (x = (vtNum v, base))

/-- The header of an area. -/
def areaOf (d : Device) (t : TenantId) (v : VtileRef) (base : Nat) : Area :=
  let f := areaNat d v base
  { v := v, base := base, nvar := f 0 2, nhalo := f 2 2, enc := f 4 1, ncolour := f 5 1, ndense := f 6 1, replica := f 7 1,
    shW := f 8 1, shB := f 9 1, shP := f 10 1, q := signedCode 8 (f 11 1), npen := f 12 2, last := f 14 1,
    colourStart := (List.range 9).map fun c => f (16 + 2 * c) 2, haloStart := (List.range 9).map fun c => f (34 + 2 * c) 2,
    offs := (List.range 9).map fun k => f (80 + 4 * k) 4, model := modelAt d t v base }

/-- The header is within the ranges of Table 9-2 (R362). -/
def Area.headerOk (a : Area) : Bool :=
  decide (a.nvar ≤ 3584) && decide (a.nhalo ≤ 512) && decide (a.enc ≤ 1) && decide (1 ≤ a.ncolour) && decide (a.ncolour ≤ 8) &&
    decide (a.ndense ≤ 4) && decide (a.replica ≤ 63) && decide (a.shW ≤ 31) && decide (a.shB ≤ 31) && decide (a.shP ≤ 31) &&
    decide (a.npen ≤ 4096)

/-- n bytes of a section of an area. -/
def secNat (d : Device) (a : Area) (k off n : Nat) : Nat := areaNat d a.v a.base (a.offs.getD k 0 + off) n

/-- The state nibble of an index. -/
def nib (d : Device) (a : Area) (x : Nat) : Nat := field (secNat d a 3 (x / 2) 1) (4 * (x % 2)) 4

/-- State nibbles written together. -/
def setNibs (t : TenantId) (a : Area) (l : List (Nat × Nat)) (d : Device) : Device :=
  l.foldl (fun d x =>
    let at_ := a.base + a.offs.getD 3 0 + x.1 / 2
    let old := (d.scratch.read (spadCell a.v at_)).toNat
    let new := if x.1 % 2 = 0 then old / 16 * 16 + x.2 else old % 16 + 16 * x.2
    if at_ < 0x7F000 then spadWrite a.v t at_ [BitVec.ofNat 8 new] d else d) d

/-! ### Items of an area (Table 9-3, R351, R352) -/

/-- The descriptor of a local variable. -/
def descWord (d : Device) (a : Area) (i : Nat) : Nat := secNat d a 0 (8 * i) 8

/-- States of an index: 0 for a binary one. A halo slot has those of its source in the loaded model. -/
def cardOf (d : Device) (a : Area) (x : Nat) : Nat :=
  if x < 3584 then (if bitAt (descWord d a x) 47 then field (descWord d a x) 48 4 + 1 else 0)
  else
    let r := secNat d a 4 (8 * (x - 3584)) 8
    match a.model with
    | none => 0
    | some m =>
      let src := field r 32 8 * 16384 + field r 16 16
      let rank := (m.vtiles.takeWhile fun v => !decide (v = src)).length % (m.vtiles.length / max m.replicas 1)
      m.card.getD ((m.place.takeWhile fun p => !decide (p = (rank, field r 0 16))).length) 0

/-- The entry words of a local variable. -/
def entriesOf (d : Device) (a : Area) (i : Nat) : List Nat :=
  let s := field (descWord d a i) 0 24
  (rangeFrom s (field (descWord d a (i + 1)) 0 24 - s)).map fun k => secNat d a 2 (2 * k) 2

/-- A penalty group of an area. -/
structure AreaPen where
  l : Int
  r : Nat
  mode : Nat
  count : Nat
  /-- Literals: (index, state). -/
  lits : List (Nat × Nat)
  owner : Bool
  deriving DecidableEq, Repr

/-- A penalty group record. -/
def penOf (d : Device) (a : Area) (g : Nat) : AreaPen :=
  let f := fun off n => secNat d a 6 (24 * g + off) n
  { l := signedCode 8 (f 0 1), r := f 1 1, mode := f 2 1, count := f 3 1,
    lits := (List.range (min (f 3 1) 8)).map fun k => (f (4 + 2 * k) 2 / 16, f (4 + 2 * k) 2 % 16), owner := decide (f 20 1 = 1) }

/-- f of a penalty mode (R340). -/
def penF (mode : Nat) (n r : Int) : Int :=
  let x := if mode = 0 then n - r else if mode = 1 then max 0 (n - r) else max 0 (r - n)
  x * x

/-- A literal is true (R795). -/
def litTrue (d : Device) (a : Area) (l : Nat × Nat) : Bool :=
  let n := nib d a l.1
  if cardOf d a l.1 = 0 then (if l.2 = 1 then decide (n ≠ 0) else decide (n = 0) && decide (l.2 = 0)) else decide (n = l.2)

/-- The value of a binary index (R795). -/
def valOf (d : Device) (a : Area) (x : Nat) : Int :=
  if nib d a x = 0 then (if a.enc = 0 then -1 else 0) else 1

/-- The bias of a local variable, and its categorical bias of a state. -/
def biasOf (d : Device) (a : Area) (i : Nat) : Int := signedCode 8 (secNat d a 1 i 1)
def catBiasOf (d : Device) (a : Area) (i t : Nat) : Int := signedCode 8 (secNat d a 5 (16 * field (descWord d a i) 52 12 + t) 1)

/-- The checks of R362 on the items that an update of a variable reads. -/
def itemOk (d : Device) (a : Area) (i : Nat) : Bool :=
  let w := descWord d a i
  let k := cardOf d a i
  let es := entriesOf d a i
  (if k = 0 then decide (field w 48 4 = 0) && decide (field w 52 12 = 0) else decide (2 ≤ k)) &&
    decide (field w 0 24 ≤ field (descWord d a (i + 1)) 0 24) &&
    (es.all fun e =>
      if e % 16 = 8 then
        decide (e / 16 < a.npen) &&
          (let g := penOf d a (e / 16)
           decide (g.mode ≤ 2) && decide (1 ≤ g.count) && decide (g.count ≤ 8) &&
             g.lits.all fun l => decide (l.2 < (if cardOf d a l.1 = 0 then 2 else cardOf d a l.1)))
      else
        (decide (e / 16 < a.nvar) || (decide (3584 ≤ e / 16) && decide (e / 16 < 3584 + a.nhalo))) &&
          decide ((cardOf d a (e / 16) = 0) ↔ (k = 0))) &&
    decide ((es.filter fun e => decide (e % 16 = 8)).length ≤ 16)

/-! ### Dense blocks (R364) -/

/-- A dense block record: NX, NY, the offset of its codes and its local indices. -/
def denseOfArea (d : Device) (a : Area) (b : Nat) : Nat × Nat × Nat × List Nat :=
  let f := fun off n => secNat d a 7 (16 * b + off) n
  (f 0 2, f 2 2, f 8 4, (List.range (f 0 2 + f 2 2)).map fun k => areaNat d a.v a.base (f 12 4 + 2 * k) 2)

/-- Code (x, y) of a block: rows of NY codes padded to a multiple of 32. -/
def denseCode (d : Device) (a : Area) (offW ny x y : Nat) : Int :=
  let k := x * ((ny + 31) / 32 * 32) + y
  signedCode 4 (field (areaNat d a.v a.base (offW + k / 2) 1) (4 * (k % 2)) 4)

/-- The dense part of H of a local variable, from the values in a state. -/
def denseField (d : Device) (a : Area) (i : Nat) : Int :=
  ((List.range a.ndense).map fun b =>
    let (nx, ny, offW, idx) := denseOfArea d a b
    let xs := (List.range nx).filter fun x => decide (idx.getD x 4096 = i)
    let ys := (List.range ny).filter fun y => decide (idx.getD (nx + y) 4096 = i)
    (xs.map fun x => ((List.range ny).map fun y => denseCode d a offW ny x y * valOf d a (idx.getD (nx + y) 0)).sum).sum +
      (ys.map fun y => ((List.range nx).map fun x => denseCode d a offW ny x y * valOf d a (idx.getD x 0)).sum).sum).sum

/-! ### Fields (R354, R355) -/

/-- The memberships of a variable: each group with the number of true literals other than the variable's, and the state of
its own literal if it has one (R796). -/
def memberships (d : Device) (a : Area) (i : Nat) : List (AreaPen × Nat × Option Nat) :=
  ((entriesOf d a i).filter fun e => decide (e % 16 = 8)).map fun e =>
    let g := penOf d a (e / 16)
    let own := g.lits.find? fun l => decide (l.1 = i)
    (g, ((g.lits.filter fun l => !decide (l.1 = i)).filter (litTrue d a)).length, own.map (·.2))

/-- D of a binary variable (R354), given its dense field. -/
def fieldD (d : Device) (a : Area) (dense : Int) (i : Nat) : Int :=
  let h := (((entriesOf d a i).filter fun e => !decide (e % 16 = 8)).map fun e => signedCode 4 (e % 16) * valOf d a (e / 16)).sum + dense
  let m : Int := if a.enc = 0 then 2 else 1
  m * (biasOf d a i * 2 ^ a.shB + h * 2 ^ a.shW) +
    ((memberships d a i).map fun x =>
      let n (t : Nat) : Int := (x.2.1 + b2n (decide (x.2.2 = some t)) : Nat)
      x.1.l * 2 ^ a.shP * (penF x.1.mode (n 0) x.1.r - penF x.1.mode (n 1) x.1.r)).sum

/-- U of a categorical variable in a state (R355). -/
def fieldU (d : Device) (a : Area) (i t : Nat) : Int :=
  -(catBiasOf d a i t * 2 ^ a.shB) -
    (((entriesOf d a i).filter fun e => !decide (e % 16 = 8)).map fun e =>
      if nib d a (e / 16) = t then signedCode 4 (e % 16) * 2 ^ a.shW else 0).sum +
    ((memberships d a i).map fun x =>
      x.1.l * 2 ^ a.shP * penF x.1.mode (x.2.1 + b2n (decide (x.2.2 = some t)) : Nat) x.1.r).sum

/-! ### Updates (R356, R357) -/

/-- FP32 of an int64. -/
def fpOfInt (x : Int) : W32 := rne32 (ofInt x 0)

/-- κ = β × 2^Q in FP32 (R356). -/
def kappa (beta : W32) (q : Int) : W32 := scaleRne beta q

/-- The table index of an energy difference. -/
def indexOf (k : W32) (x : Int) : Int := steepIndex (mul32 (fpOfInt x) k)

/-- A Metropolis move is accepted. -/
def metropolis (k : W32) (u24 : Nat) (x : Int) : Bool :=
  let i := indexOf k x
  decide (i ≤ 0) || decide (u24 < steepQ i)

/-- The new nibble of a binary variable. -/
def updateBinary (metro : Bool) (k : W32) (out : W64) (dd : Int) (old : Nat) : Nat :=
  let u24 := field out.toNat 40 24
  if metro then
    (if metropolis k u24 (if old = 0 then -dd else dd) then (if old = 0 then 1 else 0) else (if old = 0 then 0 else 1))
  else if u24 < steepP (indexOf k dd) then 1 else 0

/-- The new nibble of a categorical variable with k states. -/
def updateCategorical (metro : Bool) (kap : W32) (out : W64) (k : Nat) (u : Nat → Int) (uOld : Int) (old : Nat) : Nat :=
  let u24 := field out.toNat 40 24
  let u32 := field out.toNat 0 32
  if metro then
    let j := (u32 * (k - 1)) >>> 32
    let tp := if j < old then j else j + 1
    if metropolis kap u24 (u tp - uOld) then tp else old
  else
    let us := (List.range k).map u
    let umin := us.foldl min (u 0)
    let ws := us.map fun x => steepQ (indexOf kap (x - umin))
    let r := (u32 * ws.sum) >>> 32
    (ws.foldl (fun (acc : Nat × Nat × Bool) w =>
      let (t, c, found) := acc
      if found then acc else if r < c + w then (t, c + w, true) else (t + 1, c + w, false)) (0, 0, false)).1

/-- The new nibble of a local variable from the state before its window. A Metropolis move that is refused leaves the
nibble's value: a binary update writes 0 or 1, a categorical one a state below k (R795). -/
def newNibble (d : Device) (a : Area) (metro : Bool) (kap : W32) (dense : Int) (out : W64) (i : Nat) : Nat :=
  let old := nib d a i
  let k := cardOf d a i
  if k = 0 then updateBinary metro kap out (fieldD d a dense i) old
  else updateCategorical metro kap out k (fieldU d a i) (fieldU d a i old) old

/-! ### Halo exchange (R360, R406) -/

/-- The slot numbers of a colour's transfers in the SLOTS section: side 0 inbound, 1 outbound. -/
def slotsOf (d : Device) (a : Area) (side c : Nat) : List Nat :=
  let count := fun k => secNat d a 8 (2 * k) 2
  let before := ((List.range (8 * side + c)).map count).sum
  (List.range (count (8 * side + c))).map fun k => secNat d a 8 (32 + 2 * (before + k)) 2

/-- The number of a slot of a vtile among the tenant's. -/
def slotCode (v : VtileRef) (s : Nat) : Nat := vtNum v * 65536 + s

/-- FREE mode: a remote value scattered without a new arrival is counted; the arrival is used up. -/
def countStale (t : TenantId) (src c : Nat) (d : Device) : Device :=
  match (d.tenant t).run with
  | none => d
  | some r =>
    let free := match r.kind with | .anneal _ bs _ => bitAt (leAt bs 2 1) 1 | _ => false
    if free && !r.freshHalo.contains (src, c) then bump .freeStaleScatters t.val d
    else modRun t (fun r => { r with freshHalo := r.freshHalo.filter fun x => !decide (x = (src, c)) }) d

/-- The values of a colour scattered into the halo nibbles, from what their sources gathered last; a source that has
gathered nothing yet leaves the nibble. -/
def scatter (t : TenantId) (a : Area) (c : Nat) (d : Device) : Device :=
  match a.model with
  | none => d
  | some m =>
    let lo := a.haloStart.getD c 3584
    let hi := a.haloStart.getD (c + 1) 3584
    (rangeFrom lo (hi - lo)).foldl (fun d x =>
      let r := secNat d a 4 (8 * (x - 3584)) 8
      let src := field r 32 8 * 16384 + field r 16 16
      match assoc d.halo (src, m.handle, c) with
      | some (start, vals) =>
        let d := setNibs t a [(x, vals.getD (field r 0 16 - start) 0)] d
        if carriesIndex d (src / 16384) then d else countStale t src c d
      | none => d) d

/-- LAST written. -/
def setLast (t : TenantId) (a : Area) (c : Nat) (d : Device) : Device := spadWrite a.v t (a.base + 14) [BitVec.ofNat 8 c] d

/-- Step 1 of R360: the inbound halos of the colour in LAST are scattered and their buffers given back. -/
def takeHalos (t : TenantId) (a : Area) (d : Device) : Device :=
  if 8 ≤ a.last then d
  else
    let slots := (slotsOf d a 0 a.last).map (slotCode a.v)
    let d := setLast t a 0xFF (scatter t a a.last d)
    modTenant t (fun x => { x with
      landed := x.landed.filter fun s => !slots.contains s, posted := x.posted ++ slots.filter fun s => !x.posted.contains s }) d

/-- The inbound halos of the colour in LAST have all landed. -/
def halosLanded (d : Device) (t : TenantId) (a : Area) : Bool :=
  decide (8 ≤ a.last) || (slotsOf d a 0 a.last).all fun s => (d.tenant t).landed.contains (slotCode a.v s)

/-- Step 2 of R360: the values of a colour gathered, their slots posted as complete, and LAST set. -/
def gather (t : TenantId) (a : Area) (c : Nat) (d : Device) : Device :=
  let lo := a.colourStart.getD c 0
  let vals := (rangeFrom lo (a.colourStart.getD (c + 1) 0 - lo)).map (nib d a)
  let slots := (slotsOf d a 1 c).map (slotCode a.v)
  let d := match a.model with
    | some m => { d with halo := assocSet d.halo (vtNum a.v, m.handle, c) (lo, vals) }
    | none => d
  setLast t a c (modTenant t (fun x => { x with posted := x.posted ++ slots.filter fun s => !x.posted.contains s }) d)

/-! ### STEEP_COLOUR (R358, R359) -/

/-- A failed check of R362: the command writes no further window, and the step is invalid. -/
def badArea (t : TenantId) (d : Device) : Device := invalidate t 0x11 none (bump .steepBadArea t.val d)

/-- Outputs that each lane reserves for a colour. -/
def colourCounts (a : Area) (c : Nat) : List Nat :=
  let s := a.colourStart.getD c 0
  let e := a.colourStart.getD (c + 1) 0
  (List.range 32).map fun l => (e + 31 - l) / 32 - (s + 31 - l) / 32

/-- The windows of a colour from one on: all updates of a window read the state before it and are written together. -/
def runWindows (t : TenantId) (a : Area) (metro : Bool) (kap : W32) (dense : Nat → Int) (outs : List (List W64)) (s e : Nat) :
    Nat → Nat → Device → Device × Bool
  | 0, _, d => (d, true)
  | n + 1, w, d =>
    let lo := max s (32 * w)
    let vars := rangeFrom lo (min e (32 * w + 32) - lo)
    if vars.all (itemOk d a) then
      let new := vars.map fun i =>
        (i, newNibble d a metro kap (dense i) ((outs.getD (i % 32) []).getD (i / 32 - (s + 31 - i % 32) / 32) 0) i)
      let changed := (new.filter fun x => !decide (nib d a x.1 = x.2)).length
      let d := bumpBy .steepChanges t.val changed (bumpBy .steepUpdates t.val vars.length d)
      runWindows t a metro kap dense outs s e n (w + 1) (setNibs t a new d)
    else (badArea t d, false)

/-- A colour updated with its outputs. The dense fields come from the values at the command's start (R364). -/
def colourWith (t : TenantId) (a : Area) (c : Nat) (metro : Bool) (beta : W32) (outs : List (List W64)) (d : Device) : Device :=
  let d := takeHalos t a d
  let s := a.colourStart.getD c 0
  let e := a.colourStart.getD (c + 1) 0
  let start := d
  let r := runWindows t a metro (kappa beta a.q) (denseField start a) outs s e ((e + 31) / 32 - s / 32) (s / 32) d
  if r.2 then gather t a c r.1 else r.1

/-- A colour's draws are reserved and the colour updated; a header outside its ranges stops the command first. -/
def steepColourOn (t : TenantId) (v : VtileRef) (base c : Nat) (metro : Bool) (beta : W32) (d : Device) : Device :=
  let a := areaOf d t v base
  if !a.headerOk || decide (a.ncolour ≤ c) then badArea t d
  else withDraws v t .next (colourCounts a c) (fun outs d => colourWith t a c metro beta outs d) d

/-- A Steep command whose area must lie in the package space and whose halos must have landed; it waits otherwise. -/
def steepCommand (v : VtileRef) (base : Nat) (k : TenantId → Device → Device) (d : Device) : Device :=
  onVtile v (fun t d =>
    if !spadOk base 128 then tileTrap v t trapRange d
    else if halosLanded d t (areaOf d t v base) then unitDone v 2 (k t d) else d) d

/-- STEEP_COLOUR (R357 to R364); `wait` is the time in grid cycles that it waited for its halos. -/
def steepColour (v : VtileRef) (base c : Nat) (metro : Bool) (beta : W32) (wait : Nat) (d : Device) : Device :=
  steepCommand v base (fun t d => steepColourOn t v base c metro beta (bumpBy .steepHaloWaitCycles t.val wait d)) d

/-! ### Energies (R365 to R367) -/

/-- The end with the lower (span index, vtile id, local index) is the local variable i, against an index x (R366). -/
def countsPair (d : Device) (a : Area) (i x : Nat) : Bool :=
  if x < 3584 then decide (i < x)
  else
    let r := secNat d a 4 (8 * (x - 3584)) 8
    let src := field r 32 8 * 16384 + field r 16 16
    decide (vtNum a.v < src) || (decide (vtNum a.v = src) && decide (i < field r 0 16))

/-- Bias and coupling terms of a local variable. -/
def ownEnergy (d : Device) (a : Area) (i : Nat) : Int :=
  let pairs := (entriesOf d a i).filter fun e => !decide (e % 16 = 8) && countsPair d a i (e / 16)
  if cardOf d a i = 0 then
    -(biasOf d a i * 2 ^ a.shB * valOf d a i) -
      (pairs.map fun e => signedCode 4 (e % 16) * 2 ^ a.shW * valOf d a i * valOf d a (e / 16)).sum
  else
    -(catBiasOf d a i (nib d a i) * 2 ^ a.shB) -
      (pairs.map fun e => if nib d a i = nib d a (e / 16) then signedCode 4 (e % 16) * 2 ^ a.shW else 0).sum

/-- The terms of the dense blocks. -/
def denseEnergy (d : Device) (a : Area) : Int :=
  ((List.range a.ndense).map fun b =>
    let (nx, ny, offW, idx) := denseOfArea d a b
    ((List.range nx).map fun x => ((List.range ny).map fun y =>
      -(denseCode d a offW ny x y * 2 ^ a.shW * valOf d a (idx.getD x 0) * valOf d a (idx.getD (nx + y) 0))).sum).sum).sum

/-- The penalty terms that the vtile owns. -/
def penEnergy (d : Device) (a : Area) : Int :=
  ((List.range a.npen).map fun g =>
    let p := penOf d a g
    if p.owner then p.l * 2 ^ a.shP * penF p.mode ((p.lits.filter (litTrue d a)).length : Nat) p.r else 0).sum

/-- The groups' own fields are legal (R362). -/
def groupOk (d : Device) (a : Area) (g : Nat) : Bool :=
  let p := penOf d a g
  decide (p.mode ≤ 2) && decide (1 ≤ p.count) && decide (p.count ≤ 8)

/-- The int32 written for an energy, and whether it was cut. -/
def cutEnergy (x : Int) : Int × Bool := (clamp32 x, !in32 x)
where
  in32 (v : Int) : Bool := decide (-(2 ^ 31 : Int) ≤ v) && decide (v ≤ 2 ^ 31 - 1)
  clamp32 (v : Int) : Int := max (-(2 ^ 31 : Int)) (min (2 ^ 31 - 1) v)

/-- E_V and PEN_V formed and written (R365). -/
def steepEnergyOn (t : TenantId) (v : VtileRef) (base : Nat) (d : Device) : Device :=
  let a := areaOf d t v base
  if !a.headerOk then badArea t d
  else
    let d := takeHalos t a d
    if (List.range a.nvar).all (itemOk d a) && (List.range a.npen).all (groupOk d a) then
      let pen := penEnergy d a
      let e := ((List.range a.nvar).map (ownEnergy d a)).sum + denseEnergy d a + pen
      let (e, cutE) := cutEnergy e
      let (p, cutP) := cutEnergy pen
      let d := bumpBy .steepEnergySat t.val (b2n cutE + b2n cutP) d
      spadWrite v t (base + 64) (leBytes 4 (codeOf 32 e) ++ leBytes 4 (codeOf 32 p)) d
    else badArea t d

/-- STEEP_ENERGY. -/
def steepEnergy (v : VtileRef) (base : Nat) (d : Device) : Device :=
  steepCommand v base (fun t d => steepEnergyOn t v base d) d

/-- E_V and PEN_V as an area holds them. -/
def areaEnergy (d : Device) (v : VtileRef) (base : Nat) : Int × Int :=
  (signedCode 32 (areaNat d v base 64 4), signedCode 32 (areaNat d v base 68 4))

/-! ### Replica exchange (R368, R369) -/

/-- The decision of one attempt. -/
def acceptsExchange (q : Int) (betaLo betaHi : W32) (eLo eHi : Int) (u24 : Nat) : Bool :=
  let kx := scaleRne (sub32 betaLo betaHi) q
  let i := steepIndex (mul32 (fpOfInt (eHi - eLo)) kx)
  decide (i ≤ 0) || decide (u24 < steepQ i)

/-- The replica that holds a position. -/
def holderOf (positions : List Nat) (p : Nat) : Nat := (positions.takeWhile fun x => !decide (x = p)).length

/-- An attempt decided: it is counted, and an accepted one swaps the positions of the two replicas. -/
def settleAttempt (t : TenantId) (p lo hi : Nat) (ok : Bool) (pos : List Nat) (d : Device) : List Nat × Device :=
  (if ok then (pos.set lo (p + 1)).set hi p else pos, if ok then bump .exchAccepts t.val d else d)

/-- The attempts of a round in ascending position: the head at the lower position draws from its lane 0; a draw past the
budget traps the head. An attempt whose head another module carries is decided there, and its decision, by position, comes
with the command (R370). -/
def exchangeRound (t : TenantId) (q : Int) (m : Nat) (heads : List VtileRef) (betas : List W32) (energies : List Int)
    (remote : List (Nat × Bool)) : Nat → Nat → List Nat → Device → List Nat × Device
  | 0, _, pos, d => (pos, d)
  | n + 1, p, pos, d =>
    if p + 1 < pos.length ∧ p % 2 = m % 2 then
      let lo := holderOf pos p
      let hi := holderOf pos (p + 1)
      match heads[lo]? with
      | none => exchangeRound t q m heads betas energies remote n (p + 1) pos d
      | some v =>
        if !carriesIndex d v.span.val then
          let (pos, d) := settleAttempt t p lo hi ((assoc remote p).getD false) pos d
          exchangeRound t q m heads betas energies remote n (p + 1) pos d
        else match reserve v t .next ((List.range 32).map fun l => if l = 0 then 1 else 0) d with
          | none => (pos, tileTrap v t trapBudget d)
          | some (outs, d) =>
            let u24 := field ((outs.getD 0 []).getD 0 0).toNat 40 24
            let ok := acceptsExchange q (betas.getD p 0) (betas.getD (p + 1) 0) (energies.getD lo 0) (energies.getD hi 0) u24
            let (pos, d) := settleAttempt t p lo hi ok pos (bump .exchAttempts t.val d)
            exchangeRound t q m heads betas energies remote n (p + 1) pos d
    else exchangeRound t q m heads betas energies remote n (p + 1) pos d

/-- STEEP_EXCHANGE on the heads of all replicas, with the total energy that each head holds. The new positions go to every
head as the command's result, and to the model. -/
def steepExchange (base m : Nat) (heads : List VtileRef) (positions : List Nat) (betas : List W32) (energies : List Int)
    (d : Device) : Device :=
  match heads with
  | [] => d
  | h :: _ =>
    onVtile h (fun t d =>
      let a := areaOf d t h base
      if !a.headerOk then badArea t d
      else
        let (pos, d) := exchangeRound t a.q m heads betas energies [] positions.length 0 positions d
        let d := heads.foldl (fun d v => unitDone v 2 (setResult v (pos.map (BitVec.ofNat 32)) d)) d
        match a.model with
        | some mdl => modTenant t (fun x => { x with models := x.models.map fun y =>
            if y.handle = mdl.handle then { y with working := pos } else y }) d
        | none => d) d

/-! ### Slots of a program (R161, R162) -/

/-- The schedule of the running package contains a slot. -/
def hasSlot (d : Device) (t : TenantId) (slot : Nat) : Bool := ((runDecl d t).map fun k => k.slots.contains slot).getD false

/-- SLOT_POST: a program posts the precondition of one of its slots, whose next transfer has then not landed yet. -/
def slotPost (v : VtileRef) (slot : Nat) (d : Device) : Device :=
  onVtile v (fun t d =>
    if hasSlot d t slot then
      modTenant t (fun x => { x with
        posted := if x.posted.contains (slotCode v slot) then x.posted else x.posted ++ [slotCode v slot]
        landed := x.landed.filter fun s => !decide (s = slotCode v slot) }) d
    else d) d

/-- SLOT_WAIT: a wait on a slot completes once its last beat has landed or left; the controller waits until then. A slot
that the schedule does not contain is a deadlock (Table 2-6). -/
def slotWait (v : VtileRef) (slot : Nat) (d : Device) : Device :=
  onVtile v (fun t d =>
    if hasSlot d t slot then
      modVt v (fun x => { x with waits := if (d.tenant t).landed.contains (slotCode v slot) then none else some slot }) d
    else tileTrap v t trapDeadlock d) d

/-! ### Meanings -/

/-- STEEP_COLOUR. -/
def execSteepColour (v : VtileRef) (area : Nat) (colour : Fin 8) (metropolis : Bool) (beta : W32) (wait : Nat) (s : State) :
    Host.Outcome State Fault Refusal := done s (steepColour v area colour.val metropolis beta wait s.dev)

/-- STEEP_ENERGY. -/
def execSteepEnergy (v : VtileRef) (area : Nat) (s : State) : Host.Outcome State Fault Refusal :=
  done s (steepEnergy v area s.dev)

/-- STEEP_EXCHANGE. -/
def execSteepExchange (area round : Nat) (heads : List VtileRef) (positions : List Nat) (betas : List W32)
    (energies : List Int) (s : State) : Host.Outcome State Fault Refusal :=
  done s (steepExchange area round heads positions betas energies s.dev)

/-- SLOT_POST. -/
def execSlotPost (v : VtileRef) (slot : Nat) (s : State) : Host.Outcome State Fault Refusal := done s (slotPost v slot s.dev)

/-- SLOT_WAIT. -/
def execSlotWait (v : VtileRef) (slot : Nat) (s : State) : Host.Outcome State Fault Refusal := done s (slotWait v slot s.dev)

end Sys2Proof.Machine
end

