-- ==== Sys2Proof/Machine/SpanCore.lean ====
section
/-! DEFINITION. Members of a span, the routes between them, the barrier tree and the lock-step pair's phases (R477 to R485,
R499, R500, R504 to R509). -/

namespace Sys2Proof.Machine

open Sys2Proof

/-! ### Members and the record (Table 12-8) -/

/-- INDICES of the span configuration. -/
def spanSize (d : Device) : Nat := leAt d.span.record 9 1

/-- BARRIER_TIMEOUT and PAIR_WAIT in ns. -/
def barrierTimeout (d : Device) : Nat := leAt d.span.record 16 4 * us
def pairWait (d : Device) : Nat := leAt d.span.record 20 4 * us

/-- Span indices in a mask, ascending. -/
def indicesOf (mask : Nat) : List Nat := (List.range 16).filter fun i => bitAt mask i

/-- The lowest span index that this module carries. -/
def selfIndex (d : Device) : Nat := (indicesOf d.span.carried.toNat).headD 0

/-- The lowest span index of a member. -/
def Member.lowest (m : Member) : Nat := (indicesOf m.indices).headD 0

/-- This module carries an index of its span. -/
def isOwn (d : Device) (i : Nat) : Bool := d.span.carried.getLsbD i

/-- The other member that carries an index. -/
def memberAt (d : Device) (i : Nat) : Option Member := d.span.peers.find? fun m => bitAt m.indices i

/-- This module leads its span (R493). -/
def isLeader (d : Device) : Bool := isOwn d d.span.leader

/-! ### Ports and messages -/

/-- The link group to a neighbour: the ACTIVE ports whose peer carries its index, in ascending port number (R478). -/
def groupTo (d : Device) (i : Nat) : List PortId :=
  match memberAt d i with
  | none => []
  | some m => allPorts.filter fun p => decide ((d.port p).state = .active) && (d.port p).cablingOk && decide ((d.port p).peerSerial = m.serial)

/-- The next coordinate from a towards b on a ring of n, the shorter way and upward on a tie. -/
def ringHop (n a b : Nat) : Nat := if a = b then a else if 2 * ((b + n - a) % n) ≤ n then (a + 1) % n else (a + n - 1) % n

/-- The other way round. -/
def ringBack (n a b : Nat) : Nat := if a = b then a else if 2 * ((b + n - a) % n) ≤ n then (a + n - 1) % n else (a + 1) % n

/-- The next span indices from a towards b in the order in which R479 tries them. -/
def hops (topology n a b : Nat) : List Nat :=
  if a = b then []
  else if topology = 0 then [if a < b then a + 1 else a - 1]
  else if topology = 1 then [ringHop n a b, ringBack n a b]
  else
    let ax := a % 4
    let ay := a / 4
    let bx := b % 4
    let by_ := b / 4
    let x (c : Nat) := ay * 4 + c
    let y (c : Nat) := c * 4 + ax
    ((if ax = bx then [] else [x (ringHop 4 ax bx)]) ++ (if ay = by_ then [] else [y (ringHop 4 ay by_)]) ++
      (if ax = bx then [] else [x (ringBack 4 ax bx)]) ++ (if ay = by_ then [] else [y (ringBack 4 ay by_)]))

/-- The member's index that follows on the way from an index to another one, past the indices that `own` holds. -/
def leaveOwn (topology n : Nat) (own : Nat → Bool) (b : Nat) : Nat → Nat → Nat
  | 0, a => a
  | k + 1, a =>
    if own a then (match hops topology n a b with | [] => a | h :: _ => leaveOwn topology n own b k h) else a

/-- The link group over which a message for an index leaves this module. -/
def routeTo (d : Device) (b : Nat) : List PortId :=
  let a := selfIndex d
  let first := (hops d.span.topology (spanSize d) a b).map fun h =>
    groupTo d (leaveOwn d.span.topology (spanSize d) (isOwn d) b 16 h)
  (first.find? fun g => !g.isEmpty).getD []

/-- A message of a channel leaves by port (HANDLE + VC) mod n of its group (R478); one without a route is kept back by the
routing, and nothing leaves. -/
def sendData (dst vc handle : Nat) (kind : LinkMsg) (args : List Nat) (body : List Byte) (d : Device) : Device :=
  match (routeTo d dst)[(handle + vc) % (routeTo d dst).length]? with
  | some p => sendMessage p (selfIndex d) dst (some vc) kind args body d
  | none => d

/-- A MGMT message leaves by the group's lowest ACTIVE port; its fields stand in `args` and `body` (log entry 11). -/
def sendMgmt (dst : Nat) (kind : LinkMsg) (args : List Nat) (body : List Byte) (d : Device) : Device :=
  match (routeTo d dst).head? with
  | some p => sendMessage p (selfIndex d) dst none kind args body d
  | none => d

/-! ### The barrier tree (R482) -/

/-- The indices of the member that carries an index. -/
def sameMember (d : Device) (i j : Nat) : Bool :=
  if isOwn d i then isOwn d j else match memberAt d i with | some m => bitAt m.indices j | none => decide (i = j)

/-- The index of the parent of the member whose lowest index is a; the leader has itself. -/
def parentOf (d : Device) (a : Nat) : Nat := leaveOwn d.span.topology (spanSize d) (sameMember d a) d.span.leader 16 a

/-- The children of this module in the barrier tree, by their lowest index. -/
def children (d : Device) : List Nat :=
  (d.span.peers.filter fun m => !bitAt m.indices d.span.leader && isOwn d (parentOf d m.lowest)).map Member.lowest

/-! ### Barriers (R481 to R484) -/

/-- The barrier of a number, when it is in progress. -/
def barrierOf (d : Device) (n : Nat) : Option Barrier := d.span.barriers.find? fun b => decide (b.number = n)

/-- A barrier changed; it begins when it was not in progress. -/
def modBarrier (n : Nat) (f : Barrier → Barrier) (d : Device) : Device :=
  let b := (barrierOf d n).getD { number := n }
  { d with span := { d.span with barriers := (d.span.barriers.filter fun x => !decide (x.number = n)) ++ [f b] } }

/-- TYPE of a sideband message (R481). -/
def sidebandType : LinkMsg → Nat
  | .arrive => 1 | .release => 2 | .abort => 3 | .echo => 4 | .echoReply => 5 | .releaseCopy => 7
  | _ => 0

/-- CRC-8 with polynomial 0x07 and start value 0 over n bits of a value, most significant first. -/
def crc8 (v : Nat) : Nat → Nat → Nat
  | 0, c => c
  | n + 1, c =>
    let top := c.testBit 7
    let c := (c * 2) % 256
    crc8 v n (if top != v.testBit n then c ^^^ 0x07 else c)

/-- Bits [31:8] of a sideband message. -/
def sidebandBody (kind : LinkMsg) (n src : Nat) : Nat := (sidebandType kind * 2 ^ 16 + n % 2 ^ 16) * 16 + src % 16

/-- The 32 bits of a sideband message. -/
def sidebandWord (kind : LinkMsg) (n src : Nat) : Nat := sidebandBody kind n src * 256 + crc8 (sidebandBody kind n src) 24 0

/-- A sideband message to a member; over a failed sideband it goes as a MGMT message and the barrier is counted as in-band
(R484). -/
def sideband (dst : Nat) (kind : LinkMsg) (n : Nat) (d : Device) : Device :=
  match (groupTo d dst).head? with
  | none => d
  | some p =>
    if (d.port p).sideband then emit (.ridge p.val kind [sidebandWord kind n (selfIndex d)] []) d
    else modBarrier n (fun b => { b with inband := true }) (sendMessage p (selfIndex d) dst none kind [n, selfIndex d] [] d)

/-- RELEASE, and its copy 20 ns later, go to every child. -/
def sendRelease (n : Nat) (d : Device) : Device :=
  (children d).foldl (fun d c => sideband c .releaseCopy n (sideband c .release n d)) d

/-- RELEASE has come, or the leader gives it: it goes on to the children, and the release instant of R483 is set. -/
def releaseBarrier (n at_ : Nat) (d : Device) : Device :=
  modBarrier n (fun b => { b with releaseAt := match b.releaseAt with | some t => some t | none => some at_ }) (sendRelease n d)

/-- A barrier that this module has reached, with every child's ARRIVE in: the leader releases it, another member sends
ARRIVE to its parent (R482). -/
def tryBarrier (n : Nat) (d : Device) : Device :=
  match barrierOf d n with
  | none => d
  | some b =>
    if b.reached.isSome && b.releaseAt.isNone && (children d).all b.arrived.contains then
      if isLeader d then releaseBarrier n (d.now + (d.span.lMax - d.span.lSelf)) d
      else sideband (parentOf d (selfIndex d)) .arrive n d
    else d

/-- This module reaches its next barrier for a tenant. -/
def reachBarrier (t : TenantId) (d : Device) : Device :=
  let n := d.span.nextBarrier
  let d := { d with span := { d.span with nextBarrier := (n + 1) % 2 ^ 16 } }
  let d := modBarrier n (fun b => { b with reached := some d.now, tenants := b.tenants ++ [t.val] }) d
  tryBarrier n (modRun t (fun r => { r with barrier := some n }) d)

/-- The barrier's local release: its tenants' step starts may go on, and the wait is charged to them (R483, Table 13-7). -/
def localRelease (n : Nat) (d : Device) : Device :=
  match barrierOf d n with
  | none => d
  | some b =>
    match b.releaseAt with
    | none => d
    | some at_ =>
      let d := advanceTo at_ d
      let wait := gridCycles d.clocks.divisor (d.now - b.reached.getD d.now)
      let d := bump .barriers 0 (if b.inband then bump .barrierInband 0 d else d)
      let d := { d with span := { d.span with barriers := d.span.barriers.filter fun x => !decide (x.number = n) } }
      (b.tenants.filterMap tenantOf).foldl (fun d t =>
        bumpBy .barrierWaitCycles t.val wait
          (modRun t (fun r => { r with barrier := none, released := true, barrierWait := r.barrierWait + wait, inband := r.inband || b.inband }) d)) d

/-! ### Runs and span indices (R224, R502, R503) -/

/-- The span indices that a run uses: 0 to E − 1 of its package, or those of its model. -/
def runIndices (d : Device) (t : TenantId) : List Nat :=
  match (d.tenant t).run with
  | none => []
  | some r =>
    match r.kind with
    | .anneal m _ _ =>
      (match (d.tenant t).models.find? fun x => decide (x.handle = m) with
       | some x => (x.vtiles.map (· / 16384)).eraseDups
       | none => [])
    | _ => (match runDecl d t with | some k => List.range k.extent | none => [])

/-- A run is bound to the span: it uses more than one span index (log entry 30). -/
def spanBound (d : Device) (t : TenantId) : Bool := decide (1 < (runIndices d t).length)

/-- An index that the run uses is uncarried. -/
def indexUncarried (d : Device) (t : TenantId) : Bool :=
  (runIndices d t).any fun i => !carriesIndex d i && !(d.span.formed && d.span.members.getLsbD i)

/-! ### The lock-step pair (R504 to R509) -/

/-- A tenant's pair changed. -/
def modPair (t : TenantId) (f : Pair → Pair) : Device → Device := modTenant t fun x => { x with pair := x.pair.map f }

/-- An index of the member with a serial number. -/
def indexOfSerial (d : Device) (s : BitVec 128) : Option Nat := (d.span.peers.find? fun m => decide (m.serial = s)).map Member.lowest

/-- The phase digest with a key (R505). -/
def phaseDigest (key : BitVec 128) (outs : List (List Byte)) (p : Nat) : BitVec 128 :=
  ghashFrom key 0 (outs.flatMap (padTo 16) ++ beBytes 8 p ++ beBytes 8 (8 * (outs.map List.length).sum))

/-- PAIR_DIVERGE with a STATE: MISMATCH or LATE. The pair then stops comparing (R508, R509). -/
def diverge (t : TenantId) (state : Nat) (d : Device) : Device :=
  occur 99 t.val (some t) (modPair t (fun p => { p with state := state, own := [], theirs := [] }) d)

/-- An entry of the phase ring. -/
def Pair.at (p : Pair) (f : Nat) : Option (BitVec 128 × BitVec 128 × Nat) := assoc p.ring f

/-- PAIR_PROBE for the midpoint of the bisection in progress (R509). -/
def sendProbe (t : TenantId) (d : Device) : Device :=
  match (d.tenant t).pair with
  | none => d
  | some p =>
    match p.bisect, indexOfSerial d p.partner with
    | some (lo, hi), some i =>
      let mid := (lo + hi) / 2
      (match p.at mid with
       | some (dp, c, _) => sendMgmt i .pairProbe [p.runId % 2 ^ 32, mid % 2 ^ 32] (bytes16 c ++ bytes16 dp) d
       | none => d)
    | _, _ => d

/-- A comparison of the own value at phase f with the partner's: equal, or the start of a bisection between the last equal
phase and f. The phase ends are compared as well with TIMING (R507, R509, R510). -/
def comparePair (t : TenantId) (f : Nat) (theirs : BitVec 128 × BitVec 128 × Nat) (d : Device) : Device :=
  match (d.tenant t).pair with
  | none => d
  | some p =>
    match p.at f with
    | none => d
    | some (dp, c, cycles) =>
      let d := bump .pairCompares t.val d
      let d := if p.timing && !decide (cycles = theirs.2.2) then bump .pairTimingDiff t.val d else d
      if c = theirs.1 then modPair t (fun p => { p with equalTo := max p.equalTo (f + 1) }) d
      else
        let d := diverge t 1 d
        if p.equalTo = f then modPair t (fun p => { p with found := some (f, dp, theirs.2.1) }) d
        else sendProbe t (modPair t (fun p => { p with bisect := some (p.equalTo, f), found := some (f, dp, theirs.2.1) }) d)

/-- Values that both modules have are compared in order, oldest first. -/
def settlePair (t : TenantId) : Nat → Device → Device
  | 0, d => d
  | n + 1, d =>
    match (d.tenant t).pair with
    | none => d
    | some p =>
      match p.own with
      | [] => d
      | (f, _) :: _ =>
        match assoc p.theirs f with
        | none => d
        | some v =>
          settlePair t n (comparePair t f v (modPair t (fun p => { p with
            own := p.own.filter fun x => !decide (x.1 = f), theirs := p.theirs.filter fun x => !decide (x.1 = f) }) d))

/-- PAIR_DIGEST of the newest phase goes to the partner, and waits for its value. -/
def sendPair (t : TenantId) (d : Device) : Device :=
  match (d.tenant t).pair with
  | none => d
  | some p =>
    match p.ring with
    | [] => d
    | (f, dp, c, cycles) :: _ =>
      if !p.formed || !decide (p.state = 0) || (p.own.any fun x => decide (x.1 = f)) || decide (f < p.equalTo) then d
      else
        let d := match indexOfSerial d p.partner with
          | some i => sendMgmt i .pairDigest [p.runId % 2 ^ 32, f % 2 ^ 32]
              (bytes16 c ++ bytes16 dp ++ (if p.timing then leBytes 8 cycles else [])) d
          | none => d
        settlePair t 64 (modPair t (fun p => { p with own := p.own ++ [(f, d.now)] }) d)

/-- A phase of the paired run has ended: its digest enters the chain and the ring, and is sent after every k-th phase
(R506, R507). -/
def pairPhase (t : TenantId) (outs : List (List Byte)) (cycles : Nat) (d : Device) : Device :=
  match (d.tenant t).pair with
  | none => d
  | some p =>
    if (d.tenant t).runId ≠ some p.runId then d
    else
      let dp := phaseDigest p.key outs p.phases
      let c := gmul (p.chain ^^^ dp) p.key
      let f := p.phases
      let d := modPair t (fun p => { p with chain := c, phases := f + 1, ring := ((f, dp, c, cycles) :: p.ring).take 4096 }) d
      if f % p.every = p.every - 1 then sendPair t d else d

/-- The completion of PAIR_COMPARE_SET for one step of the run: F, STATE and both modules' phase digests (Table 15-9). -/
def pairResult (p : Pair) (n state : Nat) : List Byte :=
  let (f, own, theirs) := match p.found with | some x => x | none => (2 ^ 64 - 1, 0, 0)
  leBytes 8 n ++ leBytes 8 (if p.bisect.isSome then 2 ^ 64 - 1 else f) ++ leBytes 1 state ++ leBytes 7 0 ++ bytes16 own ++ bytes16 theirs

/-- The end of a step of a paired run: its last phase is compared too, and the command posts its completion for the step. -/
def pairStep (t : TenantId) (n : Nat) (d : Device) : Device :=
  let d := sendPair t d
  match (d.tenant t).pair with
  | none => d
  | some p =>
    if p.formed && decide ((d.tenant t).runId = some p.runId) then post p.call .ok 0 (pairResult p n p.state) true d else d

/-- A pair ends: its command completes with STATE STOPPED (Table 15-9). -/
def endPair (t : TenantId) (d : Device) : Device :=
  match (d.tenant t).pair with
  | none => d
  | some p =>
    post p.call .ok 0 (pairResult p ((d.tenant t).nextStep + 2 ^ 64 - 1) 3) false (modTenant t (fun x => { x with pair := none }) d)

/-- The phases of a step that is run again leave the pair's chain and ring. -/
def unwindPair (t : TenantId) (k : Nat) : Device → Device :=
  modPair t fun p =>
    let ring := p.ring.drop k
    { p with phases := p.phases - k, ring := ring, chain := match ring.head? with | some x => x.2.2.1 | none => 0 }

end Sys2Proof.Machine
end

