-- ==== Sys2Proof/Machine/Entropy.lean ====
section
/-! DEFINITION. The TRNG and its DRBG, the commands that wait for entropy, seeds and TENANT_OPEN (R192, R268, R292 to R297,
R324 to R335). -/

namespace Sys2Proof.Machine

open Sys2Proof

/-! ### Reading and changing the entropy source -/

/-- The entropy source changed. -/
def modEntropy (f : Entropy → Entropy) (d : Device) : Device := { d with entropy := f d.entropy }

/-- Start-up is complete (R329). -/
def Entropy.up (e : Entropy) : Bool := decide (1024 ≤ e.startup)

/-- The DRBG answers (R330, R331, R678). -/
def Entropy.ready (e : Entropy) : Bool := e.up && e.instantiated && !e.failed && !e.stopped

/-- Commands that need the DRBG complete with FAULTED until the next module reset (R331, R678). -/
def Entropy.broken (e : Entropy) : Bool := e.failed || e.stopped

/-- A reseed with 1,024 conditioned bits (R330). -/
def reseed (d : Device) : Device :=
  bump .drbgReseeds 0 (modEntropy (fun e => { e with
    absorbed := e.absorbed ++ e.pool.take 1024, pool := e.pool.drop 1024, requests := 0, reseeded := d.now
    reseedDue := false }) d)

/-- One generate request: 128 bits of the DRBG (R330). -/
def generate (d : Device) : BitVec 128 × Device :=
  (Config.drbg d.entropy.absorbed d.entropy.generated,
   modEntropy (fun e => { e with generated := e.generated + 1, requests := e.requests + 1 }) d)

/-- 128 bits after a reseed with prediction resistance (R330). -/
def freshBits (d : Device) : BitVec 128 × Device := generate (reseed d)

/-! ### Health tests and conditioning (R324 to R327) -/

/-- The repetition count carried through a block of n raw bits from bit i on, and whether it reached 41 (R325). -/
def rctGo (raw : BitVec 1024) : Nat → Nat → Option (Bool × Nat) → Bool → Option (Bool × Nat) × Bool
  | 0, _, run, hit => (run, hit)
  | n + 1, i, run, hit =>
    let b := raw.getLsbD i
    let k := match run with | some (c, k) => if c = b then k + 1 else 1 | none => 1
    rctGo raw n (i + 1) (some (b, k)) (hit || decide (41 ≤ k))

/-- The adaptive-proportion count of a block: the bits equal to its first bit (Table 8-4). -/
def aptCount (raw : BitVec 1024) : Nat := ((List.range 1024).filter fun i => raw.getLsbD i = raw.getLsbD 0).length

/-- Conditioned bits of a good block: exclusive-or of pairs, or von Neumann (R327). -/
def conditioned (vonNeumann : Bool) (raw : BitVec 1024) : List Bool :=
  (List.range 512).flatMap fun i =>
    let a := raw.getLsbD (2 * i)
    let b := raw.getLsbD (2 * i + 1)
    if vonNeumann then (if a = b then [] else [a]) else [a != b]

/-! ### Tenants and seeds that wait for entropy -/

/-- A seed is held by a tenant, with its SEED record (R292, R293, R543). -/
def holdSeed (t : TenantId) (value : BitVec 128) (fresh : Bool) (d : Device) : Device :=
  let id := seedId value
  let d := modTenant t (fun x => { x with seed := some { value := value, id := id, fresh := fresh } }) d
  writeRecord recSeed t.val (bytes16 id ++ leBytes 1 (b2n fresh)) d

/-- A step, a DECODE_RUN or an ANNEAL_RUN of the tenant is in progress (R294). -/
def seedBusy (d : Device) (t : TenantId) : Bool :=
  d.inStep t || (decide ((d.tenant t).runState = .running) &&
    match (d.tenant t).run with
    | some r => (match r.kind with | .decode .. => true | .anneal .. => true | _ => false)
    | none => false)

/-- SEED_FRESH once its bits are there (R295, R330). -/
def finishSeedFresh (c : Call) (d : Device) : Device :=
  if seedBusy d c.tenant then finish c .busy 0 d
  else
    let (v, d) := freshBits d
    post c .ok 0 (leBytes 16 v.toNat ++ bytes16 (seedId v)) false (holdSeed c.tenant v true d)

/-- The rectangle of TENANT_OPEN. -/
def openRect (c : Call) : Nat × Nat × Nat × Nat :=
  (field (c.w 2) 0 8, field (c.w 2) 8 8, field (c.w 2) 16 8, field (c.w 2) 24 8)

/-- The tenant that W1 of a command names. -/
def namedTenant (c : Call) : TenantId := ⟨field (c.w 1) 0 2, Nat.mod_lt _ (by decide)⟩

/-- A rectangle that R192 allows: inside the grid, at least 2 vtiles in each dimension, touching a side. -/
def rectOk (r : Nat × Nat × Nat × Nat) : Bool :=
  let (x0, y0, x1, y1) := r
  decide (x1 < 96) && decide (y1 < 96) && decide (x0 + 1 ≤ x1) && decide (y0 + 1 ≤ y1) &&
    (decide (x0 = 0) || decide (y0 = 0) || decide (x1 = 95) || decide (y1 = 95))

/-- Two rectangles overlap. -/
def rectsOverlap (a b : Nat × Nat × Nat × Nat) : Bool :=
  let (ax0, ay0, ax1, ay1) := a
  let (bx0, by0, bx1, by1) := b
  decide (ax0 ≤ bx1) && decide (bx0 ≤ ax1) && decide (ay0 ≤ by1) && decide (by0 ≤ ay1)

/-- What refuses TENANT_OPEN, in the order of R192. -/
def openRefusal (c : Call) (d : Device) : Option Status :=
  let r := openRect c
  if (d.tenant (namedTenant c)).isOpen then some .busy
  else if !rectOk r then some .badParam
  else if allTenants.any fun t => (d.tenant t).isOpen && rectsOverlap r (d.tenant t).rect then some .noResource
  else none

/-- The body of a TENANT record (Table 13-8). -/
def tenantBody (opened : Bool) (r : Nat × Nat × Nat × Nat) : List Byte :=
  let (x0, y0, x1, y1) := r
  leBytes 1 (b2n opened) ++ leBytes 1 0 ++ leBytes 2 x0 ++ leBytes 2 y0 ++ leBytes 2 x1 ++ leBytes 2 y1

/-- The first epoch of a tenant, on the site map of the moment (R216). -/
def firstEpoch (d : Device) (r : Nat × Nat × Nat × Nat) : Epoch :=
  let bad := badSites d
  { number := 1, bad := bad, collars := ((rectVtiles r).filterMap (carrier bad)).eraseDups }

/-- TENANT_OPEN once its bits are there: two keys, one for each of tiers 1 and 2 (R268), and an empty tenant that keeps the
share set in effect (R195). -/
def finishOpen (c : Call) (d : Device) : Device :=
  match openRefusal c d with
  | some st => finish c st 0 d
  | none =>
    let t := namedTenant c
    let r := openRect c
    let d := (freshBits (freshBits d).2).2
    let d := { d with tiers := { d.tiers with keys := d.tiers.keys ||| (1#4 <<< t.val) } }
    let d := modTenant t (fun x =>
      { isOpen := true, rect := r, strict := x.strict, shares := x.shares, epoch := firstEpoch d r }) d
    let d := updateEdges (writeRecord recTenant t.val (tenantBody true r) (resetTenantCounters t.val d))
    post c .ok 0 [BitVec.ofNat 8 t.val] false d

/-- Conditioned bits that a waiting command takes: 1,024 for a seed, twice that for the two keys of TENANT_OPEN. -/
def bitsNeeded (c : Call) : Nat := if c.opcode = 0x10 then 2048 else 1024

/-- A command that waited for entropy completes. -/
def finishEntropy (c : Call) (d : Device) : Device := if c.opcode = 0x10 then finishOpen c d else finishSeedFresh c d

/-- Commands that wait are served in order while there are bits; a reseed that is due comes first (R330). -/
def serveEntropy : Nat → Device → Device
  | 0, d => d
  | n + 1, d =>
    if !d.entropy.ready || underTest d 20 then d
    else if d.entropy.reseedDue then (if 1024 ≤ d.entropy.pool.length then serveEntropy n (reseed d) else d)
    else match d.entropy.waits with
      | [] => d
      | c :: rest =>
        if bitsNeeded c ≤ d.entropy.pool.length then
          serveEntropy n (finishEntropy c (modEntropy (fun e => { e with waits := rest }) d))
        else d

/-- Every command that waits completes with a status. -/
def dropWaits (st : Status) (d : Device) : Device :=
  d.entropy.waits.foldl (fun d c => finish c st 0 d) (modEntropy (fun e => { e with waits := [] }) d)

/-- A command that needs the DRBG: FAULTED after a failure (R331, R678), TIMEOUT after a start-up that did not complete in
time (R333), else at once when the bits are there, else it waits. -/
def askEntropy (c : Call) (d : Device) : Device :=
  let e := d.entropy
  if e.broken then finish c .faulted 0 d
  else if e.timedOut && !e.up then finish c .timeout 0 d
  else
    let waits := !(e.ready && e.waits.isEmpty && !e.reseedDue && decide (bitsNeeded c ≤ e.pool.length))
    let d := if waits && decide (c.opcode = 0x33) then bump .seedFreshWaits 0 d else d
    serveEntropy (e.waits.length + 2) (modEntropy (fun e => { e with waits := e.waits ++ [c] }) d)

/-! ### The DRBG's life -/

/-- The DRBG is instantiated with 1,024 conditioned bits and a nonce of 128 once start-up is complete; its known-answer
tests run (R330, R331). -/
def instantiate (katFails : Bool) (d : Device) : Device :=
  let e := d.entropy
  if e.up && !e.instantiated && !e.broken && decide (1152 ≤ e.pool.length) then
    if katFails then dropWaits .faulted (occur 81 0 none (modEntropy (fun e => { e with failed := true }) d))
    else modEntropy (fun e => { e with
      instantiated := true, absorbed := e.pool.take 1152, pool := e.pool.drop 1152, requests := 0, reseeded := d.now }) d
  else d

/-- The conditioned bits that are kept at most. -/
def poolMax : Nat := 2048

/-- A block that passed both tests (R326 to R329). -/
def goodBlock (k : Fin 4) (raw : BitVec 1024) (katFails : Bool) (d : Device) : Device :=
  let e := d.entropy
  let vn := (e.src[k.val]'k.isLt).mode
  let d := bump .blocksGood k.val d
  if !e.up then
    modEntropy (fun e => { e with startup := e.startup + 1, timedOut := e.timedOut && decide (e.startup + 1 < 1024)
                                  startedAt := if e.startup + 1 = 1024 then d.now else e.startedAt }) d
  else
    let bits := conditioned vn raw
    let d := if vn then bumpBy .vnPairsDropped 0 (512 - bits.length) d else d
    let d := modEntropy (fun e => { e with pool := (e.pool ++ bits).take poolMax }) d
    let d := instantiate katFails d
    serveEntropy (d.entropy.waits.length + 2) d

/-- A block of a source is tested and conditioned or discarded; then the committed conditioning mode takes effect (R324 to
R329). The sources run whenever the module is out of reset and not in BACKUP. -/
def trngBlock (k : Fin 4) (raw : BitVec 1024) (katFails : Bool) (d : Device) : Device :=
  if d.boot.inReset || decide (d.power.state = .backup) || d.entropy.stopped then d
  else
    let s := d.entropy.src[k.val]'k.isLt
    let (run, rct) := rctGo raw 1024 0 s.run false
    let apt := decide (795 ≤ aptCount raw)
    let d := modEntropy (fun e => { e with src := vmod e.src k fun s => { s with run := run, ok := !(rct || apt) } }) d
    let d := if rct then bump .rctFails k.val d else d
    let d := if apt then bump .aptFails k.val d else d
    let d := if rct || apt then bump .blocksDiscarded k.val d else goodBlock k raw katFails d
    modEntropy (fun e => { e with src := vmod e.src k fun s => { s with mode := decide (cfgOr d 0x06000001 0 = 1) } }) d

/-- The DRBG reseeds after 2^16 generate requests or 1 s, whichever comes first (R330). -/
def drbgReseed (d : Device) : Device :=
  if d.entropy.ready then
    let d := if 65536 ≤ d.entropy.requests then d else advanceTo (d.entropy.reseeded + sec) d
    let d := modEntropy (fun e => { e with reseedDue := true }) d
    serveEntropy (d.entropy.waits.length + 2) d
  else d

/-- The 24-hour known-answer tests; a failure raises DRBG_KAT (R331). -/
def drbgKat (fails : Bool) (d : Device) : Device :=
  if d.entropy.ready && fails then
    dropWaits .faulted (occur 81 0 none (modEntropy (fun e => { e with failed := true }) d))
  else d

/-- Start-up has not completed 1 s after the module reset (R333). -/
def startupTimeout (d : Device) : Device :=
  if d.entropy.up || d.boot.inReset then d
  else
    let d := advanceTo (d.boot.resetAt + sec) d
    dropWaits .timeout (modEntropy (fun e => { e with timedOut := true }) d)

/-- When a command's wait for a reseed ends: its deadline, run from the completion of start-up when that came later
(R333, R334). -/
def entropyDue (d : Device) (x : Started) : Nat := max (dueTime d x) (d.entropy.startedAt + firstDeadline x.call.cls)

/-- A reseed has not gathered its bits within the deadline of the command that waits for it (R334). -/
def seedTimeout (m : MailboxId) (tag : W32) (d : Device) : Device :=
  match d.entropy.waits.find? fun c => decide (c.mbx = m) && decide (c.tag = tag) with
  | none => d
  | some c =>
    if d.entropy.up then
      let d := match startedRec d c with | some x => advanceTo (entropyDue d x) d | none => d
      finish c .timeout 0 (modEntropy (fun e => { e with waits := e.waits.filter fun y => !decide (y = c) }) d)
    else d

/-! ### Commands -/

/-- SEED_SET (R292 to R294). -/
def seedSet (c : Call) (d : Device) : Device :=
  if seedBusy d c.tenant then finish c .busy 0 d
  else
    let v := BitVec.ofNat 128 (c.w 1 + 2 ^ 64 * c.w 2)
    post c .ok 0 (bytes16 (seedId v)) false (holdSeed c.tenant v false d)

/-- SEED_FRESH (R294, R330, R331, R333). -/
def seedFresh (c : Call) (d : Device) : Device :=
  if seedBusy d c.tenant then finish c .busy 0 d else askEntropy c d

/-- TENANT_OPEN (R192, R268). -/
def tenantOpen (c : Call) (d : Device) : Device :=
  match openRefusal c d with
  | some st => finish c st 0 d
  | none => askEntropy c d

/-! ### Meanings -/

/-- TENANT_OPEN. -/
def execTenantOpen (c : Call) (s : State) : Host.Outcome State Fault Refusal := done s (runFw c (tenantOpen c) s.dev)

/-- SEED_SET. -/
def execSeedSet (c : Call) (s : State) : Host.Outcome State Fault Refusal := done s (runFw c (seedSet c) s.dev)

/-- SEED_FRESH. -/
def execSeedFresh (c : Call) (s : State) : Host.Outcome State Fault Refusal := done s (runFw c (seedFresh c) s.dev)

/-- TRNG_BLOCK: a source completes a block; `katFails` is the result of the known-answer tests should the DRBG be
instantiated now. -/
def execTrngBlock (k : Fin 4) (raw : BitVec 1024) (katFails : Bool) (s : State) : Host.Outcome State Fault Refusal :=
  done s (trngBlock k raw katFails s.dev)

/-- DRBG_RESEED. -/
def execDrbgReseed (s : State) : Host.Outcome State Fault Refusal := done s (drbgReseed s.dev)

/-- DRBG_KAT: `fails` is the result of the tests. -/
def execDrbgKat (fails : Bool) (s : State) : Host.Outcome State Fault Refusal := done s (drbgKat fails s.dev)

/-- SEED_FRESH_STARTUP_TIMEOUT. -/
def execSeedFreshStartupTimeout (s : State) : Host.Outcome State Fault Refusal := done s (startupTimeout s.dev)

/-- SEED_FRESH_TIMEOUT. -/
def execSeedFreshTimeout (m : MailboxId) (tag : W32) (s : State) : Host.Outcome State Fault Refusal :=
  done s (seedTimeout m tag s.dev)

end Sys2Proof.Machine
end

