-- ==== Sys2Proof/Machine/Tensors.lean ====
section
/-! DEFINITION. Packages, tensors, their bytes and their residency units: PACKAGE_LOAD, PACKAGE_UNLOAD, TENSOR_CREATE,
TENSOR_BIND, TENSOR_READ and RESIDENCY_HINT (R36, R58, R217, R228 to R233, R265, R278, R503, R536, R537, R552, R619, R623,
R624, R794). -/

namespace Sys2Proof.Machine

open Sys2Proof

/-! ### Capacity of the tiers (Table 7-1, R228 to R231, R255) -/

/-- Bytes of a residency unit. -/
def unitBytes : Nat := 2 ^ 21

/-- Units of n bytes. -/
def unitsOf (n : Nat) : Nat := (n + unitBytes - 1) / unitBytes

/-- Units of a stack or package that remain. -/
def MemDevice.capacity (m : MemDevice) (full : Nat) : Nat := if m.health = .lost then 0 else full - m.removed.length

/-- Units that the placer may use: a degraded package takes none, and its own move elsewhere as capacity allows (R260). -/
def MemDevice.usable (m : MemDevice) (full : Nat) : Nat := if m.health = .degraded then 0 else m.capacity full

/-- Units of tiers 1 and 2 after retirement and losses. -/
def tierCapacity (d : Device) (tier : Nat) : Nat :=
  if tier = 1 then (d.tiers.stackDevs.toList.map fun m => m.capacity 32768).sum
  else (d.tiers.packages.toList.map fun m => m.capacity 49152).sum

/-- Units of tiers 1 and 2 that the placer may use. -/
def tierUsable (d : Device) (tier : Nat) : Nat :=
  if tier = 1 then (d.tiers.stackDevs.toList.map fun m => m.usable 32768).sum
  else (d.tiers.packages.toList.map fun m => m.usable 49152).sum

/-- L of R395: bytes of a packed state of a model. -/
def packedLen (m : Model) : Nat := if m.card.all fun k => decide (k = 0) then (m.nvar + 7) / 8 else (m.nvar + 1) / 2

/-- Bytes of a pool entry (R402). -/
def entryBytesOf (m : Model) : Nat := 64 + 64 * ((packedLen m + 63) / 64)

/-- Units of storage of a pool of n entries (R401). -/
def poolUnits (m : Model) (n : Nat) : Nat := unitsOf (2 * n * entryBytesOf m)

/-- Units of all state pools. -/
def poolsUsed (d : Device) : Nat := (d.tenants.toList.map fun x => (x.models.map fun m => poolUnits m m.poolSize).sum).sum

/-- Units of tensors in use or being copied to in a tier. -/
def unitsUsed (d : Device) (tier : Nat) : Nat :=
  (d.tenants.toList.map fun x =>
    (x.units.filter fun u => decide (u.tier = tier) ||
      (match u.migrating with | some (dst, _) => decide (dst = tier) | none => false)).length).sum

/-- Units in use in a tier; the state pools take tier 2 as far as it has room and tier 1 beyond (R401, log entry 34). -/
def tierUsed (d : Device) (tier : Nat) : Nat :=
  let room2 := tierUsable d 2 - unitsUsed d 2 - 64
  unitsUsed d tier + (if tier = 2 then min (poolsUsed d) room2 else poolsUsed d - room2)

/-- Units free for data after the reserve of R231. -/
def tierFree (d : Device) (tier : Nat) : Nat := tierUsable d tier - tierUsed d tier - 64

/-- Bytes of the tier 3 user area. -/
def tier3Bytes : Nat := 2 ^ 41

/-- Bytes in whole 4 KiB pages. -/
def pageBytes (n : Nat) : Nat := (n + 4095) / 4096 * 4096

/-- Tensors of a package that have a master copy in tier 3. -/
def readOnlyBytes (p : PackageDecl) : Nat :=
  ((p.tensors.filter fun x => decide (x.2.2.1 = .readOnly)).map fun x => pageBytes x.2.1).sum

/-- Bytes in use in the tier 3 user area. -/
def tier3Used (d : Device) : Nat :=
  (d.tiers.t3.packages.map fun p => readOnlyBytes p.decl).sum + (d.tiers.t3.checkpoints.map fun k => pageBytes k.bytes.length).sum +
    (d.tenants.toList.map fun x =>
      ((x.tensors.filter fun y => decide (y.mode = .readOnly) && y.package.isNone).map fun y => pageBytes y.size).sum).sum

/-- Bytes free in the tier 3 user area. -/
def tier3Free (d : Device) : Nat := tier3Bytes - tier3Used d

/-- The tier 3 user area is read-only: good spare blocks below 2 % (R265). -/
def tier3ReadOnly (d : Device) : Bool := decide (d.tiers.t3.spare < 200)

/-! ### First-load placement (R231, R232) -/

/-- The tier that a unit of a tensor takes: `free1` and `free2` are the free units and `kept` those that writable tensors
still to be placed need. -/
def chooseTier (cls : Nat) (readOnly : Bool) (free1 free2 kept : Nat) : Nat :=
  if readOnly then
    (if cls = 3 then 3
     else if cls ≠ 2 ∧ 0 < free1 ∧ kept < free1 + free2 then 1
     else if 0 < free2 ∧ kept < free1 + free2 then 2
     else 3)
  else if cls ≠ 2 ∧ cls ≠ 3 ∧ 0 < free1 then 1
  else if 0 < free2 then 2
  else 1

/-- Units of one tensor placed from index i on: the units and the free counts left. -/
def placeUnits (id cls : Nat) (readOnly : Bool) (kept : Nat) : Nat → Nat → Nat × Nat → List RUnit × (Nat × Nat)
  | 0, _, free => ([], free)
  | n + 1, i, (f1, f2) =>
    let tier := chooseTier cls readOnly f1 f2 (if readOnly then kept else kept - i - 1)
    let free := if tier = 1 then (f1 - 1, f2) else if tier = 2 then (f1, f2 - 1) else (f1, f2)
    let (rest, last) := placeUnits id cls readOnly kept n (i + 1) free
    ({ tensor := id, index := i, tier := tier } :: rest, last)

/-- The place of a class in the order of R232. -/
def classRank (cls : Nat) : Nat := if cls = 1 then 0 else if cls = 2 then 2 else if cls = 3 then 3 else 1

/-- Tensors (id, size, mode, class) placed in the order of R232. -/
def placeAll (free : Nat × Nat) (ts : List (Nat × Nat × CarryMode × Nat)) : List RUnit :=
  let order := sortBy (fun (a b : Nat × Nat × CarryMode × Nat) => decide (classRank a.2.2.2 < classRank b.2.2.2)) ts
  let writable := fun x : Nat × Nat × CarryMode × Nat => !decide (x.2.2.1 = .readOnly)
  let total := ((order.filter writable).map fun x => unitsOf x.2.1).sum
  (order.foldl (fun (acc : List RUnit × (Nat × Nat) × Nat) x =>
    let (us, fr, kept) := acc
    let (more, fr) := placeUnits x.1 x.2.2.2 (!writable x) kept (unitsOf x.2.1) 0 fr
    (us ++ more, fr, if writable x then kept - unitsOf x.2.1 else kept)) ([], free, total)).1

/-! ### Tensors -/

/-- A tensor of a tenant. -/
def findTensor (d : Device) (t : TenantId) (id : Nat) : Option Tensor := (d.tenant t).tensors.find? fun x => decide (x.id = id)

/-- A tensor changed. -/
def modTensor (t : TenantId) (id : Nat) (f : Tensor → Tensor) : Device → Device :=
  modTenant t fun x => { x with tensors := x.tensors.map fun y => if y.id = id then f y else y }

/-- Bytes of which a lost tensor keeps track: pages of a master copy in tier 3, lines elsewhere (R274, R278). -/
def Tensor.grain (x : Tensor) : Nat := if x.mode = .readOnly then 4096 else 64

/-- What is left of a lost range once the lines or pages that a write covers in full are whole again. -/
def cutRange (lo hi : Nat) (r : Nat × Nat) : List (Nat × Nat) :=
  let last := r.1 + r.2
  if hi ≤ lo then [r]
  else [(r.1, min last lo - r.1), (max r.1 hi, last - max r.1 hi)].filter fun q => decide (0 < q.2)

/-- Bytes written to a tensor: a lost line or page that the write covers in full is whole again; bytes that fall in one it
covers in part are discarded (R274, R278). -/
def Tensor.write (x : Tensor) (off : Nat) (bs : List Byte) : Tensor :=
  let last := off + bs.length
  let lo := (off + x.grain - 1) / x.grain * x.grain
  let hi := if x.size ≤ last then (last + x.grain - 1) / x.grain * x.grain else last / x.grain * x.grain
  let left := x.lost.flatMap (cutRange lo hi)
  let m := left.foldl (fun m r => m.writeN r.1 (x.bytes.readN r.1 r.2)) (x.bytes.writeN off bs)
  { x with bytes := m, lost := left }

/-- A byte of a tensor is lost. -/
def Tensor.isLost (x : Tensor) (a : Nat) : Bool := x.lost.any fun r => decide (r.1 ≤ a) && decide (a < r.1 + r.2)

/-- The tensor is damaged: one of its tier 3 pages is lost (R278). -/
def Tensor.damaged (x : Tensor) : Bool := decide (x.mode = .readOnly) && !x.lost.isEmpty

/-- Any of n bytes from an offset is lost. -/
def Tensor.rangeLost (x : Tensor) (off n : Nat) : Bool := x.lost.any fun r => decide (r.1 < off + n) && decide (off < r.1 + r.2)

/-- How many lines or pages of a byte range are lost (R282). -/
def Tensor.lostGrains (x : Tensor) (off n : Nat) : Nat :=
  if n = 0 then 0
  else ((rangeFrom (off / x.grain) ((off + n - 1) / x.grain - off / x.grain + 1)).filter fun g => x.rangeLost (g * x.grain) x.grain).length

/-- Bytes read from a tensor; a lost byte has no value in the spec, and each is a free value (log entry 1). -/
def readFree (x : Tensor) (off n : Nat) (d : Device) : List Byte × Device :=
  if x.rangeLost off n then
    ((List.range n).map fun i => if x.isLost (off + i) then (Config.free64 (d.fresh + i)).setWidth 8 else x.bytes.read (off + i),
     { d with fresh := d.fresh + n })
  else (x.bytes.readN off n, d)

/-- Where a lost line of a tensor lay: source and instance of the tier that held it. -/
def lostPlace (d : Device) (t : TenantId) (id off n : Nat) : SourceId × Nat :=
  let hit := fun m : MemDevice => m.poison.any fun r =>
    decide (r.tenant = t.val) && decide (r.tensor = id) && decide (r.off < off + n) && decide (off < r.off + r.len)
  match d.tiers.stackDevs.toList.findIdx? hit with
  | some s => (1, s)
  | none => (2, (d.tiers.packages.toList.findIdx? hit).getD 0)

/-- A step reads a lost line of a writable tensor, which raises the tier's source, or a lost page of a damaged tensor: it is
invalidated (R276, R278, R279). -/
def lostRead (t : TenantId) (id off n : Nat) (d : Device) : Device :=
  match findTensor d t id with
  | none => d
  | some x =>
    if !x.rangeLost off n || !d.inStep t then d
    else if x.mode = .readOnly then invalidate t 0x13 (some 3) d
    else
      let (src, inst) := lostPlace d t id off n
      invalidate t 0x12 (some src.val) (occur src inst (some t) d)

/-- A tensor as the last committed step left it (R624). -/
def undoTensor (undo : List (Nat × Nat × List Byte)) (x : Tensor) : Tensor :=
  { x with bytes := (undo.filter fun u => decide (u.1 = x.id)).foldl (fun m u => m.writeN u.2.1 u.2.2) x.bytes }

/-- What undoes the writes of the step in progress, or of the step that stopped the run. -/
def undoLog (d : Device) (t : TenantId) : List (Nat × Nat × List Byte) :=
  match d.stepOf t with
  | some s => s.undo
  | none => (d.tenant t).residue

/-- Accesses of a step to a tensor are counted per unit in 64-byte lines (R234). -/
def countAccess (t : TenantId) (id off n : Nat) : Device → Device :=
  modTenant t fun x => { x with units := x.units.map fun u =>
    if u.tensor = id then
      let lo := max off (u.index * unitBytes)
      let hi := min (off + n) ((u.index + 1) * unitBytes)
      { u with count := u.count + (if lo < hi then (hi + 63) / 64 - lo / 64 else 0) }
    else u }

/-- Pages of 4 KiB that n bytes from an offset touch. -/
def touchedPages (off n : Nat) : List Nat := if n = 0 then [] else rangeFrom (off / 4096) ((off + n - 1) / 4096 + 1 - off / 4096)

/-- A write to a page that a migration has copied marks the page (R238). -/
def markPages (t : TenantId) (id off n : Nat) : Device → Device :=
  modTenant t fun x => { x with units := x.units.map fun u =>
    if u.tensor = id ∧ u.migrating.isSome then
      { u with marked := (u.marked ++ (touchedPages off n).filter fun p => decide (p / 512 = u.index) && !u.marked.contains p) }
    else u }

/-- The 64-byte lines of an IN_PLACE tensor that a step writes for the first time are journalled, as far as JOURNAL_BYTES
reaches; each entry takes the line and its 8-byte address (R536, R537). -/
def journalLinesOf (t : TenantId) (x : Tensor) (off n : Nat) (d : Device) : Device :=
  match x.mode, runDecl d t with
  | .inPlace, some k =>
    let lines := if n = 0 then [] else rangeFrom (off / 64) ((off + n - 1) / 64 + 1 - off / 64)
    lines.foldl (fun d l =>
      match d.stepOf t with
      | none => d
      | some s =>
        if s.overflowed || (s.journal.any fun j => decide (j.1 = x.id) && decide (j.2.1 = 64 * l)) then d
        else if k.journalBytes < 72 * (s.journal.length + 1) then
          bump .journalOverflows t.val (modStep t (fun s => { s with overflowed := true }) d)
        else
          bump .journalLines t.val (modStep t (fun s => { s with
            journal := s.journal ++ [(x.id, 64 * l, x.bytes.readN (64 * l) 64)] }) d)) d
  | _, _ => d

/-- A step of the tenant writes a tensor through an edge slot. -/
def stepWrite (t : TenantId) (id off : Nat) (bs : List Byte) (d : Device) : Device :=
  match findTensor d t id with
  | none => d
  | some x =>
    let d := journalLinesOf t x off bs.length d
    let d := modStep t (fun s => { s with undo := (id, off, x.bytes.readN off bs.length) :: s.undo }) d
    countAccess t id off bs.length (markPages t id off bs.length (modTensor t id (fun y => y.write off bs) d))

/-- The item of a tensor write in HOST_DIGEST (R524). -/
def writeItem (id off : Nat) (bs : List Byte) : List Byte := leBytes 4 id ++ leBytes 4 bs.length ++ leBytes 8 off ++ bs

/-- A host write to a tensor lands and is an input of the run's next step (R283, R524, R623). -/
def hostWrite (t : TenantId) (id off : Nat) (bs : List Byte) (d : Device) : Device :=
  let d := markPages t id off bs.length (modTensor t id (fun y => y.write off bs) d)
  modTenant t (fun x => { x with hostInputs := x.hostInputs ++ writeItem id off bs }) d

/-! ### Names of objects (R618, R619) -/

/-- Every handle in use. -/
def usedHandles (d : Device) : List Nat :=
  d.tenants.toList.flatMap fun x => x.packages.map (·.handle) ++ x.models.map (·.handle)

/-- The handle of the next package or model: the lowest from 1 on that none has (log entry 25). -/
def newHandle (d : Device) : Nat :=
  let used := usedHandles d
  (firstFree (fun h => !used.contains h) 1 (used.length + 1)).getD 1

/-- A handle names a package of another tenant. -/
def foreignPackage (d : Device) (t : TenantId) (h : Nat) : Bool :=
  allTenants.any fun u => !decide (u = t) && (d.tenant u).packages.any fun p => decide (p.handle = h)

/-- The loaded package that a command names, or what refuses it. -/
def withPackage (c : Call) (h : Nat) (k : Package → Device → Device) (d : Device) : Device :=
  match (d.tenant c.tenant).packages.find? fun p => decide (p.handle = h) with
  | some p => if p.ready then k p d else finish c .busy 0 d
  | none => if foreignPackage d c.tenant h then finish c .notOwner 0 d else badParam c rsnUnknownHandle d

/-- The tensor that a command names, or what refuses it. -/
def withTensor (c : Call) (id : Nat) (k : Tensor → Device → Device) (d : Device) : Device :=
  match findTensor d c.tenant id with
  | some x => if x.ready then k x d else finish c .busy 0 d
  | none => badParam c rsnUnknownHandle d

/-! ### PACKAGE_LOAD -/

/-- Bytes of the 508 KiB of a vtile that packages and model areas take (R794). -/
def vtileTaken (d : Device) (num : Nat) : Nat :=
  (d.tenants.toList.map fun x =>
    ((x.packages.filter fun p =>
        let (x0, y0, x1, y1) := p.decl.rect
        let v := num % 16384
        decide (num / 16384 < p.decl.extent) && decide (x0 ≤ vtX v) && decide (vtX v ≤ x1) && decide (y0 ≤ vtY v) && decide (vtY v ≤ y1)).map
      fun p => p.decl.dataBytes).sum +
    ((x.models.filter fun m => m.package.isNone).map fun m =>
      (((m.vtiles.zip m.lengths).filter fun q => decide (q.1 = num)).map (·.2)).sum).sum).sum

/-- Bytes of package space of a vtile. -/
def vtileSpace : Nat := 508 * 1024

/-- A rectangle lies within another. -/
def rectWithin (a b : Nat × Nat × Nat × Nat) : Bool :=
  let (ax0, ay0, ax1, ay1) := a
  let (bx0, by0, bx1, by1) := b
  decide (bx0 ≤ ax0) && decide (by0 ≤ ay0) && decide (ax1 ≤ bx1) && decide (ay1 ≤ by1) && decide (ax0 ≤ ax1) && decide (ay0 ≤ ay1)

/-- The tenant's share of resource class k of Table 5-6. -/
def shareOf (x : Tenant) (k : Nat) : Nat := field x.shares.toNat (6 * k) 6

/-- A strict tenant has no share of a class that the package uses (R199). -/
def shareMissing (x : Tenant) (p : PackageDecl) : Bool :=
  x.strict && (List.range 7).any fun k => bitAt p.uses k && decide (shareOf x k = 0)

/-- The first reason of R373 for which a carried model is refused, with its status. -/
def modelRefusal (rect : Nat × Nat × Nat × Nat) (m : ModelDecl) : Option (Status × Nat) :=
  match checkModel m.description rect m.vtiles m.replicas with
  | .error r => some (.badParam, r)
  | .ok s =>
    if s.tooLarge then some (.wontFit, rsnModelCapacity)
    else if s.energyTooLarge then some (.wontFit, rsnEnergyRange)
    else none

/-- What refuses PACKAGE_LOAD, in this order: its parameters, its span, its shares, its size (log entry 26). -/
def loadRefusal (c : Call) (p : PackageDecl) (stored : Bool) (d : Device) : Option (Status × Nat) :=
  let x := d.tenant c.tenant
  let ids := p.tensors.map (·.1)
  let writable := ((p.tensors.filter fun y => !decide (y.2.2.1 = .readOnly)).map fun y => unitsOf y.2.1).sum
  let nums := (List.range p.extent).flatMap fun i => if carriesIndex d i then (rectVtiles p.rect).map (i * 16384 + ·) else []
  if !p.paramsOk || decide (2 ^ 32 < p.budget) || decide (p.extent = 0) || decide (16 < p.extent) ||
      (p.decodes && decide (p.budget < 16)) || !decide ids.Nodup || (ids.any fun i => decide (2 ^ 31 ≤ i)) ||
      (ids.any fun i => (findTensor d c.tenant i).isSome) then some (.badParam, 0)
  else if (List.range p.extent).any fun i => !carriesIndex d i && !d.span.members.getLsbD i then some (.spanMismatch, rsnIndexUncarried)
  else if shareMissing x p then some (.noResource, 0)
  else if tier3ReadOnly d && !stored && decide (0 < readOnlyBytes p) then some (.noResource, 0)
  else match p.models.findSome? (modelRefusal p.rect) with
    | some r => some r
    | none =>
      if !rectWithin p.rect x.rect || decide (4 < p.strainers) || decide (8 < p.ports) || decide (12288 < p.scheduleBytes) ||
          uncarried d p.rect || (nums.any fun n => decide (vtileSpace < vtileTaken d n + p.dataBytes)) ||
          decide (tierFree d 1 + tierFree d 2 < writable) || (!stored && decide (tier3Free d < readOnlyBytes p)) then some (.wontFit, 0)
      else none

/-- The record of a model loaded into areas at the given base addresses (R344, R345, R349, R379). -/
def modelRecord (handle : Nat) (package : Option Nat) (s : Spread) (parts : List (List Nat)) (bases : List Nat) : Model :=
  { handle := handle, package := package, nvar := s.desc.nvar, ncolour := s.colours.foldl max 0 + 1, q := s.desc.q
    w := s.lanePositions, replicas := parts.length, vtiles := parts.flatten, bases := bases
    lengths := ((List.range parts.length).zip parts).flatMap fun q =>
      (List.range q.2.length).map fun r => (s.area r q.1 q.2).length
    card := s.desc.vars.map (·.card), place := (List.range s.desc.nvar).map s.place
    positive := s.desc.pens.all fun g => decide (0 < g.l)
    positions := List.range parts.length, working := List.range parts.length }

/-- The areas of a model are written to the scratchpads of its vtiles that this module carries. -/
def writeAreas (s : Spread) (parts : List (List Nat)) (m : Model) (d : Device) : Device :=
  (((List.range parts.length).zip parts).flatMap fun q =>
      ((List.range q.2.length).zip q.2).map fun r => (q.1, r.1, q.2, r.2)).foldl (fun d a =>
    let (replica, rank, part, num) := a
    if carriesIndex d (num / 16384) then
      spadPut (refOf num) ((assoc (m.vtiles.zip m.bases) num).getD 0) (s.area rank replica part) d
    else d) d

/-- The models that a package carries. -/
def loadModels (t : TenantId) (h : Nat) (p : PackageDecl) (d : Device) : Device :=
  p.models.foldl (fun d m =>
    match checkModel m.description p.rect m.vtiles m.replicas with
    | .error _ => d
    | .ok s =>
      let parts := partsOfList (m.vtiles.map vtileOfEntry) m.replicas
      let r := modelRecord (newHandle d) (some h) s parts (m.vtiles.map fun _ => m.base)
      writeAreas s parts r (modTenant t (fun x => { x with models := x.models ++ [r] }) d)) d

/-- The image of a package in the scratchpads of its vtiles. -/
def writeImage (p : PackageDecl) (d : Device) : Device :=
  p.image.foldl (fun d i => if carriesIndex d (i.1 / 16384) then spadPut (refOf i.1) i.2.1 i.2.2 d else d) d

/-- A tensor that a package declares, with its contents. -/
def packageTensor (h : Nat) (p : PackageDecl) (x : Nat × Nat × CarryMode × Nat) : Tensor :=
  { id := x.1, size := x.2.1, mode := x.2.2.1, cls := x.2.2.2, package := some h
    bytes := (p.tensorData.filter fun q => decide (q.1 = x.1)).foldl (fun m q => m.writeN q.2.1 q.2.2) [] }

/-- A package is loaded, stored in tier 3, placed and written to its vtiles, and the command completes (R229, R232). -/
def doLoad (c : Call) (p : PackageDecl) (digest : BitVec 384) (stored : Bool) (d : Device) : Device :=
  match loadRefusal c p stored d with
  | some (st, r) => finish c st r d
  | none =>
    let t := c.tenant
    let h := newHandle d
    let units := placeAll (tierFree d 1, tierFree d 2) p.tensors
    let d := if stored then d else { d with tiers := { d.tiers with t3 := { d.tiers.t3 with
      packages := d.tiers.t3.packages ++ [{ tenant := t.val, decl := p, digest := digest }] } } }
    let d := if stored then d else bumpBy .hostWrites 0 (readOnlyBytes p) d
    let d := modTenant t (fun x => { x with
      packages := x.packages ++ [{ handle := h, decl := p, digest := digest, driving := c.flag 8 }]
      tensors := x.tensors ++ p.tensors.map (packageTensor h p), units := x.units ++ units }) d
    let d := loadModels t h p (writeImage p d)
    post c .ok 0 (leBytes 4 h ++ leBytes 4 0 ++ (beOf 48 digest).take 16) false d

/-- A word 0 is that of a PACKAGE_LOAD marked DRIVING. -/
def isDrivingLoad (w0 : Nat) : Bool := decide (field w0 0 8 = 0x20) && bitAt w0 8

/-- A driving package queued before or during boot has still to load (R36). -/
def drivingWaits (d : Device) : Bool :=
  d.host.mbx.toList.any fun m =>
    (m.visible.any fun v => isDrivingLoad v.w0.toNat && decide (v.rung ≤ d.boot.readySince)) ||
    (m.taken.any fun v => isDrivingLoad (v.entry[0]).toNat && decide (v.rung ≤ d.boot.readySince)) ||
    (m.started.any fun s => isDrivingLoad (s.call.w 0) && decide (s.rung ≤ d.boot.readySince))

/-- The load of one command: from its buffers, or from the store in tier 3. -/
def startLoad (c : Call) (p : PackageDecl) (d : Device) : Device :=
  if c.flag 9 then
    (match d.tiers.t3.packages.find? fun k =>
        decide (k.tenant = c.tenant.val) && decide ((beOf 48 k.digest).take 16 = leBytes 8 (c.w 3) ++ leBytes 8 (c.w 4)) with
     | some k => doLoad c k.decl k.digest true d
     | none => badParam c rsnUnknownHandle d)
  else withBuf c 2 c.room (fun bs d => doLoad c p (Config.packageDigest bs) false d) d

/-- Loads that waited for the driving packages go on, in the order in which they came. -/
def serveLoads : Nat → Device → Device
  | 0, d => d
  | n + 1, d =>
    match d.loads with
    | [] => d
    | (c, p) :: rest => if drivingWaits d then d else serveLoads n (startLoad c p { d with loads := rest })

/-- PACKAGE_LOAD: a package that is not driving waits for the driving ones that were queued before or during boot (R36). -/
def packageLoad (c : Call) (p : PackageDecl) (d : Device) : Device :=
  let early := match startedRec d c with | some s => decide (s.rung ≤ d.boot.readySince) | none => false
  if !c.flag 8 && early && drivingWaits d then { d with loads := d.loads ++ [(c, p)] }
  else
    let d := startLoad c p d
    serveLoads d.loads.length d

/-! ### PACKAGE_UNLOAD -/

/-- A run of the tenant is in progress. -/
def running (d : Device) (t : TenantId) : Bool := decide ((d.tenant t).runState = .running)

/-- A package, its tensors, its units and its models leave the tenant. -/
def removePackage (t : TenantId) (h : Nat) : Device → Device :=
  modTenant t fun x =>
    let gone := (x.tensors.filter fun y => decide (y.package = some h)).map (·.id)
    { x with
      packages := x.packages.filter fun p => !decide (p.handle = h)
      tensors := x.tensors.filter fun y => !decide (y.package = some h)
      units := x.units.filter fun u => !gone.contains u.tensor
      models := x.models.filter fun m => !decide (m.package = some h) }

/-- PACKAGE_UNLOAD: with FORGET the stored copy's key id is destroyed as well, so that FROM_STORE finds it no more (R270). -/
def packageUnload (c : Call) (d : Device) : Device :=
  withPackage c (field (c.w 1) 0 32) (fun p d =>
    let inUse := match (d.tenant c.tenant).run with | some r => running d c.tenant && decide (r.package = some p.handle) | none => false
    if inUse then finish c .busy 0 d
    else
      let d := removePackage c.tenant p.handle d
      let d := if c.flag 8 then { d with tiers := { d.tiers with t3 := { d.tiers.t3 with
          packages := d.tiers.t3.packages.filter fun k => !(decide (k.tenant = c.tenant.val) && decide (k.digest = p.digest)) } } } else d
      finish c .ok 0 d) d

/-! ### TENSOR_BIND and TENSOR_CREATE (R623) -/

/-- The first host tensor id, and the number of them. -/
def hostIdBase : Nat := 2 ^ 31

/-- The host id that CREATE uses: the one asked for, or the lowest that names no tensor. -/
def createId (d : Device) (t : TenantId) (asked : Nat) : Option Nat :=
  if asked = 0 then firstFree (fun i => (findTensor d t i).isNone) hostIdBase ((d.tenant t).tensors.length + 1)
  else if hostIdBase ≤ asked ∧ asked ≤ 0xFFFFFFFE ∧ (findTensor d t asked).isNone then some asked
  else none

/-- The write of a TENSOR_BIND lands, and the command completes. -/
def landBind (c : Call) (id : Nat) (bs : List Byte) (d : Device) : Device :=
  let d := if bs.isEmpty then d else hostWrite c.tenant id (c.w 2) bs d
  let d := match findTensor d c.tenant id with
    | some x => if x.mode = .readOnly then bumpBy .hostWrites 0 bs.length d else d
    | none => d
  post c .ok 0 (leBytes 4 id ++ leBytes 4 0 ++ leBytes 8 bs.length) false (modTensor c.tenant id (fun x => { x with ready := true }) d)

/-- The command with the tensor id that it writes to in its TENSOR field and its bytes, as it waits for a step to commit. -/
def boundCall (c : Call) (id : Nat) (bs : List Byte) : Call :=
  { c with data := bs, words := c.words.set 1 (BitVec.ofNat 64 (field (c.w 1) 0 32 + id * 2 ^ 32)) }

/-- A write that arrives during a step waits for that step to commit; any other lands now. -/
def bindNow (c : Call) (id : Nat) (bs : List Byte) (d : Device) : Device :=
  if d.inStep c.tenant && !bs.isEmpty then modTenant c.tenant (fun x => { x with binds := x.binds ++ [boundCall c id bs] }) d
  else landBind c id bs d

/-- Writes that waited land, in order (R623). -/
def landBinds (t : TenantId) (d : Device) : Device :=
  (d.tenant t).binds.foldl (fun d c => landBind c (c.w 1 / 2 ^ 32) c.data d) (modTenant t (fun x => { x with binds := [] }) d)

/-- The OFFSET and LENGTH of a command stay within n bytes. -/
def rangeOk (off len n : Nat) : Bool := decide (off + len ≤ n)

/-- TENSOR_CREATE. -/
def tensorCreate (c : Call) (d : Device) : Device :=
  let len := field (c.w 3) 0 32
  let size := c.w 6
  let readOnly := bitAt (c.w 7) 0
  match createId d c.tenant (c.w 1 / 2 ^ 32) with
  | none => badParam c 0 d
  | some id =>
    if field (c.w 1) 0 32 ≠ 0 ∨ !rangeOk (c.w 2) len size then badParam c 0 d
    else if readOnly ∧ tier3ReadOnly d then finish c .noResource 0 d
    else if (readOnly ∧ tier3Free d < pageBytes size) ∨ (¬readOnly ∧ tierFree d 1 + tierFree d 2 < unitsOf size) then
      finish c .wontFit 0 d
    else withBuf c 5 len (fun bs d =>
      let mode : CarryMode := if readOnly then .readOnly else .inPlace
      let units := placeAll (tierFree d 1, tierFree d 2) [(id, size, mode, if readOnly then 3 else 0)]
      let d := modTenant c.tenant (fun x => { x with
        tensors := x.tensors ++ [{ id := id, size := size, mode := mode, ready := false }], units := x.units ++ units }) d
      bindNow c id bs d) d

/-- TENSOR_BIND. -/
def tensorBind (c : Call) (d : Device) : Device :=
  let h := field (c.w 1) 0 32
  let write := fun d : Device =>
    withTensor c (c.w 1 / 2 ^ 32) (fun x d =>
      let len := field (c.w 3) 0 32
      if !decide (x.package = (if h = 0 then none else some h)) then badParam c rsnUnknownHandle d
      else if !rangeOk (c.w 2) len x.size then badParam c 0 d
      else if x.mode = .readOnly ∧ tier3ReadOnly d then finish c .noResource 0 d
      else withBuf c 5 len (fun bs d => bindNow c x.id bs d) d) d
  if h = 0 then write d else withPackage c h (fun _ d => write d) d

/-! ### TENSOR_READ (R624) -/

/-- The tenant's run is halted at a replay stop point (R560). -/
def atStopPoint (d : Device) (t : TenantId) : Bool := match d.stepOf t with | some s => s.halted | none => false

/-- The last committed step of a tenant; all ones before the first (log entry 83). -/
def lastCommitted (d : Device) (t : TenantId) : Nat := (d.tenant t).lastStep.getD (2 ^ 64 - 1)

/-- The result of TENSOR_READ: the bytes copied and the last committed step. -/
def readResult (d : Device) (c : Call) (n : Nat) : List Byte := leBytes 8 n ++ leBytes 8 (lastCommitted d c.tenant)

/-- TENSOR_READ with AREA: scratchpad bytes, at a stop point or while the run is stopped. -/
def readArea (c : Call) (d : Device) : Device :=
  let v := field (c.w 1) 0 14
  let span := field (c.w 1) 16 4
  let stopped := decide ((d.tenant c.tenant).runState = .stopped)
  if field (c.w 1) 20 12 ≠ 0 ∨ field (c.w 1) 14 2 ≠ 0 then badParam c rsnReservedSet d
  else if !(atStopPoint d c.tenant || stopped) then finish c .busy 0 d
  else if 9216 ≤ v ∨ !carriesIndex d span ∨ 2 ^ 19 < c.w 2 + c.w 3 then badParam c 0 d
  else if !decide (tenantOfVtile d v = some c.tenant) then finish c .notOwner 0 d
  else
    let bs := spadRead d (refOf (span * 16384 + v)) (c.w 2) (c.w 3)
    withOut c 5 bs (fun d => post c .ok 0 (readResult d c bs.length) false d) d

/-- TENSOR_READ: the committed bytes, or those at a stop point as they stand. -/
def tensorRead (c : Call) (d : Device) : Device :=
  if c.flag 8 then readArea c d
  else withTensor c (field (c.w 1) 0 32) (fun x d =>
    if !rangeOk (c.w 2) (c.w 3) x.size then badParam c 0 d
    else
      let y := if atStopPoint d c.tenant then x else undoTensor (undoLog d c.tenant) x
      let (bs, d) := readFree y (c.w 2) (c.w 3) d
      withOut c 5 bs (fun d => post c .ok 0 (readResult d c bs.length) false d) d) d

/-! ### RESIDENCY_HINT (R233) -/

/-- RESIDENCY_HINT. -/
def residencyHint (c : Call) (d : Device) : Device :=
  withTensor c (field (c.w 1) 0 32) (fun x d =>
    let k := field (c.w 2) 0 3
    if 5 ≤ k then badParam c 0 d else finish c .ok 0 (modTensor c.tenant x.id (fun y => { y with cls := k }) d)) d

/-! ### Meanings -/

/-- PACKAGE_LOAD: `p` is what the package file declares (log entry 8). -/
def execPackageLoad (c : Call) (p : PackageDecl) (s : State) : Host.Outcome State Fault Refusal :=
  done s (runFw c (packageLoad c p) s.dev)

/-- PACKAGE_UNLOAD. -/
def execPackageUnload (c : Call) (s : State) : Host.Outcome State Fault Refusal := done s (runFw c (packageUnload c) s.dev)

/-- TENSOR_BIND. -/
def execTensorBind (c : Call) (s : State) : Host.Outcome State Fault Refusal := done s (runFw c (tensorBind c) s.dev)

/-- TENSOR_CREATE. -/
def execTensorCreate (c : Call) (s : State) : Host.Outcome State Fault Refusal := done s (runFw c (tensorCreate c) s.dev)

/-- TENSOR_READ. -/
def execTensorRead (c : Call) (s : State) : Host.Outcome State Fault Refusal := done s (runFw c (tensorRead c) s.dev)

/-- RESIDENCY_HINT. -/
def execResidencyHint (c : Call) (s : State) : Host.Outcome State Fault Refusal := done s (runFw c (residencyHint c) s.dev)

end Sys2Proof.Machine
end

