-- ==== Sys2Proof/Machine/Intake.lean ====
section
/-! DEFINITION. Sensor intake: contexts, packets, frames, landing, binding and release (R563 to R573, R577, R578, R587 to
R590). -/

namespace Sys2Proof.Machine

open Sys2Proof

/-! ### Contexts -/

/-- A context. -/
def Device.ctx (d : Device) (c : ContextId) : Context := d.intake.ctx[c.val]'c.isLt

/-- A context changed. -/
def modCtx (c : ContextId) (f : Context → Context) (d : Device) : Device :=
  { d with intake := { d.intake with ctx := vmod d.intake.ctx c f } }

/-- Every context number. -/
def allContexts : List ContextId := List.finRange 24

/-- The tenant that owns a context. -/
def ctxTenant (d : Device) (c : ContextId) : TenantId := ⟨(d.ctx c).desc.tenant % 4, Nat.mod_lt _ (by decide)⟩

/-- A context takes frames from its source. -/
def accepting (x : Context) : Bool := decide (x.state = .started)

/-- A context takes the bytes of the frame in progress. -/
def takesBytes (x : Context) : Bool := decide (x.state = .started) || (decide (x.state = .stopping) && x.current.isSome)

/-- The context of a source: kind, port and match (R563). -/
def ctxOf (d : Device) (kind : SourceKind) (port key : Nat) (aux : Nat → Bool) : Option ContextId :=
  allContexts.find? fun c =>
    let x := d.ctx c
    !decide (x.state = .disabled) && decide (x.desc.kind = kind) && decide (x.desc.port = port) && decide (x.desc.matchKey = key) &&
      aux x.desc.matchAux

/-- FRAME_TIMEOUT of a context in ns. -/
def frameTimeout (x : Context) : Nat := (if x.desc.timeout = 0 then 100 else x.desc.timeout) * ms

/-- Bytes of the ring in use: frames not yet freed and the frame in progress (R569). -/
def ringUsed (x : Context) : Nat :=
  (x.ring.map fun f => f.bytes.length).sum + (match x.current with | some f => f.bytes.length | none => 0)

/-! ### The end of a STOP (R588) -/

/-- FRAME_SEQ of the last landed frame, the result of INTAKE_CONTROL. -/
def controlResult (x : Context) : List Byte := leBytes 4 (x.lastLanded.getD 0xFFFFFFFF)

/-- Frames of the context that have ended and not landed, or are in progress. -/
def unlanded (x : Context) : Bool := x.current.isSome || x.ring.any fun f => f.landed.isNone

/-- The STOP that waited for the last frame completes. -/
def checkStop (c : ContextId) (d : Device) : Device :=
  let x := d.ctx c
  if decide (x.state = .stopping) && !unlanded x then
    let d := modCtx c (fun x => { x with state := .enabled, stopCall := none }) d
    match x.stopCall with
    | some k => post k .ok 0 (controlResult x) false d
    | none => d
  else d

/-! ### Drops (R567, R571, R572) -/

/-- Why a frame is dropped. -/
inductive DropWhy where
  | error | full | timeout
  deriving DecidableEq, Repr

/-- The counter of a drop. -/
def DropWhy.counter : DropWhy → Counter
  | .error => .dropsError | .full => .dropsFull | .timeout => .frameTimeouts

/-- A drop is counted, INTAKE_DROP is raised when it is enabled, and the next bound frame carries GAP. -/
def noteDrop (c : ContextId) (why : DropWhy) (d : Device) : Device :=
  let d := modCtx c (fun x => { x with gap := true }) (bump why.counter c.val d)
  checkStop c (occur 23 c.val (some (ctxTenant d c)) d)

/-- The frame in progress is dropped whole as a gap, and its bytes are released; the rest of it is discarded. -/
def dropCurrent (c : ContextId) (why : DropWhy) (d : Device) : Device :=
  match (d.ctx c).current with
  | none => d
  | some _ => noteDrop c why (modCtx c (fun x => { x with current := none, fifo := 0, discarding := true }) d)

/-! ### Frames (R566 to R571, R573) -/

/-- A frame begins: it takes the next number and its stamp (R568, R573). -/
def beginFrame (c : ContextId) (at_ : Nat) (d : Device) : Device :=
  let stamp := moduleTimeAt d at_
  modCtx c (fun x => { x with
    current := some { seq := x.frameSeq, stamp := stamp, bytes := [], first := at_, off := x.head }
    frameSeq := (x.frameSeq + 1) % 2 ^ 32, discarding := false }) d

/-- The frame in progress ends at its delimiter: it lies in the ring and lands once its last byte and digest are written. -/
def endFrame (c : ContextId) (d : Device) : Device :=
  modCtx c (fun x => match x.current with
    | some f => { x with current := none, ring := x.ring ++ [f], head := if x.desc.ringBytes = 0 then 0 else (f.off + f.bytes.length) % x.desc.ringBytes }
    | none => x) d

/-- Bytes of the landing FIFO that a context may use (R571). -/
def fifoLimit : Nat := 4 * 2 ^ 20

/-- Payload bytes reach the frame in progress: FRAME_MAX, the ring and the landing FIFO bound it (R567, R571). `fifo` is what
the context then has in the landing FIFO. -/
def storeBytes (c : ContextId) (bs : List Byte) (fifo : Nat) (d : Device) : Device :=
  let x := d.ctx c
  match x.current with
  | none => d
  | some f =>
    if x.desc.frameMax < f.bytes.length + bs.length then dropCurrent c .error d
    else if x.desc.ringBytes < ringUsed x + bs.length ∨ fifoLimit < fifo then dropCurrent c .full d
    else modCtx c (fun x => { x with current := some { f with bytes := f.bytes ++ bs }, fifo := fifo }) d

/-! ### CSI-2 (R564, R566) -/

/-- Data types of Table 14-1: embedded, YUV422 8-bit, RGB888, RAW8 to RAW20 and user-defined (PRESUMED: the codes of MIPI
CSI-2, log entry 28). -/
def csiTypes : List Nat := [0x12, 0x1E, 0x24, 0x2A, 0x2B, 0x2C, 0x2D, 0x2E, 0x2F] ++ rangeFrom 0x30 8

/-- CSI_FRAME_START: a frame in progress is dropped as a gap, and a frame begins. -/
def csiStart (port vc at_ : Nat) (d : Device) : Device :=
  let d := advanceTo at_ d
  match ctxOf d .csi port vc (fun _ => true) with
  | none => d
  | some c =>
    let d := dropCurrent c .error d
    if accepting (d.ctx c) then beginFrame c at_ d else d

/-- CSI_LONG_PACKET: unsupported kinds are discarded and counted; a packet with an error drops the frame in progress. -/
def csiPacket (port vc dt : Nat) (payload : List Byte) (err : Bool) (fifo at_ : Nat) (d : Device) : Device :=
  let d := advanceTo at_ d
  if !err && !csiTypes.contains dt then bump .csiUnsupported port d
  else match ctxOf d .csi port vc (fun m => err || bitAt m dt) with
    | none => d
    | some c =>
      if !takesBytes (d.ctx c) then d
      else if err then dropCurrent c .error d
      else storeBytes c payload fifo d

/-- CSI_FRAME_END: the frame ends; without one in progress the packet is discarded and counted (R567). -/
def csiEnd (port vc at_ : Nat) (d : Device) : Device :=
  let d := advanceTo at_ d
  match ctxOf d .csi port vc (fun _ => true) with
  | none => d
  | some c =>
    let x := d.ctx c
    if x.current.isSome then endFrame c d
    else if x.discarding then modCtx c (fun x => { x with discarding := false }) d
    else bump .dropsError c.val d

/-! ### Ethernet (R565, R567) -/

/-- A sequence number against the one expected. -/
def seqMissing (x : Context) (seq : Nat) : Bool := match x.expect with | some e => !decide (e = seq) | none => false

/-- AVTP_PDU: the payload of a stream; a missing number drops the frame it belongs to, and the M bit ends the frame. -/
def avtpPdu (port : Nat) (stream : W64) (seq : BitVec 8) (payload : List Byte) (m : Bool) (fifo at_ : Nat) (d : Device) : Device :=
  let d := advanceTo at_ d
  match ctxOf d .avtp port stream.toNat (fun _ => true) with
  | none => bump .ethDiscards port d
  | some c =>
    let x := d.ctx c
    if !takesBytes x then d
    else
      let missing := seqMissing x seq.toNat
      let d := modCtx c (fun x => { x with expect := some ((seq.toNat + 1) % 256) }) d
      let d := if x.current.isNone && !x.discarding && accepting x then beginFrame c at_ d else d
      let d := if missing then dropCurrent c .error d else storeBytes c payload fifo d
      if m then (if (d.ctx c).current.isSome then endFrame c d else modCtx c (fun x => { x with discarding := false }) d) else d

/-- The payload of datagrams accumulated into frames of FRAME_LEN bytes; what passes a frame's end begins the next. -/
def udpFill (c : ContextId) (len fifo at_ : Nat) : Nat → List Byte → Device → Device
  | 0, _, d => d
  | n + 1, bs, d =>
    if bs.isEmpty then d
    else
      let d := if (d.ctx c).current.isNone then beginFrame c at_ d else d
      let have_ := match (d.ctx c).current with | some f => f.bytes.length | none => 0
      let part := bs.take (len - have_)
      let d := storeBytes c part fifo d
      let full := match (d.ctx c).current with | some f => decide (len ≤ f.bytes.length) | none => false
      udpFill c len fifo at_ n (bs.drop part.length) (if full then endFrame c d else d)

/-- UDP_DATAGRAM: one frame a datagram, or frames of a fixed length; the optional counter is taken off and checked. -/
def udpDatagram (port : Nat) (v6 : Bool) (addr : BitVec 128) (dport : BitVec 16) (payload : List Byte) (fifo at_ : Nat) (d : Device) :
    Device :=
  let d := advanceTo at_ d
  match ctxOf d .udp port addr.toNat (fun m => decide (m = dport.toNat + b2n v6 * 65536)) with
  | none => bump .ethDiscards port d
  | some c =>
    let x := d.ctx c
    if !takesBytes x then d
    else
      let seq := ofBe (slice payload 0 4)
      let missing := x.desc.seqCheck && seqMissing x seq
      let d := if x.desc.seqCheck then modCtx c (fun x => { x with expect := some ((seq + 1) % 2 ^ 32) }) d else d
      let body := if x.desc.seqCheck then payload.drop 4 else payload
      let d := if missing then (if x.current.isSome then dropCurrent c .error d else noteDrop c .error d) else d
      if x.desc.frameLen = 0 then
        let d := storeBytes c body fifo (beginFrame c at_ d)
        if (d.ctx c).current.isSome then endFrame c d else d
      else udpFill c x.desc.frameLen fifo at_ (body.length + 1) body d

/-! ### Landing and time-outs (R572) -/

/-- The tensor of a ring receives the bytes of a frame, wrapping once at most. -/
def writeRing (c : ContextId) (f : SensorFrame) (d : Device) : Device :=
  let x := d.ctx c
  match x.tensor with
  | none => d
  | some id =>
    let first := f.bytes.take (x.desc.ringBytes - f.off)
    let rest := f.bytes.drop (x.desc.ringBytes - f.off)
    modTensor (ctxTenant d c) id (fun y => (y.write f.off first).write 0 rest) d

/-- FRAME_LANDED: the last byte and the digest of the oldest frame that has ended are in tier 2. -/
def frameLanded (c : ContextId) (at_ : Nat) (d : Device) : Device :=
  let d := advanceTo at_ d
  match (d.ctx c).ring.find? fun f => f.landed.isNone with
  | none => d
  | some f =>
    let d := writeRing c f d
    let d := modCtx c (fun x => { x with
      ring := x.ring.map (fun y => if y.seq = f.seq then { y with landed := some at_ } else y), lastLanded := some f.seq, fifo := 0 }) d
    checkStop c (bump .framesLanded c.val d)

/-- FRAME_TIMEOUT: the oldest frame that has not landed within FRAME_TIMEOUT of its first byte is dropped as a gap. -/
def frameTimesOut (c : ContextId) (d : Device) : Device :=
  let x := d.ctx c
  match x.ring.find? fun f => f.landed.isNone with
  | some f =>
    let d := advanceTo (f.first + frameTimeout x) d
    noteDrop c .timeout (modCtx c (fun x => { x with ring := x.ring.filter fun y => !(decide (y.seq = f.seq) && y.landed.isNone) }) d)
  | none =>
    match x.current with
    | some f => dropCurrent c .timeout (advanceTo (f.first + frameTimeout x) d)
    | none => d

/-! ### Binding (R577, R522, R523, R543) -/

/-- Landed, unbound frames of a tenant that landed by an instant, with their contexts, in manifest order. -/
def waitingFrames (d : Device) (t : TenantId) (by_ : Nat) : List (ContextId × SensorFrame) :=
  (allContexts.filter fun c => decide (ctxTenant d c = t) && !decide ((d.ctx c).state = .disabled)).flatMap fun c =>
    ((d.ctx c).ring.filter fun f => f.bound.isNone && (match f.landed with | some l => decide (l ≤ by_) | none => false)).map fun f => (c, f)

/-- The frames that bind: all, or the 65,535 with the earliest landing instants, which are intake ticks of 10 ns (R572). -/
def bindingFrames (d : Device) (t : TenantId) (by_ : Nat) : List (ContextId × SensorFrame) :=
  let l := waitingFrames d t by_
  if l.length ≤ 65535 then l
  else
    let early := (sortBy (fun (a b : ContextId × SensorFrame) => decide (a.2.landed.getD 0 / 10 < b.2.landed.getD 0 / 10)) l).take 65535
    l.filter fun x => early.any fun y => decide (y.1 = x.1) && decide (y.2.seq = x.2.seq)

/-- Manifest entries of frames; the first of each context takes its GAP and TORN. -/
def manifestOf (d : Device) : Option ContextId → List (ContextId × SensorFrame) → List ManifestEntry
  | _, [] => []
  | prev, (c, f) :: rest =>
    let first := !decide (prev = some c)
    { context := c.val, gap := first && (d.ctx c).gap, torn := first && (d.ctx c).torn, seq := f.seq, length := f.bytes.length
      stamp := f.stamp, digest := frameDigest f.bytes } :: manifestOf d (some c) rest

/-- The 40 bytes of an entry (Table 13-3). -/
def entryBytes (e : ManifestEntry) : List Byte :=
  leBytes 1 e.context ++ leBytes 1 (b2n e.gap + 2 * b2n e.torn) ++ leBytes 2 0 ++ leBytes 4 e.seq ++ leBytes 4 e.length ++
    leBytes 4 0 ++ leBytes 8 e.stamp ++ bytes16 e.digest

/-- The manifest of a step (R522). -/
def manifestBytes (n : Nat) (es : List ManifestEntry) : List Byte :=
  leBytes 8 n ++ leBytes 2 es.length ++ leBytes 6 0 ++ es.flatMap entryBytes

/-- INTAKE_HASH (R523). -/
def intakeHash (n : Nat) (es : List ManifestEntry) : BitVec 128 := sha384First16 (manifestBytes n es)

/-- The MANIFEST records of a step: four entries each (Table 13-8). -/
def writeManifest (t : TenantId) (n : Nat) (es : List ManifestEntry) (d : Device) : Device :=
  let parts := (es.length + 3) / 4
  (List.range parts).foldl (fun d i =>
    let part := (es.drop (4 * i)).take 4
    writeRecord recManifest t.val (leBytes 8 n ++ leBytes 2 i ++ leBytes 2 parts ++ leBytes 1 part.length ++ leBytes 3 0 ++
      part.flatMap entryBytes) d) d

/-- Frames bind to step n at a boundary; the MANIFEST records commit. -/
def bindFrames (t : TenantId) (n by_ : Nat) (d : Device) : List ManifestEntry × Device :=
  let l := bindingFrames d t by_
  let es := manifestOf d none l
  let d := l.foldl (fun d x => bump .framesBound x.1.val (modCtx x.1 (fun y => { y with
    gap := false, torn := false
    ring := y.ring.map fun f => if f.seq = x.2.seq ∧ f.bound.isNone ∧ f.landed.isSome then { f with bound := some n } else f }) d)) d
  (es, writeManifest t n es d)

/-! ### Release (R538, R578) -/

/-- The step that a frame is bound to has committed and its mirrors are complete, or the run has stopped. -/
def frameDone (d : Device) (t : TenantId) (f : SensorFrame) : Bool :=
  let x := d.tenant t
  match f.bound with
  | none => false
  | some n =>
    !decide (x.runState = .running) ||
      (decide (n < x.nextStep) &&
        ((match runDecl d t with | some k => decide (k.carriedLen = 0) | none => true) ||
          x.mirrors.any fun m => m.complete && decide (n < m.next)))

/-- The host has released a HOST-mode context up to a frame. -/
def hostDone (x : Context) (f : SensorFrame) : Bool :=
  !x.desc.host || f.hostOk || (match x.hostReleased with | some r => decide ((r + 2 ^ 32 - f.seq) % 2 ^ 32 < 2 ^ 31) | none => false)

/-- FRAME_RELEASE: the frames of a context that may go are released; space is freed in ring order. -/
def frameRelease (c : ContextId) (d : Device) : Device :=
  let t := ctxTenant d c
  modCtx c (fun x => { x with
    ring := (x.ring.map fun f => { f with released := f.released || (frameDone d t f && hostDone x f) }).dropWhile fun f => f.released }) d

/-! ### INTAKE_CONTROL (R588, R589) -/

/-- FLUSH of a context: the frame in progress is torn, landed and unbound frames are dropped; tells whether it tore one. -/
def flushCtx (c : ContextId) (d : Device) : Bool × Device :=
  let x := d.ctx c
  let tore := unlanded x
  let torn := (if x.current.isSome then 1 else 0) + (x.ring.filter fun f => f.landed.isNone).length
  let gone := (x.ring.filter fun f => f.landed.isSome && f.bound.isNone).length
  let d := bumpBy .framesTorn c.val torn (bumpBy .framesFlushed c.val gone d)
  (tore, checkStop c (modCtx c (fun x => { x with
    current := none, fifo := 0, discarding := x.discarding || x.current.isSome, torn := x.torn || tore
    gap := x.gap || decide (0 < gone), ring := x.ring.filter fun f => f.bound.isSome }) d))

/-- The context that INTAKE_CONTROL names, or what refuses the command. -/
def withContext (c : Call) (k : ContextId → Device → Device) (d : Device) : Device :=
  if h : field (c.w 1) 0 5 < 24 then
    let i : ContextId := ⟨field (c.w 1) 0 5, h⟩
    let x := d.ctx i
    if x.state = .disabled then badParam c 0 d
    else if c.mbx.val < 8 ∧ x.desc.tenant ≠ c.tenant.val then finish c .notOwner 0 d
    else k i d
  else badParam c 0 d

/-- INTAKE_CONTROL completes with a status. -/
def controlDone (c : Call) (i : ContextId) (st : Status) (d : Device) : Device := post c st 0 (controlResult (d.ctx i)) false d

/-- START. -/
def intakeStart (c : Call) (d : Device) : Device :=
  withContext c (fun i d =>
    match (d.ctx i).state with
    | .stopping => finish c .busy 0 d
    | .started => controlDone c i .ok d
    | _ => controlDone c i .ok (modCtx i (fun x => { x with
      state := .started, frameSeq := 0, expect := none, discarding := false, hostReleased := none }) d)) d

/-- STOP. -/
def intakeStop (c : Call) (d : Device) : Device :=
  withContext c (fun i d =>
    match (d.ctx i).state with
    | .stopping => finish c .busy 0 d
    | .started =>
      if unlanded (d.ctx i) then modCtx i (fun x => { x with state := .stopping, stopCall := some c }) d
      else controlDone c i .ok (modCtx i (fun x => { x with state := .enabled }) d)
    | _ => controlDone c i .ok d) d

/-- FLUSH. -/
def intakeFlush (c : Call) (d : Device) : Device :=
  withContext c (fun i d =>
    let (tore, d) := flushCtx i d
    controlDone c i (if tore then .flushed else .ok) d) d

/-- The host releases a context up to a frame number: the frames that it holds are marked, and the number stands for those
that land later (R578). -/
def Context.release (x : Context) (seq : Nat) : Context :=
  let y := { x with hostReleased := some seq }
  { y with ring := x.ring.map fun f => { f with hostOk := hostDone y f } }

/-- RELEASE; a STEP-mode context takes no notice of the host's releases. -/
def intakeRelease (c : Call) (d : Device) : Device :=
  withContext c (fun i d => controlDone c i .ok (frameRelease i (modCtx i (fun x => x.release (field (c.w 2) 0 32)) d))) d

/-! ### INTAKE_CONFIGURE (R587, Table 14-5) -/

/-- The descriptor that the command gives. -/
def descriptorOf (c : Call) : Descriptor :=
  let k := field (c.w 1) 24 2
  { enable := bitAt (c.w 1) 8, tenant := field (c.w 1) 16 2, kind := if k = 0 then .csi else if k = 1 then .avtp else .udp
    port := field (c.w 1) 32 4
    matchKey := if k = 0 then field (c.w 2) 0 4 else if k = 1 then c.w 2 else c.w 2 + 2 ^ 64 * c.w 3
    matchAux := if k = 0 then c.w 3 else if k = 1 then 0 else field (c.w 4) 0 17
    seqCheck := bitAt (c.w 1) 40, frameLen := c.w 5 / 2 ^ 32, frameMax := field (c.w 5) 0 32, timeout := field (c.w 6) 0 16
    ringBytes := field (c.w 6) 32 16 * unitBytes, host := bitAt (c.w 1) 48 }

/-- The values of a descriptor lie in the ranges of Table 14-5. -/
def descriptorOk (x : Descriptor) : Bool :=
  !x.enable ||
    ((decide (x.kind = .csi) || decide (x.port < 4)) && decide (4096 ≤ x.frameMax) && decide (x.frameMax ≤ 256 * 2 ^ 20) &&
      decide (x.frameLen ≤ x.frameMax) && decide (x.timeout ≤ 1000) && decide (16 * 2 ^ 20 ≤ x.ringBytes) &&
      decide (x.ringBytes ≤ 2 ^ 32) && decide (2 * x.frameMax ≤ x.ringBytes))

/-- Two descriptors take the same source. -/
def sameSource (a b : Descriptor) : Bool :=
  decide (a.kind = b.kind) && decide (a.port = b.port) && decide (a.matchKey = b.matchKey) &&
    (decide (a.kind = .csi) || decide (a.matchAux = b.matchAux))

/-- The id of the ring tensor of a context (log entry 27). -/
def ringId (d : Device) (t : TenantId) (i : ContextId) : Nat :=
  let id := 0xFFFFFF00 + i.val
  match findTensor d t id with
  | none => id
  | some x => if x.ring = some i.val then id else (createId d t 0).getD id

/-- A commit of a tenant's scope is pending (R636). -/
def commitPending (d : Device) (s : Scope) : Bool := d.commits.any fun k => k.scopes.contains s

/-- INTAKE_CONFIGURE stages one descriptor. -/
def intakeConfigure (c : Call) (d : Device) : Device :=
  let x := descriptorOf c
  if h : field (c.w 1) 0 5 < 24 then
    let i : ContextId := ⟨field (c.w 1) 0 5, h⟩
    let t : TenantId := ⟨x.tenant % 4, Nat.mod_lt _ (by decide)⟩
    let owned := !decide ((d.ctx i).state = .disabled) && !decide ((d.ctx i).desc.tenant = c.tenant.val)
    if c.mbx.val < 8 ∧ (x.tenant ≠ c.tenant.val ∨ owned) then finish c .notOwner 0 d
    else if !(d.tenant t).isOpen then finish c .notOwner 0 d
    else if field (c.w 1) 24 2 = 3 ∨ !descriptorOk x then badParam c 0 d
    else if x.enable ∧ allContexts.any (fun j => !decide (j = i) && !decide ((d.ctx j).state = .disabled) && sameSource (d.ctx j).desc x) then
      badParam c 0 d
    else if commitPending d (.tenant t) then finish c .busy 0 d
    else
      let d := journal kStaged t.val { d with intake := { d.intake with staged := assocSet d.intake.staged i.val x } }
      post c .ok 0 (leBytes 4 (ringId d t i)) false d
  else badParam c 0 d

/-- Units of tier 2 that the staged rings of a tenant need beyond those that their contexts release. -/
def ringNeed (d : Device) (t : TenantId) : Nat × Nat :=
  d.intake.staged.foldl (fun (acc : Nat × Nat) q =>
    if q.2.tenant = t.val then
      (acc.1 + (if q.2.enable then unitsOf q.2.ringBytes else 0),
       acc.2 + (if h : q.1 < 24 then (let x := d.ctx ⟨q.1, h⟩; if x.state = .disabled then 0 else unitsOf x.desc.ringBytes) else 0))
    else acc) (0, 0)

/-- The staged rings of a tenant fit in tier 2 after the reserve (R587). -/
def ringsFit (d : Device) (t : TenantId) : Bool := let (need, back) := ringNeed d t; decide (need ≤ tierFree d 2 + back)

/-- The ring tensor and its units leave their tenant. -/
def dropRing (i : ContextId) (d : Device) : Device :=
  match (d.ctx i).tensor with
  | none => d
  | some id => modTenant (ctxTenant d i) (fun x => { x with
      tensors := x.tensors.filter fun y => !decide (y.id = id), units := x.units.filter fun u => !decide (u.tensor = id) }) d

/-- Counters of one context reset (R591). -/
def resetCtxCounters (i : ContextId) : Device → Device :=
  keepCounters fun k inst => !(decide (k.info.scope = 3) && decide (inst = i.val))

/-- The context keeps its bound frames, its due GAP and TORN and, when it was started, its start under a new descriptor
(R538, R587, log entry 90); frames bound to steps of another tenant go with the ring. -/
def reconfigured (old : Context) (x : Descriptor) (id : Nat) : Context :=
  { desc := x, state := if old.state = .started then .started else .enabled, tensor := some id, gap := old.gap, torn := old.torn
    discarding := old.discarding && sameSource old.desc x
    ring := if old.desc.tenant = x.tenant then
        (old.ring.filter fun f => f.bound.isSome).map fun f => { f with hostOk := hostDone old f }
      else [] }

/-- The descriptor that a context has in effect: a context that is not enabled has the one of a released context. -/
def effective (x : Descriptor) : Descriptor := if x.enable then { x with timeout := if x.timeout = 0 then 100 else x.timeout } else {}

/-- A descriptor takes effect: a context whose descriptor changes is flushed, its ring is reallocated in tier 2 and FRAME_SEQ
restarts at 0 (R587). -/
def applyDescriptor (i : ContextId) (x : Descriptor) (d : Device) : Device :=
  if effective (d.ctx i).desc = effective x then d
  else
    let d := dropRing i (flushCtx i d).2
    let d := resetCtxCounters i d
    if x.enable then
      let t : TenantId := ⟨x.tenant % 4, Nat.mod_lt _ (by decide)⟩
      let id := ringId d t i
      let us := (List.range (unitsOf x.ringBytes)).map fun k => ({ tensor := id, index := k, tier := 2 } : RUnit)
      let d := modTenant t (fun y => { y with
        tensors := y.tensors ++ [{ id := id, size := x.ringBytes, mode := .scratch, ring := some i.val }], units := y.units ++ us }) d
      modCtx i (fun y => reconfigured y x id) d
    else modCtx i (fun y => { gap := y.gap, torn := y.torn }) d

/-- Every staged descriptor of a tenant takes effect. -/
def applyDescriptors (t : TenantId) (d : Device) : Device :=
  let mine := d.intake.staged.filter fun q => decide (q.2.tenant = t.val)
  let d := mine.foldl (fun d q => if h : q.1 < 24 then applyDescriptor ⟨q.1, h⟩ q.2 d else d) d
  { d with intake := { d.intake with staged := d.intake.staged.filter fun q => !decide (q.2.tenant = t.val) } }

/-! ### Links (R590) -/

/-- A port as an instance of INTAKE_LINK: CSI-2 ports 0 to 15, Ethernet ports 16 to 19. -/
def linkInst (csi : Bool) (port : Nat) : Nat := if csi then port % 16 else 16 + port % 4

/-- The lowest enabled context that uses a port; its tenant is the one that INTAKE_LINK charges (log entry 90). -/
def portUser (d : Device) (csi : Bool) (port : Nat) : Option ContextId :=
  allContexts.find? fun c =>
    let x := d.ctx c
    !decide (x.state = .disabled) && decide (decide (x.desc.kind = .csi) = csi) && decide (x.desc.port = port)

/-- The lock or link of a port. -/
def setLink (csi : Bool) (port : Nat) (up : Bool) (d : Device) : Device :=
  if csi then { d with intake := { d.intake with csiLock := vset d.intake.csiLock ⟨port % 16, Nat.mod_lt _ (by decide)⟩ up } }
  else { d with intake := { d.intake with ethLink := vset d.intake.ethLink ⟨port % 4, Nat.mod_lt _ (by decide)⟩ up } }

/-! ### Meanings -/

/-- INTAKE_CONFIGURE. -/
def execIntakeConfigure (c : Call) (s : State) : Host.Outcome State Fault Refusal := done s (runFw c (intakeConfigure c) s.dev)

/-- INTAKE_START. -/
def execIntakeStart (c : Call) (s : State) : Host.Outcome State Fault Refusal := done s (runFw c (intakeStart c) s.dev)

/-- INTAKE_STOP. -/
def execIntakeStop (c : Call) (s : State) : Host.Outcome State Fault Refusal := done s (runFw c (intakeStop c) s.dev)

/-- INTAKE_FLUSH. -/
def execIntakeFlush (c : Call) (s : State) : Host.Outcome State Fault Refusal := done s (runFw c (intakeFlush c) s.dev)

/-- INTAKE_RELEASE. -/
def execIntakeRelease (c : Call) (s : State) : Host.Outcome State Fault Refusal := done s (runFw c (intakeRelease c) s.dev)

/-- CSI_FRAME_START. -/
def execCsiFrameStart (port vc : Fin 16) (at_ : Nat) (s : State) : Host.Outcome State Fault Refusal :=
  done s (csiStart port.val vc.val at_ s.dev)

/-- CSI_LONG_PACKET. -/
def execCsiLongPacket (port vc : Fin 16) (dt : Fin 64) (payload : List Byte) (err : Bool) (fifo at_ : Nat) (s : State) :
    Host.Outcome State Fault Refusal := done s (csiPacket port.val vc.val dt.val payload err fifo at_ s.dev)

/-- CSI_FRAME_END. -/
def execCsiFrameEnd (port vc : Fin 16) (at_ : Nat) (s : State) : Host.Outcome State Fault Refusal :=
  done s (csiEnd port.val vc.val at_ s.dev)

/-- AVTP_PDU. -/
def execAvtpPdu (port : Fin 4) (stream : W64) (seq : BitVec 8) (payload : List Byte) (m : Bool) (fifo at_ : Nat) (s : State) :
    Host.Outcome State Fault Refusal := done s (avtpPdu port.val stream seq payload m fifo at_ s.dev)

/-- UDP_DATAGRAM. -/
def execUdpDatagram (port : Fin 4) (v6 : Bool) (addr : BitVec 128) (dport : BitVec 16) (payload : List Byte) (fifo at_ : Nat)
    (s : State) : Host.Outcome State Fault Refusal := done s (udpDatagram port.val v6 addr dport payload fifo at_ s.dev)

/-- ETH_FRAME_DISCARD: an IP fragment, a frame with an FCS error, or traffic that matches no flow (R565). -/
def execEthFrameDiscard (port : Fin 4) (s : State) : Host.Outcome State Fault Refusal := done s (bump .ethDiscards port.val s.dev)

/-- FRAME_LANDED. -/
def execFrameLanded (c : ContextId) (at_ : Nat) (s : State) : Host.Outcome State Fault Refusal := done s (frameLanded c at_ s.dev)

/-- FRAME_TIMEOUT. -/
def execFrameTimeout (c : ContextId) (s : State) : Host.Outcome State Fault Refusal := done s (frameTimesOut c s.dev)

/-- FRAME_RELEASE. -/
def execFrameRelease (c : ContextId) (s : State) : Host.Outcome State Fault Refusal := done s (frameRelease c s.dev)

/-- INTAKE_LINK. -/
def execIntakeLink (csi : Bool) (port : Fin 16) (s : State) : Host.Outcome State Fault Refusal :=
  done s
    (let d := setLink csi port.val false s.dev
     match portUser d csi port.val with
     | some c => condBegin 22 (linkInst csi port.val) (some (ctxTenant d c)) d
     | none => d)

/-- INTAKE_LINK_RESTORED. -/
def execIntakeLinkRestored (csi : Bool) (port : Fin 16) (s : State) : Host.Outcome State Fault Refusal :=
  done s (condEnd 22 (linkInst csi port.val) (setLink csi port.val true s.dev))

end Sys2Proof.Machine
end

