-- ==== Sys2Proof/Machine/Staging.lean ====
section
/-! DEFINITION. Configuration staging and commit, site fences, tenant shares, epochs and planned moves (R65, R69, R195 to
R200, R210, R216 to R227, R244 to R248, R630 to R636). -/

namespace Sys2Proof.Machine

open Sys2Proof

/-! ### Fields (Table 15-13, Table 16-14) -/

/-- The default of a field that CONFIG_STAGE may stage; none when there is no such field. -/
def fieldDefault (f : Nat) : Option Nat :=
  match baseDefault f with
  | some v => some v
  | none =>
    let blk := f / 0x1000000
    let inst := f / 0x10000 % 0x100
    let num := f % 0x10000
    if blk = 2 ∧ inst < 128 ∧ num = 1 then (sourceRow inst).map fun r => b2n r.enabled
    else if blk = 2 ∧ inst < 128 ∧ num = 2 then (sourceRow inst).map fun r => r.level
    else if blk = 2 ∧ 128 ≤ inst ∧ inst < 136 ∧ 1 ≤ num ∧ num ≤ 3 then some (classDefault (inst - 128) num)
    else if f = 0x02FF0001 then some 1
    else if f = 0x02FF0010 then some 1
    else if f = 0x02FF0011 then some 600
    else if f = 0x03000001 then some 1000
    else if f = 0x03000002 then some 0
    else none

/-- A field that only its own command stages. -/
def commandOnly (f : Nat) : Bool := decide (f / 0x1000000 = 9) || decide (f / 0x1000000 = 11)

/-- v lies between lo and hi. -/
def within (lo hi v : Nat) : Bool := decide (lo ≤ v) && decide (v ≤ hi)

/-- A value is valid for a field that CONFIG_STAGE may stage (R631). -/
def fieldValueOk (f v : Nat) : Bool :=
  let blk := f / 0x1000000
  let inst := f / 0x10000 % 0x100
  let num := f % 0x10000
  if f = 0x01000001 then within 1 60000 v
  else if f = 0x01000002 ∨ f = 0x02FF0001 ∨ f = 0x02FF0010 ∨ f = 0x03000002 ∨ f = 0x06000001 then within 0 1 v
  else if f = 0x02FF0011 then within 60 86400 v
  else if f = 0x03000001 then within 100 1000000 v
  else if f = 0x04000001 then decide (v % 4 < 3) && decide (v / 64 = 0) && decide (v / 4 % 4 = 0)
  else if f = 0x04000002 then within 0 (2 ^ 64 - 1) v
  else if f = 0x05000001 then within 0 3 v
  else if f = 0x05000002 then within 0 1000000 v
  else if f = 0x05000003 then within 0 1 v
  else if f = 0x05000004 then within 1 1000 v
  else if f = 0x05000005 then within 0 500000 v
  else if f = 0x07000001 then within 10 10000 v
  else if blk = 8 then
    (let lanes := v / 2
     decide (v < 16) && (if v % 2 = 0 then decide (lanes = 1) || decide (lanes = 2) || decide (lanes = 4) else within 1 3 lanes))
  else if blk = 2 ∧ inst < 128 then
    (if num = 1 then within 0 1 v && (!decide (inst = 70) || decide (v = 1))
     else within 1 5 v && (!decide (inst = 70) || decide (v = 5)))
  else if blk = 2 then (if num = 1 then within 1 60000 v else if num = 2 then within 0 255 v else within 1 65535 v)
  else false

/-- The value in effect of a field. -/
def fieldValue (d : Device) (f : Nat) : Nat := cfgOr d f ((fieldDefault f).getD 0)

/-- The staged value of a field, in whatever scope. -/
def stagedValue (d : Device) (f : Nat) : Option Nat := (d.staged.find? fun x => decide (x.field = f)).map (·.value)

/-- A field staged: its staged value is replaced, and the set is journaled (R631, R633). -/
def stageField (s : Scope) (f v : Nat) (d : Device) : Device :=
  journal kStaged 0 { d with staged := (d.staged.filter fun x => !(decide (x.scope = s) && decide (x.field = f))) ++
    [{ scope := s, field := f, value := v }] }

/-! ### Runs between steps -/

/-- No step of the tenant's run is in progress: after the end-of-step sequence and before the next step starts (R226). -/
def betweenSteps (d : Device) (t : TenantId) : Bool :=
  !running d t ||
    (match (d.tenant t).run with
     | some r => (match r.step with | some s => !s.started | none => true) && r.committing.isNone
     | none => true)

/-- When the next boundary of a paced run is due. -/
def Run.due (r : Run) : Nat := r.moved.getD r.nominal

/-- A paced run that was held resumes: nominal boundaries that passed are skipped, and a late step is counted; with none
passed nothing is counted (R245, R635). -/
def resumeRun (t : TenantId) (d : Device) : Device :=
  match (d.tenant t).run with
  | none => d
  | some r =>
    if running d t && decide (0 < r.period) && r.begun && r.step.isNone && r.redo.isNone && decide (r.due ≤ d.now) then
      let base := if r.moved.isSome then r.anchor else r.nominal
      let k := (d.now - base) / r.period + 1
      let d := bumpBy .skippedBoundaries t.val k (bumpBy .drainSkipped t.val k (bump .lateSteps t.val d))
      occur 49 t.val (some t) (modRun t (fun r => { r with
        lateAt := some d.now, lateStart := true, nominal := base + k * r.period, moved := none, ahead := [] }) d)
    else d

/-! ### Tenant shares (R195, R196, R200) -/

/-- A share set that R195 allows. -/
def sharesOk (ws : List (BitVec 64)) : Bool := (List.range 7).all fun k => decide ((classShares ws k).sum ≤ 32)

/-- The tenants whose wheel positions a share set changes. -/
def sharesMove (d : Device) (s : Nat × List (BitVec 64)) : List TenantId :=
  let old := sharesNow d
  allTenants.filter fun t => (List.range 7).any fun k =>
    !decide ((wheelOf old.1 (classShares old.2 k)).getD t.val [] = (wheelOf s.1 (classShares s.2 k)).getD t.val [])

/-- A share set takes effect and is journaled (R195). -/
def applyShares (s : Nat × List (BitVec 64)) (d : Device) : Device :=
  let d := allTenants.foldl (fun d t => modTenant t (fun x => { x with strict := bitAt s.1 t.val, shares := s.2.getD t.val 0 }) d) d
  let d := allPorts.foldl (fun d p => modPort p (fun x => { x with credits := initCredits d }) d) d
  journal kApplied 0 { d with stagedShares := none }

/-! ### Planned moves (R69, R210, R226, R244, R246) -/

/-- Open tenants that the planned map moves, or whose loaded epoch waits for its copies. -/
def movingTenants (d : Device) : List TenantId :=
  allTenants.filter fun t =>
    let x := d.tenant t
    x.isOpen && (mapsDiffer x.epoch.bad (plannedBad d) x.rect || (x.nextEpoch.isSome && !x.nextReady))

/-- Every moving tenant's epoch for the planned map is loaded and every one is between steps (R226). -/
def movesReady (d : Device) : Bool :=
  (movingTenants d).all fun t =>
    betweenSteps d t && (match (d.tenant t).nextEpoch with | some e => decide (e.bad = plannedBad d) | none => false)

/-- Sites whose planned fence is committed. -/
def plannedSites (d : Device) : List Nat := (d.sites.filter (·.planned)).map (·.id)

/-- Staged site fences. -/
def stagedFences (d : Device) : List StagedField := d.staged.filter fun x => decide (x.scope = .placement)

/-- The tenants that a commit of placement scope affects. -/
def commitAffects (d : Device) (k : Commit) : List TenantId :=
  (if k.scopes.contains .placement then movingTenants d else []) ++
    (match k.shares with | some s => sharesMove d s | none => [])

/-- A tenant is stopped at its step boundary by a commit with FORCE_DRAIN (R245). -/
def drainHolds (d : Device) (t : TenantId) : Bool := d.commits.any fun k => k.deadline.isNone && (commitAffects d k).contains t

/-! ### Commits (R634, R635) -/

/-- Bytes 0 to 3 count the fields applied; bytes 8 to 15 give the module time of application. -/
def commitResult (k : Commit) (d : Device) : List Byte := leBytes 4 k.applied ++ leBytes 4 0 ++ leBytes 8 (moduleTime d)

/-- Commits with nothing left to apply complete: OK, or DEFERRED when a scope was deferred. -/
def settleCommits (d : Device) : Device :=
  let complete := d.commits.filter fun k => k.scopes.isEmpty && k.shares.isNone
  let d := { d with commits := d.commits.filter fun k => !(k.scopes.isEmpty && k.shares.isNone) }
  complete.foldl (fun d k =>
    let st : Status := if k.deferred then .deferred else .ok
    if k.call.opcode = 0x12 then finish k.call st 0 d else post k.call st 0 (commitResult k d) false d) d

/-- A scope of the waiting commits has applied with n fields. -/
def scopeApplied (s : Scope) (n : Nat) (d : Device) : Device :=
  { d with commits := d.commits.map fun k =>
      if k.scopes.contains s then { k with scopes := k.scopes.filter fun x => !decide (x = s), applied := k.applied + n } else k }

/-- The planned moves apply: the sites become FENCED, the moved tenants' copies are made and their next step switches, and
commits of placement scope are done (R69, R226, R244). -/
def applyMoves (d : Device) : Device :=
  let held := allTenants.filter (drainHolds d)
  let moved := movingTenants d
  let d := (plannedSites d).foldl (fun d s => modSite s (fun x =>
    { x with planned := false, bad := match x.bad with | some b => some b | none => some .fenced }) d) d
  let d := recordMap d
  let d := moved.foldl (fun d t => modTenant t (fun x => { x with nextReady := x.nextEpoch.isSome, movePending := false }) d) d
  let n := (stagedFences d).length
  let d := if (d.commits.any fun k => k.scopes.contains .placement) then
      scopeApplied .placement n { d with staged := d.staged.filter fun x => !decide (x.scope = .placement) }
    else d
  let d := settleCommits (updateCapacity (setCount .plannedPending 0 0 d))
  held.foldl (fun d t => if drainHolds d t then d else resumeRun t d) d

/-- PLANNED_MOVE: at an instant at which every affected tenant is between steps and the epochs are loaded, the copies are
made and the change applies. -/
def plannedMove (d : Device) : Device :=
  if (!(plannedSites d).isEmpty || !(movingTenants d).isEmpty) && movesReady d then applyMoves d else d

/-- Share sets of waiting commits apply at the first instant at which every tenant that they move is between steps. -/
def tryShares (d : Device) : Device :=
  let ready := d.commits.filterMap fun k => k.shares.bind fun s => if (sharesMove d s).all (betweenSteps d) then some s else none
  match ready with
  | [] => d
  | s :: _ =>
    let held := allTenants.filter (drainHolds d)
    let d := applyShares s d
    let d := settleCommits { d with
      commits := d.commits.map (fun k => if k.shares = some s then { k with shares := none, applied := k.applied + 1 } else k) }
    held.foldl (fun d t => if drainHolds d t then d else resumeRun t d) d

/-- Fields that take effect at the next boundary of SYNC_TENANT (Table 15-13). -/
def isLater (f : Nat) : Bool := decide (f / 0x1000000 = 5)

/-- The tenant of SYNC_TENANT runs a paced run. -/
def syncPaced (d : Device) : Bool :=
  match tenantOf (syncTenant d) with
  | some t => running d t && (match (d.tenant t).run with | some r => decide (0 < r.period) | none => false)
  | none => false

/-- FRAME_SYNC_OUT goes low: it serves its tenant's paced run only (R581). -/
def cutPulse (d : Device) : Device :=
  match d.time.pulseEnd with
  | none => { d with time := { d.time with lastCadence := none } }
  | some _ =>
    emit (.syncOut false) { d with pins := { d.pins with syncOut := false }
                                   time := { d.time with pulseEnd := none, lastCadence := none } }

/-- The committed values that waited take effect; FRAME_SYNC_OUT goes low when it serves another tenant. -/
def applyLater (d : Device) : Device :=
  let was := syncTenant d
  let d := { d with cfg := d.cfgLater.foldl (fun c x => assocSet c x.1 x.2) d.cfg, cfgLater := [] }
  if syncTenant d = was then d else cutPulse d

/-- One module field takes effect, or waits for its instant. -/
def applyField (x : StagedField) (d : Device) : Device :=
  if isLater x.field then { d with cfgLater := assocSet d.cfgLater x.field x.value }
  else
    let d := { d with cfg := assocSet d.cfg x.field x.value }
    if x.field = 0x04000002 then { d with time := { d.time with timeSet := some x.value } }
    else if x.field / 0x1000000 = 8 then
      (allContexts.filter fun c => !decide ((d.ctx c).state = .disabled) && decide ((d.ctx c).desc.kind = .csi) &&
        decide ((d.ctx c).desc.port = x.field / 0x10000 % 256)).foldl (fun d c => (flushCtx c d).2) d
    else d

/-- The module scope applies at the commit (R634). -/
def applyModule (d : Device) : Device :=
  let mine := d.staged.filter fun x => decide (x.scope = .module)
  let d := mine.foldl (fun d x => applyField x d) d
  let d := if syncPaced d then d else applyLater d
  let d := journal kApplied 0 { d with staged := d.staged.filter fun x => !decide (x.scope = .module) }
  endCycle (scopeApplied .module mine.length d)

/-- Staged descriptors of a tenant. -/
def stagedCtx (d : Device) (t : TenantId) : Nat := (d.intake.staged.filter fun q => decide (q.2.tenant = t.val)).length

/-- The tenant scope applies, at a step boundary of the tenant or while it has no run (R587, R634); rings that no longer fit
end the commit with NO_RESOURCE. -/
def applyTenantScope (t : TenantId) (d : Device) : Device :=
  if (d.commits.any fun k => k.scopes.contains (.tenant t)) then
    if ringsFit d t then
      let n := stagedCtx d t
      settleCommits (scopeApplied (.tenant t) n (journal kApplied (1 + t.val) (applyDescriptors t d)))
    else
      (d.commits.filter fun k => k.scopes.contains (.tenant t)).foldl (fun d k => finish k.call .noResource 0 d)
        { d with commits := d.commits.filter fun k => !k.scopes.contains (.tenant t) }
  else d

/-- The committed fences of the placement scope: their sites are planned, and the placer builds epochs for the tenants that
they move (R67, R220). -/
def planFences (d : Device) : Device :=
  let sites := ((stagedFences d).map (·.value)).filter fun s => (d.site s).bad.isNone
  let d := sites.foldl (fun d s => modSite s (fun x => { x with planned := true }) d) d
  let d := if sites.isEmpty then d else recordMap d
  (movingTenants d).foldl (fun d t => trigger 3 t d) d

/-- A command's first deadline counts from when it was rung; a commit's timeout counts from its start. -/
def commitDeadline (c : Call) (word : Fin 8) (d : Device) : Option Nat :=
  if c.flag 8 then none
  else
    let t := field (c.w word) 0 16
    some (d.now + (if t = 0 then commitTimeout d else t) * ms)

/-- What is staged in a scope. -/
def stagedIn (d : Device) (s : Scope) : Bool :=
  match s with
  | .tenant t => decide (0 < stagedCtx d t)
  | .placement => !(stagedFences d).isEmpty || d.stagedShares.isSome
  | .module => d.staged.any fun x => decide (x.scope = .module)

/-- The scopes that SCOPES names. -/
def namedScopes (c : Call) (bits : Nat) : List Scope :=
  (if bitAt bits 0 then [Scope.module] else []) ++ (if bitAt bits 1 then [Scope.tenant c.tenant] else []) ++
    (if bitAt bits 2 then [Scope.placement] else [])

/-- CONFIG_COMMIT. -/
def configCommit (c : Call) (d : Device) : Device :=
  let scopes := namedScopes c (c.w 1)
  if c.mbx.val < 8 ∧ (scopes.contains .module ∨ scopes.contains .placement) then finish c .notOwner 0 d
  else if scopes.any (commitPending d) then finish c .busy 0 d
  else
    let mine := scopes.filter (stagedIn d)
    if mine.isEmpty then post c .ok 0 (leBytes 4 0 ++ leBytes 4 0 ++ leBytes 8 (moduleTime d)) false d
    else if mine.contains (.tenant c.tenant) ∧ !ringsFit d c.tenant then finish c .noResource 0 d
    else
      let fences := !(stagedFences d).isEmpty
      let k : Commit :=
        { call := c, scopes := mine.filter fun s => !decide (s = .placement) || fences
          deadline := commitDeadline c 2 d, shares := if mine.contains .placement then d.stagedShares else none }
      let d := { d with commits := d.commits ++ [k] }
      let d := if mine.contains .module then applyModule d else d
      let d := if mine.contains (.tenant c.tenant) && !running d c.tenant then applyTenantScope c.tenant d else d
      let d := if mine.contains .placement && fences then plannedMove (planFences d) else d
      settleCommits (tryShares d)

/-- TENANT_SHARES. -/
def tenantShares (c : Call) (d : Device) : Device :=
  let ws := [2, 3, 4, 5].map fun i => (c.words[i]?.getD 0 : BitVec 64)
  let s := (field (c.w 1) 0 4, ws)
  if !sharesOk ws then badParam c 0 d
  else if (d.commits.any fun k => k.shares.isSome) then finish c .busy 0 d
  else
    let d := journal kStaged 0 { d with stagedShares := some s }
    tryShares { d with commits := d.commits ++ [{ call := c, scopes := [], deadline := commitDeadline c 6 d, shares := some s }] }

/-- The remaining scopes of a commit are deferred: the staged sets stay, planned fences wait no longer, and each tenant that
the placement scope affects counts one deferred commit. -/
def deferCommit (k : Commit) (d : Device) : Device :=
  let hit := if k.scopes.contains .placement || k.shares.isSome then commitAffects d k else []
  let d := hit.eraseDups.foldl (fun d t => bump .deferredCommits t.val d) d
  let fences := (stagedFences d).map (·.value)
  let d := if k.scopes.contains .placement then
      recordMap (fences.foldl (fun d s => modSite s (fun x => { x with planned := false }) d) d)
    else d
  settleCommits { d with commits := d.commits.map fun x =>
    if x = k then { x with scopes := [], shares := none, deferred := true } else x }

/-- COMMIT_TIMEOUT: what applies in the same tick is applied first (R247). -/
def commitTimesOut (m : MailboxId) (tag : W32) (d : Device) : Device :=
  match d.commits.find? fun k => decide (k.call.mbx = m) && decide (k.call.tag = tag) with
  | none => d
  | some k =>
    match k.deadline with
    | none => d
    | some dl =>
      let d := tryShares (plannedMove (advanceTo dl d))
      match d.commits.find? fun x => decide (x.call = k.call) with
      | some x => deferCommit x d
      | none => d

/-! ### CONFIG_STAGE, CONFIG_DISCARD, CONFIG_READ, FENCE_SITE -/

/-- The fields and values of CONFIG_STAGE. -/
def stagePairs (c : Call) : List (Nat × Nat) :=
  [(c.w 1, c.w 2), (c.w 3, c.w 4), (c.w 5, c.w 6)].filter fun p => !decide (p.1 = 0)

/-- CONFIG_STAGE: all fields are staged, or none. -/
def configStage (c : Call) (d : Device) : Device :=
  let ps := stagePairs c
  if (ps.any fun p => commandOnly p.1 || (decide (c.mbx.val < 8) && (fieldDefault p.1).isSome)) then badParam c rsnFieldScope d
  else if (ps.any fun p => (fieldDefault p.1).isNone || !fieldValueOk p.1 p.2) then badParam c 0 d
  else if commitPending d .module then finish c .busy 0 d
  else post c .ok 0 [BitVec.ofNat 8 ps.length] false (ps.foldl (fun d p => stageField .module p.1 p.2 d) d)

/-- The staged set of a scope emptied. -/
def discardScope (s : Scope) (d : Device) : Device :=
  match s with
  | .module => journal kStaged 0 { d with staged := d.staged.filter fun x => !decide (x.scope = .module) }
  | .placement => journal kStaged 0 { d with staged := d.staged.filter fun x => !decide (x.scope = .placement), stagedShares := none }
  | .tenant t => journal kStaged (1 + t.val) { d with intake := { d.intake with staged := d.intake.staged.filter fun q => !decide (q.2.tenant = t.val) } }

/-- CONFIG_DISCARD. -/
def configDiscard (c : Call) (d : Device) : Device :=
  let scopes := namedScopes c (c.w 7)
  if c.mbx.val < 8 ∧ (scopes.contains .module ∨ scopes.contains .placement) then badParam c rsnFieldScope d
  else if scopes.any (commitPending d) then finish c .busy 0 d
  else post c .ok 0 [0] false (scopes.foldl (fun d s => discardScope s d) d)

/-- A descriptor of a context is staged, as a function of its tenant or the physical function sees it; its value reads as 0. -/
def stagedContext (c : Call) (d : Device) (f : Nat) : Option Nat :=
  if d.intake.staged.any fun q => decide (f = 0x0B000000 + q.1 * 0x10000) && (decide (c.mbx = 8) || decide (q.2.tenant = c.tenant.val)) then
    some 0
  else none

/-- CONFIG_READ. -/
def configRead (c : Call) (d : Device) : Device :=
  let f := field (c.w 1) 0 32
  if (fieldDefault f).isNone && !commandOnly f then badParam c 0 d
  else
    let st := match stagedValue d f with | some v => some v | none => stagedContext c d f
    post c .ok 0 (leBytes 8 (fieldValue d f) ++ leBytes 8 (st.getD 0) ++ [BitVec.ofNat 8 (b2n st.isSome)]) false d

/-- FENCE_SITE: the site that carries the vtile now is staged for a planned fence. -/
def fenceSite (c : Call) (d : Device) : Device :=
  let v := field (c.w 1) 0 14
  if 9216 ≤ v ∨ !carriesIndex d (field (c.w 1) 16 4) then badParam c 0 d
  else if commitPending d .placement then finish c .busy 0 d
  else match carrierOf d v with
    | none => badParam c 0 d
    | some s => post c .ok 0 (leBytes 2 s) false (stageField .placement (0x09000000 + field (c.w 1) 0 20) s d)

/-! ### Epochs (R216 to R225) -/

/-- EPOCH_BUILD_COMPLETE: the placer's choice of routes comes with the event; when no routing fits, GRID_CAPACITY is raised
and the tenant's steps are invalid until one does (R218). -/
def epochBuilt (collars segments links : List Nat) (spill : Nat) (fits : Bool) (d : Device) : Device :=
  match d.fabric.build with
  | none => d
  | some b =>
    match tenantOf b.tenant with
    | none => d
    | some t =>
      if b.built.isSome then d
      else if !fits then
        let d := condBegin 39 (1 + t.val) (some t) (modTenant t (fun x => { x with noRoute := true }) d)
        startBuild { d with fabric := { d.fabric with build := none } }
      else
        let n := (match (d.tenant t).nextEpoch with | some e => e.number | none => (d.tenant t).epoch.number) + 1
        let e : Epoch := { number := n, bad := b.bad, collars := collars, segments := segments, links := links }
        let d := modTenant t (fun x => { x with noRoute := false, spill := spill }) d
        let d := condEnd 39 (1 + t.val) (setCount .spillPages t.val spill d)
        { d with fabric := { d.fabric with build := some { b with built := some e } } }

/-- EPOCH_LOADED: the epoch is in the idle banks of its collars; it waits for its planned-move copies, if any (R224). A
planned move of the Kettle that affects several tenants is pending until their common instant (R246). -/
def epochLoaded (d : Device) : Device :=
  match d.fabric.build with
  | none => d
  | some b =>
    match tenantOf b.tenant, b.built with
    | some t, some e =>
      let x := d.tenant t
      let moves := mapsDiffer x.epoch.bad e.bad x.rect
      let d := modTenant t (fun x => { x with nextEpoch := some e, nextReady := !moves }) d
      let d := startBuild { d with fabric := { d.fabric with build := none } }
      let kettle := b.group = 4
      let d := if kettle ∧ moves ∧ 1 < (movingTenants d).length then
          setCount .plannedPending 0 (max 1 (plannedSites d).length)
            ((movingTenants d).foldl (fun d t => modTenant t (fun x => { x with movePending := true }) d) d)
        else d
      d
    | _, _ => d

/-! ### Meanings -/

/-- CONFIG_STAGE. -/
def execConfigStage (c : Call) (s : State) : Host.Outcome State Fault Refusal := done s (runFw c (configStage c) s.dev)

/-- CONFIG_DISCARD. -/
def execConfigDiscard (c : Call) (s : State) : Host.Outcome State Fault Refusal := done s (runFw c (configDiscard c) s.dev)

/-- CONFIG_COMMIT. -/
def execConfigCommit (c : Call) (s : State) : Host.Outcome State Fault Refusal := done s (runFw c (configCommit c) s.dev)

/-- CONFIG_READ. -/
def execConfigRead (c : Call) (s : State) : Host.Outcome State Fault Refusal := done s (runFw c (configRead c) s.dev)

/-- FENCE_SITE. -/
def execFenceSite (c : Call) (s : State) : Host.Outcome State Fault Refusal := done s (runFw c (fenceSite c) s.dev)

/-- TENANT_SHARES. -/
def execTenantShares (c : Call) (s : State) : Host.Outcome State Fault Refusal := done s (runFw c (tenantShares c) s.dev)

/-- COMMIT_TIMEOUT. -/
def execCommitTimeout (m : MailboxId) (tag : W32) (s : State) : Host.Outcome State Fault Refusal :=
  done s (commitTimesOut m tag s.dev)

/-- PLANNED_MOVE. -/
def execPlannedMove (s : State) : Host.Outcome State Fault Refusal := done s (plannedMove s.dev)

/-- EPOCH_BUILD_COMPLETE: collars, segments and links that the epoch's schedules use, its spill pages, and whether a routing
fits in the collars' banks. -/
def execEpochBuildComplete (collars segments links : List Nat) (spill : Nat) (fits : Bool) (s : State) :
    Host.Outcome State Fault Refusal := done s (epochBuilt collars segments links spill fits s.dev)

/-- EPOCH_LOADED. -/
def execEpochLoaded (s : State) : Host.Outcome State Fault Refusal := done s (epochLoaded s.dev)

end Sys2Proof.Machine
end

