-- ==== Sys2Proof/Machine/Accum.lean ====
section
/-! DEFINITION. The tensor engine's pass, the partial-sum record, MOMENTS, block conversions and the summation tree (chapter
"Accumulation, reduction and fused output"), as functions on values. -/

namespace Sys2Proof.Machine

open Sys2Proof

/-! ### Operands of a pass -/

/-- A finite operand value as a signed integer times a power of two; none where it is not finite (R93). -/
abbrev Dyadic := Option (Int × Int)

/-- The exact product of two operand values. -/
def mulDyadic : Dyadic → Dyadic → Dyadic
  | some (a, e), some (b, f) => some (a * b, e + f)
  | _, _ => none

/-- A value as a dyadic. -/
def FVal.dyadic : FVal → Dyadic
  | .fin s m e => some (if s then -(m : Int) else m, e)
  | _ => none

/-- Whether an operand format has block scales. -/
def scaledFmt : TensorFmt → Bool
  | .int8 => false | .int4 => false | .bf16 => false | .fp16 => false | _ => true

/-- The pairings of Table 3-3. -/
def pairingOk (a b : TensorFmt) : Bool :=
  match a, b with
  | .int8, b => decide (b = .int8 ∨ b = .int4)
  | .int4, b => decide (b = .int4)
  | .bf16, b => decide (b = .bf16 ∨ b = .fp16)
  | .fp16, b => decide (b = .bf16 ∨ b = .fp16)
  | _, b => scaledFmt b

/-- A pass whose parameters PACKAGE_LOAD accepts (R92, R116): a listed pairing, and a listed output and C format. -/
def passValid (p : Pass) : Bool :=
  pairingOk p.aFmt p.bFmt &&
    (match p.out with
     | .record => true
     | .final f _ _ fuse c _ _ _ =>
       (match f with
        | .fp32 => true | .bf16 => true | .fp16 => true | .e4m3 => true | .e5m2 => true | .int8 => true | .int32 => true
        | _ => false) &&
         (decide (fuse = .none) || (match c with | .fp32 => true | .bf16 => true | .fp16 => true | _ => false)))

/-- KP. -/
def passK (p : Pass) : Nat := 32 * (p.kp.val + 1)

/-- Alignment of a group of BF16 or FP16 elements to a shared exponent (R94): none for a non-finite element, which takes no
part in the group's exponent. -/
def alignGroup (f : FloatFmt) (codes : List Nat) : List Dyadic :=
  let h : Int := if f.m = 7 then 7 else 4
  let parts := codes.map fun c =>
    match f.decode c with
    | .fin s m _ =>
      let ef := field c f.m f.w
      let e : Int := if ef = 0 then f.emin else (ef : Int) - f.bias
      some (s, m, e)
    | _ => none
  let emax := parts.foldl (fun acc p => match p with | some (_, _, e) => max acc e | none => acc) f.emin
  parts.map fun p =>
    match p with
    | none => none
    | some (s, m, e) =>
      let mag := rneInt m (h - (emax - e))
      some (if s then -mag else mag, emax - 14)

/-- A list cut into groups of n. -/
def groupsOf {α : Type} (n : Nat) : Nat → List α → List (List α)
  | 0, _ => []
  | fuel + 1, l => if l.isEmpty then [] else l.take n :: groupsOf n fuel (l.drop n)

/-- The values of one vector of KP codes along the reduction dimension. -/
def vectorValues (f : TensorFmt) (codes scales : List Nat) : List Dyadic :=
  match floatFmt f.num, scaledFmt f with
  | some ff, false => (groupsOf 16 codes.length codes).flatMap (alignGroup ff)
  | _, false => codes.map fun c => (decodeNum f.num c).dyadic
  | _, true =>
    let groups := groupsOf 32 codes.length codes
    (groups.zip (List.range groups.length)).flatMap fun (g, i) =>
      let s := scales.getD i 0x7F
      g.map fun c =>
        if s = 0xFF then none
        else match (decodeNum f.num c).dyadic with
          | some (m, e) => some (m, e + (s : Int) - 127)
          | none => none

/-- n codes of a list from position i on, with zeros beyond its end. -/
def codesAt (l : List Nat) (i n : Nat) : List Nat :=
  let t := (l.drop i).take n
  t ++ List.replicate (n - t.length) 0

/-- The 16 rows of A. -/
def passRows (p : Pass) : List (List Dyadic) :=
  (List.range 16).map fun i =>
    vectorValues p.aFmt (codesAt p.aCodes (i * passK p) (passK p)) ((p.aScales.drop (i * (passK p / 32))).take (passK p / 32))

/-- The 16 columns of B. -/
def passCols (p : Pass) : List (List Dyadic) :=
  (List.range 16).map fun j =>
    vectorValues p.bFmt ((List.range (passK p)).map fun k => p.bCodes.getD (16 * k + j) 0)
      ((p.bScales.drop (j * (passK p / 32))).take (passK p / 32))

/-! ### The partial-sum record (R133) -/

/-- A partial-sum record. -/
structure PsRecord where
  words : List Int
  nan : List Bool
  tag : Int
  replays : Nat := 0
  sat : Bool := false
  deriving DecidableEq, Repr

/-- The bytes of a record (Table 4-4). -/
def PsRecord.bytes (r : PsRecord) : List Byte :=
  r.words.flatMap (fun w => leBytes 4 (codeOf 32 w)) ++
    (groupsOf 8 256 r.nan).map (fun g => BitVec.ofNat 8 ((g.zip (List.range 8)).foldl (fun a x => a + b2n x.1 * 2 ^ x.2) 0)) ++
    [BitVec.ofNat 8 (codeOf 8 r.tag), BitVec.ofNat 8 (2 * r.replays + b2n r.sat)] ++ List.replicate 14 0

/-- The record that 1,072 bytes hold. -/
def PsRecord.ofBytes (bs : List Byte) : PsRecord :=
  { words := (List.range 256).map fun i => signedCode 32 (leAt bs (4 * i) 4)
    nan := (List.range 256).map fun i => ((slice bs (1024 + i / 8) 1).headD 0).getLsbD (i % 8)
    tag := signedCode 8 (leAt bs 1056 1)
    replays := leAt bs 1057 1 / 2 % 8
    sat := bitAt (leAt bs 1057 1) 0 }

/-! ### Accumulation (R119 to R128) -/

/-- The range of a 32-bit word. -/
def in32 (v : Int) : Bool := decide (-(2 ^ 31 : Int) ≤ v) && decide (v ≤ 2 ^ 31 - 1)

/-- Clamping to the range of a 32-bit word. -/
def clamp32 (v : Int) : Int := max (-(2 ^ 31 : Int)) (min (2 ^ 31 - 1) v)

/-- The sequential sum of one element at a tag; none when it overflows (R121, R124). -/
def sumAt (t : Int) : Int → List Dyadic → Option Int
  | s, [] => some s
  | s, none :: ps => sumAt t s ps
  | s, some (m, e) :: ps =>
    let q := rneInt m (e - t)
    if in32 q && in32 (s + q) then sumAt t (s + q) ps else none

/-- The saturating sum of one element (R128). -/
def satSumAt (t : Int) : Int → List Dyadic → Int
  | s, [] => s
  | s, none :: ps => satSumAt t s ps
  | s, some (m, e) :: ps => satSumAt t (clamp32 (s + clamp32 (rneInt m (e - t)))) ps

/-- The products of one output element. -/
def products (a b : List Dyadic) : List Dyadic := (a.zip b).map fun p => mulDyadic p.1 p.2

/-- Any input of the element is not finite (R136). -/
def anyNonfinite (a b : List Dyadic) : Bool := a.any (·.isNone) || b.any (·.isNone)

/-- The largest floor(log2 |x|) over the non-zero finite values (R122). -/
def topExponent (vs : List Dyadic) : Option Int :=
  vs.foldl (fun acc v =>
    match v with
    | some (m, e) =>
      if m = 0 then acc
      else
        let x : Int := (Nat.log2 m.natAbs : Int) + e
        match acc with
        | some y => some (max x y)
        | none => some x
    | none => acc) none

/-- The starting tag of INIT_AUTO (R122). -/
def autoTag (rows cols : List (List Dyadic)) : Int :=
  match topExponent rows.flatten, topExponent cols.flatten with
  | some a, some b => max (-128) (min 127 (a + b - 22))
  | _, _ => -128

/-- One attempt at all elements (R124): the 256 words, or none on overflow. Marked elements take no part. -/
def attempt (t : Int) : List (Int × Bool × List Dyadic) → Option (List Int)
  | [] => some []
  | (w, nan, ps) :: rest =>
    if nan then (attempt t rest).map (0 :: ·)
    else match sumAt t w ps with
      | some s => (attempt t rest).map (s :: ·)
      | none => none

/-- The attempts of a pass from replay r on (R125 to R128): words, final tag, replays, and whether it saturated. -/
def attempts (start : Nat → List (Int × Bool × List Dyadic)) (t : Int) (r : Nat) : Nat → List Int × Int × Nat × Bool
  | 0 => ((start r).map (fun x => if x.2.1 then 0 else satSumAt t x.1 x.2.2), t, r, true)
  | fuel + 1 =>
    match attempt t (start r) with
    | some ws => (ws, t, r, false)
    | none =>
      if 0 < fuel ∧ t + 4 ≤ 127 then attempts start (t + 4) (r + 1) fuel
      else ((start r).map (fun x => if x.2.1 then 0 else satSumAt t x.1 x.2.2), t, r, true)

/-- The record that a pass reaches from the record it finds, and whether it saturated: the sums of all 256 elements with
the replays and the saturation of R125 to R130. -/
def passRun (p : Pass) (old : PsRecord) : PsRecord × Bool :=
  let rows := passRows p
  let cols := passCols p
  let cont := decide (p.mode = .cont)
  let elems := (List.range 256).map fun i =>
    let a := rows.getD (i / 16) []
    let b := cols.getD (i % 16) []
    (if cont then old.words.getD i 0 else 0, (cont && old.nan.getD i false) || anyNonfinite a b, products a b)
  let t0 := match p.mode with
    | .initAuto => autoTag rows cols
    | .initFixed t => t.toInt
    | .cont => old.tag
  let start := fun r : Nat => if r = 0 then elems else elems.map fun x => (rneInt x.1 (-(4 * r : Int)), x.2)
  let (ws, t, r, sat) := attempts start t0 0 5
  ({ words := ws, nan := elems.map (·.2.1), tag := t, replays := r, sat := sat || (cont && old.sat) }, sat)

/-! ### Fused output (R137 to R140) -/

/-- The largest finite FP32 value with a sign. -/
def maxFinite32 (neg : Bool) : W32 := if neg then 0xFF7FFFFF else 0x7F7FFFFF

/-- Steps 1 and 2 keep FP32 results finite: an infinity becomes the largest finite value, and the clamp is counted. -/
def finite32 (x : W32) : W32 × Nat :=
  match val32 x with
  | .inf s => (maxFinite32 s, 1)
  | _ => (x, 0)

/-- Step 2 of R137 with R138. -/
def fuseStep (f : Fuse) (y c : W32) : W32 × Nat :=
  match f with
  | .none => (y, 0)
  | .add =>
    (match val32 c with
     | .fin _ _ _ => finite32 (add32 y c)
     | _ => (nan32, 0))
  | .mul =>
    (match val32 c with
     | .fin _ _ _ => finite32 (mul32 y c)
     | _ => (nan32, 0))

/-- One element of a FINAL pass: its code and what it adds to SATURATED and NAN_TO_ZERO. -/
def finalElement (fmt : NumFmt) (rnd : Nat) (sat : Bool) (fuse : Fuse) (w t : Int) (nan : Bool) (c : W32) (u : Nat) :
    Nat × Nat × Nat :=
  let (y, s1) := if nan then (nan32, 0) else finite32 (rne32 (ofInt w t))
  let (y, s2) := fuseStep fuse y c
  if fmt = .fp32 then (y.toNat, s1 + s2, 0)
  else
    let r := convertTo fmt rnd sat u (val32 y)
    (r.code, s1 + s2 + b2n r.saturated, b2n r.nanToZero)

/-! ### Block conversion (R105) -/

/-- Conversion of one block: its scale code and element codes, whether it counts in BLOCK_NONFINITE, and its SATURATED
count. -/
def toBlock (fmt : NumFmt) (rnd : Nat) (vs : List (W32 × Nat)) : Nat × List Nat × Bool × Nat :=
  if vs.any (fun v => match val32 v.1 with | .fin _ _ _ => false | _ => true) then (0xFF, vs.map fun _ => 0, true, 0)
  else
    let top := vs.foldl (fun acc v =>
      match val32 v.1 with
      | .fin _ m e => if m = 0 then acc else
          (match acc with
           | some x => some (max x ((Nat.log2 m : Int) + e))
           | none => some ((Nat.log2 m : Int) + e))
      | _ => acc) (none : Option Int)
    match top with
    | none => (0, vs.map fun _ => 0, false, 0)
    | some e =>
      let s := max 0 (min 254 (e - elementEmax fmt + 127))
      let cs := vs.map fun v =>
        match val32 v.1 with
        | .fin neg m x => convertTo fmt rnd true v.2 (.fin neg m (x + 127 - s))
        | _ => { code := 0 }
      (s.toNat, cs.map (·.code), false, (cs.filter (·.saturated)).length)

/-! ### MOMENTS (R141 to R145) -/

/-- The results of MOMENTS: S1, S2, e, and the number of replays, and whether it saturated. -/
structure Moments where
  s1 : Int
  s2 : Nat
  e : Int
  replays : Nat
  sat : Bool
  deriving DecidableEq, Repr

/-- The scaled integers of the values at a scale. -/
def momentInts (vs : List (Int × Int)) (e : Int) : List Int := vs.map fun v => rneInt v.1 (v.2 - e)

/-- Attempts of MOMENTS from a scale on (R142). -/
def momentAttempts (vs : List (Int × Int)) (e : Int) (r : Nat) : Nat → List Int × Int × Nat × Bool
  | 0 => (momentInts vs e, e, r, false)
  | fuel + 1 =>
    let xs := momentInts vs e
    let lim : Int := 2 ^ 23 - 1
    if xs.any fun x => decide (lim < x.natAbs) then
      (if 0 < fuel ∧ e + 4 ≤ 127 then momentAttempts vs (e + 4) (r + 1) fuel
       else (xs.map fun x => max (-lim) (min lim x), e, r, true))
    else (xs, e, r, false)

/-- MOMENTS over values; none when a value is not finite (R145). -/
def moments (vs : List FVal) (e : Int) : Option Moments :=
  let ds := vs.map FVal.dyadic
  if ds.any (·.isNone) then none
  else
    let (xs, e, r, sat) := momentAttempts (ds.filterMap id) e 0 5
    some { s1 := xs.foldl (· + ·) 0, s2 := xs.foldl (fun a x => a + x.natAbs * x.natAbs) 0, e := e, replays := r, sat := sat }

/-- A signed integer times 2^e over a positive denominator, rounded once to FP32 (R144). -/
def ratScaled (v : Int) (e : Int) (den : Nat) : W32 :=
  let (p, q) := ratio v.natAbs e
  rat32 (decide (v < 0)) p (q * den)

/-- The derived results of R144, in the order SUM, SUMSQ, MEAN, VAR, VAR_SAMPLE, of those requested. -/
def momentResults (m : Moments) (n : Nat) (q : MomentsReq) : List W32 :=
  let v : Int := (n : Int) * m.s2 - m.s1 * m.s1
  (if q.sum then [ratScaled m.s1 m.e 1] else []) ++
    (if q.sumsq then [ratScaled m.s2 (2 * m.e) 1] else []) ++
    (if q.mean then [ratScaled m.s1 m.e n] else []) ++
    (if q.var then [ratScaled v (2 * m.e) (n * n)] else []) ++
    (if q.varSample then [if n ≤ 1 then nan32 else ratScaled v (2 * m.e) (n * (n - 1))] else [])

/-! ### The summation tree (R147 to R153) -/

/-- One level of the pairwise tree. -/
def pairUp {α : Type} (add : α → α → α) : List α → List α
  | a :: b :: rest => add a b :: pairUp add rest
  | l => l

/-- The pairwise tree T of a list (R147): levels until one item is left; `fuel` is at least its length. -/
def treeSum {α : Type} (add : α → α → α) : Nat → List α → Option α
  | _, [] => none
  | _, [a] => some a
  | 0, a :: _ => some a
  | fuel + 1, l => treeSum add fuel (pairUp add l)

/-- T over a list. -/
def treeOf {α : Type} (add : α → α → α) (l : List α) : Option α := treeSum add l.length l

/-- An integer node: the exact sum and whether any node so far has left the declared width (R153). -/
def addNode (width : Nat) (a b : Int × Bool) : Int × Bool :=
  let s := a.1 + b.1
  (s, a.2 || b.2 || decide (s < -(2 ^ (width - 1) : Int)) || decide ((2 ^ (width - 1) : Int) ≤ s))

/-- The result of an integer reduction: clamped to the range when a node left it (R153). -/
def nodeResult (width : Nat) (r : Int × Bool) : Int × Bool :=
  if r.2 then (max (-(2 ^ (width - 1) : Int)) (min (2 ^ (width - 1) - 1) r.1), true) else r

end Sys2Proof.Machine
end

