-- ==== Sys2Proof/Machine/Rows.lean ====
section
/-! DEFINITION. The arithmetic of a score row: scaling, normaliser, candidates, boundary, weights, cuts, draw and the
verification of a group (R416 to R435). -/

namespace Sys2Proof.Machine

open Sys2Proof

/-- The FP32 negative infinity. -/
def negInf32 : W32 := 0xFF800000

/-- TEMP is +0 or −0: greedy mode. -/
def isGreedy (p : RowParams) : Bool := decide (p.temp &&& 0x7FFFFFFF = 0)

/-- The parameters keep Table 11-1 (R413); `rows` bounds ROW. -/
def rowParamsOk (p : RowParams) (rows : Nat) : Bool :=
  let tempOk := match val32 p.temp with
    | .fin neg mag _ => !neg || decide (mag = 0)
    | _ => false
  let topOk := !isNan32 p.topP && lt32 0 p.topP && !lt32 0x3F800000 p.topP
  decide (1 ≤ p.n) && decide (p.n ≤ 1048576) && decide (p.fmt < 3) && tempOk && decide (1 ≤ p.topK) && decide (p.topK ≤ 1024) &&
    topOk && decide (p.stream < 256) && decide (p.row < rows)

/-- A score as given, widened exactly to FP32 (R98). -/
def widenScore (fmt code : Nat) : W32 :=
  match fmt with
  | 0 => BitVec.ofNat 32 code
  | 1 => rne32 (bf16.decode code)
  | _ => rne32 (fp16.decode code)

/-- A scaled score, or −infinity for a NaN, and whether one was seen (R416). -/
def cleanScore (s : W32) : W32 × Bool := if isNan32 s then (negInf32, true) else (s, false)

/-- The scaled score under TEMP (R416). -/
def scaleScore (p : RowParams) (score : W32) : W32 × Bool :=
  if isNan32 score then (negInf32, true)
  else if isGreedy p then (score, false)
  else cleanScore (mul32 score (div32 0x3F800000 p.temp))

/-- Rank order: score descending with −0 below +0, then token index ascending. -/
def rankLt (a b : Nat × W32) : Bool := ltTotal32 b.2 a.2 || (!ltTotal32 a.2 b.2 && decide (a.1 < b.1))

/-- The first k of a list in rank order. -/
def topRanks (k : Nat) (l : List (Nat × W32)) : List (Nat × W32) :=
  l.foldl (fun acc x => (insertBy rankLt x acc).take k) []

/-- The NEXT of a contributor without a further entry (R420). -/
def sentinel : Nat × W32 := (0xFFFFFFFF, negInf32)

/-- The block of a contributor that holds the scaled scores from a first index on (R420). -/
def makeBlock (topK base : Nat) (scores : List (W32 × Bool)) : CandBlock :=
  let c := min 64 (min topK scores.length)
  let top := topRanks (c + 1) ((rangeFrom base scores.length).zip (scores.map (·.1)))
  let next := (top.drop c).headD sentinel
  { base := base, nan := scores.any (·.2), nextIndex := next.1, nextScore := next.2, cands := top.take c,
    scores := scores.map (·.1) }

/-- Consecutive parts of n elements. -/
def partsOf {α : Type} (n : Nat) (l : List α) : List (List α) := groupsOf n (l.length / n + 1) l |>.filter fun g => !g.isEmpty

/-- The blocks that a Strainer forms over the chunks of a host row. -/
def hostBlocks (p : RowParams) (codes : List Nat) : List CandBlock :=
  let parts := partsOf 16384 (codes.map fun c => scaleScore p (widenScore p.fmt c))
  ((rangeFrom 0 parts.length).zip parts).map fun x => makeBlock p.topK (16384 * x.1) x.2

/-- The FP32 maximum of scores; −infinity of none. -/
def maxOf (l : List W32) : W32 :=
  match l with
  | [] => negInf32
  | x :: xs => xs.foldl max32 x

/-- e of a scaled score (R418). -/
def expWeight (mx s : W32) : W32 :=
  if s = negInf32 then 0
  else if s = mx then strainerExp 0
  else strainerExp (sub32 s mx)

/-- W of a weight value e: rne_int(e × 2^30) (R423). -/
def intWeight (e : W32) : Nat :=
  match val32 e with
  | .fin _ mag x => (rneInt mag (x + 30)).toNat
  | _ => 0

/-- Cumulative sums. -/
def cumSums (l : List Nat) : List Nat := (l.foldl (fun acc w => (acc.headD 0 + w) :: acc) []).reverse

/-- The number of elements before the first that satisfies p. -/
def firstIdx {α : Type} (p : α → Bool) (l : List α) : Nat := (l.takeWhile fun x => !p x).length

/-- PQ of R424. -/
def topPCut (topP : W32) : Nat :=
  match val32 topP with
  | .fin _ mag x => max 1 (min (2 ^ 24) (rneInt mag (x + 24)).toNat)
  | _ => 1

/-- The first rank of a kept set whose cumulative sum exceeds ρ, with ρ = (u × S) >> 32 (R425). -/
def drawFrom (set : List (Nat × Nat)) (u : Nat) : Option (Nat × Nat) :=
  let s := (set.map (·.2)).sum
  let rho := (u * s) >>> 32
  ((set.zip (cumSums (set.map (·.2)))).find? fun x => decide (rho < x.2)).map (·.1)

/-- A row of blocks processed into its kept set without a draw (R417 to R424, R426, R427). -/
def rowKept (p : RowParams) (blocks : List CandBlock) : RowOut :=
  let bs := sortBy (fun a b => decide (a.base < b.base)) blocks
  let mx := (treeOf max32 (bs.map fun b => maxOf b.scores)).getD negInf32
  let z := (treeOf add32 (bs.map fun b => sumChain (b.scores.map (expWeight mx)))).getD 0
  let cands := topRanks p.topK (bs.flatMap (·.cands))
  let bound := (topRanks 1 (sentinel :: bs.map fun b => (b.nextIndex, b.nextScore))).headD sentinel
  let kEff := firstIdx (fun c => !rankLt c bound) cands
  let nan := bs.any (·.nan)
  let short := decide (kEff < p.topK)
  if mx = negInf32 then
    { set := {}, max := mx, z := z, kEff := 0, greedy := isGreedy p, kShort := short, nan := nan, empty := true }
  else if isGreedy p then
    { set := { kept := [((cands.headD sentinel).1, 2 ^ 30)], sum := 2 ^ 30 }, max := mx, z := z, kEff := kEff,
      greedy := true, kShort := short, nan := nan }
  else
    let ws := (cands.take kEff).map fun c => (c.1, intWeight (expWeight mx c.2))
    let cum := cumSums (ws.map (·.2))
    let sk := cum.getLastD 0
    let j := firstIdx (fun c => decide (topPCut p.topP * sk ≤ c * 2 ^ 24)) cum
    { set := { kept := ws.take (j + 1), sum := cum.getD j sk }, max := mx, z := z, kEff := kEff, kShort := short, nan := nan }

/-- The draw of a processed row with its uniform 0 (R425). -/
def rowDraw (o : RowOut) (u : Nat) : RowOut :=
  match drawFrom o.set.kept u with
  | some x => { o with token := x.1 }
  | none => o

/-- The weight of a token in a kept set; 0 outside it. -/
def weightOf (s : KeptSet) (token : Nat) : Nat := (assoc s.kept token).getD 0

/-- FLAGS of a row result (Table 11-3). -/
def rowFlags (o : RowOut) (timeout : Bool) : Nat :=
  b2n o.greedy + 2 * b2n o.kShort + 4 * b2n o.nan + 8 * b2n o.empty + 16 * b2n timeout

/-- The 32-byte record of Table 11-3. -/
def rowRecord (o : RowOut) (timeout : Bool) : List Byte :=
  leBytes 4 o.token ++ leBytes 4 (weightOf o.set o.token) ++ leBytes 8 o.set.sum ++ leBytes 4 o.max.toNat ++
    leBytes 4 o.z.toNat ++ leBytes 2 o.set.kept.length ++ leBytes 2 o.kEff ++ leBytes 1 (rowFlags o timeout) ++ leBytes 3 0

/-- The record of a row that times out: no token (R444). -/
def timeoutOut (p : RowParams) : RowOut := { set := {}, max := negInf32, z := 0, kEff := 0, greedy := isGreedy p }

/-! ### Groups (R430 to R435) -/

/-- What a group comes to. -/
structure GroupOut where
  tokens : List Nat := []
  accepted : Nat := 0
  tested : Nat := 0
  bonus : Bool := false
  empty : Bool := false
  /-- The residual of a rejection has no weight at all; the spec gives no token then. -/
  unstated : Bool := false
  deriving DecidableEq, Repr

/-- The test of a position (R431). -/
def acceptsToken (u : Nat) (draft target : KeptSet) (x : Nat) : Bool :=
  decide (u * weightOf draft x * target.sum < weightOf target x * draft.sum * 2 ^ 32)

/-- The residual weights of a rejected position, in the target's rank order (R432). -/
def residual (draft target : KeptSet) : List (Nat × Nat) :=
  target.kept.map fun x => (x.1, x.2 * draft.sum - weightOf draft x.1 * target.sum)

/-- The positions of a group from one on: drafted rows with their target rows, then the bonus row (R431 to R433). -/
def verifyFrom (u : Nat → Nat) (bonus : RowOut) : Nat → List (RowOut × RowOut) → GroupOut → GroupOut
  | _, [], g =>
    if bonus.empty then { g with empty := true }
    else { g with tokens := g.tokens ++ (drawFrom bonus.set.kept (u 8)).toList.map (·.1), bonus := true }
  | j, (q, p) :: rest, g =>
    let g := { g with tested := g.tested + 1 }
    if acceptsToken (u j) q.set p.set q.token then
      verifyFrom u bonus (j + 1) rest { g with tokens := g.tokens ++ [q.token], accepted := g.accepted + 1 }
    else if p.empty then { g with empty := true }
    else
      match drawFrom (residual q.set p.set) (u 8) with
      | some x => { g with tokens := g.tokens ++ [x.1] }
      | none => { g with unstated := true }

/-- A group of n drafted rows and n + 1 target rows. -/
def verifyGroup (u : Nat → Nat) (drafts targets : List RowOut) : GroupOut :=
  verifyFrom u (targets.getLastD (timeoutOut { n := 1, temp := 0, topK := 1, topP := 0x3F800000, stream := 0, row := 0 })) 0
    (drafts.zip targets) {}

/-- The 48-byte record of R435. -/
def groupRecord (g : GroupOut) (kShort nan timeout : Bool) : List Byte :=
  ((List.range 9).flatMap fun i => leBytes 4 (g.tokens.getD i 0xFFFFFFFF)) ++ leBytes 1 g.tokens.length ++
    leBytes 1 g.accepted ++
    leBytes 1 (b2n g.bonus + 2 * b2n kShort + 4 * b2n nan + 8 * b2n g.empty + 16 * b2n timeout) ++ leBytes 9 0

/-! ### The draw unit (R429) -/

/-- The draw unit's row: every entry a candidate, no cut, its inverse temperature as given. -/
def drawUnitRow (invT : W32) (scores : List W32) (u : Nat) : RowOut :=
  let s := scores.map fun x => cleanScore (mul32 x invT)
  let vals := s.map (·.1)
  let mx := maxOf vals
  let z := sumChain (vals.map (expWeight mx))
  let nan := s.any (·.2)
  if mx = negInf32 then { set := {}, max := mx, z := z, kEff := 0, nan := nan, empty := true }
  else
    let ranked := topRanks vals.length ((rangeFrom 0 vals.length).zip vals)
    let ws := ranked.map fun c => (c.1, intWeight (expWeight mx c.2))
    rowDraw { set := { kept := ws, sum := (ws.map (·.2)).sum }, max := mx, z := z, kEff := vals.length, nan := nan } u

end Sys2Proof.Machine
end

