-- ==== Sys2Proof/Machine/Strainer.lean ====
section
/-! DEFINITION. The Strainers: contexts, draft tables, rows of packages, groups, host rows, time-outs and fencing (chapter
"Token sampling in the Strainers"). -/

namespace Sys2Proof.Machine

open Sys2Proof

/-! ### The four Strainers -/

/-- A Strainer. -/
def Device.strainer (d : Device) (k : StrainerId) : Strainer := d.strainers[k.val]'k.isLt

/-- A Strainer changed. -/
def modStrainer (k : StrainerId) (f : Strainer → Strainer) (d : Device) : Device :=
  { d with strainers := vmod d.strainers k f }

/-- The Strainers. -/
def allStrainers : List StrainerId := [0, 1, 2, 3]

/-- The Strainer that serves a row which the placer gave to Strainer k: k itself, or the lowest-numbered one that is not
fenced; none while all four are (R446). -/
def serving (d : Device) (k : StrainerId) : Option StrainerId :=
  if (d.strainer k).fenced then allStrainers.find? fun j => !(d.strainer j).fenced else some k

/-- STRAINER_TIMEOUT in µs. -/
def strainerTimeout (d : Device) : Nat := cfgOr d 0x07000001 100

/-- Two rows are the same row of a tenant: stream, row number and, for a target row, its position. -/
def sameRow (r : RowCtx) (t stream row pos : Nat) : Bool :=
  decide (r.tenant = t) && decide (r.params.stream = stream) && decide (r.params.row = row) &&
    (!decide (r.params.kind = .group) || decide (r.pos = pos))

/-- Groups of a tenant that hold a draft table, or will when their admitted draft rows complete. -/
def draftTables (x : Strainer) : List (Nat × Nat) :=
  ((x.drafts.map fun r => (r.tenant, r.group)) ++
    ((x.ctx.filter fun r => decide (r.params.kind = .draft)).map fun r => (r.tenant, r.group))).eraseDups

/-- A row may take a context: one is free and, for a draft row, a table with a free row (R443). -/
def admissible (x : Strainer) (r : RowCtx) : Bool :=
  decide (x.ctx.length < 16) &&
    (!decide (r.params.kind = .draft) ||
      ((draftTables x).contains (r.tenant, r.group) || decide ((draftTables x).length < 4)))

/-- Ring cycles of the 1,600 MHz ring clock in a number of ns (R12). -/
def ringCycles (ns : Nat) : Nat := ns * 8 / 5

/-- Waiting rows take the contexts that are free, one admission slot each, as the shares give them (R443, Table 5-6); within a
tenant the oldest goes first. A row that gets no slot goes on waiting. -/
def serveQueue (k : StrainerId) : Nat → Device → Device
  | 0, d => d
  | n + 1, d =>
    let x := d.strainer k
    let ready := (x.queue.filter (admissible x)).map (·.tenant)
    if ready.isEmpty || underTest d (16 + k.val) then d
    else
      match passSlot 5 k.val ready d with
      | (none, d) => serveQueue k n d
      | (some (u, b), d) =>
        match x.queue.find? fun r => decide (r.tenant = u) && admissible x r with
        | none => d
        | some r =>
          let d := if b then bump .borrowedSlots (u + 4 * 6) d else d
          let d := bumpBy .contextWaitCycles k.val (ringCycles (d.now - r.asked)) d
          serveQueue k n (modStrainer k (fun x => { x with
            queue := x.queue.eraseP (fun y => decide (y = r)), ctx := x.ctx ++ [{ r with admitted := d.now }] }) d)

/-! ### Completion of rows -/

/-- The counters of a row that completes (Table 11-5). -/
def countRow (t : TenantId) (o : RowOut) (d : Device) : Device :=
  let d := bump .rows t.val d
  let d := if o.kShort then bump .kShortRows t.val d else d
  let d := if o.nan then bump .nanRows t.val d else d
  if o.empty then bump .emptyRows t.val d else d

/-- Uniform j of a Strainer row in the tenant's step (R318). -/
def rowUniform (d : Device) (t : TenantId) (stream row j : Nat) : Nat :=
  let (seed, step, budget) := drawKey d t
  let span := (firstFree (carriesIndex d) 0 16).getD 0
  field (streamOut seed (strainerStream span stream) budget step (16 * row + j)).toNat 32 32

/-- The scratchpad cell from which a result lands in its destination vtile, when the place exists. -/
def landResult (r : RowCtx) (bs : List Byte) (d : Device) : Device :=
  if spadOk r.addr bs.length then { d with scratch := d.scratch.writeN (r.dest * 2 ^ 19 + r.addr) bs } else d

/-- The tokens of a DECODE_RUN round (R436, R437). -/
def roundTokens (t : TenantId) (tokens : List Nat) (empty : Bool) (d : Device) : Device :=
  match (d.tenant t).run with
  | some r =>
    (match r.kind with
     | .decode .. => modStep t (fun s => { s with
         tokens := tokens, decodeFlags := if empty then s.decodeFlags ||| 4 else s.decodeFlags }) d
     | _ => d)
  | none => d

/-- A row leaves its context with a result, and the waiting rows are served. -/
def leaveContext (k : StrainerId) (r : RowCtx) (record : List Byte) (d : Device) : Device :=
  let d := modStrainer k (fun x => { x with ctx := x.ctx.erase r, result := record }) d
  serveQueue k 512 (landResult r record d)

/-- An ORDINARY or DRAFT row is drawn (R425, R430). -/
def completeRow (k : StrainerId) (t : TenantId) (r : RowCtx) (d : Device) : Device :=
  let o := rowDraw (rowKept r.params r.blocks) (rowUniform d t r.params.stream r.params.row 0)
  let d := countRow t o d
  if r.params.kind = .draft then
    leaveContext k r (rowRecord o false)
      (modStrainer k (fun x => { x with drafts := x.drafts ++ [{ tenant := t.val, group := r.group, pos := r.pos, out := o }] }) d)
  else
    leaveContext k r (rowRecord o false)
      (if r.params.row = 0 then roundTokens t (if o.empty then [] else [o.token]) o.empty d else d)

/-- The target rows of a group in contexts, in ascending position. -/
def groupRows (x : Strainer) (t group : Nat) : List RowCtx :=
  sortBy (fun a b => decide (a.pos < b.pos))
    (x.ctx.filter fun r => decide (r.tenant = t) && decide (r.params.kind = .group) && decide (r.group = group))

/-- The draft rows of a group, in ascending position. -/
def groupDrafts (x : Strainer) (t group : Nat) : List DraftRow :=
  sortBy (fun a b => decide (a.pos < b.pos)) (x.drafts.filter fun r => decide (r.tenant = t) && decide (r.group = group))

/-- The counters of a group (Table 11-5). -/
def countGroup (t : TenantId) (g : GroupOut) (d : Device) : Device :=
  let d := bumpBy .accepted t.val g.accepted (bumpBy .drafted t.val g.tested (bump .groups t.val d))
  if g.bonus then bump .bonus t.val d else d

/-- The corrected token where the residual of a rejection has no weight: the spec states none, so a free value
(log entry 21). -/
def settleGroup (g : GroupOut) (d : Device) : GroupOut × Device :=
  if g.unstated then
    let (v, d) := freshValue d
    ({ g with tokens := g.tokens ++ [v.toNat % 2 ^ 32] }, d)
  else (g, d)

/-- The group of a target row leaves the Strainer: its rows and its draft table are freed. -/
def closeGroup (k : StrainerId) (t : TenantId) (r : RowCtx) (record : List Byte) (d : Device) : Device :=
  let d := modStrainer k (fun x => { x with
    ctx := x.ctx.filter fun y => !(decide (y.tenant = t.val) && decide (y.params.kind = .group) && decide (y.group = r.group))
    drafts := x.drafts.filter fun y => !(decide (y.tenant = t.val) && decide (y.group = r.group)), result := record }) d
  serveQueue k 512 (landResult r record d)

/-- A group completes once every target row is processed and every draft row is kept (R431 to R435). -/
def tryGroup (k : StrainerId) (t : TenantId) (r : RowCtx) (d : Device) : Device :=
  let x := d.strainer k
  let rows := groupRows x t.val r.group
  let drafts := (groupDrafts x t.val r.group).take r.size
  if decide (rows.length = r.size + 1) && rows.all (fun y => y.out.isSome) && decide (drafts.length = r.size) then
    let targets := rows.filterMap (·.out)
    let qs := drafts.map (·.out)
    let (g, d) := settleGroup (verifyGroup (rowUniform d t r.params.stream r.params.row) qs targets) d
    let record := groupRecord g (targets.any (·.kShort)) (targets.any (·.nan) || qs.any (·.nan)) false
    closeGroup k t r record (roundTokens t g.tokens g.empty (countGroup t g d))
  else d

/-- The last block of a row has arrived. -/
def finishRow (k : StrainerId) (t : TenantId) (r : RowCtx) (d : Device) : Device :=
  if r.params.kind = .group then
    let o := rowKept r.params r.blocks
    let r' := { r with out := some o }
    tryGroup k t r' (modStrainer k (fun x => { x with ctx := x.ctx.map fun y => if y = r then r' else y }) (countRow t o d))
  else completeRow k t r d

/-! ### Package rows -/

/-- The parameters of a row: DECODE_RUN carries those of its rows (R412). -/
def rowParamsOf (d : Device) (t : TenantId) (p : RowParams) : RowParams :=
  match (d.tenant t).run with
  | some r =>
    (match r.kind with
     | .decode _ _ temp topP topK stream _ _ =>
       { p with temp := BitVec.ofNat 32 temp, topP := BitVec.ofNat 32 topP, topK := topK, stream := stream }
     | _ => p)
  | none => p

/-- A row of the tenant's step repeats one of it (R414); the target rows of one group share a row number. -/
def repeatsRow (s : Step) (stream row tag : Nat) : Bool :=
  s.rows.any fun x => decide (x.1 = stream) && decide (x.2.1 = row) && (decide (x.2.2 = tag) || decide (x.2.2 = 0) || decide (tag = 0))

/-- ROW_ADMISSION: a row of the running step asks for a context. A row number beyond the draw budget or used twice makes
the step invalid with ROW_MISUSE and is not served (R318, R414); with every Strainer fenced the step is invalid too (R446). -/
def admitRow (k : StrainerId) (t : TenantId) (p : RowParams) (contributors group pos size : Nat) (v : VtileRef) (addr : Nat)
    (d : Device) : Device :=
  match d.stepOf t with
  | none => d
  | some s =>
    if !s.started || s.halted then d
    else
      let p := rowParamsOf d t p
      let (_, _, budget) := drawKey d t
      let tag := if p.kind = .group then pos + 1 else 0
      if !rowParamsOk p (budget / 16) || repeatsRow s p.stream p.row tag then invalidate t 0x17 none d
      else
        match serving d k with
        | none => invalidate t 0x08 none d
        | some k =>
          let r : RowCtx := { tenant := t.val, params := p, expect := contributors, asked := d.now, admitted := d.now,
                              group := group, pos := pos, size := size, dest := vtNum v, addr := addr }
          let d := modStep t (fun s => { s with rows := (p.stream, p.row, tag) :: s.rows }) d
          serveQueue k 512 (modStrainer k (fun x => { x with queue := x.queue ++ [r] }) d)

/-- The Strainer that holds a row in a context, and the row. -/
def findRow (d : Device) (t stream row pos : Nat) : Option (StrainerId × RowCtx) :=
  allStrainers.findSome? fun k => ((d.strainer k).ctx.find? fun r => sameRow r t stream row pos).map fun r => (k, r)

/-- CANDIDATE_BLOCK: a contributor's block reaches its row (R421, R422); the last one completes the row. A block of a row
that is no longer in a context is discarded and counted (R444). -/
def candidateBlock (t : TenantId) (stream row pos : Nat) (b : CandBlock) (d : Device) : Device :=
  match findRow d t.val stream row pos with
  | none =>
    (match d.stepOf t with
     | some s => if s.rows.any fun x => decide (x.1 = stream) && decide (x.2.1 = row) then bump .lateBlocks t.val d else d
     | none => d)
  | some (k, r) =>
    if r.expect ≤ r.blocks.length then d
    else
      let r' := { r with blocks := r.blocks ++ [b] }
      let d := bumpBy .candidates k.val b.cands.length d
      let d := modStrainer k (fun x => { x with ctx := x.ctx.map fun y => if y = r then r' else y }) d
      if r'.blocks.length = r.expect then finishRow k t r' d else d

/-! ### Time-outs and failures -/

/-- STRAINER_TIMEOUT: a row whose blocks have not all arrived in time completes with TIMEOUT and no token, and its step is
invalid (R444). A group with such a row returns no token (log entry 22). -/
def strainerTimesOut (t : TenantId) (stream row pos : Nat) (d : Device) : Device :=
  match findRow d t.val stream row pos with
  | none => d
  | some (k, r) =>
    if r.blocks.length < r.expect then
      let d := advanceTo (r.admitted + strainerTimeout d * us) d
      let o := timeoutOut r.params
      let d := bump .rowTimeouts t.val (countRow t o d)
      let d := invalidate t 0x07 none d
      if r.params.kind = .group then closeGroup k t r (groupRecord {} false false true) d
      else leaveContext k r (rowRecord o true) d
    else d

/-- The tenants with rows in a Strainer's contexts. -/
def tenantsIn (x : Strainer) : List TenantId := allTenants.filter fun t => x.ctx.any fun r => decide (r.tenant = t.val)

/-- A Strainer is fenced: steps with rows in its contexts are invalid, and the rows it holds are gone; those that wait go to
another Strainer (R446). -/
def fenceStrainer (k : StrainerId) (d : Device) : Device :=
  let x := d.strainer k
  let d := (tenantsIn x).foldl (fun d t => invalidate t 0x08 (some 37) d) d
  let d := modStrainer k (fun x => { x with fenced := true, ctx := [], drafts := [], queue := [] }) d
  match serving d k with
  | some j => serveQueue j 512 (modStrainer j (fun y => { y with queue := y.queue ++ x.queue }) d)
  | none => x.queue.foldl (fun d r => match tenantOf r.tenant with | some t => invalidate t 0x08 (some 37) d | none => d) d

/-- STRAINER_FAULT: a parity error in a Strainer's datapath (R446). -/
def strainerFault (k : StrainerId) (d : Device) : Device := fenceStrainer k (occur 37 k.val none d)

/-- Every row of a tenant leaves the Strainers: a step has ended or the tenant's contexts are force-released (R430, R445). -/
def dropRows (t : TenantId) (d : Device) : Device :=
  allStrainers.foldl (fun d k =>
    serveQueue k 512 (modStrainer k (fun x => { x with
      ctx := x.ctx.filter fun r => !decide (r.tenant = t.val)
      queue := x.queue.filter fun r => !decide (r.tenant = t.val)
      drafts := x.drafts.filter fun r => !decide (r.tenant = t.val) }) d)) d

/-- A Strainer context is force-released: the row is discarded and its step is invalid (R445). -/
def releaseContext (k : StrainerId) (i : Nat) (d : Device) : Device :=
  match (d.strainer k).ctx[i]? with
  | none => d
  | some r =>
    let d := modStrainer k (fun x => { x with ctx := x.ctx.eraseIdx i }) d
    let d := match tenantOf r.tenant with | some t => invalidate t 0x06 none d | none => d
    serveQueue k 512 d

/-! ### Host rows (R415) -/

/-- D_H of host rows. -/
def hostBudget : Nat := 2 ^ 20

/-- Bytes of a score in a format. -/
def scoreBytes (fmt : Nat) : Nat := if fmt = 0 then 4 else 2

/-- n scores of a format from a byte position on. -/
def scoresAt (bs : List Byte) (fmt pos n : Nat) : List Nat :=
  (List.range n).map fun i => leAt bs (pos + i * scoreBytes fmt) (scoreBytes fmt)

/-- Uniform j of a host row (R318, R415). -/
def hostUniform (seed : BitVec 128) (stream step row j : Nat) : Nat :=
  field (streamOut seed (hostRowStream stream) hostBudget step (16 * row + j)).toNat 32 32

/-- The parameters of the packed row word with TEMP, TOP_P and TOP_K (Table 15-8, Table 15-9). -/
def packedRow (c : Call) : RowParams :=
  { n := field (c.w 1) 0 21, fmt := field (c.w 1) 21 2, temp := BitVec.ofNat 32 (field (c.w 2) 0 32),
    topK := field (c.w 3) 0 11, topP := BitVec.ofNat 32 (field (c.w 2) 32 32), stream := field (c.w 1) 24 8,
    row := field (c.w 1) 32 32 }

/-- The Strainer that forms host rows; candidates are counted there. -/
def hostStrainer (d : Device) : Option StrainerId := allStrainers.find? fun k => !(d.strainer k).fenced

/-- A command that needs the tenant's seed goes on with it, or completes with NO_SEED (R297). -/
def withSeed (c : Call) (k : Seed → Device → Device) (d : Device) : Device :=
  match (d.tenant c.tenant).seed with
  | some s => k s d
  | none => finish c .noSeed 0 d

/-- A host row's blocks, with its candidates counted at the Strainer that forms them. -/
def countCandidates (k : StrainerId) (bs : List CandBlock) (d : Device) : Device :=
  bumpBy .candidates k.val ((bs.map fun b => b.cands.length).sum) d

/-- The item of a run command in HOST_DIGEST (R524): OPCODE and FLAGS of W0, W1 to W7 without the bits of the two masks,
which hold a handle in W1 and a buffer list's address in W5. -/
def commandItem (c : Call) (handle list : Bool) : List Byte :=
  (List.range 8).flatMap fun i =>
    let w := (c.words.toList.getD i 0).toNat
    leBytes 8 (if i = 0 then w % 0x8000 else if i = 1 ∧ handle then w / 2 ^ 32 * 2 ^ 32 else if i = 5 ∧ list then 0 else w)

/-- SAMPLE_ROW and SPEC_VERIFY are host inputs of a run that the tenant holds (R524). -/
def noteRow (c : Call) : Device → Device :=
  modTenant c.tenant fun x => { x with hostInputs := if x.runId.isSome then x.hostInputs ++ commandItem c false true else x.hostInputs }

/-- SAMPLE_ROW (R415, R428). -/
def sampleRow (c : Call) (d : Device) : Device :=
  let p := packedRow c
  if !rowParamsOk p 65536 then badParam c 0 d
  else withSeed c (fun seed d =>
    match hostStrainer d with
    | none => finish c .faulted 0 d
    | some k =>
      withBuf c 6 (p.n * scoreBytes p.fmt) (fun bs d =>
        let blocks := hostBlocks p (scoresAt bs p.fmt 0 p.n)
        let o := rowDraw (rowKept p blocks) (hostUniform seed.value p.stream (field (c.w 4) 0 48) p.row 0)
        let record := rowRecord o false
        let d := modStrainer k (fun x => { x with result := record }) (countCandidates k blocks d)
        post c .ok 0 record false (noteRow c (countRow c.tenant o d))) d) d

/-- A draft record of SPEC_VERIFY at a byte position: its parameters and its token. -/
def draftAt (p : RowParams) (bs : List Byte) (pos : Nat) : RowParams × Nat :=
  ({ p with temp := BitVec.ofNat 32 (leAt bs pos 4), topP := BitVec.ofNat 32 (leAt bs (pos + 4) 4),
            topK := leAt bs (pos + 8) 2, kind := .draft }, leAt bs (pos + 12) 4)

/-- SPEC_VERIFY (R430 to R435): a draft record with parameters outside Table 11-1, or a drafted token without weight, is
refused, and nothing is drawn. -/
def specVerify (c : Call) (d : Device) : Device :=
  let p := packedRow c
  let n := field (c.w 3) 16 4
  if !rowParamsOk p 65536 || decide (n = 0) || decide (8 < n) then badParam c 0 d
  else withSeed c (fun seed d =>
    match hostStrainer d with
    | none => finish c .faulted 0 d
    | some k =>
      let rowLen := p.n * scoreBytes p.fmt
      withBuf c 6 ((n + 1) * rowLen + n * (16 + rowLen)) (fun bs d =>
        let recs := (List.range n).map fun i =>
          let pos := (n + 1) * rowLen + i * (16 + rowLen)
          (draftAt p bs pos, pos + 16)
        if !(recs.all fun r => rowParamsOk r.1.1 65536) then badParam c 0 d
        else
          let qBlocks := recs.map fun r => (r.1.1, hostBlocks r.1.1 (scoresAt bs p.fmt r.2 p.n))
          let qs := (recs.zip qBlocks).map fun r => { rowKept r.2.1 r.2.2 with token := r.1.1.2 }
          if !(qs.all fun q => decide (0 < weightOf q.set q.token)) then badParam c 0 d
          else
            let tBlocks := (List.range (n + 1)).map fun i => hostBlocks p (scoresAt bs p.fmt (i * rowLen) p.n)
            let targets := tBlocks.map (rowKept p)
            let (g, d) := settleGroup
              (verifyGroup (hostUniform seed.value p.stream (field (c.w 4) 0 48) p.row) qs targets) d
            let record := groupRecord g (targets.any (·.kShort)) (targets.any (·.nan) || qs.any (·.nan)) false
            let d := (qBlocks.map (·.2) ++ tBlocks).foldl (fun d bs => countCandidates k bs d) d
            let d := (qs ++ targets).foldl (fun d o => countRow c.tenant o d) d
            let d := modStrainer k (fun x => { x with result := record }) (countGroup c.tenant g d)
            post c .ok 0 record false (noteRow c d)) d) d

/-! ### The draw unit -/

/-- DRAW_UNIT_ROW (R317, R429): row r of the vtile in its step; r ≥ D traps. A row outside the unit's 1 to 256 entries is
no command of the unit. Its result record is that of Table 11-3. -/
def drawUnit (v : VtileRef) (invT : W32) (scores : List W32) (d : Device) : Device :=
  onVtile v (fun t d =>
    let r := (vt d v).rows
    let (_, _, budget) := drawKey d t
    if scores.isEmpty || decide (256 < scores.length) then tileTrap v t trapIllegal d
    else if budget ≤ r then tileTrap v t trapBudget d
    else
      let u := field ((drawOuts d t (drawUnitStream v.span.val v.vtile.val) r 1).headD 0).toNat 32 32
      let bs := rowRecord (drawUnitRow invT scores u) false
      let d := modVt v (fun x => { x with rows := x.rows + 1 }) d
      unitDone v 3 (setResult v ((List.range 8).map fun i => BitVec.ofNat 32 (leAt bs (4 * i) 4)) d)) d

/-! ### Meanings -/

/-- SAMPLE_ROW. -/
def execSampleRow (c : Call) (s : State) : Host.Outcome State Fault Refusal := done s (runFw c (sampleRow c) s.dev)

/-- SPEC_VERIFY. -/
def execSpecVerify (c : Call) (s : State) : Host.Outcome State Fault Refusal := done s (runFw c (specVerify c) s.dev)

/-- ROW_ADMISSION. -/
def execRowAdmission (k : StrainerId) (t : TenantId) (p : RowParams) (contributors group pos size : Nat) (v : VtileRef)
    (addr : Nat) (s : State) : Host.Outcome State Fault Refusal :=
  done s (admitRow k t p contributors group pos size v addr s.dev)

/-- CANDIDATE_BLOCK. -/
def execCandidateBlock (t : TenantId) (stream row pos : Nat) (b : CandBlock) (s : State) :
    Host.Outcome State Fault Refusal := done s (candidateBlock t stream row pos b s.dev)

/-- STRAINER_TIMEOUT. -/
def execStrainerTimeout (t : TenantId) (stream row pos : Nat) (s : State) : Host.Outcome State Fault Refusal :=
  done s (strainerTimesOut t stream row pos s.dev)

/-- STRAINER_FAULT. -/
def execStrainerFault (k : StrainerId) (s : State) : Host.Outcome State Fault Refusal := done s (strainerFault k s.dev)

/-- DRAW_UNIT_ROW. -/
def execDrawUnitRow (v : VtileRef) (invT : W32) (scores : List W32) (s : State) : Host.Outcome State Fault Refusal :=
  done s (drawUnit v invT scores s.dev)

end Sys2Proof.Machine
end

