-- ==== Sys2Proof/Machine/Residency.lean ====
section
/-! DEFINITION. Heat, migrations and carried-state mirrors (R70, R71, R234 to R241). -/

namespace Sys2Proof.Machine

open Sys2Proof

/-! ### Heat and the choice of migrations (R234 to R237, Table 6-3) -/

/-- Heat after a step with n accesses (R234). -/
def newHeat (h n : Nat) : Nat := min (h - h / 8 + n) (2 ^ 32 - 1)

/-- Heat is updated at the end of a step. Units marked for the tier-0 cache are those of class CACHE with heat (R243). -/
def updateHeat (t : TenantId) : Device → Device :=
  modTenant t fun x =>
    let units := x.units.map fun u =>
      let h := newHeat u.heat u.count
      let cls := ((x.tensors.find? fun y => decide (y.id = u.tensor)).map (·.cls)).getD 0
      { u with heat := h, count := 0, cached := decide (cls = 4) && decide (0 < h) }
    { x with
      heatSteps := x.heatSteps + 1, units := units
      cacheBlocks := x.cacheBlocks.filter fun b =>
        units.any fun u => u.cached && decide (u.tensor = b.2.1) && decide (u.index = b.2.2.1 / unitBytes) }

/-- Class of a unit's tensor, and whether the tensor is read-only. -/
def unitClass (d : Device) (t : TenantId) (u : RUnit) : Nat := ((findTensor d t u.tensor).map (·.cls)).getD 0
def unitReadOnly (d : Device) (t : TenantId) (u : RUnit) : Bool := ((findTensor d t u.tensor).map (fun x => decide (x.mode = .readOnly))).getD false

/-- How a class breaks a tie of heat: NEAR first, MID last (Table 6-3). -/
def tieRank (cls : Nat) : Nat := if cls = 1 then 0 else if cls = 2 then 2 else 1

/-- Unit order (R228). -/
def unitBefore (a b : TenantId × RUnit) : Bool :=
  decide (a.1 < b.1) || (decide (a.1 = b.1) && (decide (a.2.tensor < b.2.tensor) ||
    (decide (a.2.tensor = b.2.tensor) && decide (a.2.index < b.2.index))))

/-- The hotter unit first; ties by class, then in unit order. -/
def hotter (d : Device) (a b : TenantId × RUnit) : Bool :=
  let ra := tieRank (unitClass d a.1 a.2)
  let rb := tieRank (unitClass d b.1 b.2)
  decide (b.2.heat < a.2.heat) || (decide (a.2.heat = b.2.heat) && (decide (ra < rb) || (decide (ra = rb) && unitBefore a b)))

/-- Units that a tenant's promotion may push out of a tier: its own when it is strict, else those of every tenant that is not
(R236, R237). Tier 2 gives up read-only units only: a writable unit has no other tier to go to (R229). -/
def pushable (d : Device) (t : TenantId) (tier : Nat) : List (TenantId × RUnit) :=
  let owners := if (d.tenant t).strict then [t] else allTenants.filter fun u => !(d.tenant u).strict
  owners.flatMap fun u => ((d.tenant u).units.filter fun x =>
    decide (x.tier = tier) && x.migrating.isNone && (decide (tier = 1) || unitReadOnly d u x)).map fun x => (u, x)

/-- The coldest of them. -/
def coldest (d : Device) (t : TenantId) (tier : Nat) : Option (TenantId × RUnit) :=
  (sortBy (hotter d) (pushable d t tier)).getLast?

/-- A unit changed. -/
def modUnit (t : TenantId) (tensor index : Nat) (f : RUnit → RUnit) : Device → Device :=
  modTenant t fun x => { x with units := x.units.map fun u => if u.tensor = tensor ∧ u.index = index then f u else u }

/-- A migration starts. -/
def startMigration (q : TenantId × RUnit) (dst : Nat) : Device → Device :=
  modUnit q.1 q.2.tensor q.2.index fun u => { u with migrating := some (dst, 0), marked := [] }

/-- One candidate against the coldest unit of the nearer tier. -/
def tryPromote (t : TenantId) (tier : Nat) (u : RUnit) (d : Device) : Device :=
  match coldest d t tier with
  | none => d
  | some c =>
    let m := max 64 (c.2.heat / 4)
    let margin := if unitClass d t u = 3 then 4 * m else m
    if u.heat ≤ c.2.heat + margin then d
    else
      let d := startMigration (t, u) tier d
      if tier = 1 then startMigration c 2 d
      else bump .demotions c.1.val (modUnit c.1 c.2.tensor c.2.index (fun x => { x with tier := 3 }) d)

/-- The units of a tenant that may be promoted into a tier, in the order of R236. -/
def candidates (d : Device) (t : TenantId) (tier : Nat) : List RUnit :=
  (sortBy (hotter d) (((d.tenant t).units.filter fun u => u.migrating.isNone && decide (tier < u.tier)).map fun u => (t, u))).map (·.2)

/-- Migrations chosen at an end of step, from the 16th on, at most 64 units (R235, R236). -/
def chooseMigrations (t : TenantId) (d : Device) : Device :=
  if (d.tenant t).heatSteps < 16 then d
  else
    let d := ((candidates d t 1).take 64).foldl (fun d u => tryPromote t 1 u d) d
    ((candidates d t 2).filter fun u => decide (u.tier = 3)).take 64 |>.foldl (fun d u => tryPromote t 2 u d) d

/-- Migrations in progress are a step older. -/
def ageMigrations (t : TenantId) : Device → Device :=
  modTenant t fun x => { x with units := x.units.map fun u =>
    { u with migrating := u.migrating.map fun m => (m.1, m.2 + 1) } }

/-- MIGRATION_SWITCH: between two steps, with no page marked, the unit switches to its new copy (R238). -/
def migrationSwitch (t : TenantId) (tensor index : Nat) (d : Device) : Device :=
  match (d.tenant t).units.find? fun u => decide (u.tensor = tensor) && decide (u.index = index) with
  | none => d
  | some u =>
    match u.migrating with
    | none => d
    | some (dst, age) =>
      if !betweenSteps d t || decide (4 ≤ age) then d
      else
        let pages := u.marked.length
        let d := modUnit t tensor index (fun u => { u with tier := dst, migrating := none, marked := [] }) d
        let d := bumpBy .migrationBytes t.val (unitBytes + 4096 * pages) d
        bump (if dst < u.tier then .promotions else .demotions) t.val d

/-- MIGRATION_ABANDON: a migration that has not switched by the end of the 4th step after it started is abandoned, and the
unit stays where it was (R240). -/
def migrationAbandon (t : TenantId) (tensor index : Nat) (d : Device) : Device :=
  match (d.tenant t).units.find? fun u => decide (u.tensor = tensor) && decide (u.index = index) with
  | none => d
  | some u =>
    match u.migrating with
    | none => d
    | some (_, age) =>
      if age < 4 then d
      else bump .migrationsAbandoned t.val (modUnit t tensor index (fun u => { u with migrating := none, marked := [] }) d)

/-! ### Mirrors (R70, R71) -/

/-- The vtile numbers of the running package or model that this module carries. -/
def runVtiles (d : Device) (t : TenantId) : List Nat :=
  match (d.tenant t).run with
  | none => []
  | some r =>
    match r.kind with
    | .anneal m _ _ =>
      (match (d.tenant t).models.find? fun x => decide (x.handle = m) with
       | some x => x.vtiles.filter fun n => carriesIndex d (n / 16384)
       | none => [])
    | _ =>
      (match runDecl d t with
       | some k => (List.range k.extent).flatMap fun i => if carriesIndex d i then (rectVtiles k.rect).map (i * 16384 + ·) else []
       | none => [])

/-- Carried-state bytes of the running package; an annealing run has the STATE sections of its model instead (R380). -/
def carriedLen (d : Device) (t : TenantId) : Nat :=
  match (d.tenant t).run with
  | some r => (match r.kind with | .anneal .. => 0 | _ => ((runDecl d t).map (·.carriedLen)).getD 0)
  | none => 0

/-- The STATE section of a vtile of a model: its address and its 2,048 bytes. -/
def stateAt (d : Device) (t : TenantId) (num base : Nat) : Nat := base + (areaOf d t (refOf num) base).offs.getD 3 0
def stateBytes (d : Device) (t : TenantId) (num base : Nat) : List Byte := spadRead d (refOf num) (stateAt d t num base) 2048

/-- The model of an annealing run. -/
def runModel (d : Device) (t : TenantId) : Option Model :=
  match (d.tenant t).run with
  | some r =>
    (match r.kind with
     | .anneal m _ _ => (d.tenant t).models.find? fun x => decide (x.handle = m)
     | _ => none)
  | none => none

/-- STATE sections of the model of the run, by vtile number. -/
def modelStates (d : Device) (t : TenantId) (m : Model) : List (Nat × Nat × List Byte) :=
  ((m.vtiles.zip m.bases).filter fun x => carriesIndex d (x.1 / 16384)).map fun x => (x.1, 1, stateBytes d t x.1 x.2)

/-- The newest two complete mirrors, and a newer one still being copied. -/
def trimMirrors : List Mirror → List Mirror
  | [] => []
  | m :: ms => if m.complete then (m :: ms.filter (·.complete)).take 2 else m :: (ms.filter (·.complete)).take 2

/-- Every page has been copied: the newest mirror is complete. -/
def settleMirror (t : TenantId) (d : Device) : Device :=
  if (runVtiles d t).all fun n => (vt d (refOf n)).uncopied.isEmpty then
    modTenant t (fun x => { x with mirrors := trimMirrors x.mirrors }) (modMirror t (fun m => { m with complete := true }) d)
  else d

/-- The copy in progress is finished before the next one starts (log entry 31). -/
def finishMirror (t : TenantId) (d : Device) : Device :=
  settleMirror t ((runVtiles d t).foldl (fun d n => (vt d (refOf n)).uncopied.foldl (fun d _ => copyPage (refOf n) t d) d) d)

/-- The copy of the carried state from which step `next` starts begins (R70). -/
def beginMirror (t : TenantId) (next : Nat) (d : Device) : Device :=
  let d := finishMirror t d
  match runModel d t with
  | some m =>
    modTenant t (fun x => { x with
      mirrors := trimMirrors ({ next := next, areas := modelStates d t m, complete := true } :: x.mirrors) }) d
  | none =>
    let pages := List.range (carriedLen d t / 4096)
    let d := modTenant t (fun x => { x with
      mirrors := trimMirrors ({ next := next, areas := [], complete := pages.isEmpty } :: x.mirrors) }) d
    if pages.isEmpty then d
    else (runVtiles d t).foldl (fun d n => modVt (refOf n) (fun x => { x with uncopied := pages }) d) d

/-- The mirror from which a step starts. -/
def mirrorFor (d : Device) (t : TenantId) (n : Nat) : Option Mirror := (d.tenant t).mirrors.find? fun m => decide (m.next = n)

/-- After the STATE section of an area is put back, its pending halo values are those of the states put back: the next command
scatters them (R360, R380; log entry 105). -/
def regather (t : TenantId) (v : VtileRef) (base : Nat) (d : Device) : Device :=
  let a := areaOf d t v base
  gather t a (a.ncolour - 1) d

/-- A vtile's carried state goes back to a mirror: pages copied from it, pages not yet copied as they stand, since no write
has reached them (R71). -/
def restoreArea (t : TenantId) (m : Mirror) (n : Nat) (d : Device) : Device :=
  match runModel d t with
  | some k =>
    (match assoc (k.vtiles.zip k.bases) n with
     | some base => if (m.area n).isEmpty then d else regather t (refOf n) base (spadPut (refOf n) (stateAt d t n base) (m.area n) d)
     | none => d)
  | none => spadPut (refOf n) (((runDecl d t).map (·.carriedBase)).getD 0) (m.area n) d

/-- MIRROR_COPY: the next page of a vtile's carried-state area is copied (R70, R71). -/
def mirrorCopy (v : VtileRef) (d : Device) : Device :=
  match tenantOfVtile d v.vtile.val with
  | none => d
  | some t => if (vt d v).uncopied.isEmpty then d else settleMirror t (copyPage v t d)

/-! ### Meanings -/

/-- MIGRATION_SWITCH. -/
def execMigrationSwitch (t : TenantId) (tensor index : Nat) (s : State) : Host.Outcome State Fault Refusal :=
  done s (migrationSwitch t tensor index s.dev)

/-- MIGRATION_ABANDON. -/
def execMigrationAbandon (t : TenantId) (tensor index : Nat) (s : State) : Host.Outcome State Fault Refusal :=
  done s (migrationAbandon t tensor index s.dev)

/-- MIRROR_COPY. -/
def execMirrorCopy (v : VtileRef) (s : State) : Host.Outcome State Fault Refusal := done s (mirrorCopy v s.dev)

end Sys2Proof.Machine
end

