-- ==== Sys2Proof/Machine/Checkpoint.lean ====
section
/-! DEFINITION. Run state, the run chain, checkpoints and RESTORE (R527 to R529, R551 to R557, R627). -/

namespace Sys2Proof.Machine

open Sys2Proof

/-! ### The run chain (R527) -/

/-- CH_init. -/
def chainInit (runId : Nat) (seedId : BitVec 128) : BitVec 128 := sha384First16 (leBytes 8 runId ++ bytes16 seedId)

/-- CH_n. -/
def chainNext (prev : BitVec 128) (n : Nat) (intake host out : BitVec 128) : BitVec 128 :=
  sha384First16 (bytes16 prev ++ leBytes 8 n ++ bytes16 intake ++ bytes16 host ++ bytes16 out)

/-- PACKAGE of records and checkpoints: the first 16 bytes of the package digest; zero for a model that ANNEAL_LOAD_MODEL
loaded. -/
def packageBytes (d : Device) (t : TenantId) : List Byte :=
  match runPackage d t with
  | some p => (beOf 48 p.digest).take 16
  | none => List.replicate 16 0

/-- SEED_ID of the run. -/
def runSeedId (d : Device) (t : TenantId) : BitVec 128 := match (d.tenant t).run with | some r => r.seed.id | none => 0

/-! ### Undoing a step that stopped the run (R551) -/

/-- The tensors and carried-state areas go back to what the last committed step left. -/
def undoStopped (t : TenantId) (d : Device) : Device :=
  let undo := (d.tenant t).residue
  let d := modTenant t (fun x => { x with tensors := x.tensors.map (undoTensor undo), residue := [] }) d
  let d := match mirrorFor d t (d.tenant t).nextStep with
    | some m => (runVtiles d t).foldl (fun d n => restoreArea t m n d) d
    | none => d
  modRun t (fun r => { r with dirty := none }) d

/-- The stopped step's writes cannot be undone: its journal overflowed, or the mirror of the last committed step is
incomplete. -/
def cannotUndo (d : Device) (t : TenantId) (overflowed : Bool) : Bool :=
  overflowed || (decide (0 < carriedLen d t) && !(match mirrorFor d t (d.tenant t).nextStep with | some m => m.complete | none => false))

/-! ### The layout of a checkpoint (R553, R554) -/

/-- A section: kind, span index, id and body. -/
abbrev Section := Nat × Nat × Nat × List Byte

/-- The bytes of a pool entry (Table 10-2). -/
def poolEntryBytes (e : PoolEntry) : List Byte :=
  leBytes 8 (codeOf 64 e.energy) ++ leBytes 8 (codeOf 64 e.penalty) ++ leBytes 8 e.sweep ++ leBytes 8 e.step ++ bytes16 e.hash ++
    leBytes 1 e.replica ++ leBytes 1 e.position ++ leBytes 1 (b2n e.final + 2 * b2n e.free) ++ leBytes 13 0 ++ padTo 64 e.states

/-- An entry read back; the packed state is the first n bytes of the STATE field. -/
def poolEntryAt (bs : List Byte) (n : Nat) : PoolEntry :=
  { energy := signedCode 64 (leAt bs 0 8), penalty := signedCode 64 (leAt bs 8 8), sweep := leAt bs 16 8, step := leAt bs 24 8,
    hash := BitVec.ofNat 128 (ofBe (slice bs 32 16)), replica := leAt bs 48 1, position := leAt bs 49 1,
    final := bitAt (leAt bs 50 1) 0, free := bitAt (leAt bs 50 1) 1, states := slice bs 64 n }

/-- The vtiles of a model in ascending vtile number, with the base of their areas. -/
def modelAreas (m : Model) : List (Nat × Nat) := sortBy (fun (a b : Nat × Nat) => decide (a.1 < b.1)) (m.vtiles.zip m.bases)

/-- The body of an ANNEAL_MODEL section: pool header, STATE sections, positions and pool. -/
def modelSection (d : Device) (t : TenantId) (m : Model) : List Byte :=
  leBytes 2 m.pool.length ++ leBytes 2 m.poolSize ++ leBytes 4 0 ++ leBytes 8 m.sweepBase ++
    (((modelAreas m).filter fun x => carriesIndex d (x.1 / 16384)).flatMap fun x => stateBytes d t x.1 x.2) ++
    fit 64 (m.positions.map (BitVec.ofNat 8)) ++ m.pool.flatMap poolEntryBytes

/-- The sections of a tenant's run, in ascending (KIND, SPAN, ID). -/
def ckptSections (d : Device) (t : TenantId) : List Section :=
  let x := d.tenant t
  let len := ((runDecl d t).map (·.carriedLen)).getD 0
  let base := ((runDecl d t).map (·.carriedBase)).getD 0
  let nums := if len = 0 then [] else sortBy (fun a b => decide (a < b)) (match runDecl d t with
    | some k => (List.range k.extent).flatMap fun i => if carriesIndex d i then (rectVtiles k.rect).map (i * 16384 + ·) else []
    | none => [])
  let carried := nums.map fun n => ((1, n / 16384, n % 16384, spadRead d (refOf n) base len) : Section)
  let tensors := (sortBy (fun (a b : Tensor) => decide (a.id < b.id))
    (x.tensors.filter fun y => (decide (y.mode = .append) || decide (y.mode = .inPlace)) && y.ring.isNone)).map
      fun y => ((2, 0xFF, y.id, y.bytes.readN 0 y.size) : Section)
  let models := (sortBy (fun (a b : Model) => decide (a.handle < b.handle)) x.models).map
    fun m => ((3, 0xFF, m.handle, modelSection d t m) : Section)
  carried ++ tensors ++ models ++
    [(4, 0xFF, 0, leBytes 8 x.decodePos ++ leBytes 8 x.decodeKept),
     (5, 0xFF, 0, leBytes 8 (x.runId.getD 0) ++ leBytes 8 x.nextStep ++ bytes16 x.chain)]

/-- The bytes of the sections with their offsets: bodies start on 64-byte boundaries. -/
def placeBodies (l : List Section) : List Nat × List Byte :=
  l.foldl (fun (acc : List Nat × List Byte) s =>
    let start := padTo 64 acc.2
    (acc.1 ++ [start.length], start ++ s.2.2.2)) ([], [])

/-- The section table and the bodies (R554). -/
def ckptContent (l : List Section) : List Byte :=
  let (offs, bodies) := placeBodies l
  ((l.zip offs).flatMap fun x =>
    leBytes 2 x.1.1 ++ leBytes 1 x.1.2.1 ++ leBytes 1 0 ++ leBytes 4 x.1.2.2.1 ++ leBytes 8 x.2 ++ leBytes 8 x.1.2.2.2.length ++
      leBytes 8 0) ++ padTo 64 bodies

/-- Span indices that the checkpoint of a tenant includes. -/
def ckptIndices (d : Device) (t : TenantId) : Nat :=
  let e := match runDecl d t with | some k => List.range k.extent | none => runIndices d t
  ((e.filter (carriesIndex d)).map fun i => 2 ^ i).sum

/-- EXTENT. -/
def ckptExtent (d : Device) (t : TenantId) : Nat :=
  match runDecl d t with | some k => k.extent | none => (runIndices d t).foldl (fun m i => max m (i + 1)) 1

/-- Bytes 0 to 415 of the header (Table 13-9). -/
def ckptHeader (d : Device) (t : TenantId) (host : Bool) (sections : Nat) (content : List Byte) : List Byte :=
  let x := d.tenant t
  ascii "LEMUPCKP" ++ leBytes 2 1 ++ leBytes 2 (b2n host) ++ leBytes 4 sections ++ packageBytes d t ++ leBytes 8 (x.runId.getD 0) ++
    leBytes 8 x.nextStep ++ bytes16 (runSeedId d t) ++ bytes16 x.chain ++ leBytes 1 (runningImage d).arith ++
    leBytes 1 (runningImage d).iface ++ leBytes 1 (ckptExtent d t) ++ leBytes 1 0 ++ leBytes 2 (ckptIndices d t) ++ leBytes 2 0 ++
    leBytes 8 content.length ++ sha384 content ++ beOf 16 d.boot.serial ++ leBytes 8 (moduleTime d) ++ bytes16 (deviceKeyId d) ++
    List.replicate 232 0

/-- A whole checkpoint. -/
def ckptBytes (d : Device) (t : TenantId) (host : Bool) : List Byte :=
  let l := ckptSections d t
  let content := ckptContent l
  let head := ckptHeader d t host l.length content
  head ++ beOf 96 (Config.sign (sha384Bits head) d.fresh) ++ content

/-! ### CHECKPOINT (R551, R555, R627) -/

/-- The lowest free slot of tier 3. -/
def freeSlot (d : Device) : Option Nat :=
  let used := d.tiers.t3.checkpoints.map (·.slot)
  firstFree (fun s => !used.contains s && decide (s ≤ 65535)) 1 (used.length + 1)

/-- Body of a CHECKPOINT or RESTORE record (Table 13-8). -/
def ckptRecord (runId next dest : Nat) (digest : List Byte) : List Byte :=
  leBytes 8 runId ++ leBytes 8 next ++ leBytes 1 dest ++ leBytes 7 0 ++ digest

/-- The checkpoint is complete: its record, its counter and its completion. -/
def ckptDone (c : Call) (t : TenantId) (bs : List Byte) (slot : Nat) (d : Device) : Device :=
  let x := d.tenant t
  let digest := slice bs 96 48
  let d := writeRecord recCheckpoint t.val (ckptRecord (x.runId.getD 0) x.nextStep (if slot = 0 then 1 else 0) digest) d
  post c .ok 0 (leBytes 8 (lastCommitted d t) ++ leBytes 8 bs.length ++ digest ++ leBytes 2 slot) false
    (bump .checkpoints t.val { d with fresh := d.fresh + 1 })

/-- The committed state of a tenant is captured. -/
def capture (c : Call) (t : TenantId) (d : Device) : Device :=
  let host := bitAt (c.w 1) 0
  let bs := ckptBytes d t host
  if host then withOut c 3 bs (ckptDone c t bs 0) d
  else if tier3ReadOnly d ∨ tier3Free d < pageBytes bs.length then finish c .noResource 0 d
  else match freeSlot d with
    | none => finish c .noResource 0 d
    | some slot =>
      ckptDone c t bs slot (bumpBy .hostWrites 0 bs.length { d with tiers := { d.tiers with t3 := { d.tiers.t3 with
        checkpoints := d.tiers.t3.checkpoints ++ [{ slot := slot, tenant := t.val, bytes := bs }] } } })

/-- A capture between steps: after a step that stopped the run without committing, its writes are undone first, and when they
cannot be, the command completes with the reason of the stop. -/
def captureStopped (c : Call) (t : TenantId) (d : Device) : Device :=
  match (d.tenant t).run.bind (·.dirty) with
  | some (reason, overflowed) =>
    if cannotUndo d t overflowed then finish c .stepInvalid reason d else capture c t (undoStopped t d)
  | none => capture c t d

/-- A step of the tenant is in progress, or its record waits to commit. -/
def stepOpen (d : Device) (t : TenantId) : Bool :=
  match (d.tenant t).run with
  | some r => (match r.step with | some s => s.started | none => false) || r.redo.isSome
  | none => false

/-- CHECKPOINT: a tenant that holds no run has no committed step to capture (log entry 32). -/
def checkpoint (c : Call) (d : Device) : Device :=
  let t := c.tenant
  if (d.tenant t).runId.isNone then badParam c rsnStepSequence d
  else if stepOpen d t then modTenant t (fun x => { x with checkpoints := x.checkpoints ++ [{ call := c, tenant := t.val }] }) d
  else captureStopped c t d

/-- CHECKPOINTs that waited for the step are served, once it has committed or the run has stopped. -/
def serveCheckpoints (t : TenantId) (d : Device) : Device :=
  (d.tenant t).checkpoints.foldl (fun d k => captureStopped k.call t d) (modTenant t (fun x => { x with checkpoints := [] }) d)

/-! ### RESTORE (R556, R557) -/

/-- The sections of a checkpoint. -/
def ckptRead (bs : List Byte) : List Section :=
  let n := leAt bs 12 4
  (List.range n).map fun i =>
    let e := 512 + 32 * i
    (leAt bs e 2, leAt bs (e + 2) 1, leAt bs (e + 4) 4, slice bs (512 + 32 * n + leAt bs (e + 8) 8) (leAt bs (e + 16) 8))

/-- The loaded package that a checkpoint names. -/
def ckptPackage (d : Device) (t : TenantId) (bs : List Byte) : Option Package :=
  (d.tenant t).packages.find? fun p => decide ((beOf 48 p.digest).take 16 = slice bs 16 16)

/-- The first reason for which RESTORE refuses a checkpoint, in the order of R556. -/
def ckptRefusal (d : Device) (t : TenantId) (seed : BitVec 128) (bs : List Byte) : Option Nat :=
  let zeroPackage := (slice bs 16 16).all fun b => decide (b = 0)
  let p := ckptPackage d t bs
  let extent := match p with | some k => k.decl.extent | none => leAt bs 82 1
  let carried := (((List.range extent).filter (carriesIndex d)).map fun i => 2 ^ i).sum
  if !decide (bs.take 8 = ascii "LEMUPCKP") || !decide (leAt bs 8 2 = 1) then some 0x40
  else if !decide (slice bs 96 48 = sha384 (slice bs 512 (leAt bs 88 8))) then some 0x41
  else if p.isNone && !(zeroPackage && !(d.tenant t).models.isEmpty) then some 0x42
  else if !decide (leAt bs 80 1 = (runningImage d).arith) then some 0x43
  else if !decide (slice bs 48 16 = bytes16 seed) then some 0x44
  else if !decide (leAt bs 82 1 = extent) || !decide (leAt bs 84 2 = carried) then some 0x45
  else none

/-- A model as its section has it: STATE sections, positions, sweep base and pool. -/
def restoreModel (t : TenantId) (m : Model) (body : List Byte) (d : Device) : Device :=
  let n := leAt body 0 2
  let areas := (modelAreas m).filter fun x => carriesIndex d (x.1 / 16384)
  let d := (areas.zip (List.range areas.length)).foldl (fun d x =>
    regather t (refOf x.1.1) x.1.2 (spadPut (refOf x.1.1) (stateAt d t x.1.1 x.1.2) (slice body (16 + 2048 * x.2) 2048) d)) d
  let pos := 16 + 2048 * areas.length
  let positions := (slice body pos m.replicas).map (·.toNat)
  let size := 64 + (packedLen m + 63) / 64 * 64
  let pool := (List.range n).map fun i => poolEntryAt (slice body (pos + 64 + size * i) size) (packedLen m)
  modTenant t (fun x => { x with models := x.models.map fun y =>
    if y.handle = m.handle then
      { y with positions := positions, working := positions, poolSize := leAt body 2 2, sweepBase := leAt body 8 8, pool := pool, newPool := pool }
    else y }) d

/-- One section written. ANNEAL_MODEL sections stand in the order of the tenant's models (log entry 33). -/
def restoreSection (t : TenantId) (base : Nat) (d : Device) (s : Section) : Device :=
  let (kind, span, id, body) := s
  if kind = 1 then spadPut (refOf (span * 16384 + id)) base body d
  else if kind = 2 then modTensor t id (fun x => x.write 0 body) d
  else if kind = 4 then modTenant t (fun x => { x with decodePos := leAt body 0 8, decodeKept := leAt body 8 8 }) d
  else d

/-- The checkpoint's sections and run state are written, and the RESTORE record commits. -/
def doRestore (c : Call) (seed : Seed) (bs : List Byte) (d : Device) : Device :=
  let t := c.tenant
  let p := ckptPackage d t bs
  let base := (p.map (·.decl.carriedBase)).getD 0
  let l := ckptRead bs
  let d := l.foldl (restoreSection t base) (modTenant t (fun x => { x with residue := [] }) d)
  let models := sortBy (fun (a b : Model) => decide (a.handle < b.handle)) (d.tenant t).models
  let d := (models.zip (l.filter fun s => decide (s.1 = 3))).foldl (fun d x => restoreModel t x.1 x.2.2.2.2 d) d
  let areas := (l.filter fun s => decide (s.1 = 1)).map fun s => (s.2.1 * 16384 + s.2.2.1, s.2.2.2.length / 4096, s.2.2.2)
  let next := leAt bs 40 8
  let run : Run := { call := c, kind := .steps, seed := seed, package := p.map (·.handle) }
  let d := modTenant t (fun x => { x with
    runId := some (leAt bs 32 8), nextStep := next, lastStep := if next = 0 then none else some (next - 1), chain := BitVec.ofNat 128 (ofBe (slice bs 64 16)), hostInputs := [], runInputs := 0
    run := some run, runState := .stopped, restored := true, mirrors := [{ next := next, areas := areas, complete := true }] }) d
  let d := d.vtiles.foldl (fun d v => if tenantOfVtile d (v.id % 16384) = some t then modVt (refOf v.id) (fun x => { x with uncopied := [] }) d else d) d
  let d := writeRecord recRestore t.val (ckptRecord (leAt bs 32 8) next (b2n (bitAt (c.w 1) 0)) (slice bs 96 48)) d
  post c .ok 0 (slice bs 32 16) false (bump .restores t.val d)

/-- RESTORE with the bytes of the checkpoint. -/
def restoreBytes (c : Call) (seed : Seed) (bs : List Byte) (d : Device) : Device :=
  match ckptRefusal d c.tenant seed.id bs with
  | some r => badParam c r d
  | none => doRestore c seed bs d

/-- The checkpoint of a slot that belongs to the tenant. -/
def withSlot (c : Call) (k : StoredCheckpoint → Device → Device) (d : Device) : Device :=
  match d.tiers.t3.checkpoints.find? fun x => decide (x.slot = field (c.w 1) 16 16) with
  | none => badParam c rsnUnknownHandle d
  | some x => if x.tenant = c.tenant.val then k x d else finish c .notOwner 0 d

/-- RESTORE. -/
def restore (c : Call) (d : Device) : Device :=
  if running d c.tenant then finish c .busy 0 d
  else withSeed c (fun seed d =>
    if bitAt (c.w 1) 0 then withBuf c 3 c.room (fun bs d => restoreBytes c seed bs d) d
    else withSlot c (fun x d => restoreBytes c seed x.bytes d) d) d

/-- RESTORE with DISCARD: the slot's key id is destroyed, and nothing is restored (R627). -/
def restoreDiscard (c : Call) (d : Device) : Device :=
  if bitAt (c.w 1) 0 then badParam c 0 d
  else withSlot c (fun x d => finish c .ok 0 { d with tiers := { d.tiers with t3 := { d.tiers.t3 with
    checkpoints := d.tiers.t3.checkpoints.filter fun y => !decide (y.slot = x.slot) } } }) d

/-! ### Meanings -/

/-- CHECKPOINT. -/
def execCheckpoint (c : Call) (s : State) : Host.Outcome State Fault Refusal := done s (runFw c (checkpoint c) s.dev)

/-- RESTORE. -/
def execRestore (c : Call) (s : State) : Host.Outcome State Fault Refusal := done s (runFw c (restore c) s.dev)

/-- RESTORE_DISCARD. -/
def execRestoreDiscard (c : Call) (s : State) : Host.Outcome State Fault Refusal := done s (runFw c (restoreDiscard c) s.dev)

end Sys2Proof.Machine
end

