-- ==== Sys2Proof/Machine/Anneal.lean ====
section
/-! DEFINITION. Annealing runs: the run descriptor, the temperature curve, sweeps, captures and the state pool, and the
commands that load a model and read its pool (R376 to R410, R344, R373). -/

namespace Sys2Proof.Machine

open Sys2Proof

/-! ### The run descriptor (Table 10-1) -/

/-- Fields of a run descriptor. -/
def rdMode (bs : List Byte) : Nat := leAt bs 2 1
def rdBreaks (bs : List Byte) : Nat := leAt bs 3 1
def rdSweeps (bs : List Byte) : Nat := leAt bs 4 4
def rdSps (bs : List Byte) : Nat := leAt bs 8 4
def rdCapture (bs : List Byte) : Nat := leAt bs 12 4
def rdExchange (bs : List Byte) : Nat := leAt bs 16 4
def rdPoolSize (bs : List Byte) : Nat := leAt bs 20 2
def rdStep0 (bs : List Byte) : Nat := leAt bs 24 8
def rdRunId (bs : List Byte) : Nat := leAt bs 32 8
def rdLadder (bs : List Byte) (p : Nat) : W32 := BitVec.ofNat 32 (leAt bs (40 + 4 * p) 4)
def rdBreak (bs : List Byte) (i : Nat) : Nat := leAt bs (296 + 16 * i) 4
def rdTemp (bs : List Byte) (i : Nat) : W32 := BitVec.ofNat 32 (leAt bs (300 + 16 * i) 4)
def rdFlags (bs : List Byte) (i : Nat) : Nat := leAt bs (304 + 16 * i) 4
def rdG (bs : List Byte) (i : Nat) : W32 := BitVec.ofNat 32 (leAt bs (308 + 16 * i) 4)

/-- Bits of MODE. -/
def rdMetropolis (bs : List Byte) : Bool := bitAt (rdMode bs) 0
def rdFree (bs : List Byte) : Bool := bitAt (rdMode bs) 1
def rdKeepPool (bs : List Byte) : Bool := bitAt (rdMode bs) 2
def rdResetState (bs : List Byte) : Bool := bitAt (rdMode bs) 3
def rdFeasibleFirst (bs : List Byte) : Bool := bitAt (rdMode bs) 4

/-- Steps of the run (R377). -/
def rdSteps (bs : List Byte) : Nat := (rdSweeps bs + rdSps bs - 1) / rdSps bs

/-- A finite FP32 value. -/
def isFinite32 (x : W32) : Bool := decide (field x.toNat 23 8 ≠ 255)

/-- RUN_FORMAT does not hold. -/
def rdFormatOk (bs : List Byte) : Bool :=
  decide (296 ≤ bs.length) && decide (leAt bs 0 2 = 1) && decide (rdMode bs < 32) && decide (1 ≤ rdBreaks bs) &&
    decide (rdBreaks bs ≤ 64) && decide (1 ≤ rdSweeps bs) && decide (1 ≤ rdSps bs) && decide (rdSps bs ≤ 65536) &&
    decide (1 ≤ rdPoolSize bs) && decide (rdPoolSize bs ≤ 1024) && decide (leAt bs 22 2 = 0) &&
    decide (296 + 16 * rdBreaks bs ≤ bs.length) && (List.range (rdBreaks bs)).all fun i => decide (rdFlags bs i < 2)

/-- The curve is valid (R386). -/
def rdCurveOk (bs : List Byte) : Bool :=
  let n := rdBreaks bs
  decide (rdBreak bs 0 = 0) && (List.range (n - 1)).all (fun i => decide (rdBreak bs i < rdBreak bs (i + 1))) &&
    (List.range n).all (fun i => isFinite32 (rdTemp bs i) && (decide (field (rdTemp bs i).toNat 31 1 = 0) || decide (rdTemp bs i = 0x80000000))) &&
    (List.range n).all (fun i =>
      if rdFlags bs i = 1 then lt32 0 (rdTemp bs i) && isFinite32 (rdG bs i) else eq32 (rdG bs i) 0) &&
    decide (rdFlags bs (n - 1) = 0)

/-- The ladder is valid for R positions (R388). -/
def rdLadderOk (bs : List Byte) (r : Nat) : Bool :=
  (List.range r).all (fun p => isFinite32 (rdLadder bs p) && lt32 0 (rdLadder bs p)) &&
    (List.range (r - 1)).all (fun p => !lt32 (rdLadder bs (p + 1)) (rdLadder bs p)) &&
    (List.range 64).all fun p => decide (p < r) || decide (rdLadder bs p = 0)

/-- Draw budget D of the run (R379). -/
def annealBudget (m : Model) (bs : List Byte) : Nat := rdSps bs * (m.w + 1)

/-- Span indices over which a model is spread. -/
def modelSpans (m : Model) : List Nat := (m.vtiles.map (· / 16384)).eraseDups

/-- What refuses ANNEAL_RUN, in the order of Table 10-4. -/
def runRefusal (d : Device) (m : Model) (bs : List Byte) : Option (Status × Nat) :=
  if !rdFormatOk bs then some (.badParam, 0x20)
  else if !rdCurveOk bs then some (.badParam, 0x21)
  else if !rdLadderOk bs m.replicas then some (.badParam, 0x22)
  else if 2 ^ 48 < rdStep0 bs + rdSteps bs then some (.badParam, 0x23)
  else if rdFeasibleFirst bs ∧ ¬m.positive then some (.badParam, 0x24)
  else if tierFree d 1 + tierFree d 2 + poolUnits m m.poolSize < poolUnits m (rdPoolSize bs) then some (.wontFit, 0x25)
  else none

/-! ### The temperature curve (R387) -/

/-- T of a breakpoint, with −0 taken as +0. -/
def tempAt (bs : List Byte) (i : Nat) : W32 := if rdTemp bs i = 0x80000000 then 0 else rdTemp bs i

/-- T(s). -/
def temperature (bs : List Byte) (s : Nat) : W32 :=
  let last := rdBreaks bs - 1
  if rdBreak bs last ≤ s then tempAt bs last
  else
    let i := ((List.range (rdBreaks bs)).filter fun i => decide (rdBreak bs i ≤ s)).getLastD 0
    let x := fpOfInt ((s - rdBreak bs i : Nat) : Int)
    if rdFlags bs i = 1 then mul32 (tempAt bs i) (exp2Defined (mul32 x (rdG bs i)))
    else
      let f := div32 x (fpOfInt ((rdBreak bs (i + 1) - rdBreak bs i : Nat) : Int))
      fma32 f (sub32 (tempAt bs (i + 1)) (tempAt bs i)) (tempAt bs i)

/-- β of each position at sweep s. -/
def betasAt (bs : List Byte) (r s : Nat) : List W32 :=
  (List.range r).map fun p => div32 0x3F800000 (mul32 (temperature bs s) (rdLadder bs p))

/-! ### Models by handle -/

/-- A model of a tenant changed. -/
def modModel (t : TenantId) (h : Nat) (f : Model → Model) : Device → Device :=
  modTenant t fun x => { x with models := x.models.map fun m => if m.handle = h then f m else m }

/-- A model of a tenant by its handle. -/
def findModel (d : Device) (t : TenantId) (h : Nat) : Option Model := (d.tenant t).models.find? fun m => decide (m.handle = h)

/-- A handle names a model of another tenant. -/
def foreignModel (d : Device) (t : TenantId) (h : Nat) : Bool := allTenants.any fun u => !decide (u = t) && (findModel d u h).isSome

/-- The vtile numbers of each replica. -/
def Model.parts (m : Model) : List (List Nat) :=
  let n := m.vtiles.length / max m.replicas 1
  (List.range m.replicas).map fun r => (m.vtiles.drop (r * n)).take n

/-- The areas of a model on this module: (replica, vtile number, base). -/
def localAreas (d : Device) (m : Model) : List (Nat × Nat × Nat) :=
  let n := m.vtiles.length / max m.replicas 1
  (((List.range m.vtiles.length).zip (m.vtiles.zip m.bases)).filter fun x => carriesIndex d (x.2.1 / 16384)).map fun x =>
    (x.1 / max n 1, x.2.1, x.2.2)

/-- The member that keeps the pool carries the lowest span index of the model (R404). -/
def keepsPool (d : Device) (m : Model) : Bool := carriesIndex d ((modelSpans m).foldl min 15)

/-! ### The state pool (R392 to R399) -/

/-- The hash key of R395. -/
def hashKeyPool : BitVec 128 := 0x7D4196B30E58C2AF4913A6D7E25B80C9

/-- The state hash of a packed state (R395). -/
def stateHash (packed : List Byte) : BitVec 128 :=
  ghashFrom hashKeyPool 0 (padTo 16 packed ++ beBytes 16 (8 * packed.length))

/-- The order of the pool (R397). -/
def poolBefore (feasible : Bool) (a b : PoolEntry) : Bool :=
  let bad := fun (e : PoolEntry) => decide (e.penalty ≠ 0)
  if feasible && (bad a != bad b) then bad b
  else if a.energy ≠ b.energy then decide (a.energy < b.energy)
  else if a.sweep ≠ b.sweep then decide (a.sweep < b.sweep)
  else decide (a.replica < b.replica)

/-- The nibble of a variable in a replica's part: its STATE section, when this module carries the vtile. -/
def nibbleOf (d : Device) (t : TenantId) (m : Model) (part : List Nat) (place : Nat × Nat) : Nat :=
  let num := part.getD place.1 0
  if carriesIndex d (num / 16384) then nib d (areaOf d t (refOf num) ((assoc (m.vtiles.zip m.bases) num).getD 0)) place.2 else 0

/-- Bits packed eight to a byte, the lowest first. -/
def packBits : Nat → List Bool → List Byte
  | 0, _ => []
  | n + 1, l => BitVec.ofNat 8 (((List.range 8).map fun i => if l.getD i false then 2 ^ i else 0).sum) :: packBits n (l.drop 8)

/-- The packed state of a replica, as far as this module carries it (R394). -/
def packedState (d : Device) (t : TenantId) (m : Model) (part : List Nat) : List Byte :=
  let ns := m.place.map (nibbleOf d t m part)
  if m.card.all fun k => decide (k = 0) then packBits ((m.nvar + 7) / 8) (ns.map fun n => decide (n ≠ 0)) else packNibbles ns

/-- Bytes combined by OR: each member's packed state holds zeros for the variables of the others. -/
def orBytes (a b : List Byte) : List Byte := (List.range (max a.length b.length)).map fun i => a.getD i 0 ||| b.getD i 0

/-- A candidate meets the pool (R396, R398). -/
def poolOffer (t : TenantId) (m : Model) (size : Nat) (feasible : Bool) (e : PoolEntry) (d : Device) : Device :=
  let pool := ((findModel d t m.handle).map (·.newPool)).getD []
  let same := pool.filter fun x => decide (x.hash = e.hash)
  let insert := fun (l : List PoolEntry) (d : Device) =>
    bump .poolInserts t.val (modStep t (fun s => { s with inserted := s.inserted ++ [poolEntryBytes e] })
      (modModel t m.handle (fun x => { x with newPool := insertBy (poolBefore feasible) e l }) d))
  if same.any fun x => decide (x.states = e.states) then bump .poolDuplicates t.val d
  else
    let d := if same.isEmpty then d else bump .hashCollisions t.val d
    if pool.length < size then insert pool d
    else match pool.getLast? with
      | some last => if poolBefore feasible e last then insert pool.dropLast (bump .poolEvictions t.val d) else bump .poolRejects t.val d
      | none => bump .poolRejects t.val d

/-- The capture after a sweep: a candidate of every replica (R393, R394). On a member that does not keep the pool, the packed
states go to the one that does (R404). -/
def captureSweep (t : TenantId) (m : Model) (bs : List Byte) (s : Nat) (final : Bool) (energies : List (Int × Int)) (d : Device) : Device :=
  match (d.tenant t).run, d.stepOf t with
  | some r, some st =>
    let k := r.captures + st.captures
    let d := bump .poolCaptures t.val (modStep t (fun x => { x with captures := x.captures + 1 }) d)
    let own := m.parts.map (packedState d t m)
    if keepsPool d m then
      let far := (r.candidates.filter fun x => decide (x.1 = k)).map (·.2.2)
      let len := packedLen m
      let d := modRun t (fun r => { r with candidates := r.candidates.filter fun x => decide (k < x.1) }) d
      let m' := (findModel d t m.handle).getD m
      (List.range m.replicas).foldl (fun d q =>
        let packed := (far.map fun b => slice b (q * len) len).foldl orBytes (own.getD q [])
        let (e, p) := energies.getD q (0, 0)
        poolOffer t m (rdPoolSize bs) (rdFeasibleFirst bs)
          { energy := e, penalty := p, sweep := m'.sweepBase + s, step := st.n, hash := stateHash packed, replica := q
            position := m'.working.getD q q, final := final, free := rdFree bs && decide (1 < (modelSpans m).length)
            states := packed } d) d
    else sendData ((modelSpans m).foldl min 15) (2 * t.val + 1) m.handle .poolCandidate [m.handle, k] own.flatten d
  | _, _ => d

/-- The members other than this one that carry vtiles of a model, by their lowest index. -/
def modelMembers (d : Device) (m : Model) : List Nat :=
  ((modelSpans m).filter fun i => !carriesIndex d i).filterMap (fun i => (memberAt d i).map Member.lowest) |>.eraseDups

/-- Every other member's packed states for a capture have arrived. -/
def statesIn (d : Device) (m : Model) (r : Run) (k : Nat) : Bool :=
  !keepsPool d m || (modelMembers d m).all fun i => r.candidates.any fun x => decide (x.1 = k) && decide (x.2.1 = i)

/-- POOL_CANDIDATE: a member's packed states reach the keeper of the pool. -/
def poolCandidate (src : SpanIndex) (handle capture : Nat) (bytes : List Byte) (d : Device) : Device :=
  allTenants.foldl (fun d t =>
    match runModel d t with
    | some m =>
      if m.handle = handle then
        let i := ((memberAt d src.val).map Member.lowest).getD src.val
        modRun t (fun r => { r with candidates := r.candidates ++ [(capture, i, bytes)] }) d
      else d
    | none => d) d

/-! ### Sweeps (R378, R389, R390) -/

/-- A halo value list that arrives from another module during a sweep: colour, source vtile number, first local index and
nibbles. -/
def landHalos (t : TenantId) (h : Nat) (c : Nat) (halos : List HaloMsg) (d : Device) : Device :=
  (halos.filter fun x => decide (x.colour.val = c)).foldl (fun d x =>
    modRun t (fun r => { r with freshHalo := (r.freshHalo.filter fun y => !decide (y = (vtNum x.src, c))) ++ [(vtNum x.src, c)] })
      { d with halo := assocSet d.halo (vtNum x.src, h, c) (x.start, x.values) }) d

/-- One colour on every vtile of every replica on this module, with the β of the replica's position. -/
def sweepColour (t : TenantId) (m : Model) (metro : Bool) (betas : List W32) (c : Nat) (d : Device) : Device :=
  (localAreas d m).foldl (fun d a =>
    let p := (((findModel d t m.handle).map (·.working)).getD []).getD a.1 a.1
    steepColourOn t (refOf a.2.1) a.2.2 c metro (betas.getD p 0) d) d

/-- The energies of the replicas: the energy pass on this module and what the other members contribute (R367). -/
def energyPass (t : TenantId) (m : Model) (far : List (Nat × Int × Int)) (d : Device) : List (Int × Int) × Device :=
  let areas := localAreas d m
  let d := areas.foldl (fun d a => steepEnergyOn t (refOf a.2.1) a.2.2 d) d
  ((List.range m.replicas).map fun r =>
    let own := (areas.filter fun a => decide (a.1 = r)).map fun a => areaEnergy d (refOf a.2.1) a.2.2
    let all := own ++ (far.filter fun x => decide (x.1 = r)).map (·.2)
    ((all.map (·.1)).sum, (all.map (·.2)).sum), d)

/-- Sweeps of a run, as SWEEPS or a shortened run gives them (R384). -/
def sweepsOf (r : Run) (bs : List Byte) : Nat := r.limit.getD (rdSweeps bs)

/-- Sweeps of the step in progress (R377). -/
def stepSweeps (r : Run) (bs : List Byte) : Nat := min (rdSps bs) (sweepsOf r bs - r.swept)

/-- One sweep s of a step, up to its exchange round. -/
def sweepBody (t : TenantId) (m : Model) (bs : List Byte) (s total : Nat) (halos : List HaloMsg) (far : List (Nat × Int × Int))
    (decisions : List (Nat × Bool)) (d : Device) : Device :=
  let betas := betasAt bs m.replicas s
  let d := (List.range m.ncolour).foldl (fun d c => landHalos t m.handle c halos (sweepColour t m (rdMetropolis bs) betas c d)) d
  let last := decide (s + 1 = total)
  let capture := last || (decide (0 < rdCapture bs) && decide ((s + 1) % rdCapture bs = 0))
  let exchange := decide (0 < rdExchange bs) && decide (1 < m.replicas) && decide ((s + 1) % rdExchange bs = 0)
  let (es, d) := if capture || exchange then energyPass t m far d else ([], d)
  let d := if capture then captureSweep t m bs s last es d else d
  if exchange then
    let heads := m.parts.map fun p => refOf (p.headD 0)
    let (pos, d) := exchangeRound t m.q ((s + 1) / rdExchange bs - 1) heads betas (es.map (·.1)) decisions m.replicas 0
      (((findModel d t m.handle).map (·.working)).getD []) d
    let d := heads.foldl (fun d v => if carriesIndex d v.span.val then setResult v (pos.map (BitVec.ofNat 32)) d else d) d
    modModel t m.handle (fun x => { x with working := pos }) d
  else d

/-- ANNEAL_SWEEP: the next sweep of the run's step ends, with what the other members of a split model sent for it. A capture
waits for their packed states. A latched abort or flush makes it the last sweep (R384). -/
def annealSweep (t : TenantId) (halos : List HaloMsg) (far : List (Nat × Int × Int)) (decisions : List (Nat × Bool))
    (locked wait : Nat) (d : Device) : Device :=
  match (d.tenant t).run, d.stepOf t, runModel d t with
  | some r, some st, some m =>
    (match r.kind with
     | .anneal _ bs _ =>
       let r' := if r.limit.isNone && !decide (latchOf d r.call = .none) then { r with limit := some (r.swept + st.sweeps + 1) } else r
       let s := r.swept + st.sweeps
       let total := sweepsOf r' bs
       let captures := decide (s + 1 = total) || (decide (0 < rdCapture bs) && decide ((s + 1) % rdCapture bs = 0))
       if !st.started || r.committing.isSome || decide (stepSweeps r' bs ≤ st.sweeps) ||
           (captures && !statesIn d m r (r.captures + st.captures)) then d
       else
         let d := modRun t (fun r => { r with limit := r'.limit }) d
         let d := sweepBody t m bs s total halos far decisions d
         let d := if rdFree bs then d else bumpBy .lockedBarrierCycles t.val locked d
         let d := bumpBy .steepHaloWaitCycles t.val wait d
         bump .annealSweeps t.val (modStep t (fun x => { x with sweeps := x.sweeps + 1 }) d)
     | _ => d)
  | _, _, _ => d

/-- Before the first sweep of a run: the states and positions that RESET_STATE sets, pending halo values among them (log entry
105), and the pool that the run keeps or empties (R380, R392, R397). -/
def annealPrepare (t : TenantId) (m : Model) (bs : List Byte) (d : Device) : Device :=
  let d := if rdResetState bs then
      (localAreas d m).foldl (fun d a =>
        let v := refOf a.2.1
        spadPut v (a.2.2 + (areaOf d t v a.2.2).offs.getD 3 0) (List.replicate 2048 0) d)
        { d with halo := d.halo.map fun x => if x.1.2.1 = m.handle then (x.1, (x.2.1, x.2.2.map fun _ => 0)) else x }
    else d
  let keep := rdKeepPool bs && decide (m.poolSize = rdPoolSize bs)
  modModel t m.handle (fun x =>
    let pos := if rdResetState bs then List.range x.replicas else x.positions
    let pool := if keep then sortBy (poolBefore (rdFeasibleFirst bs)) x.pool else []
    { x with positions := pos, working := pos, pool := pool, newPool := pool, poolSize := rdPoolSize bs
             sweepBase := if keep then x.sweepBase else 0 }) d

/-- A step of the run starts, or starts again: it works from what the last committed step left (R380, R399). -/
def annealBegin (t : TenantId) (h : Nat) : Device → Device := modModel t h fun m => { m with working := m.positions, newPool := m.pool }

/-- An annealing step commits its positions and its pool. -/
def annealCommit (t : TenantId) (h : Nat) : Device → Device := modModel t h fun m => { m with positions := m.working, pool := m.newPool }

/-- The designated outputs of an annealing step (R382). Those of other members come in the order of their vtiles. -/
def annealOutputs (d : Device) (t : TenantId) (m : Model) (st : Step) (far : List (List Byte)) : List (List Byte) :=
  let areas := modelAreas m
  let go := areas.foldl (fun (acc : List (List Byte) × List (List Byte)) a =>
    if carriesIndex d (a.1 / 16384) then (acc.1 ++ [stateBytes d t a.1 a.2], acc.2)
    else (acc.1 ++ [acc.2.headD []], acc.2.drop 1)) ([], far)
  go.1 ++ [m.working.map (BitVec.ofNat 8)] ++ (if keepsPool d m then st.inserted else go.2)

/-- The results of ANNEAL_RUN (R403, Table 15-9). -/
def annealResult (m : Model) (sweeps : Nat) (aborted free : Bool) : List Byte :=
  let best := m.pool.head?
  leBytes 8 (codeOf 64 ((best.map (·.energy)).getD 0)) ++ leBytes 8 (codeOf 64 ((best.map (·.penalty)).getD 0)) ++ leBytes 4 sweeps ++
    leBytes 2 m.pool.length ++ leBytes 1 (codeOf 8 m.q) ++ leBytes 1 (b2n aborted + 2 * b2n free)

/-! ### ANNEAL_LOAD_MODEL (R344, R373, R381, R794) -/

/-- Where the area of a model goes on a vtile: below the model areas that stand there, from the top of the package space down
(log entry 24). -/
def areaBase (d : Device) (num len : Nat) : Nat :=
  let lows := d.tenants.toList.flatMap fun x => (x.models.filter fun m => m.package.isNone).flatMap fun m =>
    ((m.vtiles.zip m.bases).filter fun q => decide (q.1 = num)).map (·.2)
  (lows.foldl min 0x7F000 - len) / 16 * 16

/-- The parts and their areas' lengths of a spread. -/
def areaNeeds (s : Spread) (parts : List (List Nat)) : List (Nat × Nat) :=
  ((List.range parts.length).zip parts).flatMap fun q =>
    ((List.range q.2.length).zip q.2).map fun r => (r.2, (s.area r.1 q.1 q.2).length)

/-- A vtile of the running model of the tenant is named (R381). -/
def namesRunning (d : Device) (t : TenantId) (nums : List Nat) : Bool :=
  match running d t, runModel d t with
  | true, some m => nums.any m.vtiles.contains
  | _, _ => false

/-- The model's areas are placed and written, and its handle returned. -/
def placeModel (c : Call) (s : Spread) (parts : List (List Nat)) (d : Device) : Device :=
  let needs := areaNeeds s parts
  if needs.any fun n => carriesIndex d (n.1 / 16384) && decide (vtileSpace < vtileTaken d n.1 + n.2) then
    finish c .wontFit rsnModelCapacity d
  else if s.energyTooLarge then finish c .wontFit rsnEnergyRange d
  else
    let m := modelRecord (newHandle d) none s parts (needs.map fun n => areaBase d n.1 n.2)
    let d := writeAreas s parts m (modTenant c.tenant (fun x => { x with models := x.models ++ [m] }) d)
    post c .ok 0 (leBytes 4 m.handle ++ leBytes 1 m.ncolour ++ leBytes 1 (codeOf 8 m.q) ++ leBytes 2 m.w ++ leBytes 4 m.nvar) false d

/-- ANNEAL_LOAD_MODEL. -/
def annealLoadModel (c : Call) (d : Device) : Device :=
  withTensor c (field (c.w 1) 0 32) (fun desc d =>
    withTensor c (field (c.w 2) 0 32) (fun list d =>
      let (lb, d) := readFree list 0 (list.size / 4 * 4) d
      let (bs, d) := readFree desc 0 desc.size d
      let entries := (List.range (list.size / 4)).map fun i => leAt lb (4 * i) 4
      let r := field (c.w 2) 32 8
      if namesRunning d c.tenant (entries.map vtileOfEntry) then finish c .busy 0 d
      else match checkModel bs (d.tenant c.tenant).rect entries r with
        | .error e => badParam c e d
        | .ok s =>
          if s.tooLarge then finish c .wontFit rsnModelCapacity d
          else placeModel c s (partsOfList (entries.map vtileOfEntry) r) d) d) d

/-! ### ANNEAL_READ_POOL (R400, R402, R404) -/

/-- The model that a command names, or what refuses it. -/
def withModel (c : Call) (reason : Nat) (k : Model → Device → Device) (d : Device) : Device :=
  match findModel d c.tenant (field (c.w 1) 0 32) with
  | some m => k m d
  | none => if foreignModel d c.tenant (field (c.w 1) 0 32) then finish c .notOwner 0 d else badParam c reason d

/-- ANNEAL_READ_POOL: entries by rank go to the tensor from its first byte on. -/
def annealReadPool (c : Call) (d : Device) : Device :=
  withModel c rsnUnknownHandle (fun m d =>
    withTensor c (field (c.w 3) 0 32) (fun x d =>
      let es := (m.pool.drop (field (c.w 2) 0 16)).take (field (c.w 2) 16 16)
      let bs := es.flatMap poolEntryBytes
      if x.size < bs.length ∨ x.mode = .readOnly then badParam c 0 d
      else
        let d := markPages c.tenant x.id 0 bs.length (modTensor c.tenant x.id (fun y => y.write 0 bs) d)
        post c .ok 0 (leBytes 2 es.length ++ leBytes 2 m.pool.length ++ leBytes 1 (codeOf 8 m.q)) false d) d) d

/-! ### Meanings -/

/-- ANNEAL_LOAD_MODEL. -/
def execAnnealLoadModel (c : Call) (s : State) : Host.Outcome State Fault Refusal := done s (runFw c (annealLoadModel c) s.dev)

/-- ANNEAL_READ_POOL. -/
def execAnnealReadPool (c : Call) (s : State) : Host.Outcome State Fault Refusal := done s (runFw c (annealReadPool c) s.dev)

/-- ANNEAL_SWEEP. -/
def execAnnealSweep (t : TenantId) (halos : List HaloMsg) (energies : List (Nat × Int × Int)) (decisions : List (Nat × Bool))
    (locked wait : Nat) (s : State) : Host.Outcome State Fault Refusal :=
  done s (annealSweep t halos energies decisions locked wait s.dev)

/-- POOL_CANDIDATE. -/
def execPoolCandidate (src : SpanIndex) (handle capture : Nat) (bytes : List Byte) (s : State) :
    Host.Outcome State Fault Refusal := done s (poolCandidate src handle capture bytes s.dev)

end Sys2Proof.Machine
end

