-- ==== Sys2Proof/Machine/RunCore.lean ====
section
/-! DEFINITION. A tenant's run between its commands and its steps: beginning a run, the designated outputs, the STEP record,
what a commit and a completion do, late steps and the end of a run (R28 to R31, R436 to R439, R525 to R535, R558, R559,
R621, R622, R637). -/

namespace Sys2Proof.Machine

open Sys2Proof

/-! ### What holds a run -/

/-- Room in the overflow queue of the run's mailbox (R607). -/
def runRoom (d : Device) (r : Run) : Bool := (d.mb r.call.mbx).hasRoom

/-- No step of the run is in progress, being recorded or waiting to be rerun. -/
def Run.idle (r : Run) : Bool := r.step.isNone && r.redo.isNone && r.committing.isNone && !r.recorded

/-- A command names step values and a run id that R303 and R528 allow, for a run of `count` steps; 0 checks the first alone. -/
def runValuesOk (d : Device) (t : TenantId) (runId first count : Nat) : Option Nat :=
  if 2 ^ 48 < first + max count 1 then some 0x23
  else if (d.tenant t).runId = some runId ∧ first ≠ (d.tenant t).nextStep then some rsnStepSequence
  else none

/-- What refuses a run over span indices (R493, R502). -/
def spanRefusal (d : Device) (idx : List Nat) : Option (Status × Nat) :=
  if idx.any fun i => !carriesIndex d i && !(d.span.formed && d.span.members.getLsbD i) then some (.spanMismatch, rsnIndexUncarried)
  else if 1 < idx.length ∧ d.span.arithMixed then some (.spanMismatch, 0x31)
  else none

/-- The handle of the model that a run sweeps. -/
def Run.model (r : Run) : Option Nat := match r.kind with | .anneal m _ _ => some m | _ => none

/-- A run of a tenant begins or goes on (R528): a new run id starts its chain, and its host inputs are those
received since the run before it ended (log entry 106); the writes of a step that
stopped the run before without committing are undone; and the carried state is mirrored unless the mirrors already hold it. -/
def openRun (r : Run) (runId first : Nat) (item : List Byte) (d : Device) : Device :=
  let t := r.call.tenant
  let d := match (d.tenant t).run.bind (·.dirty) with
    | some (_, overflowed) => if cannotUndo d t overflowed then d else undoStopped t d
    | none => d
  let x := d.tenant t
  let new := decide (x.runId ≠ some runId)
  let same := match x.run with | some q => decide (q.package = r.package) && decide (q.model = r.model) | none => false
  let d := modTenant t (fun y => { y with
    run := some r, runState := .running, residue := [], runId := some runId, nextStep := first
    chain := if new then chainInit runId r.seed.id else y.chain
    hostInputs := (if new then y.hostInputs.drop y.runInputs else y.hostInputs) ++ item, runInputs := 0
    digests := if new then [] else y.digests
    mirrors := if new || !same then [] else y.mirrors }) d
  match r.model with
  | some _ => d
  | none => if (mirrorFor d t first).isSome then d else beginMirror t first d

/-! ### Designated outputs (R525, R505, R382, R437) -/

/-- The bytes of designated outputs; those of span indices that other members carry come with the command, in order. -/
def outputsOf (t : TenantId) (refs : List OutputRef) (far : List (List Byte)) (d : Device) : List (List Byte) × Device :=
  let r := refs.foldl (fun (acc : List (List Byte) × List (List Byte) × Device) o =>
    let (outs, far, d) := acc
    match o with
    | .scratch span vtile addr len =>
      if carriesIndex d span then (outs ++ [spadRead d (refOf (span * 16384 + vtile)) addr len], far, d)
      else (outs ++ [far.headD []], far.drop 1, d)
    | .tier id off len =>
      match findTensor d t id with
      | some x => let (bs, d) := readFree x off len d; (outs ++ [bs], far, d)
      | none => (outs ++ [[]], far, d)) ([], far, d)
  (r.1, r.2.2)

/-- The stop tokens of a DECODE_RUN: up to 8 uint32 of its STOP tensor. -/
def stopTokens (d : Device) (t : TenantId) (id : Nat) : List Nat :=
  if id = 0 then [] else match findTensor d t id with
    | some x => (List.range (min 8 (x.size / 4))).map fun i => x.bytes.readLe (4 * i) 4
    | none => []

/-- The tokens that a round keeps, with STOPPED and LIMIT (R437). The limit ends the run when it is reached. -/
def keepTokens (tokens stops : List Nat) (limit kept : Nat) : List Nat × Bool × Bool :=
  let cut := match tokens.findIdx? stops.contains with
    | some i => tokens.take (i + 1)
    | none => tokens
  let excess := decide (0 < limit) && decide (limit < kept + cut.length)
  let ts := if excess then cut.take (limit - kept) else cut
  let stopped := ts.any stops.contains
  (ts, stopped, !stopped && decide (0 < limit) && decide (limit ≤ kept + ts.length))

/-- The designated outputs of the step in progress. -/
def stepOutputs (t : TenantId) (r : Run) (st : Step) (far : List (List Byte)) (d : Device) : List (List Byte) × Device :=
  match r.kind with
  | .decode .. => ([st.tokens.flatMap (leBytes 4)], d)
  | .anneal .. => (match runModel d t with | some m => annealOutputs d t m st far | none => [], d)
  | .steps => outputsOf t (((runDecl d t).map (·.outputs)).getD []) far d

/-! ### The STEP record (Table 13-7) -/

/-- HOST_DIGEST (R524). -/
def hostDigest (items : List Byte) : BitVec 128 := if items.isEmpty then 0 else sha384First16 items

/-- The schedule digest of a tenant's run (R206). -/
def scheduleDigestOf (d : Device) (t : TenantId) : BitVec 128 :=
  Config.scheduleDigest (((runPackage d t).map (·.digest)).getD 0) (d.tenant t).rect (d.tenant t).epoch.bad
    ((d.fabric.links.filter (·.cut)).map (·.id)) d.fabric.fenced.toNat (runningImage d).version.build

/-- The residency-plan digest of a tenant (R206). -/
def residencyDigestOf (d : Device) (t : TenantId) : BitVec 128 :=
  Config.residencyDigest ((d.tenant t).units.map fun u => (u.tensor, u.index, u.tier))

/-- The body of a STEP record. -/
def stepBody (d : Device) (t : TenantId) (st : Step) : List Byte :=
  let (o, ch) := st.outcome.getD (0, 0)
  leBytes 8 st.n ++ leBytes 8 ((d.tenant t).runId.getD 0) ++ bytes16 (runSeedId d t) ++ packageBytes d t ++ bytes16 st.intakeHash ++
    bytes16 st.hostDigest ++ bytes16 o ++ bytes16 ch ++ leBytes 1 st.classMask.toNat ++ leBytes 1 st.firstUncorr ++ leBytes 2 0 ++
    leBytes 4 st.corrected ++ leBytes 4 st.shadowed ++ leBytes 4 st.retries ++ leBytes 8 st.boundary ++ leBytes 8 st.cycles ++
    leBytes 4 (min st.hold 0xFFFFFFFF) ++ leBytes 4 (min st.barrierWait 0xFFFFFFFF) ++ leBytes 4 (d.tenant t).epoch.number ++
    leBytes 1 (runningImage d).arith ++ leBytes 1 (runningImage d).iface ++
    leBytes 1 (match d.clocks.profile with | .full => 0 | .vehicle => 1) ++ leBytes 1 st.maxDivisor ++
    leBytes 8 ((scheduleDigestOf d t).toNat % 2 ^ 64) ++ leBytes 8 ((residencyDigestOf d t).toNat % 2 ^ 64)

/-! ### Completions of a step (R29, R621, Table 15-9) -/

/-- Per-step results of STEP_RUN. -/
def stepResult (st : Step) (flags : BitVec 16) : List Byte :=
  leBytes 8 st.n ++ bytes16 ((st.outcome.map (·.1)).getD 0) ++ leBytes 2 flags.toNat

/-- Per-step results of DECODE_RUN. -/
def decodeResult (st : Step) (aborted : Bool) : List Byte :=
  let ts := if st.outcome.isSome then st.tokens else []
  leBytes 8 st.n ++ ((List.range 9).flatMap fun i => leBytes 4 (ts.getD i 0xFFFFFFFF)) ++ leBytes 1 ts.length ++
    leBytes 1 ((if st.outcome.isSome then st.decodeFlags else 0) + 2 * b2n aborted)

/-- Per-step results of REPLAY_BEGIN. -/
def replayResult (n code : Nat) (o : BitVec 128) : List Byte := leBytes 8 n ++ leBytes 1 code ++ leBytes 7 0 ++ bytes16 o

/-- The completion of a step of a run. An ANNEAL_RUN posts one only with STEPWISE, and its results follow it. -/
def postStep (r : Run) (st : Step) (status : Status) (reason : Nat) (more aborted : Bool) (d : Device) : Device :=
  let flags := if aborted then st.flags ||| (1#16 <<< 9) else st.flags
  if r.replay.isSome then post r.call status reason (replayResult st.n st.matchCode ((st.outcome.map (·.1)).getD 0)) more d
  else match r.kind with
    | .steps => post r.call status reason (stepResult st flags) more d
    | .decode .. => post r.call status reason (decodeResult st aborted) more d
    | .anneal _ _ stepwise => if stepwise then post r.call status reason (stepResult st flags) true d else d

/-! ### Late steps (R31, R583) -/

/-- The cadence goes on by m nominal boundaries: they count from the anchor, which an accepted edge has moved (R584), and an
edge accepted for the boundary that is now next applies to it. -/
def Run.advance (r : Run) (m : Nat) : Run :=
  let base := if r.moved.isSome then r.anchor else r.nominal
  let left := (r.ahead.filter fun x => decide (m ≤ x.1)).map fun x => (x.1 - m, x.2)
  let r := { r with nominal := base + m * r.period, moved := none, ahead := left.filter fun x => decide (0 < x.1) }
  match left.find? fun x => decide (x.1 = 0) with
  | some x => { r with moved := some x.2.2, anchor := x.2.1 }
  | none => r

/-- A step of a paced run whose boundary falls late, at f: it is counted, the nominal boundaries that passed are skipped, and
STEP_LATE is raised where the host has enabled it. -/
def lateStep (t : TenantId) (f : Nat) (d : Device) : Device :=
  match (d.tenant t).run with
  | none => d
  | some r =>
    let base := if r.moved.isSome then r.anchor else r.nominal
    let k := (f - base) / max r.period 1
    let d := occur 49 t.val (some t) (bumpBy .skippedBoundaries t.val k (bump .lateSteps t.val d))
    modRun t (fun r => { r.advance (k + 1) with lateAt := some f }) d

/-- A paced run whose step has finished after its boundary was due. -/
def checkLate (t : TenantId) (d : Device) : Device :=
  match (d.tenant t).run with
  | none => d
  | some r => if decide (0 < r.period) && r.begun && r.lateAt.isNone && decide (r.due < d.now) then lateStep t d.now d else d

/-! ### The end of a run -/

/-- What waited for the run to be over or between steps goes on. -/
def afterRun (t : TenantId) (d : Device) : Device :=
  let d := serveCheckpoints t d
  let d := applyTenantScope t (landBinds t d)
  let d := if syncPaced d then d else applyLater (cutPulse d)
  tryShares d

/-- The run ends in a state: no step is left in progress. -/
def endRun (t : TenantId) (st : RunState) (d : Device) : Device :=
  let swept := ((d.tenant t).run.map (·.swept)).getD 0
  let d := match (d.tenant t).run.bind (·.model) with
    | some h => modModel t h (fun m => { m with sweepBase := m.sweepBase + swept, working := m.positions, newPool := m.pool }) d
    | none => d
  afterRun t (modTenant t (fun x => { x with runState := st, runInputs := x.hostInputs.length }) (modRun t (fun r =>
    { r with step := none, redo := none, rerun := false, committing := none, recorded := false, lateAt := none }) d))

/-- The final completion of an ANNEAL_RUN (R403). -/
def postAnneal (t : TenantId) (r : Run) (status : Status) (reason : Nat) (aborted : Bool) (d : Device) : Device :=
  match runModel d t with
  | some m => post r.call status reason (annealResult m (((d.tenant t).run.map (·.swept)).getD 0) aborted r.freeUsed) false d
  | none => finish r.call status reason d

/-- The run ends with a status outside a step: a flush between steps, TENANT_CLOSE with FORCE, or a span refusal. -/
def stopRun (t : TenantId) (status : Status) (reason : Nat) (d : Device) : Device :=
  match (d.tenant t).run with
  | none => d
  | some r =>
    if running d t then
      endRun t .none (match r.kind, r.replay with
        | .anneal .., none => postAnneal t r status reason false d
        | _, _ => finish r.call status reason d)
    else d

/-! ### Commit (R28, R529) -/

/-- A step with counter value 2^48 − 1 spends the tenant's seed (R304). -/
def spendSeed (t : TenantId) (n : Nat) (d : Device) : Device :=
  if n = 2 ^ 48 - 1 then bump .seedsSpent t.val (modTenant t (fun x => { x with seed := none }) d) else d

/-- What the commit of a valid step changes beside its record. -/
def commitValid (t : TenantId) (r : Run) (st : Step) (o ch : BitVec 128) (d : Device) : Device :=
  let d := modTenant t (fun x => { x with chain := ch, nextStep := st.n + 1, lastStep := some st.n, digests := ((st.n, o) :: x.digests).take 4 }) d
  let d := bump .stepsCommitted t.val d
  let d := if st.flags.getLsbD 4 then bump .edgeHoldSteps t.val d else d
  let d := match r.model with | some h => annealCommit t h d | none => d
  let d := modRun t (fun r => { r with
    swept := r.swept + st.sweeps, captures := r.captures + st.captures, freeUsed := r.freeUsed || st.flags.getLsbD 2
    kept := r.kept + st.tokens.length, left := r.left.map (· - 1) }) d
  let d := match r.kind with
    | .decode _ _ _ _ _ _ prompt _ =>
      let kept := r.kept + st.tokens.length
      let start := ((findTensor d t prompt).map fun x => x.size / 4).getD 0
      modTenant t (fun x => { x with decodePos := start + kept, decodeKept := kept }) d
    | _ => d
  let d := if r.replay.isSome then bump .replaySteps t.val (if st.matchCode = 0 then d else bump .replayMismatches t.val d) else d
  spendSeed t st.n (chooseMigrations t (ageMigrations t (updateHeat t d)))

/-- What the record of an invalid step changes. -/
def commitInvalid (t : TenantId) (r : Run) (_st : Step) (d : Device) : Device :=
  let d := bump .stepsInvalid t.val d
  if r.replay.isSome then bump .replaySteps t.val (bump .replayMismatches t.val d) else d

/-- An invalidation reason with which the module reruns the step (Table 13-5); an injected error always allows it (R674). -/
def rerunnable (d : Device) (st : Step) (reason : Nat) : Bool :=
  st.injected && decide (reason ≠ 0x16) || decide (1 ≤ reason) && decide (reason ≤ 0x0B) && (!decide (reason = 8) || allStrainers.any fun k => !(d.strainer k).fenced)

/-! ### After the completion -/

/-- Lines of IN_PLACE tensors go back from the step journal (R533 step 2). Lines of other tensors stay, and what they held is
kept for TENSOR_READ. -/
def restoreLines (t : TenantId) (st : Step) (d : Device) : Device :=
  modTenant t (fun x => { x with residue := [], tensors := x.tensors.map (undoTensor st.journal.reverse) }) d

/-- Carried-state areas go back to the mirror from which step n started (R533 step 3). -/
def restoreAreas (t : TenantId) (n : Nat) (d : Device) : Device :=
  match mirrorFor d t n with
  | some m => (runVtiles d t).foldl (fun d v => restoreArea t m v d) d
  | none => d

/-- A run goes on after a step, or ends with it. -/
def nextOrEnd (t : TenantId) (last : Bool) (d : Device) : Device :=
  if last then endRun t .none d
  else tryShares (landBinds t (serveCheckpoints t (checkLate t d)))

/-- What is over once a step is complete: its Strainer rows, and the step itself. -/
def closeStep (t : TenantId) (d : Device) : Device :=
  dropRows t (modRun t (fun r => { r with step := none, committing := none, recorded := false, rerun := false }) d)

/-- The last step of its command, by what the command asks for. -/
def lastByCommand (r : Run) (st : Step) : Bool :=
  decide (r.left = some 0) || decide (st.n = 2 ^ 48 - 1) ||
    (match r.replay with
     | some p => decide (p.last ≤ st.n) || (decide (st.matchCode ≠ 0) && !p.keepGoing)
     | none =>
       match r.kind with
       | .decode .. => decide (st.decodeFlags % 16 ≠ 0)
       | .anneal _ bs _ => decide (sweepsOf r bs ≤ r.swept)
       | .steps => false)

/-- A valid step completes (R29, R621): OK, or FLUSHED with which a flush ends the run. -/
def completeValid (t : TenantId) (r : Run) (st : Step) (d : Device) : Device :=
  let latch := latchOf d r.call
  let anneal := r.model.isSome && r.replay.isNone
  let stop := if anneal then lastByCommand r st else lastByCommand r st || decide (latch ≠ .none)
  let empty := bitAt st.decodeFlags 2
  let status : Status := if latch = .flush && stop && !anneal then .flushed else .ok
  let aborted := decide (latch ≠ .none) && (!anneal || r.limit.isSome)
  let d := postStep r st status 0 (!stop || anneal || (empty && r.replay.isNone)) (aborted && stop) d
  let d := if !stop then d
    else if anneal then postAnneal t r (if latch = .flush then .flushed else .ok) 0 aborted d
    else if empty && r.replay.isNone then badParam r.call 0x50 d
    else d
  let d := beginMirror t (st.n + 1) (closeStep t d)
  nextOrEnd t stop (pairStep t st.n d)

/-- An invalid step completes (R532 to R534): it is kept to be rerun, or given up while the run goes on, or stops the run. -/
def completeInvalid (t : TenantId) (r : Run) (st : Step) (reason : Nat) (d : Device) : Device :=
  let again := rerunnable d st reason && !r.rerun && !decide (latchOf d r.call = .flush)
  let goesOn := (decide (reason = 0x13) || decide (reason = 0x15)) && decide (latchOf d r.call = .none) &&
    !decide (r.left = some 1) && !(match r.replay with | some p => decide (p.last ≤ st.n) || !p.keepGoing | none => false)
  let d := postStep r st .stepInvalid reason (again || goesOn) (!decide (latchOf d r.call = .none) && !again) d
  if again then
    modTenant t (fun x => { x with residue := st.undo }) (modRun t (fun r => { r with redo := some st }) (closeStep t d))
  else if goesOn then
    let d := restoreAreas t st.n (restoreLines t st (closeStep t d))
    let d := modRun t (fun r => { r with left := r.left.map (· - 1) }) (modTenant t (fun x => { x with nextStep := st.n + 1 }) d)
    nextOrEnd t false (pairStep t st.n (beginMirror t (st.n + 1) d))
  else
    let d := if r.rerun then bump .rerunFailed t.val d else d
    let d := if r.model.isSome && r.replay.isNone then postAnneal t r .stepInvalid reason (!decide (latchOf d r.call = .none)) d else d
    let d := modTenant t (fun x => { x with residue := st.undo }) (modRun t (fun r => { r with dirty := some (reason, st.overflowed) }) (closeStep t d))
    endRun t .stopped (pairStep t st.n d)

/-- Step 4 of R28: the completion, once the overflow queue has room. -/
def completeStep (t : TenantId) (d : Device) : Device :=
  match (d.tenant t).run with
  | none => d
  | some r =>
    match r.recorded, r.step with
    | true, some st =>
      if !runRoom d r then d
      else match st.reason with
        | none => completeValid t r st d
        | some reason => completeInvalid t r st reason d
    | _, _ => d

/-- The step's record has been committed: what follows from the commit, then the completion. -/
def stepRecorded (t : TenantId) (d : Device) : Device :=
  match (d.tenant t).run with
  | none => d
  | some r =>
    match r.step with
    | none => d
    | some st =>
      let d := match st.reason, st.outcome with
        | none, some (o, ch) => commitValid t r st o ch d
        | _, _ => commitInvalid t r st d
      completeStep t (modRun t (fun r => { r with committing := none, recorded := true }) d)

/-! ### The end-of-step sequence (R28, R531, R535, R537) -/

/-- The step's work is done: every vtile has ended, or every sweep has run. -/
def workDone (d : Device) (t : TenantId) (r : Run) (st : Step) : Bool :=
  match r.kind with
  | .anneal _ bs _ => decide (stepSweeps r bs ≤ st.sweeps)
  | _ => (runVtiles d t).all fun n => (vt d (refOf n)).ended

/-- The reason with which the step ends: its own, the peer's, or JOURNAL_OVERFLOW for an invalid step whose journal
overflowed. -/
def finalReason (st : Step) (peerInvalid : Bool) : Option Nat :=
  match (match st.reason with | some r => some r | none => if peerInvalid then some 0x0B else none) with
  | some r => some (if st.overflowed then 0x16 else r)
  | none => none

/-- The tokens of a DECODE_RUN round that are kept, with its flags. -/
def settleRound (d : Device) (t : TenantId) (r : Run) (st : Step) : Step :=
  match r.kind with
  | .decode limit _ _ _ _ _ _ stop =>
    let (ts, stopped, lim) := keepTokens st.tokens (stopTokens d t stop) limit r.kept
    { st with tokens := ts, decodeFlags := st.decodeFlags ||| (b2n stopped + 8 * b2n lim) }
  | _ => st

/-- The expected OK STEP record of a step in the expected-records tensor (R558, R559). -/
def expectedStep (d : Device) (t : TenantId) (p : Replay) (runId n : Nat) : Option (List Byte) :=
  match findTensor d t p.expected with
  | none => none
  | some x =>
    let recs := (List.range (x.size / 256)).map fun i => x.bytes.readN (256 * i) 256
    recs.find? fun b => decide (kindOf b = recStep) && decide (leAt b 32 8 = n) && decide (leAt b 40 8 = runId) && decide (leAt b 12 2 = 0)

/-- The code of a replayed step's comparison of outputs (Table 15-9). -/
def outputMatch (d : Device) (t : TenantId) (r : Run) (n : Nat) (o ch : BitVec 128) : Nat :=
  match r.replay with
  | none => 0
  | some p =>
    match expectedStep d t p ((d.tenant t).runId.getD 0) n with
    | none => 5
    | some b => if slice b 112 16 ≠ bytes16 o then 3 else if slice b 128 16 ≠ bytes16 ch then 4 else 0

/-- The outputs are final and the digest formed: the outcome of a valid step. -/
def formOutcome (t : TenantId) (r : Run) (st : Step) (far : List (List Byte)) (d : Device) : Step × Device :=
  let st := settleRound d t r st
  let (outs, d) := stepOutputs t r st far d
  let o := outputDigest outs st.n
  let x := d.tenant t
  let ch := chainNext x.chain st.n st.intakeHash st.hostDigest o
  ({ st with outcome := some (o, ch), matchCode := outputMatch d t r st.n o ch },
    modTenant t (fun x => { x with hostInputs := [] }) d)

/-- Steps 1 to 3 of R28. -/
def endOfStepOn (t : TenantId) (r : Run) (st : Step) (cycles : Nat) (far : List (List Byte)) (peerInvalid : Bool) (d : Device) : Device :=
  let reason := finalReason st peerInvalid
  let st := { st with reason := reason, cycles := cycles, hostDigest := hostDigest (d.tenant t).hostInputs
                      matchCode := if reason.isSome then 5 else st.matchCode }
  let (st, d) := if reason.isNone then formOutcome t r st far d else (st, d)
  let waits := !(slateRoom d && d.slate.waiting.isEmpty)
  let late := decide (0 < r.period) && (waits || decide (r.due < d.now))
  let aborted := !decide (latchOf d r.call = .none) && (r.model.isNone || r.replay.isSome || r.limit.isSome)
  let flags := st.flags ||| (if late then 2#16 else 0) ||| (if aborted then 1#16 <<< 9 else 0)
  let st := { st with flags := flags }
  let d := modRun t (fun r => { r with step := some st, committing := some d.now }) d
  let (d, now) := putRecord recStep t.val flags.toNat (if reason.isSome then Status.stepInvalid.code else 0) (reason.getD 0) (stepBody d t st) d
  if now then stepRecorded t d else d

/-- END_OF_STEP_SEQUENCE: it begins once the step's work is done, or as soon as the step is invalid; `far` holds the outputs
of other members, and `peerInvalid` that a member has invalidated the step (R526, R535). A step whose record is committed
completes once there is room. -/
def endOfStep (t : TenantId) (cycles : Nat) (far : List (List Byte)) (peerInvalid : Bool) (d : Device) : Device :=
  match (d.tenant t).run with
  | none => d
  | some r =>
    if r.recorded then completeStep t d
    else match r.step with
      | none => d
      | some st =>
        if !running d t || !st.started || st.halted || r.committing.isSome ||
            (st.reason.isNone && !peerInvalid && !workDone d t r st) then d
        else endOfStepOn t r st cycles far peerInvalid d

/-- SLATE_RECORD_COMMIT: the oldest waiting record is written once the buffer has space; a step whose record it is goes on,
and the time that it waited is counted (R545). -/
def slateRecordCommit (d : Device) : Device :=
  match d.slate.waiting with
  | [] => d
  | w :: _ =>
    if !slateRoom d then d
    else
      let d := commitWaiting d
      match (if w.kind = recStep then tenantOf w.tenant else none) with
      | none => d
      | some t =>
        match (d.tenant t).run.bind (·.committing) with
        | none => d
        | some since => stepRecorded t (bumpBy .slateStallCycles 0 (gridCycles d.clocks.divisor (d.now - since)) d)

end Sys2Proof.Machine
end

