-- ==== Sys2Proof/Machine/Runs.lean ====
section
/-! DEFINITION. Run commands and the events of a run: boundaries, step starts, phases, reruns, recovery, replay, STEP_ABORT
and TENANT_CLOSE (R31, R72 to R74, R78, R224, R533, R558 to R560, R580 to R586, R621, R622). -/

namespace Sys2Proof.Machine

open Sys2Proof

/-! ### FRAME_SYNC_OUT (R586) -/

/-- Fields of the FRAME_SYNC block (Table 15-13), times in ns. -/
def syncOffset (d : Device) : Nat := cfgOr d 0x05000002 0 * us
def syncCadence (d : Device) : Bool := decide (cfgOr d 0x05000003 0 = 1)
def syncWidth (d : Device) : Nat := cfgOr d 0x05000004 10 * us
def syncLead (d : Device) : Nat := cfgOr d 0x05000005 0 * us

/-- A pulse starts on FRAME_SYNC_OUT. In CADENCE mode one that would start before the last has ended is not emitted and is
counted; in ACTUAL mode, where every boundary starts one, the pin then stays high for a width from the later boundary (log
entry 91). -/
def startPulse (d : Device) : Device :=
  match d.time.pulseEnd with
  | some _ =>
    if syncCadence d then bump .syncOutSuppressed 0 d else { d with time := { d.time with pulseEnd := some (d.now + syncWidth d) } }
  | none =>
    emit (.syncOut true) { d with pins := { d.pins with syncOut := true }
                                  time := { d.time with pulseEnd := some (d.now + syncWidth d) } }

/-- A pulse ends. -/
def endPulse (d : Device) : Device :=
  match d.time.pulseEnd with
  | none => d
  | some t =>
    let d := advanceTo t d
    emit (.syncOut false) { d with pins := { d.pins with syncOut := false }, time := { d.time with pulseEnd := none } }

/-- A pulse whose time has passed has ended. -/
def settlePulse (d : Device) : Device :=
  match d.time.pulseEnd with
  | some t => if t ≤ d.now then endPulse d else d
  | none => d

/-! ### Replayed inputs (R558, R559) -/

/-- The manifest entries that the MANIFEST records of a step hold, in order. -/
def expectedEntries (d : Device) (t : TenantId) (p : Replay) (n : Nat) : List (List Byte) :=
  match findTensor d t p.expected with
  | none => []
  | some x =>
    let recs := (List.range (x.size / 256)).map fun i => x.bytes.readN (256 * i) 256
    (recs.filter fun b => decide (kindOf b = recManifest) && decide (leAt b 32 8 = n)).flatMap fun b =>
      (List.range (leAt b 44 1)).map fun k => slice b (48 + 40 * k) 40

/-- The manifest of a step formed from the intake log: the frames' bytes stand one after another in manifest order, and each
digest is computed over them (log entry 35). Gives the entries and the bytes taken. -/
def replayManifest (d : Device) (t : TenantId) (p : Replay) (n : Nat) : List ManifestEntry × Nat :=
  let bytes := match findTensor d t p.log with | some x => x.bytes | none => []
  (expectedEntries d t p n).foldl (fun (acc : List ManifestEntry × Nat) e =>
    let len := leAt e 8 4
    let f : ManifestEntry := { context := leAt e 0 1, gap := bitAt (leAt e 1 1) 0, torn := bitAt (leAt e 1 1) 1, seq := leAt e 4 4
                               length := len, stamp := leAt e 16 8, digest := frameDigest (bytes.readN (p.logAt + acc.2) len) }
    (acc.1 ++ [f], acc.2 + len)) ([], 0)

/-- The logged host inputs of a step: a count, then each item with its length, whose bit 31 marks a run command (log entry
35). Gives the items and the bytes taken. -/
def replayItems (d : Device) (t : TenantId) (p : Replay) : List (Bool × List Byte) × Nat :=
  let bytes := match findTensor d t p.hosts with | some x => x.bytes | none => []
  (List.range (bytes.readLe p.hostAt 4)).foldl (fun (acc : List (Bool × List Byte) × Nat) _ =>
    let h := bytes.readLe (p.hostAt + acc.2) 4
    let len := h % 2 ^ 31
    (acc.1 ++ [(bitAt h 31, bytes.readN (p.hostAt + acc.2 + 4) len)], acc.2 + 4 + len)) ([], 4)

/-- What a logged run command makes the replay run: a step of a package, of a DECODE_RUN or of an ANNEAL_RUN. -/
def kindOfItem (d : Device) (t : TenantId) (item : List Byte) : Option RunKind :=
  let w := fun i => leAt item (8 * i) 8
  if w 0 % 256 = 0x41 then
    some (.decode (field (w 4) 0 32) (field (w 4) 32 4) (field (w 5) 0 32) (field (w 6) 0 11) (field (w 5) 32 32) (field (w 6) 16 8)
      (field (w 7) 0 32) (field (w 7) 32 32))
  else if w 0 % 256 = 0x51 then
    (match (d.tenant t).models.head?, findTensor d t (field (w 2) 0 32) with
     | some m, some x => some (.anneal m.handle (x.bytes.readN 0 x.size) false)
     | _, _ => none)
  else if w 0 % 256 = 0x30 then some .steps
  else none

/-- A logged host input is applied: a tensor write, or the command that its step starts with. -/
def applyItem (t : TenantId) (d : Device) (x : Bool × List Byte) : Device :=
  let d := modTenant t (fun y => { y with hostInputs := y.hostInputs ++ x.2 }) d
  if x.1 then
    match kindOfItem d t x.2 with
    | some k => modRun t (fun r => { r with kind := k }) d
    | none => d
  else
    let id := leAt x.2 0 4
    let bs := slice x.2 16 (leAt x.2 4 4)
    markPages t id (leAt x.2 8 8) bs.length (modTensor t id (fun y => y.write (leAt x.2 8 8) bs) d)

/-- A replayed step whose inputs differ does not run: its completion names the field, and the run state goes past it. -/
def replayMismatch (t : TenantId) (r : Run) (p : Replay) (n code : Nat) (d : Device) : Device :=
  let stop := decide (p.last ≤ n) || !p.keepGoing || !decide (latchOf d r.call = .none)
  let d := bump .replayMismatches t.val (bump .replaySteps t.val d)
  let d := post r.call .ok 0 (replayResult n code 0) (!stop) d
  let d := modRun t (fun r => { r with released := false }) (modTenant t (fun x => { x with nextStep := n + 1, hostInputs := [] }) d)
  if stop then endRun t .none d else beginMirror t (n + 1) d

/-! ### Creating a step (R31, R226, R522, R577) -/

/-- A step of a run is created at its boundary: what waits for the boundary takes effect first, then its frames bind. -/
def createStep (t : TenantId) (r : Run) (d : Device) : Device :=
  let n := (d.tenant t).nextStep
  let d := applyTenantScope t d
  let paced := decide (0 < r.period)
  let mine := paced && decide (syncTenant d = t.val)
  let d := if mine then applyLater d else d
  let (es, d) := bindFrames t n d.now d
  let flags : BitVec 16 := (if es.any (·.gap) then 0x400 else 0) ||| (if es.any (·.torn) then 0x800 else 0) |||
    (if r.adjusted then 0x1000 else 0) + (if r.inband then 0x20 else 0) + (if r.testWait then 0x40 else 0) + (if r.lateStart then 2 else 0)
  let d := modRun t (fun r => { r with
    step := some { n := n, boundary := moduleTime d, manifest := es, intakeHash := intakeHash n es, flags := flags
                   startedLate := r.lateStart }
    adjusted := false, inband := false, testWait := false, lateStart := false, begun := true }) d
  if mine && decide (syncTenant d = t.val) && !syncCadence d then startPulse (settlePulse d) else d

/-- A replayed step is created from its logged inputs (R559 steps 1 and 2). -/
def createReplay (t : TenantId) (r : Run) (p : Replay) (d : Device) : Device :=
  let n := (d.tenant t).nextStep
  let (es, used) := replayManifest d t p n
  let (items, took) := replayItems d t p
  let hash := intakeHash n es
  let d := items.foldl (applyItem t) (modRun t (fun r => { r with replay := some { p with logAt := p.logAt + used, hostAt := p.hostAt + took } }) d)
  match expectedStep d t p ((d.tenant t).runId.getD 0) n with
  | none => replayMismatch t r p n 1 d
  | some b =>
    if slice b 80 16 ≠ bytes16 hash then replayMismatch t r p n 1 d
    else if slice b 96 16 ≠ bytes16 (hostDigest (d.tenant t).hostInputs) then replayMismatch t r p n 2 d
    else modRun t (fun r => { r with
      begun := true, testWait := false
      step := some { n := n, boundary := moduleTime d, manifest := es, intakeHash := hash
                     flags := (if r.testWait then 0x48#16 else 8#16) ||| (if es.any (·.gap) then 0x400 else 0) ||| (if es.any (·.torn) then 0x800 else 0) } }) d

/-! ### STEP_BOUNDARY (R31, R580, R583 to R585) -/

/-- The boundary falls: the cadence goes on from it. -/
def advanceCadence (r : Run) (now : Nat) : Run :=
  if !r.begun then { r with begun := true, anchor := now, nominal := now + r.period, waited := false }
  else if r.lateAt.isSome then { r with lateAt := none, waited := false }
  else { r.advance 1 with waited := false }

/-- STEP_BOUNDARY of a paced run: no boundary falls before the step before it has committed, while a commit with FORCE_DRAIN
holds the run, while the module is not in RUN (R747), or while the run's mailbox has no room; a boundary delayed by the latter is
late (R607). -/
def stepBoundary (t : TenantId) (d : Device) : Device :=
  match (d.tenant t).run with
  | none => d
  | some r =>
    if !running d t || decide (r.period = 0) || (spanBound d t && !isLeader d) || !r.idle || r.barrier.isSome || r.released ||
        drainHolds d t || !awake d then d
    else if latchOf d r.call = .flush then stopRun t .flushed 0 d
    else if !runRoom d r then modRun t (fun r => { r with waited := true }) d
    else
      let d := if r.begun then advanceTo (r.lateAt.getD r.due) d else d
      let d := if r.waited && r.begun && r.lateAt.isNone && decide (r.due < d.now) then
          modRun t (fun r => { r with lateStart := true }) (lateStep t d.now d)
        else d
      let d := modRun t (fun r => advanceCadence r d.now) d
      if spanBound d t then reachBarrier t d
      else match (d.tenant t).run with
        | some r => createStep t r d
        | none => d

/-! ### STEP_START (R78, R224) -/

/-- The parts of a byte list outside an address range. -/
def outside (base len a : Nat) (bs : List Byte) : List (Nat × List Byte) :=
  [(a, bs.take (base - a)), (max a (base + len), bs.drop (base + len - a))].filter fun x => !x.2.isEmpty

/-- The package image, outside the carried-state areas, stands in the scratchpads again. -/
def reloadImage (d : Device) (t : TenantId) : Device :=
  match runDecl d t with
  | none => d
  | some p =>
    p.image.foldl (fun d i =>
      if carriesIndex d (i.1 / 16384) then
        (outside p.carriedBase p.carriedLen i.2.1 i.2.2).foldl (fun d x => spadPut (refOf i.1) x.1 x.2 d) d
      else d) d

/-- Every vtile of the run starts at the step entry address with its registers zero and its lanes positioned. -/
def resetVtiles (t : TenantId) (d : Device) : Device :=
  let entry := ((runDecl d t).map (·.entry)).getD 0
  (runVtiles d t).foldl (fun d n =>
    modVt (refOf n) (fun x => { id := x.id, pc := entry, uncopied := x.uncopied }) d) d

/-- The epoch that is ready becomes the active one: this is its switch step (R224). -/
def switchEpoch (t : TenantId) (d : Device) : Device :=
  let x := d.tenant t
  match x.nextEpoch, x.nextReady with
  | some e, true =>
    bump .epochSwitches t.val (cutPlanned (modTenant t (fun x => { x with epoch := e, nextEpoch := none, nextReady := false }) d))
  | _, _ => d

/-- The first reason that a step has from its start on: an uncarried index, no capacity for its tenant, or a site of its
mapping that was lost between steps (R58, R72, R191, R218, R502). -/
def startReason (d : Device) (t : TenantId) : Option Nat :=
  if indexUncarried d t then some 0x14
  else if uncarried d (d.tenant t).rect || (d.tenant t).noRoute || edgeless d t then some 0x15
  else if lostSite d t then some 5
  else none

/-- The created step starts. -/
def beginStep (t : TenantId) (d : Device) : Device :=
  let d := switchEpoch t (divisorPoint (endIdle d.now d))
  let d := resetVtiles t (reloadImage d t)
  let d := modTenant t (fun x => { x with posted := [], landed := [], frames := 0, gateUnmet := none, held := [] }) d
  let d := match (d.tenant t).run.bind (·.model) with | some h => annealBegin t h d | none => d
  let free := match runModel d t, (d.tenant t).run with
    | some m, some r => (match r.kind with | .anneal _ bs _ => rdFree bs && decide (1 < (modelSpans m).length) | _ => false)
    | _, _ => false
  let wait := ((d.tenant t).run.map (·.barrierWait)).getD 0
  let d := modRun t (fun r => { r with released := false, barrierWait := 0 }) d
  let why := startReason d t
  modStep t (fun s => stepDivisor d { s with
    started := true, barrierWait := wait, maxDivisor := 8, reason := match s.reason with | some r => some r | none => why
    flags := if free then s.flags ||| 4#16 else s.flags }) d

/-- The run's first annealing sweep is still to come: what R380, R392 and R397 set before it, and the mirror of the state that
the run starts from. -/
def prepareFirst (t : TenantId) (d : Device) : Device :=
  match (d.tenant t).run, runModel d t with
  | some r, some m =>
    (match r.kind with
     | .anneal _ bs _ =>
       if r.swept = 0 then beginMirror t (d.tenant t).nextStep (annealPrepare t m bs d) else d
     | _ => d)
  | _, _ => d

/-- STEP_START: a created step starts; a step of an unpaced run, or of a run bound to the span, is created here. A run bound
to the span starts a step only when the barrier has been released, and a step waits for a self-test of its sites to be preempted or
to end (R676) and for the module to be in RUN (R739). -/
def stepStart (t : TenantId) (d : Device) : Device :=
  match (d.tenant t).run with
  | none => d
  | some r =>
    let fresh := r.step.isNone
    let bound := spanBound d t
    if !running d t || r.redo.isSome || r.committing.isSome || r.recorded ||
        (match r.step with | some s => s.started | none => false) || r.barrier.isSome ||
        (fresh && !bound && decide (0 < r.period)) ||
        (fresh && bound && decide (0 < r.period) && isLeader d && !r.released) || regionTest d t || !awake d then d
    else if fresh ∧ latchOf d r.call = .flush ∧ r.model.isNone then stopRun t .flushed 0 d
    else if (fresh && (drainHolds d t || !runRoom d r)) then d
    else if bound ∧ ¬r.released then reachBarrier t d
    else if bound ∧ d.span.partitioned then stopRun t .spanMismatch 0x36 d
    else
      let d := if !fresh then d else match r.replay with
        | some p => createReplay t r p d
        | none => createStep t r d
      if (d.stepOf t).isSome then beginStep t (if r.begun then d else prepareFirst t d) else d

/-! ### PHASE_END (R505, R560) -/

/-- PHASE_END: the designated outputs of the next phase are final; `far` holds those of other members. At a stop point of a
replay the step halts. -/
def phaseEnd (t : TenantId) (cycles : Nat) (far : List (List Byte)) (d : Device) : Device :=
  match (d.tenant t).run, d.stepOf t with
  | some r, some st =>
    let k := st.phases.length
    match (((runDecl d t).map (·.phases)).getD [])[k]? with
    | none => d
    | some refs =>
      if !st.started || st.halted || r.committing.isSome || r.recorded || r.model.isSome then d
      else
        let (outs, d) := outputsOf t refs far d
        let d := pairPhase t outs cycles d
        let halt := match r.replay with | some p => decide (p.stop = some (st.n, k)) | none => false
        modStep t (fun s => { s with phases := s.phases ++ [(k, phaseDigest hashKeyO outs k)], halted := halt }) d
  | _, _ => d

/-! ### STEP_RERUN and UNPLANNED_LOSS_RECOVERY (R72 to R74, R533) -/

/-- The tenant's vtiles have sites: its active mapping uses no bad site, or the epoch for the present map is loaded, or none
can be built. -/
def mappingReady (d : Device) (t : TenantId) : Bool :=
  let x := d.tenant t
  !mapsDiffer x.epoch.bad (badSites d) x.rect || x.noRoute || uncarried d x.rect ||
    (match x.nextEpoch with
     | some e => x.nextReady || (decide (e.bad = badSites d) && (movingTenants d).all fun u => decide (u = t))
     | none => false)

/-- A mirror from which step n can start is complete, or none is needed (R74). -/
def mirrorReady (d : Device) (t : TenantId) (n : Nat) : Bool :=
  (decide (carriedLen d t = 0) && (runModel d t).isNone) || (match mirrorFor d t n with | some m => m.complete | none => false)

/-- STEP_RERUN: the invalid step is restored and stands ready to start again (R533, R383). -/
def stepRerun (t : TenantId) (d : Device) : Device :=
  match (d.tenant t).run with
  | none => d
  | some r =>
    match r.redo with
    | none => d
    | some st =>
      let lost := decide (st.reason = some 5)
      if !running d t || !runRoom d r || (lost && (!mappingReady d t || !mirrorReady d t st.n)) then d
      else
        let d := if lost then
            modTenant t (fun x => { x with nextReady := x.nextReady || (match x.nextEpoch with | some e => decide (e.bad = badSites d) | none => false) }) d
          else d
        let d := restoreAreas t st.n (restoreLines t st d)
        let d := unwindPair t st.phases.length d
        let kept := st.undo.filter fun u =>
          match findTensor d t u.1 with | some x => !decide (x.mode = .inPlace) | none => false
        let keep : BitVec 16 := st.flags &&& 0x1C0C
        let d := bump .reruns t.val (if r.model.isSome then bump .annealReruns t.val d else d)
        modRun t (fun r => { r with
          redo := none, rerun := true, lateAt := none
          step := some { n := st.n, boundary := st.boundary, manifest := st.manifest, intakeHash := st.intakeHash
                         flags := keep ||| (if st.startedLate then 3#16 else 1#16), startedLate := st.startedLate, undo := kept } }) d

/-- A recovery that cannot go on stops the run: nothing of the step can be undone. -/
def recoveryFails (t : TenantId) (r : Run) (reason : Nat) (d : Device) : Device :=
  let d := if r.model.isSome ∧ r.replay.isNone then postAnneal t r .stepInvalid reason false d
    else finish r.call .stepInvalid reason d
  endRun t .stopped (modRun t (fun r => { r with dirty := some (reason, true) }) d)

/-- UNPLANNED_LOSS_RECOVERY: the vtiles are loaded from the newest complete mirrors, and the steps since are regenerated from
their bound frames. `regen` holds the designated outputs of each regenerated step, in order, and `areas` the carried state
that the last of them leaves. A digest that differs from the committed one stops the run (R73), and so does the loss of every
complete mirror (R279). -/
def lossRecovery (t : TenantId) (regen : List (List (List Byte))) (areas : List (VtileRef × List Byte)) (d : Device) : Device :=
  match (d.tenant t).run with
  | none => d
  | some r =>
    match r.redo with
    | none => d
    | some st =>
      let x := d.tenant t
      let done := (x.mirrors.find? (·.complete)).map (·.next)
      match done with
      | none => if running d t && mappingReady d t then recoveryFails t r 0x12 d else d
      | some s =>
        if !running d t || decide (st.n ≤ s) || !mappingReady d t then d
        else
          let bad := (List.range (st.n - s)).any fun i =>
            match assoc x.digests (s + i) with
            | some o => !decide (outputDigest (regen.getD i []) (s + i) = o)
            | none => false
          if bad then
            recoveryFails t r 5 (occur 40 t.val (some t) d)
          else
            let m : Mirror := { next := st.n, areas := areas.map fun a => (vtNum a.1, a.2.length / 4096, a.2), complete := true }
            let d := (runVtiles d t).foldl (fun d n => modVt (refOf n) (fun y => { y with uncopied := [] }) d) d
            modTenant t (fun x => { x with mirrors := trimMirrors (m :: x.mirrors.filter (·.complete)) }) d

/-! ### Run commands -/

/-- A run command of a tenant: BUSY while a run is in progress. -/
def runCommand (c : Call) (k : Device → Device) (d : Device) : Device := if running d c.tenant then finish c .busy 0 d else k d

/-- STEP_RUN (R303, R528, R580). -/
def stepRun (c : Call) (d : Device) : Device :=
  runCommand c (fun d => withPackage c (field (c.w 1) 0 32) (fun p d =>
    let count := field (c.w 4) 0 32
    let period := field (c.w 5) 0 30
    if period ≠ 0 ∧ (period < 1000 ∨ 1000000 < period) then badParam c 0 d
    else withSeed c (fun seed d =>
      match spanRefusal d (List.range p.decl.extent), runValuesOk d c.tenant (c.w 2) (c.w 3) count with
      | some (st, e), _ => finish c st e d
      | none, some e => badParam c e d
      | none, none =>
        openRun { call := c, kind := .steps, seed := seed, budget := p.decl.budget, package := some p.handle
                  left := if count = 0 then none else some count, period := period * us } (c.w 2) (c.w 3) (commandItem c true false) d) d) d) d

/-- DECODE_RUN (R412, R413, R436). -/
def decodeRun (c : Call) (d : Device) : Device :=
  runCommand c (fun d => withPackage c (field (c.w 1) 0 32) (fun p d =>
    let nDraft := field (c.w 4) 32 4
    let row : RowParams := { n := 1, temp := BitVec.ofNat 32 (field (c.w 5) 0 32), topK := field (c.w 6) 0 11
                             topP := BitVec.ofNat 32 (field (c.w 5) 32 32), stream := field (c.w 6) 16 8, row := 0 }
    if 8 < nDraft ∨ p.decl.budget < 16 * (nDraft + 1) ∨ ¬p.decl.decodes ∨ ¬rowParamsOk row 65536 then badParam c 0 d
    else withTensor c (field (c.w 7) 0 32) (fun _ d =>
      let stop := field (c.w 7) 32 32
      let go := fun d => withSeed c (fun seed d =>
        match spanRefusal d (List.range p.decl.extent), runValuesOk d c.tenant (c.w 2) (c.w 3) 0 with
        | some (st, e), _ => finish c st e d
        | none, some e => badParam c e d
        | none, none =>
          openRun { call := c, seed := seed, budget := p.decl.budget, package := some p.handle
                    kind := .decode (field (c.w 4) 0 32) nDraft row.temp.toNat row.topK row.topP.toNat row.stream
                      (field (c.w 7) 0 32) stop } (c.w 2) (c.w 3) (commandItem c true false) d) d
      if stop = 0 then go d else withTensor c stop (fun _ d => go d) d) d) d) d

/-- ANNEAL_RUN (R376 to R381, R409). -/
def annealRun (c : Call) (d : Device) : Device :=
  runCommand c (fun d => withModel c 0x20 (fun m d => withTensor c (field (c.w 2) 0 32) (fun x d =>
    let (bs, d) := readFree x 0 (min x.size 1320) d
    withSeed c (fun seed d =>
      match runRefusal d m bs, spanRefusal d (modelSpans m) with
      | some (st, e), _ => finish c st e d
      | none, some (st, e) => finish c st e d
      | none, none =>
        match runValuesOk d c.tenant (rdRunId bs) (rdStep0 bs) 0 with
        | some e => badParam c e d
        | none =>
          openRun { call := c, kind := .anneal m.handle bs (c.flag 8), seed := seed, budget := annealBudget m bs, package := m.package }
            (rdRunId bs) (rdStep0 bs) (commandItem c true false) d) d) d) d) d

/-- The first record of the expected-records tensor. -/
def firstExpected (d : Device) (t : TenantId) (id : Nat) : List Byte :=
  match findTensor d t id with | some x => x.bytes.readN 0 256 | none => []

/-- REPLAY_BEGIN (R558): the run state must stand at F, with the chain of the record of F − 1 or CH_init. -/
def replayOpen (c : Call) (seed : Seed) (d : Device) : Device :=
  let t := c.tenant
  let x := d.tenant t
  let runId := c.w 1
  let p : Replay := { first := c.w 2, last := c.w 3, expected := field (c.w 4) 0 32, log := field (c.w 4) 32 32
                      hosts := field (c.w 5) 0 32, keepGoing := c.flag 9
                      stop := if c.w 6 = 2 ^ 64 - 1 then none else some (c.w 6, field (c.w 7) 0 32) }
  let lead := firstExpected d t p.expected
  let led := decide (kindOf lead = recStep) && decide (leAt lead 32 8 + 1 = p.first) && decide (leAt lead 40 8 = runId)
  let held := decide (x.runId = some runId)
  let chainOk := if led then held && decide (slice lead 128 16 = bytes16 x.chain)
    else !held || decide (x.chain = chainInit runId seed.id)
  if p.last < p.first ∨ (held ∧ x.nextStep ≠ p.first) ∨ ¬chainOk then badParam c rsnStepSequence d
  else if 2 ^ 48 ≤ p.last then badParam c 0x23 d
  else match expectedStep d t p runId p.first with
    | none => badParam c rsnStepSequence d
    | some b =>
      let zero := (slice b 64 16).all fun y => decide (y = 0)
      match x.packages.find? (fun k => decide ((beOf 48 k.digest).take 16 = slice b 64 16)), zero with
      | none, false => badParam c rsnUnknownHandle d
      | k, _ =>
        match k.bind (fun k => spanRefusal d (List.range k.decl.extent)) with
        | some (st, e) => finish c st e d
        | none =>
          let d := writeRecord recReplay t.val (leBytes 8 runId ++ leBytes 8 p.first ++ leBytes 8 p.last) d
          openRun { call := c, kind := .steps, seed := seed, budget := (k.map (·.decl.budget)).getD 0, package := k.map (·.handle)
                    replay := some p } runId p.first [] d

/-- REPLAY_BEGIN. -/
def replayBegin (c : Call) (d : Device) : Device :=
  runCommand c (fun d =>
    withTensor c (field (c.w 4) 0 32) (fun _ d => withTensor c (field (c.w 4) 32 32) (fun _ d =>
      withTensor c (field (c.w 5) 0 32) (fun _ d => withSeed c (fun seed d => replayOpen c seed d) d) d) d) d) d

/-- REPLAY_BEGIN with CONTINUE: the halted step goes on, and the steps' completions go on under the first command (log entry
36). A tenant without a halted replay has nothing to continue. -/
def replayContinue (c : Call) (d : Device) : Device :=
  let t := c.tenant
  if running d t && atStopPoint d t then finish c .ok 0 (modStep t (fun s => { s with halted := false }) d)
  else badParam c rsnStepSequence d

/-! ### STEP_ABORT (R622) -/

/-- Opcodes of the run commands. -/
def runOpcode (o : Nat) : Bool := decide (o = 0x30) || decide (o = 0x41) || decide (o = 0x51) || decide (o = 0xC1)

/-- A halted replay ends: its step commits no STEP record (R560). -/
def endHalted (t : TenantId) (d : Device) : Device :=
  match (d.tenant t).run with
  | none => d
  | some r =>
    match r.replay, r.step with
    | some _, some st =>
      if running d t && st.halted && !decide (latchOf d r.call = .none) then
        let d := restoreAreas t st.n (modTenant t (fun x => { x with residue := [], tensors := x.tensors.map (undoTensor st.undo) }) d)
        endRun t .none (unwindPair t st.phases.length (post r.call .ok 0 (replayResult st.n 5 0) false d))
      else d
    | _, _ => d

/-- STEP_ABORT: an abort latch on each run command of the tenant that it names, whichever mailbox carries it. -/
def stepAbort (c : Call) (d : Device) : Device :=
  let tag := field (c.w 1) 0 32
  let named := fun (x : Started) => runOpcode x.call.opcode && decide (x.call.tenant = c.tenant) && (decide (tag = 0) || decide (x.call.tag.toNat = tag))
  let n := ((d.host.mbx.toList.flatMap (·.started)).filter named).length
  let d := { d with host := { d.host with mbx := d.host.mbx.map fun m =>
    { m with started := m.started.map fun x => if named x && decide (x.latch = .none) then { x with latch := .abort } else x } } }
  endHalted c.tenant (post c .ok 0 (leBytes 4 n) false d)

/-! ### TENANT_CLOSE (R192, R268, R296, R543, R623) -/

/-- A tenant is closed: its run ends, its seed, keys, tensors, packages and models are gone, its intake contexts are disabled,
and its shares stay. -/
def closeTenant (t : TenantId) (d : Device) : Device :=
  let d := dropRows t (endPair t (stopRun t .flushed 0 d))
  let d := (allContexts.filter fun c => !decide ((d.ctx c).state = .disabled) && decide (ctxTenant d c = t)).foldl
    (fun d c => modCtx c (fun _ => {}) (dropRing c d)) d
  let x := d.tenant t
  let rect := x.rect
  let d := condEnd 39 (1 + t.val) { d with
    tiers := { d.tiers with keys := d.tiers.keys &&& ~~~(1#4 <<< t.val) }
    fabric := { d.fabric with triggers := d.fabric.triggers.filter fun y => !decide (y.2 = t.val) }
    vtiles := d.vtiles.filter fun v => !decide (tenantOfVtile d (v.id % 16384) = some t)
    intake := { d.intake with staged := d.intake.staged.filter fun y => !decide (y.2.tenant = t.val) } }
  let d := updateEdges (modTenant t (fun x => { strict := x.strict, shares := x.shares }) d)
  let (x0, y0, x1, y1) := rect
  let d := writeRecord recTenant t.val (leBytes 2 0 ++ leBytes 2 x0 ++ leBytes 2 y0 ++ leBytes 2 x1 ++ leBytes 2 y1) d
  let mine := match d.fabric.build with | some b => decide (b.tenant = t.val) | none => false
  let d := if mine then bump .epochsAbandoned 0 { d with fabric := { d.fabric with build := none } } else d
  plannedMove (settleCommits (tryShares (startBuild d)))

/-- TENANT_CLOSE: BUSY while a run is in progress, unless FORCE is set; a closed tenant has no owner. -/
def tenantClose (c : Call) (d : Device) : Device :=
  let t : TenantId := ⟨field (c.w 1) 0 2, Nat.mod_lt _ (by decide)⟩
  if !(d.tenant t).isOpen then finish c .notOwner 0 d
  else if running d t ∧ ¬c.flag 8 then finish c .busy 0 d
  else finish c .ok 0 (closeTenant t d)

/-! ### FRAME_SYNC_IN (R581, R582, R584) -/

/-- The nominal boundary k boundaries after the next one: the target of the last accepted edge at or before it plus whole
periods (R584). -/
def nominalAhead (r : Run) (k : Nat) : Nat :=
  let (j, base) := r.ahead.foldl (fun (best : Nat × Nat) x => if best.1 < x.1 ∧ x.1 ≤ k then (x.1, x.2.1) else best)
    (0, if r.moved.isSome then r.anchor else r.nominal)
  base + (k - j) * r.period

/-- How many boundaries ahead the nominal boundary nearest to a time lies; of two equally near ones the earlier. -/
def nearestAhead (r : Run) (target : Nat) : Nat :=
  let k := (target - r.nominal) / max r.period 1
  ([k - 1, k, k + 1, k + 2].foldl (fun best j =>
    if absDiff target (nominalAhead r j) < absDiff target (nominalAhead r best) then j else best) (k - 1))

/-- FRAME_SYNC_EDGE, stamped to the intake tick of 10 ns: an accepted edge moves the boundary due at N and the anchor with
it; boundaries before N stay where they are (log entry 91). -/
def frameSyncEdge (at_ : Nat) (d : Device) : Device :=
  let d := advanceTo at_ d
  match (if syncPaced d then tenantOf (syncTenant d) else none) with
  | none => bump .syncIgnored 0 d
  | some t =>
    match (d.tenant t).run with
    | none => bump .syncIgnored 0 d
    | some r =>
      if !r.begun || (spanBound d t && !isLeader d) then bump .syncIgnored 0 d
      else
        let edge := at_ / 10 * 10
        let target := edge + syncOffset d
        let k := nearestAhead r target
        let falls := max target (edge + 200)
        if min (r.period / 4) (5 * ms) < absDiff target (nominalAhead r k) then bump .syncIgnored 0 d
        else if (if k = 0 then r.moved.isSome else r.ahead.any fun x => decide (x.1 = k)) then bump .syncExtra 0 d
        else bump .syncAccepted 0 (modRun t (fun r =>
          if k = 0 then { r with moved := some falls, anchor := target } else { r with ahead := r.ahead ++ [(k, target, falls)] }) d)

/-- SYNC_OUT_CADENCE_PULSE: in CADENCE mode the pulse of the next nominal boundary starts SYNC_OUT_LEAD before it, or half a
period before it where that is less (R586). -/
def cadencePulse (d : Device) : Device :=
  match (if syncPaced d && syncCadence d then tenantOf (syncTenant d) else none) with
  | none => d
  | some t =>
    match (d.tenant t).run with
    | none => d
    | some r =>
      if !r.begun then d
      else
        let n := match d.time.lastCadence with
          | some l => if r.nominal ≤ l then l + r.period else r.nominal
          | none => r.nominal
        let d := settlePulse (advanceTo (n - min (syncLead d) (r.period / 2)) d)
        startPulse { d with time := { d.time with lastCadence := some n } }

/-! ### Meanings -/

/-- STEP_RUN. -/
def execStepRun (c : Call) (s : State) : Host.Outcome State Fault Refusal := done s (runFw c (stepRun c) s.dev)

/-- STEP_ABORT. -/
def execStepAbort (c : Call) (s : State) : Host.Outcome State Fault Refusal := done s (runEngine c (stepAbort c) s.dev)

/-- DECODE_RUN. -/
def execDecodeRun (c : Call) (s : State) : Host.Outcome State Fault Refusal := done s (runFw c (decodeRun c) s.dev)

/-- ANNEAL_RUN. -/
def execAnnealRun (c : Call) (s : State) : Host.Outcome State Fault Refusal := done s (runFw c (annealRun c) s.dev)

/-- REPLAY_BEGIN. -/
def execReplayBegin (c : Call) (s : State) : Host.Outcome State Fault Refusal := done s (runFw c (replayBegin c) s.dev)

/-- REPLAY_CONTINUE. -/
def execReplayContinue (c : Call) (s : State) : Host.Outcome State Fault Refusal := done s (runFw c (replayContinue c) s.dev)

/-- TENANT_CLOSE. -/
def execTenantClose (c : Call) (s : State) : Host.Outcome State Fault Refusal := done s (runFw c (tenantClose c) s.dev)

/-- STEP_BOUNDARY. -/
def execStepBoundary (t : TenantId) (s : State) : Host.Outcome State Fault Refusal := done s (stepBoundary t s.dev)

/-- STEP_START. -/
def execStepStart (t : TenantId) (s : State) : Host.Outcome State Fault Refusal := done s (stepStart t s.dev)

/-- PHASE_END. -/
def execPhaseEnd (t : TenantId) (cycles : Nat) (far : List (List Byte)) (s : State) : Host.Outcome State Fault Refusal :=
  done s (phaseEnd t cycles far s.dev)

/-- END_OF_STEP_SEQUENCE. -/
def execEndOfStepSequence (t : TenantId) (cycles : Nat) (far : List (List Byte)) (peerInvalid : Bool) (s : State) :
    Host.Outcome State Fault Refusal := done s (endOfStep t cycles far peerInvalid s.dev)

/-- SLATE_RECORD_COMMIT. -/
def execSlateRecordCommit (s : State) : Host.Outcome State Fault Refusal := done s (slateRecordCommit s.dev)

/-- STEP_RERUN. -/
def execStepRerun (t : TenantId) (s : State) : Host.Outcome State Fault Refusal := done s (stepRerun t s.dev)

/-- UNPLANNED_LOSS_RECOVERY. -/
def execUnplannedLossRecovery (t : TenantId) (regen : List (List (List Byte))) (areas : List (VtileRef × List Byte)) (s : State) :
    Host.Outcome State Fault Refusal := done s (lossRecovery t regen areas s.dev)

/-- FRAME_SYNC_EDGE. -/
def execFrameSyncEdge (at_ : Nat) (s : State) : Host.Outcome State Fault Refusal := done s (frameSyncEdge at_ s.dev)

/-- SYNC_OUT_CADENCE_PULSE. -/
def execSyncOutCadencePulse (s : State) : Host.Outcome State Fault Refusal := done s (cadencePulse s.dev)

/-- SYNC_OUT_PULSE_END. -/
def execSyncOutPulseEnd (s : State) : Host.Outcome State Fault Refusal := done s (endPulse s.dev)

end Sys2Proof.Machine
end

