-- ==== Sys2Proof/Machine/Mesh.lean ====
section
/-! DEFINITION. The mesh and its sites: scratchpad errors, core and collar faults, re-admission, mesh links, the frame gate with
the data that its frames move, and in-transit reductions (R41 to R48, R64 to R74, R147 to R172, R176 to R178). -/

namespace Sys2Proof.Machine

open Sys2Proof

/-- A day and an hour in ns. -/
def day : Nat := 86400 * sec
def hour : Nat := 3600 * sec

/-- Times within a span of ns before now. -/
def recent (d : Device) (span : Nat) (l : List Nat) : List Nat := l.filter fun t => decide (d.now ≤ t + span)

/-! ### An event that touches several tenants -/

/-- A source's event is charged to one more tenant (Table 13-7, Table 16-12). -/
def chargeMore (s : SourceId) (t : TenantId) (d : Device) : Device :=
  if srcEnabled d s.val then
    let d := chargeStep s (some t) { d with gutter := { d.gutter with
      tenantClasses := vmod d.gutter.tenantClasses t fun b => b ||| (1#8 <<< (classOf s).val) } }
    sendMsix (vfOf t) 2 d
  else d

/-- An occurrence of a source at an instance that touches some tenants. -/
def occurFor (s : SourceId) (inst : Nat) (ts : List TenantId) (d : Device) : Device :=
  let cov := shadowed d s.val inst
  let d := occur s inst ts.head? d
  if cov then d else (ts.drop 1).foldl (fun d t => chargeMore s t d) d

/-! ### Losing a site (R22, R35, R64, R72, R177, R225) -/

/-- The step in progress, or the invalid step that waits for its rerun, has lost a site: it is recovered as R72 says unless the
step has a reason that stops the run. A switch that has not happened is cancelled (R225). -/
def loseSite (t : TenantId) (src : Nat) (d : Device) : Device :=
  let worse := fun r : Nat => if r < 16 then 5 else r
  let d := modStep t (fun s => if s.started then { s with
    reason := some (match s.reason with | some r => worse r | none => 5)
    firstUncorr := if s.firstUncorr = 255 then src else s.firstUncorr } else s) d
  let d := modRun t (fun r => { r with redo := r.redo.map fun s => { s with reason := s.reason.map worse } }) d
  modTenant t (fun x => { x with nextEpoch := none, nextReady := false }) d

/-- The build in progress uses a site: it carries a vtile of the build's tenant, or a schedule crosses its collar (R210). -/
def buildUses (d : Device) (site : Nat) (b : Build) : Bool :=
  (match b.built with | some e => e.collars.contains site | none => false) ||
    (match tenantOf b.tenant with
     | some t => (rectVtiles (d.tenant t).rect).any fun v => decide (carrier b.bad v = some site)
     | none => false)

/-- A site takes a bad state at once; the map is recorded, the tenants that it carried lose it, those whose schedules crossed a
failed collar have their step invalidated, and the placer is triggered for every tenant that must move or detour. -/
def failSite (site : Nat) (state : SiteState) (src : Nat) (d : Device) : Device :=
  let lost := tenantsCarried d site
  let through := if state = .holed then (allTenants.filter fun t =>
      (d.tenant t).isOpen && (d.tenant t).epoch.collars.contains site && !lost.contains t) else []
  let uses := match d.fabric.build with | some b => buildUses d site b | none => false
  let d := modSite site (fun x => { x with bad := some state, planned := false }) d
  let d := lost.foldl (fun d t => loseSite t src d) d
  let d := through.foldl (fun d t => if d.inStep t then invalidate t 0x04 (some src) d else d) d
  let d := updateCapacity (recordMap d)
  let d := if uses then abandonBuild d else d
  let moved := lost ++ (tenantsMoved d).filter fun t => !lost.contains t
  let d := moved.foldl (fun d t => trigger 1 t d) d
  startBuild (through.foldl (fun d t => if moved.contains t then d else trigger 2 t d) d)

/-- The Kettle fences a site's core at once: an unplanned loss. -/
def fenceNow (site src : Nat) (d : Device) : Device :=
  if (d.site site).bad.isSome then d else failSite site .fenced src d

/-- A planned fence of a site that still works: it takes effect at the epoch switch of the tenants that it moves (R46, R64). -/
def fencePlanned (site : Nat) (d : Device) : Device :=
  if (d.site site).bad.isSome || (d.site site).planned then d
  else
    let d := recordMap (modSite site (fun x => { x with planned := true }) d)
    plannedMove ((movingTenants d).foldl (fun d t => trigger 4 t d) d)

/-! ### Scratchpad errors (R43 to R46) -/

/-- SECDED corrects a scratchpad error: it is counted for the site and charged to the tenants it carries; the 64th within 24
hours fences the site as a planned move (R43, R46). -/
def spadCorrected (site : Nat) (d : Device) : Device :=
  let d := (tenantsCarried d site).foldl (fun d t => chargeCorrected (some t) d) d
  let d := modSite site (fun x => { x with correctedCount := x.correctedCount + 1, corrected := d.now :: recent d day x.corrected }) d
  if 64 ≤ (d.site site).corrected.length then fencePlanned site d else d

/-- SECDED detects an uncorrectable scratchpad error: SPAD_UNCORR is raised; the second within 24 hours fences the site at once.
`t` is the tenant whose step read the word. An injected error counts toward no threshold (R674). -/
def spadError (site : Nat) (t : Option TenantId) (d : Device) : Device :=
  if checkInverted d 0 then injectedError 0 site t 0x01 d
  else
    let d := occurFor 0 site (tenantsCarried d site) d
    let d := match t with | some t => invalidate t 0x01 (some 0) d | none => d
    let d := modSite site (fun x => { x with uncorrected := d.now :: recent d day x.uncorrected }) d
    if 2 ≤ (d.site site).uncorrected.length then fenceNow site 0 d else d

/-- SPAD_UNCORR: a read of a vtile's scratchpad fails; the step of its tenant in progress is the one that read the word. -/
def spadUncorr (v : VtileId) (d : Device) : Device :=
  match carrierOf d v.val with
  | none => d
  | some site => spadError site ((tenantOfVtile d v.val).filter d.inStep) d

/-- SCRUB_ACCESS: what the scrub access of a bank of a site finds (R44). A scrub belongs to no step. -/
def scrubAccess (site : SiteId) (r : ScrubResult) (d : Device) : Device :=
  if (d.site site.val).bad.isSome then d
  else match r with
    | .clean => if checkInverted d 0 then injectedError 0 site.val none 0x01 d else d
    | .corrected => if checkInverted d 0 then injectedError 0 site.val none 0x01 d else spadCorrected site.val d
    | .uncorrectable => spadError site.val none d

/-! ### Cores, collars and re-admission (R64, R66, R68, R176, R177, R211) -/

/-- TILE_CORE_FAULT: the site becomes FENCED at once, and its collar keeps routing. -/
def tileCoreFault (site : SiteId) (d : Device) : Device :=
  if (d.site site.val).bad = some .fenced ∨ (d.site site.val).bad = some .holed then d
  else fenceNow site.val 33 (occurFor 33 site.val (tenantsCarried d site.val) d)

/-- COLLAR_FAULT: the site becomes HOLED at once and leaves the mesh. -/
def collarFault (site : SiteId) (d : Device) : Device :=
  if (d.site site.val).bad = some .holed then d
  else
    let hit := allTenants.filter fun t => (d.tenant t).isOpen &&
      ((d.tenant t).epoch.collars.contains site.val || (tenantsCarried d site.val).contains t)
    failSite site.val .holed 34 (occurFor 34 site.val hit d)

/-- READMISSION_TEST: a fenced site that may still return goes under test. -/
def readmissionTest (site : SiteId) (d : Device) : Device :=
  let x := d.site site.val
  if x.bad = some .fenced ∧ x.returns < 3 then recordMap (modSite site.val (fun x => { x with bad := some .testing }) d) else d

/-- A site comes back as SPARE: the return is counted, and the placer builds an epoch for every tenant whose vtiles it moves. -/
def returnSite (site : Nat) (d : Device) : Device :=
  let d := updateCapacity (recordMap (modSite site (fun x => { x with bad := none, returns := x.returns + 1 }) d))
  (movingTenants d).foldl (fun d t => trigger 4 t d) d

/-- What a lane test observed is what R321 gives the lane. -/
def laneOk (a : LaneAnswer) : Bool :=
  let (g, o, r) := laneKatExpected a.lane
  decide (a.galois = g) && decide (a.outputs = o) && decide (a.s0 = r.s0) && decide (a.s1 = r.s1)

/-- READMISSION_TEST_DONE: the test passes, fails, or is stopped because a service request needs the collar to stop. A lane
mismatch raises LANE_KAT and a failed tile test raises TILE_KAT (R322, Table 16-1). -/
def readmissionDone (site : SiteId) (tileOk : Bool) (lanes : List LaneAnswer) (stopped : Bool) (d : Device) : Device :=
  if (d.site site.val).bad = some .testing then
    let fence := recordMap (modSite site.val (fun x => { x with bad := some .fenced }) d)
    if stopped then fence
    else if tileOk && lanes.all laneOk then returnSite site.val d
    else
      let d := if tileOk then fence else occur 35 site.val none fence
      if lanes.all laneOk then d else occur 36 site.val none d
  else d

/-! ### Mesh links (R157 to R159) -/

/-- A link is cut at once: it is counted, a build that uses it is abandoned, and the tenants that use it get detours. -/
def cutLink (l : Nat) (d : Device) : Device :=
  if (d.link l).cut then d
  else
    let uses := match d.fabric.build with
      | some b => (match b.built with | some e => e.links.contains l | none => false)
      | none => false
    let d := bump .cutLinks 0 (modLink l (fun x => { x with cut := true, planned := false }) d)
    let d := if uses then abandonBuild d else d
    let hit := allTenants.filter fun t => (d.tenant t).isOpen && (d.tenant t).epoch.links.contains l
    startBuild (hit.foldl (fun d t => trigger 2 t d) d)

/-- MESH_UNCORR on a direction of a link: the step of the tenant that owns the beat is invalidated; the second within 24 hours
cuts the link. -/
def meshUncorr (l dir : Nat) (t : TenantId) (d : Device) : Device :=
  if checkInverted d 16 then injectedError 16 (2 * l + dir) (some t) 0x02 d
  else
    let d := invalidate t 0x02 (some 16) (occur 16 (2 * l + dir) (some t) d)
    let d := modLink l (fun x => { x with uncorrected := d.now :: recent d day x.uncorrected }) d
    if 2 ≤ (d.link l).uncorrected.length then cutLink l d else d

/-- A corrected beat: counted for its link and charged to the step; the 1,024th within an hour plans a cut (R157, R159). -/
def meshCorrected (t : TenantId) (l : Nat) (d : Device) : Device :=
  let d := chargeCorrected (some t) (bump .linkCorrected l (bump .meshCorrected 0 d))
  let d := modLink l (fun x => { x with corrected := d.now :: recent d hour x.corrected }) d
  if 1024 ≤ (d.link l).corrected.length && !(d.link l).cut && !(d.link l).planned then
    let d := modLink l (fun x => { x with planned := true }) d
    (allTenants.filter fun t => (d.tenant t).isOpen && (d.tenant t).epoch.links.contains l).foldl (fun d t => trigger 4 t d) d
  else d

/-! ### The frame gate (R160 to R169) -/

/-- A vtile at a span index that this module carries and the tenant owns. -/
def ownsVtile (d : Device) (t : TenantId) (v : VtileRef) : Bool :=
  decide (tenantOfVtile d v.vtile.val = some t) && carriesIndex d v.span.val

/-- The block of an elidable slot is looked up in its vtile's cache area: a hit takes no tier access; a miss is fetched, and kept
when its unit is marked and the area has room (R242, R243). -/
def cacheLookup (t : TenantId) (v : VtileRef) (id off n : Nat) (d : Device) : Device :=
  let x := d.tenant t
  let b := (vtNum v, id, off, n)
  if x.cacheBlocks.contains b then bump .cacheHits t.val d
  else
    let held := ((x.cacheBlocks.filter fun c => decide (c.1 = vtNum v)).map fun c => pageBytes c.2.2.2).sum
    let room := ((runDecl d t).map (·.cacheBytes)).getD 0
    let marked := x.units.any fun u => u.cached && decide (u.tensor = id) && decide (u.index = off / unitBytes)
    let d := bump .cacheMisses t.val d
    if marked && decide (held + pageBytes n ≤ room) then modTenant t (fun x => { x with cacheBlocks := b :: x.cacheBlocks }) d else d

/-- The bytes that leave the source of a slot, which must lie in the tenant's own vtiles or tensors. -/
def slotSource (t : TenantId) (e : SlotEnd) (n : Nat) (d : Device) : Option (List Byte) × Device :=
  match e with
  | .spad v a =>
    if ownsVtile d t v && decide (a + n ≤ 2 ^ 19) then (some (spadRead d v a n), spadChecked v t d) else (none, d)
  | .tensor id off =>
    match findTensor d t id with
    | none => (none, d)
    | some x =>
      if off + n ≤ x.size then
        (let r := readFree x off n (lostRead t id off n (countAccess t id off n d))
         (some r.1, r.2))
      else (none, d)
  | .remote .. => (none, d)

/-- The bytes of a slot land at its destination (R86: unchanged), or leave as SLOT_DATA in class 0 for another module (R461,
R469). -/
def slotLand (t : TenantId) (e : SlotEnd) (bs : List Byte) (d : Device) : Device :=
  match e with
  | .spad v a => if ownsVtile d t v && decide (a + bs.length ≤ 2 ^ 19) then spadWrite v t a bs d else d
  | .tensor id off =>
    match findTensor d t id with
    | some x => if off + bs.length ≤ x.size ∧ x.mode ≠ .readOnly then stepWrite t id off bs d else d
    | none => d
  | .remote i slot off => sendData i.val (2 * t.val) slot .slotData [slot, off] bs d

/-- One slot moves its block in a frame, and the waits on the slots that it completes can end. -/
def moveSlot (t : TenantId) (m : SlotMove) (d : Device) : Device :=
  let d := match m.elidable, m.src, m.dst with
    | true, .tensor id off, .spad v _ => cacheLookup t v id off m.len d
    | _, _, _ => d
  let (bs, d) := slotSource t m.src m.len d
  let d := match bs with | some bs => slotLand t m.dst bs d | none => d
  modTenant t (fun x => { x with landed := x.landed ++
    (m.done.map fun q => vtNum q.1 * 65536 + q.2).filter fun s => !x.landed.contains s }) d

/-- Hold cycles from the cycle, counted from the end of the frame before, in which the last of some conditions became true
(R164). -/
def holdCycles (cs : List Int) : Nat := (cs.foldl max (-48) + 48).toNat

/-- The frame-hold watchdog expires (R167). -/
def frameHoldEvent (t : TenantId) (unmet : Nat) (d : Device) : Device :=
  let d := modTenant t (fun x => { x with gateUnmet := some unmet }) d
  occur 48 t.val (some t) (bump .frameHoldEvents t.val d)

/-- FRAME_GATE_OPEN: the gate of a tenant opens once every precondition that the frame needs is posted. `c1` to `c4` are the grid
cycles, counted from the end of the frame before, in which the four conditions of R163 became true. The frame's slots then
move their blocks in the order of their landings; `corrected` names the link of each corrected beat. -/
def frameGateOpen (t : TenantId) (needs : List (VtileRef × Nat)) (c1 c2 c3 c4 : Int) (moves : List SlotMove)
    (corrected : List Nat) (d : Device) : Device :=
  let codes := needs.map fun q => vtNum q.1 * 65536 + q.2
  let x := d.tenant t
  if d.inStep t && codes.all x.posted.contains then
    let last := [c1, c2, c3, c4].foldl max (-48)
    let hold := holdCycles [c1, c2, c3, c4]
    let first := (([c1, c2, c3, c4].map fun c => decide ((2 : Int) ^ 24 < c)).takeWhile (!·)).length
    let d := if decide ((2 : Int) ^ 24 < last) && x.gateUnmet.isNone then frameHoldEvent t first d else d
    let d := bumpBy .holdCycles t.val hold (bumpBy .holdFrames t.val (if 0 < hold then 1 else 0) (bump .frames t.val d))
    let d := modStep t (fun s => { s with hold := s.hold + hold }) d
    let d := if holdCycles [c1, c4] < hold then setFlag t 4 d else d
    let d := modTenant t (fun x => { x with
      frames := x.frames + 1, gateUnmet := none, posted := x.posted.filter fun s => !codes.contains s }) d
    let d := corrected.foldl (fun d l => meshCorrected t l d) d
    let d := if checkInverted d 16 && !moves.isEmpty then
        injectedError 16 (2 * ((d.tenant t).epoch.links.headD 0)) (some t) 0x02 d else d
    moves.foldl (fun d m => moveSlot t m d) d
  else d

/-- FRAME_HOLD: the gate has stayed closed for 2^24 grid cycles and still waits for a condition; none when the last one becomes
true in the same cycle (R168). -/
def frameHold (t : TenantId) (unmet : Option (Fin 4)) (d : Device) : Device :=
  match unmet with
  | none => d
  | some k => if d.inStep t && (d.tenant t).gateUnmet.isNone then frameHoldEvent t k.val d else d

/-! ### In-transit reductions (R147 to R153, R170 to R172) -/

/-- Width in bytes of an element. -/
def reduceBytes : ReduceKind → Nat
  | .int64 => 8
  | _ => 4

/-- The sum of two operands of a node, with the overflow mark of the reduction (R152, R153, R172). FP32 elements are bit
patterns; integer elements are exact values. -/
def addOperands (k : ReduceKind) (a b : Bool × List Int) : Bool × List Int :=
  match k with
  | .fp32 => (false, (a.2.zip b.2).map fun p => ((add32 (BitVec.ofInt 32 p.1) (BitVec.ofInt 32 p.2)).toNat : Int))
  | _ =>
    let rs := (a.2.zip b.2).map fun p => addNode (8 * reduceBytes k) (p.1, false) (p.2, false)
    (a.1 || b.1 || rs.any (·.2), rs.map (·.1))

/-- An element of the result as the destination stores it: clamped when the reduction is marked (R153, R172). -/
def resultElement (k : ReduceKind) (mark : Bool) (x : Int) : Nat :=
  match k with
  | .fp32 => (BitVec.ofInt 32 x).toNat
  | _ => (BitVec.ofInt (8 * reduceBytes k) (nodeResult (8 * reduceBytes k) (x, mark)).1).toNat

/-- The result of a reduction reaches its destination vtile; an overflow is counted once. -/
def deliverSum (t : TenantId) (k : ReduceKind) (v : VtileRef) (addr : Nat) (r : Bool × List Int) (d : Device) : Device :=
  let bs := r.2.flatMap fun x => leBytes (reduceBytes k) (resultElement k r.1 x)
  let d := if r.1 then bump .reduceOverflow t.val d else d
  if ownsVtile d t v then slotLand t (.spad v addr) bs d else d

/-- An operand reaches the first node of a path towards the root: it is held until its partner has arrived, and their sum then
goes on to the next node, or to the destination (R150). -/
def climb (t : TenantId) (red : Nat) (k : ReduceKind) (v : VtileRef) (addr : Nat) : List Nat → Bool × List Int → Device → Device
  | [], r, d => deliverSum t k v addr r d
  | node :: up, r, d =>
    match (d.tenant t).held.find? fun h => decide (h.1 = red) && decide (h.2.1 = node) with
    | none => modTenant t (fun x => { x with held := x.held ++ [(red, node, r.1, r.2)] }) d
    | some h =>
      climb t red k v addr up (addOperands k h.2.2 r)
        (modTenant t (fun x => { x with held := x.held.filter fun y => !decide (y = h) }) d)

/-- REDUCTION_OPERAND_ARRIVAL: `path` names the tree nodes from the one that the operand reaches up to the root. -/
def reductionArrival (t : TenantId) (red : Nat) (k : ReduceKind) (path : List Nat) (values : List Int) (v : VtileRef)
    (addr : Nat) (d : Device) : Device :=
  if d.inStep t then climb t red k v addr path (false, values) d else d

/-! ### Meanings -/

/-- READMISSION_TEST. -/
def execReadmissionTest (site : SiteId) (s : State) : Host.Outcome State Fault Refusal := done s (readmissionTest site s.dev)

/-- READMISSION_TEST_DONE. -/
def execReadmissionTestDone (site : SiteId) (tileOk : Bool) (lanes : List LaneAnswer) (stopped : Bool) (s : State) :
    Host.Outcome State Fault Refusal := done s (readmissionDone site tileOk lanes stopped s.dev)

/-- SCRUB_ACCESS. -/
def execScrubAccess (site : SiteId) (r : ScrubResult) (s : State) : Host.Outcome State Fault Refusal :=
  done s (scrubAccess site r s.dev)

/-- SPAD_UNCORR. -/
def execSpadUncorr (v : VtileId) (s : State) : Host.Outcome State Fault Refusal := done s (spadUncorr v s.dev)

/-- TILE_CORE_FAULT. -/
def execTileCoreFault (site : SiteId) (s : State) : Host.Outcome State Fault Refusal := done s (tileCoreFault site s.dev)

/-- COLLAR_FAULT. -/
def execCollarFault (site : SiteId) (s : State) : Host.Outcome State Fault Refusal := done s (collarFault site s.dev)

/-- MESH_UNCORR: link id site × 2 + d, and the direction of the beat on it. -/
def execMeshUncorr (link : Fin 19200) (dir : Fin 2) (t : TenantId) (s : State) : Host.Outcome State Fault Refusal :=
  done s (meshUncorr link.val dir.val t s.dev)

/-- REDUCTION_OPERAND_ARRIVAL. -/
def execReductionOperandArrival (t : TenantId) (red : Nat) (kind : ReduceKind) (path : List Nat) (values : List Int)
    (v : VtileRef) (addr : Nat) (s : State) : Host.Outcome State Fault Refusal :=
  done s (reductionArrival t red kind path values v addr s.dev)

/-- FRAME_GATE_OPEN. -/
def execFrameGateOpen (t : TenantId) (needs : List (VtileRef × Nat)) (c1 c2 c3 c4 : Int) (moves : List SlotMove)
    (corrected : List Nat) (s : State) : Host.Outcome State Fault Refusal :=
  done s (frameGateOpen t needs c1 c2 c3 c4 moves corrected s.dev)

/-- FRAME_HOLD. -/
def execFrameHold (t : TenantId) (unmet : Option (Fin 4)) (s : State) : Host.Outcome State Fault Refusal :=
  done s (frameHold t unmet s.dev)

end Sys2Proof.Machine
end

