-- ==== Sys2Proof/Machine/Ports.lean ====
section
/-! DEFINITION. The Ridge ports: training, received flits, retry, lane sparing, and the data messages that reach this module (R450
to R476, R486 to R489). -/

namespace Sys2Proof.Machine

open Sys2Proof

/-! ### The cabling that the span configuration names (Table 12-6, Table 12-8) -/

/-- SERIAL of a span index in the record. -/
def recordSerial (d : Device) (i : Nat) : BitVec 128 := BitVec.ofNat 128 (leAt d.span.record (32 + 32 * i) 16)

/-- The span indices that the record gives to a serial number, ascending. -/
def recordIndices (d : Device) (s : BitVec 128) : List Nat :=
  (List.range (min 16 (spanSize d))).filter fun i => decide (recordSerial d i = s)

/-- PORT_MASK of this module. -/
def ownPorts (d : Device) : Nat := leAt d.span.record (32 + 32 * ((recordIndices d d.boot.serial).headD 16) + 16) 1

/-- The side on which a port is cabled: down or x − 1, up or x + 1, y − 1, y + 1. -/
def portSide (topology p : Nat) : Nat := if topology = 2 then p / 2 else p / 4

/-- The span index next to one on a side. -/
def sideStep (topology n a side : Nat) : Option Nat :=
  if topology = 0 then (if side = 0 then (if a = 0 then none else some (a - 1)) else if a + 1 < n then some (a + 1) else none)
  else if topology = 1 then some (if side = 0 then (a + n - 1) % n else (a + 1) % n)
  else
    let x := a % 4
    let y := a / 4
    some (if side = 0 then y * 4 + (x + 3) % 4 else if side = 1 then y * 4 + (x + 1) % 4
      else if side = 2 then (y + 3) % 4 * 4 + x else (y + 1) % 4 * 4 + x)

/-- The first index on a side that this module does not carry. -/
def sideNeighbour (d : Device) (own : List Nat) (side : Nat) : Nat → Nat → Option Nat
  | 0, _ => none
  | k + 1, a =>
    (sideStep d.span.topology (spanSize d) a side).bind fun b =>
      if own.contains b then sideNeighbour d own side k b else some b

/-- The index that the record puts at the far end of a port. -/
def expectedPeer (d : Device) (p : PortId) : Option Nat :=
  let own := recordIndices d d.boot.serial
  sideNeighbour d own (portSide d.span.topology p.val) 16 (own.headD 0)

/-- A peer's serial number and port are those of the cabled port that the record names (R472). -/
def cablingRight (d : Device) (p : PortId) (serial : BitVec 128) (peerPort : Nat) : Bool :=
  match expectedPeer d p with
  | some i =>
    decide (recordSerial d i = serial) &&
      decide (portSide d.span.topology peerPort = portSide d.span.topology p.val + 1 - 2 * (portSide d.span.topology p.val % 2))
  | none => false

/-! ### Events on a port -/

/-- Tenants bound to the span with a step in progress. -/
def boundInStep (d : Device) : List TenantId := allTenants.filter fun t => d.inStep t && spanBound d t

/-- A retry, retrain, lane swap or half width touches the steps bound to the span (Table 13-4). -/
def noteRidge (d : Device) : Device := (boundInStep d).foldl (fun d t => setFlag t 5 d) d

/-- Good lanes of a port, ascending. -/
def goodLanes (r : Ridge) : List Nat := (List.range 22).filter fun l => !r.badLanes.getLsbD l

/-- Good unused lanes. -/
def spareLanes (r : Ridge) : List Nat :=
  (goodLanes r).filter fun l => !r.lanes.contains l && !r.erasures.contains l && !(r.swaps.any fun s => decide (s.spare = l) && !s.taken)

/-- A lane retired. -/
def retireLane (l : Nat) (r : Ridge) : Ridge := { r with badLanes := r.badLanes ||| (1#22 <<< l) }

/-- The port is fenced: it goes idle and RIDGE_LINK_DOWN is raised (R476). -/
def fencePort (p : PortId) (d : Device) : Device :=
  occur 19 p.val none (modPort p (fun r => { r with state := .fenced, activeLanes := 0, swaps := [], copies := [], retrainReq := none }) d)

/-- The port leaves ACTIVE to retrain warm, with its buffers kept, and asks its peer to (R464, R475). -/
def enterRetrain (p : PortId) (cause width : Nat) (tell : Bool) (d : Device) : Device :=
  if (d.port p).state ≠ .active then d
  else
    let d := if tell then putLink p [5, 0, BitVec.ofNat 8 cause, BitVec.ofNat 8 width] d else d
    let d := modPort p (fun r => { r with
      state := .retrain, since := d.now, warmTry := true, retrainReq := some (cause, width), swaps := [], copies := [] }) d
    noteRidge (bump .ridgeRetrains p.val d)

/-! ### Training (R470 to R472) -/

/-- The Caddy holds coefficients for a port with the peer that the record expects. -/
def coeffsFor (d : Device) (p : PortId) : Bool :=
  match expectedPeer d p with
  | none => false
  | some i => d.coeffs.any fun c =>
      decide (c.port = p.val) && decide (c.serial = recordSerial d i) && cablingRight d p c.serial c.peerPort

/-- PRESENCE_DETECT: a peer present on at least 10 lanes starts training, warm when coefficients are stored; in recovery
mode those of its port serve (R710). -/
def presenceDetect (p : PortId) (lanes : Nat) (d : Device) : Device :=
  if (d.port p).state = .detect ∧ 10 ≤ lanes then
    modPort p (fun r => { r with state := .equalise, since := d.now, warmTry := coeffsFor d p || (recovering d && d.coeffs.any fun c => decide (c.port = p.val)) }) d
  else d

/-- The port is being trained. -/
def Ridge.training (r : Ridge) : Bool := decide (r.state = .equalise) || decide (r.state = .align) || decide (r.state = .retrain)

/-- SPAN_HELLO of this module (R492): SPAN_ID, digest, indices, firmware version, levels, the next step of every run bound to the
span, and module time. -/
def helloArgs (d : Device) : List Nat × List Byte :=
  let i := runningImage d
  let runs := allTenants.filterMap fun t =>
    match (d.tenant t).runId with
    | some r => if spanBound d t then some (r, (d.tenant t).nextStep) else none
    | none => none
  let mask := ((recordIndices d d.boot.serial).map (2 ^ ·)).sum
  ([leAt d.span.record 0 4, 0, leAt d.span.record 0 8, mask, i.version.major, i.version.minor, i.version.patch, i.version.build,
    i.arith, i.iface, moduleTime d] ++ runs.flatMap fun r => [r.1, r.2], bytes16 d.span.digest)

/-- SPAN_HELLO leaves over a port. -/
def sendHello (p : PortId) (d : Device) : Device :=
  let (args, body) := helloArgs d
  sendMessage p ((recordIndices d d.boot.serial).headD 0) 0 none .spanHello args body d

/-- What both ends report at the end of a training (R472). -/
def trained (p : PortId) (serial : BitVec 128) (peerPort iface : Nat) (lanes : List Nat) (sideband : Bool) (d : Device) : Device :=
  let r := d.port p
  let again := decide (r.state = .retrain)
  let ok := cablingRight d p serial peerPort
  let idx := (recordIndices d serial).headD 0
  let d := modPort p (fun r => { r with
    state := .active, warm := r.warmTry, sideband := sideband, peerSerial := serial, peerPort := peerPort, peerIndex := idx
    peerIface := iface, cablingOk := ok, activeLanes := lanes.length, lanes := lanes, erasures := [], swaps := [], copies := []
    undriven := [], retrainReq := none, nak := none, nakSeen := (0, 0) }) d
  let d := if again then d else modPort p (fun r => { r with
    credits := initCredits d, lastCredit := Vector.replicate 10 0, freed := Vector.replicate 10 0, side := (false, 0)
    txSeq := 0, rxSeq := 0, txq := [], sentMgmt := [], replay := [], rxMsg := Vector.replicate 9 [], opBufs := [], operands := [] }) d
  let d := journal kCoeffs p.val { d with coeffs :=
    { port := p.val, serial := serial, peerPort := peerPort } :: d.coeffs.filter fun c => !decide (c.port = p.val) }
  let d := if lanes.length = 10 ∧ r.activeLanes ≠ 10 then occur 20 p.val none d else d
  let d := if sideband then d else occur 21 p.val none d
  let d := (d.port p).replay.foldl (fun d f => putFlit p f d) d
  let d := if d.span.forming.isSome then sendHello p d else d
  pump p d

/-- TRAINING_COMPLETE: `bad` names the lanes that did not train. The port goes ACTIVE on 20 good lanes, or on 10 when fewer are
left or half width was asked for; with fewer than 10 it is fenced (R475, R476). -/
def trainingComplete (p : PortId) (serial : BitVec 128) (peerPort iface : Nat) (bad : List Nat) (sideband : Bool) (d : Device) :
    Device :=
  let r := d.port p
  if !r.training then d
  else
    let d := modPort p (fun r => bad.foldl (fun r l => retireLane l r) r) d
    let good := goodLanes (d.port p)
    let half := good.length < 20 || (match r.retrainReq with | some (_, w) => decide (w = 10) | none => false)
    if good.length < 10 then fencePort p d
    else trained p serial peerPort iface (good.take (if half then 10 else 20)) sideband d

/-- WARM_TRAINING_TIMEOUT: after 20 ms the port trains cold. -/
def warmTimeout (p : PortId) (d : Device) : Device :=
  let r := d.port p
  if r.training && r.warmTry then
    let d := advanceTo (r.since + 20 * ms) d
    modPort p (fun r => { r with warmTry := false, since := d.now }) d
  else d

/-- COLD_TRAINING_TIMEOUT: after 500 ms the port goes DOWN, or is fenced when it retrained. -/
def coldTimeout (p : PortId) (d : Device) : Device :=
  let r := d.port p
  if r.training && !r.warmTry then
    let d := advanceTo (r.since + 500 * ms) d
    if r.state = .retrain then fencePort p d
    else occur 19 p.val none (modPort p (fun r => { r with state := .down, activeLanes := 0 }) d)
  else d

/-! ### Received flits (R451 to R463) -/

/-- Symbols of a codeword that the erasure lanes carry (R450, R452, R475). -/
def erasedSymbols (r : Ridge) : Nat :=
  let n := r.lanes.length
  ((List.range n).map fun i =>
    if r.erasures.contains (r.lanes.getD i 22) then (if n = 10 then (if i < 4 then 55 else 54) else if i < 4 then 28 else 27) else 0).sum

/-- An ACK covers the sequenced flits before its SEQ. -/
def takeAck (seq : Nat) (r : Ridge) : Ridge :=
  if decide (seq = r.txSeq) || (r.replay.any fun f => decide (f.seq = seq)) then
    { r with replay := r.replay.dropWhile fun f => !decide (f.seq = seq) }
  else r

/-- A CREDIT adds what has been freed on its channel since the last one. -/
def takeCredit (ch : Fin 10) (v : Nat) (r : Ridge) : Ridge :=
  { r with
    credits := vmod r.credits ch (· + (v + 1024 - (r.lastCredit[ch.val]'ch.isLt) % 1024) % 1024)
    lastCredit := vset r.lastCredit ch v }

/-- The side field of a flit is taken (Table 12-3). -/
def takeSide (head : Nat) (r : Ridge) : Ridge :=
  if bitAt head 14 then
    (if h : field head 10 4 < 10 then takeCredit ⟨field head 10 4, h⟩ (field head 0 10) r else r)
  else takeAck (field head 0 12) r

/-- A NAK for the expected SEQ leaves, on the first discard. -/
def sendNak (p : PortId) (d : Device) : Device :=
  let r := d.port p
  if r.nak.isSome then d
  else
    let d := putLink p ([1, 0] ++ leBytes 2 r.rxSeq) (modPort p (fun r => { r with nak := some (r.rxSeq, 1) }) d)
    noteRidge (bump .ridgeNaks p.val d)

/-- A link-control message is one of R458 with its lanes and width in range. -/
def linkOk (b : List Byte) : Bool :=
  let k := leAt b 0 1
  let lanes := decide (leAt b 2 1 ≤ 21) && decide (leAt b 3 1 ≤ 21)
  decide (k = 1) || ((decide (k = 2) || decide (k = 3) || decide (k = 4)) && lanes) ||
    (decide (k = 5) && (decide (leAt b 3 1 = 10) || decide (leAt b 3 1 = 20)))

/-- A whole message has come on a channel: an unknown KIND, or one on the wrong flit type, is discarded and counted; one for an
index that this module does not carry is forwarded (R461, R479). The effect of any other comes as the row of its KIND. -/
def messageIn (p : PortId) (ch : Nat) (msg : List Byte) (d : Device) : Device :=
  let kind := leAt msg 0 1
  let dst := leAt msg 1 1 / 16
  if !(if ch = 8 then mgmtKinds else dataKinds).contains kind then bump .protoErrors p.val d
  else if d.span.formed && !isOwn d dst && decide (dst < spanSize d) then
    let vc := if ch = 8 then none else some ch
    let q := if ch = 8 then (routeTo d dst).head? else (routeTo d dst)[(leAt msg 8 4 + ch) % (routeTo d dst).length]?
    match q with
    | some q => queueBytes q vc msg d
    | none => d
  else d

/-- The payload of an accepted flit joins the message of its channel. -/
def assemble (p : PortId) (ch : Fin 9) (payload : List Byte) (d : Device) : Device :=
  let bs := (d.port p).rxMsg[ch.val]'ch.isLt ++ payload
  let total := 16 + leAt bs 4 4
  let done := decide (total ≤ bs.length)
  let d := modPort p (fun r => { r with rxMsg := vset r.rxMsg ch (if done then [] else bs) }) d
  if done then messageIn p ch.val (bs.take total) d else d

/-- A sequenced flit in order: it is accepted, its buffer is freed on the credit channel that it took, unless it belongs to a
reduction operand that waits in the buffer (R466, R487), and its payload is taken. -/
def acceptFlit (p : PortId) (mgmt : Bool) (vc : Fin 8) (credit : Fin 10) (payload : List Byte) (d : Device) : Device :=
  let ch : Fin 9 := if mgmt then 8 else ⟨vc.val, by omega⟩
  let first := (d.port p).rxMsg[ch.val]'ch.isLt ++ payload
  let keeps := !mgmt && decide (leAt first 0 1 = 2)
  let d := modPort p (fun r => { r with
    rxSeq := (r.rxSeq + 1) % 4096, nak := none
    freed := if keeps then r.freed else vmod r.freed credit (fun n => (n + 1) % 1024)
    opBufs := if keeps then r.opBufs ++ [(vc.val, credit.val)] else r.opBufs }) d
  let d := if mgmt then d else bump .ridgeFlits (vc.val / 2 + 4 * (8 + 2 * p.val + 1)) d
  assemble p ch payload d

/-- FLIT_RECEIVED: `errors` gives the symbol errors, erasures apart, of each codeword that the flit overlaps and that no flit before
it did; `credit` is the channel of the buffer that the flit takes. -/
def flitReceived (p : PortId) (bytes : List Byte) (errors : List Nat) (credit : Fin 10) (d : Device) : Device :=
  let r := d.port p
  if r.state ≠ .active then d
  else
    let e := erasedSymbols r
    let good := errors.filter fun t => decide (2 * t + e ≤ 30)
    let d := bumpBy .ridgeCorrected p.val (good.map (· + e)).sum d
    let d := bumpBy .ridgeUncorrCw p.val (errors.length - good.length) d
    let fails := decide (good.length < errors.length) || !decide (crc32 (fit 252 bytes) = leAt bytes 252 4)
    if fails then sendNak p (bump .ridgeCrcFails p.val d)
    else
      let head := leAt bytes 0 4
      let type := field head 30 2
      let d := modPort p (takeSide head) d
      let d :=
        if type = flitIdle then d
        else if type = flitLink then (if linkOk (slice bytes 4 8) then d else bump .protoErrors p.val d)
        else if field head 15 12 = r.rxSeq then
          acceptFlit p (decide (type = flitMgmt)) ⟨field head 27 3, Nat.mod_lt _ (by decide)⟩ credit (slice bytes 4 248) d
        else sendNak p d
      pump p d

/-! ### Retry (R462 to R464) -/

/-- NAK: every flit from the named SEQ on is sent again; 16 NAKs that name the same SEQ make the port retrain. -/
def nakReceived (p : PortId) (seq : Nat) (d : Device) : Device :=
  let r := d.port p
  if r.state ≠ .active then d
  else
    let n := if r.nakSeen.1 = seq then r.nakSeen.2 + 1 else 1
    let d := modPort p (fun r => { takeAck seq r with nakSeen := (seq, n) }) d
    if 16 ≤ n then enterRetrain p 0 r.activeLanes false d
    else
      let again := (d.port p).replay
      let d := again.foldl (fun d f => putFlit p f d) d
      let d := (again.filter fun f => !f.mgmt).foldl (fun d f =>
        match tenantOf (f.vc / 2) with
        | some t => modStep t (fun s => if s.started then { s with retries := s.retries + 1 } else s) d
        | none => d) d
      pump p (noteRidge d)

/-- NAK_REPEAT: the NAK is sent again every 2 µs while the expected SEQ has not come; the sixteenth makes the port retrain. -/
def nakRepeat (p : PortId) (d : Device) : Device :=
  let r := d.port p
  match r.nak with
  | none => d
  | some (seq, n) =>
    if r.state ≠ .active then d
    else
      let d := putLink p ([1, 0] ++ leBytes 2 seq) (modPort p (fun r => { r with nak := some (seq, n + 1) }) d)
      let d := bump .ridgeNaks p.val d
      if 16 ≤ n + 1 then enterRetrain p 0 r.activeLanes true d else d

/-! ### Lane sparing (R473 to R476) -/

/-- LANE_SWAP_REQ for a lane leaves. -/
def askSwap (p : PortId) (failing spare : Nat) : Device → Device := putLink p [2, 0, BitVec.ofNat 8 failing, BitVec.ofNat 8 spare]

/-- LANE_FAILURE: an active lane becomes an erasure lane and the lowest-numbered good spare is to replace it; without one the port
retrains at half width, and with fewer than 10 good lanes it is fenced. A spare that fails is retired. -/
def laneFailure (p : PortId) (lane : Nat) (d : Device) : Device :=
  let r := d.port p
  if r.state ≠ .active || r.erasures.contains lane || r.badLanes.getLsbD lane then d
  else if !r.lanes.contains lane then
    let d := modPort p (retireLane lane) d
    match r.swaps.find? fun s => decide (s.spare = lane) && !s.taken with
    | none => d
    | some s =>
      (match spareLanes (d.port p) with
       | q :: _ =>
         askSwap p s.failing q (modPort p (fun r => { r with
           swaps := r.swaps.filter (fun x => !decide (x = s)) ++ [{ failing := s.failing, spare := q }] }) d)
       | [] =>
         let d := modPort p (fun r => retireLane s.failing { r with swaps := r.swaps.filter fun x => !decide (x = s) }) d
         if (goodLanes (d.port p)).length < 10 then fencePort p d else enterRetrain p 1 10 true d)
  else
    let d := noteRidge (modPort p (fun r => { r with erasures := r.erasures ++ [lane] }) d)
    match spareLanes (d.port p) with
    | q :: _ => askSwap p lane q (modPort p (fun r => { r with swaps := r.swaps ++ [{ failing := lane, spare := q }] }) d)
    | [] =>
      let d := modPort p (retireLane lane) d
      if (goodLanes (d.port p)).length < 10 then fencePort p d else enterRetrain p 1 10 true d

/-- LANE_ACK of a message leaves. -/
def answerLane (p : PortId) (kind failing spare : Nat) : Device → Device :=
  putLink p [4, 0, BitVec.ofNat 8 failing, BitVec.ofNat 8 spare, BitVec.ofNat 8 kind]

/-- LANE_SWAP_REQ received: the failing lane's symbols go onto the spare as well. -/
def laneSwapReq (p : PortId) (failing spare : Nat) (d : Device) : Device :=
  if (d.port p).state ≠ .active then d
  else answerLane p 2 failing spare (modPort p (fun r => { r with
    copies := r.copies.filter (fun c => !decide (c.1 = failing)) ++ [(failing, spare)] }) d)

/-- LANE_SWAP_DONE received: the failing lane is driven no more, and is retired. -/
def laneSwapDone (p : PortId) (failing spare : Nat) (d : Device) : Device :=
  if (d.port p).state ≠ .active then d
  else answerLane p 3 failing spare (modPort p (fun r => retireLane failing { r with
    copies := r.copies.filter fun c => !decide (c = (failing, spare))
    undriven := if r.undriven.contains failing then r.undriven else failing :: r.undriven }) d)

/-- LANE_ACK received: the message that it answers is repeated no more. -/
def laneAck (p : PortId) (kind failing spare : Nat) (d : Device) : Device :=
  modPort p (fun r => { r with swaps :=
    if kind = 2 then r.swaps.map fun s => if s.failing = failing ∧ s.spare = spare then { s with acked := true } else s
    else if kind = 3 then r.swaps.filter fun s => !(decide (s.failing = failing) && decide (s.spare = spare) && s.taken)
    else r.swaps }) d

/-- SPARE_DESKEW: at the alignment block after the copies have begun. -/
def spareDeskew (p : PortId) (d : Device) : Device :=
  modPort p (fun r => { r with swaps := r.swaps.map fun s => if s.acked then { s with deskewed := true } else s }) d

/-- LANE_SWAP_TAKEOVER: at the alignment block after that, each deskewed spare takes the place of its failing lane. -/
def laneTakeover (p : PortId) (d : Device) : Device :=
  let ready := (d.port p).swaps.filter fun s => s.deskewed && !s.taken
  if (d.port p).state ≠ .active || ready.isEmpty then d
  else
    let d := ready.foldl (fun d s =>
      let d := modPort p (fun r => retireLane s.failing { r with
        lanes := r.lanes.map fun l => if l = s.failing then s.spare else l
        erasures := r.erasures.filter fun l => !decide (l = s.failing)
        swaps := r.swaps.map fun x => if x = s then { x with taken := true } else x }) d
      putLink p [3, 0, BitVec.ofNat 8 s.failing, BitVec.ofNat 8 s.spare] (bump .laneSwaps p.val d)) d
    noteRidge d

/-- RETRAIN_REQ received: the port retrains at the width asked for. -/
def retrainReq (p : PortId) (cause width : Nat) (d : Device) : Device :=
  if width = 10 ∨ width = 20 then enterRetrain p cause width false d else bump .protoErrors p.val d

/-- LINK_MESSAGE_REPEAT: every LANE_SWAP_REQ and LANE_SWAP_DONE without its LANE_ACK is sent again. -/
def linkRepeat (p : PortId) (d : Device) : Device :=
  if (d.port p).state ≠ .active then d
  else (d.port p).swaps.foldl (fun d s =>
    if s.taken then putLink p [3, 0, BitVec.ofNat 8 s.failing, BitVec.ofNat 8 s.spare] d
    else if s.acked then d else askSwap p s.failing s.spare d) d

/-! ### Data messages (R461, R486 to R489) -/

/-- SLOT_DATA: data land at a destination slot of this module; the last of them completes the slot, and halo values can be
scattered from then on (R162, R406). -/
def slotData (t : TenantId) (dst : SlotEnd) (bytes : List Byte) (done : List (VtileRef × Nat)) (model : Nat) (halo : Option HaloMsg)
    (d : Device) : Device :=
  let d := slotLand t dst bytes d
  let d := match halo with
    | some h => landHalos t model h.colour.val [h] d
    | none => d
  modTenant t (fun x => { x with landed := x.landed ++
    (done.map fun q => vtNum q.1 * 65536 + q.2).filter fun s => !x.landed.contains s }) d

/-- Buffers are freed on their credit channels. -/
def freeBufs (p : PortId) (bufs : List Nat) (d : Device) : Device :=
  modPort p (fun r => { r with freed := Vector.ofFn fun c =>
    ((r.freed[c.val]'c.isLt) + (bufs.filter fun b => decide (b = c.val)).length) % 1024 }) d

/-- Bytes of an operand: its elements at their width, or at 96 bits each with the overflow mark (R489). -/
def operandBytes (k : ReduceKind) (r : Bool × List Int) : List Byte :=
  r.2.flatMap fun x => leBytes (if r.1 then 12 else reduceBytes k) (BitVec.ofInt 96 x).toNat

/-- The neighbours of this module in the barrier tree, by their lowest index. -/
def treeNeighbours (d : Device) : List Nat :=
  (if isLeader d then [] else [parentOf d (selfIndex d)]) ++ children d

/-- A sum goes onward to the next node, or, at the root, as REDUCE_RESULT to its destination: an index, or, for 16, every member
along the barrier tree. -/
def sendSum (t : TenantId) (red : Nat) (k : ReduceKind) (up : Option (Nat × Nat × Bool)) (dest : Nat) (r : Bool × List Int)
    (d : Device) : Device :=
  match up with
  | some (i, node, right) => sendData i (2 * t.val) red .reduceOperand [red, node * 2 + b2n right] (operandBytes k r) d
  | none =>
    let bs := operandBytes k r
    if dest < 16 then (if isOwn d dest then d else sendData dest (2 * t.val) red .reduceResult [red, 0] bs d)
    else (treeNeighbours d).foldl (fun d i => sendData i (2 * t.val) red .reduceResult [red, 0] bs d) d

/-- REDUCE_OPERAND: an operand waits in the receive buffer of its port until its tree partner has come; their sum then goes on. -/
def reduceOperand (p : PortId) (t : TenantId) (red node : Nat) (right : Bool) (k : ReduceKind) (mark : Bool) (values : List Int)
    (up : Option (Nat × Nat × Bool)) (dest : Nat) (d : Device) : Device :=
  let r := d.port p
  let vc := 2 * t.val
  let bufs := (r.opBufs.filter fun b => decide (b.1 = vc)).map (·.2)
  let d := modPort p (fun r => { r with opBufs := r.opBufs.filter fun b => !decide (b.1 = vc) }) d
  match r.operands.find? fun o => decide (o.vc = vc) && decide (o.red = red) && decide (o.node = node) && !decide (o.right = right) with
  | none =>
    modPort p (fun r => { r with operands := r.operands ++
      [{ vc := vc, red := red, node := node, right := right, mark := mark, values := values, bufs := bufs }] }) d
  | some o =>
    let a := if right then (o.mark, o.values) else (mark, values)
    let b := if right then (mark, values) else (o.mark, o.values)
    let d := freeBufs p (bufs ++ o.bufs) (modPort p (fun r => { r with operands := r.operands.erase o }) d)
    sendSum t red k up dest (addOperands k a b) d

/-- REDUCE_RESULT: the result reaches its destination here, clamped when it is marked (R153, R489); one for every member goes on
to the other neighbours in the barrier tree. -/
def reduceResult (t : TenantId) (red : Nat) (all : Option Nat) (k : ReduceKind) (mark : Bool) (values : List Int) (v : VtileRef)
    (addr : Nat) (d : Device) : Device :=
  let d := deliverSum t k v addr (mark, values) d
  match all with
  | none => d
  | some src =>
    ((treeNeighbours d).filter fun i => !sameMember d src i).foldl (fun d i =>
      sendData i (2 * t.val) red .reduceResult [red, 0] (operandBytes k (mark, values)) d) d

/-! ### Meanings -/

/-- PRESENCE_DETECT: the lanes on which a peer is present. -/
def execPresenceDetect (p : PortId) (lanes : Fin 23) (s : State) : Host.Outcome State Fault Refusal :=
  done s (presenceDetect p lanes.val s.dev)

/-- TRAINING_COMPLETE. -/
def execTrainingComplete (p : PortId) (serial : BitVec 128) (peerPort : Fin 8) (iface : Nat) (bad : List (Fin 22)) (sideband : Bool)
    (s : State) : Host.Outcome State Fault Refusal :=
  done s (trainingComplete p serial peerPort.val iface (bad.map (·.val)) sideband s.dev)

/-- WARM_TRAINING_TIMEOUT. -/
def execWarmTrainingTimeout (p : PortId) (s : State) : Host.Outcome State Fault Refusal := done s (warmTimeout p s.dev)

/-- COLD_TRAINING_TIMEOUT. -/
def execColdTrainingTimeout (p : PortId) (s : State) : Host.Outcome State Fault Refusal := done s (coldTimeout p s.dev)

/-- FLIT_RECEIVED. -/
def execFlitReceived (p : PortId) (bytes : List Byte) (errors : List Nat) (credit : Fin 10) (s : State) :
    Host.Outcome State Fault Refusal := done s (flitReceived p bytes errors credit s.dev)

/-- NAK. -/
def execNak (p : PortId) (seq : BitVec 12) (s : State) : Host.Outcome State Fault Refusal := done s (nakReceived p seq.toNat s.dev)

/-- NAK_REPEAT. -/
def execNakRepeat (p : PortId) (s : State) : Host.Outcome State Fault Refusal := done s (nakRepeat p s.dev)

/-- LANE_SWAP_REQ. -/
def execLaneSwapReq (p : PortId) (failing spare : Fin 22) (s : State) : Host.Outcome State Fault Refusal :=
  done s (laneSwapReq p failing.val spare.val s.dev)

/-- LANE_SWAP_DONE. -/
def execLaneSwapDone (p : PortId) (failing spare : Fin 22) (s : State) : Host.Outcome State Fault Refusal :=
  done s (laneSwapDone p failing.val spare.val s.dev)

/-- LANE_ACK. -/
def execLaneAck (p : PortId) (kind : BitVec 8) (failing spare : Fin 22) (s : State) : Host.Outcome State Fault Refusal :=
  done s (laneAck p kind.toNat failing.val spare.val s.dev)

/-- RETRAIN_REQ. -/
def execRetrainReq (p : PortId) (cause width : BitVec 8) (s : State) : Host.Outcome State Fault Refusal :=
  done s (retrainReq p cause.toNat width.toNat s.dev)

/-- LINK_MESSAGE_REPEAT. -/
def execLinkMessageRepeat (p : PortId) (s : State) : Host.Outcome State Fault Refusal := done s (linkRepeat p s.dev)

/-- LANE_FAILURE. -/
def execLaneFailure (p : PortId) (lane : Fin 22) (s : State) : Host.Outcome State Fault Refusal := done s (laneFailure p lane.val s.dev)

/-- LANE_SWAP_TAKEOVER. -/
def execLaneSwapTakeover (p : PortId) (s : State) : Host.Outcome State Fault Refusal := done s (laneTakeover p s.dev)

/-- SPARE_DESKEW. -/
def execSpareDeskew (p : PortId) (s : State) : Host.Outcome State Fault Refusal := done s (spareDeskew p s.dev)

/-- SLOT_DATA. -/
def execSlotData (t : TenantId) (dst : SlotEnd) (bytes : List Byte) (done_ : List (VtileRef × Nat)) (model : Nat)
    (halo : Option HaloMsg) (s : State) : Host.Outcome State Fault Refusal :=
  done s (slotData t dst bytes done_ model halo s.dev)

/-- REDUCE_OPERAND: `up` gives the next node with its index and side, none at the root; `dest` the destination, 16 for ALL. -/
def execReduceOperand (p : PortId) (t : TenantId) (red node : Nat) (right : Bool) (kind : ReduceKind) (mark : Bool)
    (values : List Int) (up : Option (SpanIndex × Nat × Bool)) (dest : Fin 17) (s : State) : Host.Outcome State Fault Refusal :=
  done s (reduceOperand p t red node right kind mark values (up.map fun q => (q.1.val, q.2)) dest.val s.dev)

/-- REDUCE_RESULT: `all` names the neighbour from which a result for every member came. -/
def execReduceResult (t : TenantId) (red : Nat) (all : Option SpanIndex) (kind : ReduceKind) (mark : Bool) (values : List Int)
    (v : VtileRef) (addr : Nat) (s : State) : Host.Outcome State Fault Refusal :=
  done s (reduceResult t red (all.map (·.val)) kind mark values v addr s.dev)

end Sys2Proof.Machine
end

