-- ==== Sys2Proof/Machine/Tiers.lean ====
section
/-! DEFINITION. The tier controllers: reads with correction, poison and recovery, retirement, lost stacks and packages, and the
blocks of tier 3 (R250 to R279). -/

namespace Sys2Proof.Machine

open Sys2Proof

/-! ### Devices -/

/-- A stack or package. -/
def tierDev (d : Device) : TierDev → MemDevice
  | .stack s => d.tiers.stackDevs[s.val]'s.isLt
  | .package p => d.tiers.packages[p.val]'p.isLt

/-- A stack or package changed. -/
def modDev (dev : TierDev) (f : MemDevice → MemDevice) (d : Device) : Device :=
  match dev with
  | .stack s => { d with tiers := { d.tiers with stackDevs := vmod d.tiers.stackDevs s f } }
  | .package p => { d with tiers := { d.tiers with packages := vmod d.tiers.packages p f } }

/-- Tier 3 changed. -/
def modT3 (f : Tier3 → Tier3) (d : Device) : Device := { d with tiers := { d.tiers with t3 := f d.tiers.t3 } }

/-- The instance of a stack or package in counter scope 4 and in sources 4 and 6 (Table 15-15). -/
def devInst : TierDev → Nat
  | .stack s => s.val
  | .package p => 16 + p.val

/-- TIER1_UNCORR or TIER2_UNCORR with its instance. -/
def devSource : TierDev → SourceId × Nat
  | .stack s => (1, s.val)
  | .package p => (2, p.val)

/-- Pages of a spare pool (Table 7-1). -/
def sparePool : TierDev → Nat
  | .stack _ => 65536
  | .package _ => 131072

/-- A slot of the controller's wheel, in class 2 by stack or class 3 by tier 2 controller (Table 5-6). -/
def lineSlot (dev : TierDev) (t : TenantId) (others : List TenantId) : Device → Option Device :=
  match dev with
  | .stack s => useSlots 2 s.val t others 1
  | .package p => useSlots 3 (p.val / 4) t others 1

/-! ### Retirement (R254, R255, R258, R273) -/

/-- A page or row begins to be retired: its copy into the spare pool starts. -/
def startRetire (dev : TierDev) (row : Nat) (d : Device) : Device :=
  let m := tierDev d dev
  if m.retired.contains row || m.copying.any (fun c => decide (c.1 = row)) then d
  else modDev dev (fun m => { m with copying := m.copying ++ [(row, d.now)] }) d

/-- A page or row is retired: its pages take spares, and those past the pool's end remove the units that contain them. -/
def retire (dev : TierDev) (row : Nat) (pages : List Nat) (d : Device) : Device :=
  let m := tierDev d dev
  let left := sparePool dev - m.spareUsed
  let gone := ((pages.drop left).map (· / 512)).eraseDups.filter fun u => !m.removed.contains u
  let d := modDev dev (fun m => { m with
    retired := row :: m.retired, spareUsed := m.spareUsed + (pages.take left).length, removed := m.removed ++ gone
    copying := m.copying.filter fun c => !decide (c.1 = row) }) d
  journal kCounters 0 (bump (match dev with | .stack _ => .retiredPages | .package _ => .retiredRows) (devInst dev) d)

/-- RETIREMENT_COPY: the copy of a page or row is done, and its pages are redirected. -/
def retirementCopy (dev : TierDev) (row : Nat) (pages : List Nat) (d : Device) : Device :=
  if (tierDev d dev).copying.any fun c => decide (c.1 = row) then retire dev row pages d else d

/-! ### A stack or package lost (R256, R260, R279) -/

/-- A stack or package is removed from its tier, and TIER_STACK_LOST is raised. -/
def loseDevice (dev : TierDev) (ts : List TenantId) (d : Device) : Device :=
  if (tierDev d dev).health = .lost then d
  else
    let d := modDev dev (fun m => { m with health := .lost, copying := [] }) d
    journal kCounters 0 (occurFor 6 (devInst dev) ts d)

/-- A unit held by a lost stack or package: a read-only copy goes back to its master and is fetched again, which raises
TIER_RECOVERED; a writable unit is lost line by line. -/
def loseUnit (dev : TierDev) (u : TensorAt) (d : Device) : Device :=
  match findTensor d u.tenant u.id with
  | none => d
  | some x =>
    let off := u.off / unitBytes * unitBytes
    if x.mode = .readOnly then
      occur 4 (devInst dev) (some u.tenant)
        (modUnit u.tenant u.id (u.off / unitBytes) (fun r => { r with tier := 3, migrating := none, marked := [] }) d)
    else
      let d := modTensor u.tenant u.id (fun x => { x with lost := (off, unitBytes) :: x.lost }) d
      modDev dev (fun m => { m with poison :=
        { addr := 0, row := 0, tenant := u.tenant.val, tensor := u.id, off := off, len := unitBytes } :: m.poison }) d

/-- TIER_STACK_LOST: `held` names the units that the stack or package held and `mirrors` the carried-state mirrors, by the step
that starts from each. -/
def stackLost (dev : TierDev) (held : List TensorAt) (mirrors : List (TenantId × Nat)) (d : Device) : Device :=
  let d := loseDevice dev (allTenants.filter fun t => held.any fun u => decide (u.tenant = t)) d
  let d := held.foldl (fun d u => loseUnit dev u d) d
  mirrors.foldl (fun d q => modTenant q.1 (fun x => { x with mirrors := x.mirrors.filter fun m => !decide (m.next = q.2) }) d) d

/-- Four distinct pages of a stack with uncorrectable lines within an hour, or an uncorrectable line or a second failed device of
a degraded package, lose it. -/
def checkDevice (dev : TierDev) (uncorrectable : Bool) (d : Device) : Device :=
  let m := tierDev d dev
  let lost : Bool := match dev with
    | .stack _ => decide (4 ≤ ((m.uncorrectable.map (·.2)).eraseDups).length)
    | .package _ => (uncorrectable && decide (m.health = .degraded)) || decide (2 ≤ m.failed.length)
  if lost then loseDevice dev [] d else d

/-! ### Lines of tiers 1 and 2 -/

/-- Pairs whose time lies within a span before now. -/
def recentBy {α : Type} (d : Device) (span : Nat) (l : List (Nat × α)) : List (Nat × α) :=
  l.filter fun q => decide (d.now ≤ q.1 + span)

/-- Corrections of a device of a package: on 256 distinct rows within 24 hours they mark the device failed (R259). -/
def blameDevice (dev : TierDev) (device row : Nat) (d : Device) : Device :=
  match dev with
  | .stack _ => d
  | .package p =>
    let d := modDev dev (fun m => { m with byDevice := (d.now, device, row) :: recentBy d day m.byDevice }) d
    let m := tierDev d dev
    let rows := ((m.byDevice.filter fun q => decide (q.2.1 = device)).map (·.2.2)).eraseDups
    if 256 ≤ rows.length ∧ !m.failed.contains device then
      let d := modDev dev (fun m => { m with
        failed := device :: m.failed, health := if m.health = .good then .degraded else m.health }) d
      checkDevice dev false (occur 5 p.val none (journal kCounters 0 d))
    else d

/-- A controller correction: it is counted, and the eighth of a page or row within 24 hours retires it (R254, R258). -/
def lineCorrected (dev : TierDev) (device row : Nat) (t : Option TenantId) (d : Device) : Device :=
  let d := chargeCorrected t (bump (match dev with | .stack _ => .t1Corrected | .package _ => .t2Corrected) (devInst dev) d)
  let d := modDev dev (fun m => { m with corrections := (d.now, row) :: recentBy d day m.corrections }) d
  let d := if 8 ≤ ((tierDev d dev).corrections.filter fun c => decide (c.2 = row)).length then startRetire dev row d else d
  blameDevice dev device row d

/-- A line is uncorrectable: it is poisoned and its page or row retired. A line of a read-only copy waits for its master; a
line of a writable tensor is lost, and the tier's source raised; a step that read it is invalidated (R274 to R277). -/
def lineUncorrectable (dev : TierDev) (addr row : Nat) (own : Option TensorAt) (byStep : Bool) (d : Device) : Device :=
  let d := bump .poisonedLines (devInst dev) d
  let rec_ : PoisonRec := match own with
    | some o => { addr := addr, row := row, tenant := o.tenant.val, tensor := o.id, off := o.off / 64 * 64 }
    | none => { addr := addr, row := row, tenant := 4, tensor := 0, off := 0 }
  let d := modDev dev (fun m => { m with
    poison := rec_ :: m.poison.filter fun r => !decide (r.addr = addr)
    uncorrectable := (d.now, row) :: recentBy d hour m.uncorrectable }) d
  let d := startRetire dev row d
  let d := match own with
    | none => d
    | some o =>
      (match findTensor d o.tenant o.id with
       | none => d
       | some x =>
         if x.mode = .readOnly then d
         else
           let (src, inst) := devSource dev
           let d := modTensor o.tenant o.id (fun x => { x with lost := (o.off / 64 * 64, 64) :: x.lost }) d
           let d := occur src inst (some o.tenant) d
           if byStep then invalidate o.tenant 0x12 (some src.val) d else d)
  checkDevice dev true d

/-- A line is read: by a step of its tenant, or by the patrol scrub. A check with check-invert on reports an injected error. -/
def readLine (dev : TierDev) (addr row : Nat) (r : LineResult) (own : Option TensorAt) (byStep : Bool) (d : Device) : Device :=
  let (src, inst) := devSource dev
  let t := if byStep then own.map (·.tenant) else none
  if checkInverted d src then injectedError src inst t 0x12 d
  else
    let lost := match own with
      | some o => (match findTensor d o.tenant o.id with | some x => x.rangeLost (o.off / 64 * 64) 64 | none => false)
      | none => false
    if lost then (match own with | some o => if byStep then lostRead o.tenant o.id (o.off / 64 * 64) 64 d else d | none => d)
    else match r with
      | .clean => d
      | .corrected device => lineCorrected dev device row t d
      | .uncorrectable => lineUncorrectable dev addr row own byStep d
      | .tagMismatch =>
        lineUncorrectable dev addr row own byStep
          (occur 80 (match dev with | .stack _ => 1 | .package _ => 2) (own.map (·.tenant)) d)

/-! ### Pages of tier 3 (R262 to R267, R278) -/

/-- TIER3_WEAR is present once the good spare blocks are below 10 % (R265). -/
def noteSpare (spare : Nat) (d : Device) : Device :=
  let d := modT3 (fun x => { x with spare := spare }) d
  if spare < 1000 then condBegin 7 0 none (modT3 (fun x => { x with wearRaised := true }) d) else d

/-- A block is retired (R263). -/
def retireBlock (block spare : Nat) (d : Device) : Device :=
  if d.tiers.t3.retiredBlocks.contains block then d
  else
    let d := modT3 (fun x => { x with retiredBlocks := block :: x.retiredBlocks }) d
    noteSpare spare (journal kCounters 0 (bump .retiredBlocks 0 d))

/-- A tier 3 page is uncorrectable: TIER3_UNCORR is raised, its tensor is damaged, and the step that read it is invalidated. A
page already lost invalidates the step alone. -/
def pageUncorrectable (page : Nat) (own : Option TensorAt) (byStep : Bool) (d : Device) : Device :=
  let d := modT3 (fun x => { x with lost := if x.lost.contains page then x.lost else page :: x.lost }) d
  match own with
  | none => occur 3 0 none d
  | some o =>
    let off := o.off / 4096 * 4096
    let known := match findTensor d o.tenant o.id with | some x => x.rangeLost off 4096 | none => false
    let d := if known then d
      else occur 3 0 (some o.tenant) (modTensor o.tenant o.id (fun x => { x with lost := (off, 4096) :: x.lost }) d)
    if byStep then invalidate o.tenant 0x13 (some 3) d else d

/-- A page is read, with the retries and the stripe rebuild that it took. -/
def readPage (page : Nat) (r : PageResult) (own : Option TensorAt) (byStep : Bool) (d : Device) : Device :=
  let t := if byStep then own.map (·.tenant) else none
  if checkInverted d 3 then injectedError 3 0 t 0x13 d
  else match r with
    | .clean => d
    | .retried n => bumpBy .t3Retries 0 n.val d
    | .rebuilt block spare => retireBlock block spare (bump .t3Rebuilds 0 (bumpBy .t3Retries 0 8 d))
    | .uncorrectable block spare =>
      pageUncorrectable page own byStep (retireBlock block spare (bumpBy .t3Retries 0 8 d))
    | .tagMismatch => pageUncorrectable page own byStep (occur 80 3 (own.map (·.tenant)) d)

/-- TIER_READ: a controller serves an access of a tenant in a slot of its wheel; `others` have work ready as well. One without
a slot goes on waiting. -/
def tierRead (o : TensorAt) (others : List TenantId) (a : TierAccess) (d : Device) : Device :=
  match a with
  | .line dev addr row r =>
    if (tierDev d dev).health = .lost then lostRead o.tenant o.id (o.off / 64 * 64) 64 d
    else (match lineSlot dev o.tenant others d with
      | some d => readLine dev addr row r (some o) true d
      | none => d)
  | .page page r =>
    (match useSlots 4 0 o.tenant others 1 d with
     | some d =>
       readPage page r (some o) true (modT3 (fun x => { x with lastRead := (page, d.now) :: x.lastRead.filter fun q => !decide (q.1 = page) }) d)
     | none => d)

/-- TIER_RECOVERED: the page of a poisoned line of a read-only copy is fetched from the master and written back; the page or row
is retired (R275). -/
def tierRecovered (dev : TierDev) (addr : Nat) (d : Device) : Device :=
  match (tierDev d dev).poison.find? fun r => decide (r.addr = addr) && decide (r.len = 64) with
  | none => d
  | some r =>
    let t := tenantOf r.tenant
    let copy : Bool := match t with
      | some t => (match findTensor d t r.tensor with | some x => decide (x.mode = .readOnly) | none => false)
      | none => false
    if copy then
      let d := modDev dev (fun m => { m with poison := m.poison.filter fun q => !decide (q.addr = addr) }) d
      occur 4 (devInst dev) t (startRetire dev r.row d)
    else d

/-- PATROL_SCRUB: the scrub reads a line in use (R271, R277). -/
def patrolScrub (dev : TierDev) (addr row : Nat) (own : Option TensorAt) (r : LineResult) (d : Device) : Device :=
  if (tierDev d dev).health = .lost then d else readLine dev addr row r own false d

/-- RETENTION_READ: a written page is read within 14 days, and rewritten when its corrected bits exceed half the limit (R266). -/
def retentionRead (page : Nat) (own : Option TensorAt) (r : PageResult) (d : Device) : Device :=
  readPage page r own false (modT3 (fun x => { x with lastRead := (page, d.now) :: x.lastRead.filter fun q => !decide (q.1 = page) }) d)

/-- A resource is force-released from its holder (R663): `kind` counts the rows of Table 16-5 from 0. -/
def releaseEvent (kind : Nat) (charge : Option TenantId) (d : Device) : Device :=
  occur 56 kind charge (bump .forcedReleases 0 d)

/-- RETIREMENT_LOCK_TIMEOUT: a retirement copy not done within 1 ms is released, and its page or row is retired by the unplanned
path: the lines it had still to copy are lost, `lines` naming what they hold (R273). -/
def retirementTimeout (dev : TierDev) (row : Nat) (pages : List Nat) (lines : List (Nat × TensorAt)) (d : Device) : Device :=
  match (tierDev d dev).copying.find? fun c => decide (c.1 = row) with
  | none => d
  | some c =>
    let d := releaseEvent 5 none (journal kForcedRelease 0 (advanceTo (c.2 + ms) d))
    let d := lines.foldl (fun d q => lineUncorrectable dev q.1 row (some q.2) false d) d
    retire dev row pages d

/-- TIER3_BLOCK_ERASE: a block is erased; a failure retires it. `average` is the average of program-erase cycles after it. -/
def blockErase (block average : Nat) (fails : Option Nat) (d : Device) : Device :=
  let d := setCount .peCycles 0 average d
  match fails with
  | none => d
  | some spare => retireBlock block spare d

/-- TIER3_SCAN_COMPLETE: the power-up scan has read every written page; with the real-time clock set, the next power-up needs
none (R267). -/
def scanComplete (d : Device) : Device :=
  if d.tiers.t3.scanning then modT3 (fun x => { x with scanning := false, scanDue := d.backup.rtcLost }) d else d

/-! ### Meanings -/

/-- TIER_READ. -/
def execTierRead (o : TensorAt) (others : List TenantId) (a : TierAccess) (s : State) : Host.Outcome State Fault Refusal :=
  done s (tierRead o others a s.dev)

/-- TIER_RECOVERED. -/
def execTierRecovered (dev : TierDev) (addr : Nat) (s : State) : Host.Outcome State Fault Refusal :=
  done s (tierRecovered dev addr s.dev)

/-- PATROL_SCRUB. -/
def execPatrolScrub (dev : TierDev) (addr row : Nat) (own : Option TensorAt) (r : LineResult) (s : State) :
    Host.Outcome State Fault Refusal := done s (patrolScrub dev addr row own r s.dev)

/-- RETENTION_READ. -/
def execRetentionRead (page : Nat) (own : Option TensorAt) (r : PageResult) (s : State) : Host.Outcome State Fault Refusal :=
  done s (retentionRead page own r s.dev)

/-- RETIREMENT_COPY. -/
def execRetirementCopy (dev : TierDev) (row : Nat) (pages : List Nat) (s : State) : Host.Outcome State Fault Refusal :=
  done s (retirementCopy dev row pages s.dev)

/-- RETIREMENT_LOCK_TIMEOUT. -/
def execRetirementLockTimeout (dev : TierDev) (row : Nat) (pages : List Nat) (lines : List (Nat × TensorAt)) (s : State) :
    Host.Outcome State Fault Refusal := done s (retirementTimeout dev row pages lines s.dev)

/-- TIER_STACK_LOST. -/
def execTierStackLost (dev : TierDev) (held : List TensorAt) (mirrors : List (TenantId × Nat)) (s : State) :
    Host.Outcome State Fault Refusal := done s (stackLost dev held mirrors s.dev)

/-- TIER3_BLOCK_ERASE. -/
def execTier3BlockErase (block average : Nat) (fails : Option Nat) (s : State) : Host.Outcome State Fault Refusal :=
  done s (blockErase block average fails s.dev)

/-- TIER3_SCAN_COMPLETE. -/
def execTier3ScanComplete (s : State) : Host.Outcome State Fault Refusal := done s (scanComplete s.dev)

end Sys2Proof.Machine
end

