-- ==== Sys2Proof/Machine/Windows.lean ====
section
/-! DEFINITION. The BAR4 tensor windows (R280 to R285). -/

namespace Sys2Proof.Machine

open Sys2Proof

/-- The window of a function. -/
def window (d : Device) (fn : FunctionId) : Window := d.windows[fn.val]'fn.isLt

/-- A window changed. -/
def modWindow (fn : FunctionId) (f : Window → Window) (d : Device) : Device := { d with windows := vmod d.windows fn f }

/-- The tenant whose tensors a window shows: a virtual function's own one, or the one that the physical function selects. -/
def windowTenant (d : Device) (fn : FunctionId) : TenantId :=
  if h : 0 < fn.val then ⟨fn.val - 1, by omega⟩ else ⟨(window d fn).tenant.toNat, (window d fn).tenant.isLt⟩

/-- The tensor that a window selects; none is NO_TENSOR (Table 7-8). -/
def windowTensor (d : Device) (fn : FunctionId) : Option Tensor :=
  findTensor d (windowTenant d fn) (window d fn).tensor.toNat

/-- WIN_LENGTH. -/
def windowLength (d : Device) (fn : FunctionId) : Nat := match windowTensor d fn with | some x => x.size | none => 0

/-- WIN_STATUS. -/
def windowStatus (d : Device) (fn : FunctionId) : Nat :=
  let w := window d fn
  let x := windowTensor d fn
  b2n w.ready + 2 * b2n x.isNone + 4 * b2n w.rejected +
    8 * b2n (match x with | some x => decide (x.mode = .readOnly) | none => false) +
    16 * b2n (match x with | some x => x.damaged | none => false)

/-- A value written to WIN_TENSOR, WIN_BASE or WIN_CTRL (registers 0 to 2). READY falls (R281). -/
def windowSelect (fn : FunctionId) (reg : Fin 3) (value : W64) (d : Device) : Device :=
  modWindow fn (fun w =>
    let w := { w with ready := false }
    if reg.val = 0 then
      { w with tensor := value.setWidth 32, tenant := if fn.val = 0 then (value >>> 32).setWidth 2 else w.tenant }
    else if reg.val = 1 then { w with base := (value >>> 12).setWidth 52 }
    else { w with en := value.getLsbD 0, wrEn := value.getLsbD 1 }) d

/-- The bytes of a tensor that the window returns: between steps those of the last completed step, during a step for each line
the old or the new ones, which the spec leaves open (R284, log entry 1). -/
def windowBytes (d : Device) (t : TenantId) (x : Tensor) (off n : Nat) : List Byte :=
  let old := undoTensor (undoLog d t) x
  (List.range n).map fun i =>
    let a := off + i
    let new := d.inStep t && (Config.free64 (d.fresh + a / 64 - off / 64)).getLsbD 0
    if x.isLost a then 0 else (if new then x else old).bytes.read a

/-- A read through the window in the range that it shows. -/
def windowRead (fn : FunctionId) (off n : Nat) (d : Device) : Device :=
  let w := window d fn
  match w.en, windowTensor d fn with
  | true, some x =>
    let a := w.base.toNat * 4096 + off
    let k := min n (x.size - a)
    let bs := windowBytes d (windowTenant d fn) x a k
    let d := bumpBy .winPoisonReads fn.val (x.lostGrains a k) d
    emit (.windowData fn.val off (fit n bs)) { d with fresh := d.fresh + (k + 126) / 64 }
  | _, _ => emit (.windowData fn.val off (List.replicate n 0)) d

/-- A write through the window: bytes past the tensor's end have no effect; one that R283 does not accept is discarded, sets
WR_REJECTED and is counted. -/
def windowWrite (fn : FunctionId) (off : Nat) (bs : List Byte) (d : Device) : Device :=
  let w := window d fn
  let t := windowTenant d fn
  match w.en, windowTensor d fn with
  | true, some x =>
    let a := w.base.toNat * 4096 + off
    let bs := bs.take (x.size - a)
    if bs.isEmpty then d
    else if w.wrEn && !decide (x.mode = .readOnly) && betweenSteps d t then hostWrite t x.id a bs d
    else bump .winWritesRejected fn.val (modWindow fn (fun w => { w with rejected := true }) d)
  | _, _ => d

/-- One access that waited for READY. -/
def windowAccess (fn : FunctionId) (q : Nat × Bool × List Byte) (d : Device) : Device :=
  if q.2.1 then windowWrite fn q.1 q.2.2 d else windowRead fn q.1 q.2.2.length d

/-- WINDOW_READY: the window shows the selected range, and the accesses that waited are served in order. -/
def windowReady (fn : FunctionId) (d : Device) : Device :=
  let w := window d fn
  if w.ready then d
  else w.waiting.foldl (fun d q => windowAccess fn q d) (modWindow fn (fun w => { w with ready := true, waiting := [] }) d)

/-- The window takes an access now: it is ready, or it is not enabled (R281, R282). -/
def windowTakes (d : Device) (fn : FunctionId) : Bool := (window d fn).ready || !(window d fn).en

/-- BAR4_READ. Outside a required IDE stream it returns zero (R594). -/
def bar4Read (fn : FunctionId) (off : BitVec 32) (n : Nat) (ide : Bool) (d : Device) : Device :=
  if d.boot.inReset then d
  else if ideRequired d && !(ide && d.host.ide[fn.val]'fn.isLt) then
    emit (.windowData fn.val off.toNat (List.replicate n 0)) (bump .ideRejects fn.val d)
  else if windowTakes d fn then windowRead fn off.toNat n d
  else modWindow fn (fun w => { w with waiting := w.waiting ++ [(off.toNat, false, List.replicate n 0)] }) d

/-- BAR4_WRITE. -/
def bar4Write (fn : FunctionId) (off : BitVec 32) (bs : List Byte) (ide : Bool) (d : Device) : Device :=
  hostAccess fn ide (fun d =>
    if windowTakes d fn then windowWrite fn off.toNat bs d
    else modWindow fn (fun w => { w with waiting := w.waiting ++ [(off.toNat, true, bs)] }) d) d

/-! ### Meanings -/

/-- WINDOW_SELECT. -/
def execWindowSelect (fn : FunctionId) (reg : Fin 3) (value : W64) (ide : Bool) (s : State) : Host.Outcome State Fault Refusal :=
  done s (hostAccess fn ide (windowSelect fn reg value) s.dev)

/-- WINDOW_READY. -/
def execWindowReady (fn : FunctionId) (s : State) : Host.Outcome State Fault Refusal := done s (windowReady fn s.dev)

/-- BAR4_READ. -/
def execBar4Read (fn : FunctionId) (off : BitVec 32) (n : Nat) (ide : Bool) (s : State) : Host.Outcome State Fault Refusal :=
  done s (bar4Read fn off n ide s.dev)

/-- BAR4_WRITE. -/
def execBar4Write (fn : FunctionId) (off : BitVec 32) (bs : List Byte) (ide : Bool) (s : State) :
    Host.Outcome State Fault Refusal := done s (bar4Write fn off bs ide s.dev)

end Sys2Proof.Machine
end

