-- ==== Sys2Proof/Machine/Status.lean ====
section
/-! DEFINITION. What the module reports of itself: the identity registers, RIDGE_PORT_STATUS and SPAN_STATUS, QUERY_IDENTITY,
QUERY_STATUS and READ_COUNTERS (R597, R620, R625, R626). -/

namespace Sys2Proof.Machine

open Sys2Proof

/-! ### Identity (Table 15-3) -/

/-- The main firmware runs. -/
def mainRuns (d : Device) : Bool := decide (d.boot.stage = .main)

/-- A firmware field: zero until the main firmware runs (R597). -/
def fwField (d : Device) (v : Nat) : Nat := if mainRuns d then v else 0

/-- BOOT_STAGE. -/
def BootStage.code : BootStage → Nat
  | .rom => 0 | .stage1 => 1 | .main => 2 | .recovery => 3

/-- FAULTED_PENDING of MODULE_STATE. -/
def faultedPending (d : Device) : Bool := d.host.mbx.toList.any fun m => !m.owed.isEmpty

/-- MODULE_STATE. -/
def moduleState (d : Device) : Nat :=
  d.boot.restarts * 2 ^ 32 + d.boot.stage.code * 16 + b2n (faultedPending d) * 8 + b2n d.boot.kettleRestarting * 4 +
    b2n d.boot.mbxReady * 2 + b2n d.boot.engineReady

/-- MOD_ID. -/
def modId (d : Device) : Nat :=
  let i := runningImage d
  fwField d (i.svn * 2 ^ 40 + i.iface * 2 ^ 32 + i.arith * 2 ^ 24) + d.boot.stepDigit.toNat * 2 ^ 16 +
    d.boot.stepLetter.toNat * 2 ^ 8 + d.boot.part % 256

/-- FW_VERSION. -/
def fwVersion (d : Device) : Nat :=
  let v := (runningImage d).version
  fwField d (v.major * 2 ^ 48 + v.minor * 2 ^ 32 + v.patch * 2 ^ 16)

/-- FW_BUILD. -/
def fwBuild (d : Device) : Nat := fwField d (runningImage d).version.build

/-- MAILBOXES of FUNC_INFO. -/
def shownMask (fn : FunctionId) : Nat := (((List.finRange 9).filter fun m => shows fn m).map fun m => 2 ^ m.val).sum

/-- FUNC_INFO. -/
def funcInfo (fn : FunctionId) : Nat := shownMask fn * 2 ^ 16 + fn.val * 2 ^ 8 + (fn.val - 1)

/-- The seven identity registers in offset order. -/
def identityRegs (fn : FunctionId) (d : Device) : List Nat :=
  [modId d, fwVersion d, fwBuild d, d.boot.serial.toNat % 2 ^ 64, d.boot.serial.toNat / 2 ^ 64, funcInfo fn, moduleState d]

/-- The 128-byte identity record. -/
def identityRecord (fn : FunctionId) (d : Device) : List Byte :=
  fit 128 ((identityRegs fn d).flatMap (leBytes 8) ++ bytes16 (deviceKeyId d))

/-- QUERY_IDENTITY. -/
def queryIdentity (c : Call) (d : Device) : Device :=
  let result := leBytes 8 (modId d) ++ leBytes 8 (fwVersion d) ++ leBytes 4 (fwBuild d) ++ leBytes 4 0 ++
    leBytes 16 d.boot.serial.toNat
  if c.hasList 2 then withOut c 2 (identityRecord c.fn d) (fun d => post c .ok 0 result false d) d
  else post c .ok 0 result false d

/-! ### Ports and span (Table 12-10, Table 12-11) -/

/-- Codes of Table 12-5. -/
def PortState.code : PortState → Nat
  | .down => 0 | .detect => 1 | .equalise => 2 | .align => 3 | .active => 4 | .retrain => 5 | .fenced => 6

/-- SPARES: good lanes that no position uses. -/
def spareCount (x : Ridge) : Nat :=
  if x.lanes.isEmpty then 0
  else ((List.range 22).filter fun i => !x.badLanes.getLsbD i && !x.lanes.contains i).length

/-- RIDGE_PORT_STATUS of a port. -/
def portStatus (x : Ridge) : Nat :=
  x.badLanes.toNat * 2 ^ 32 + b2n x.warm * 2 ^ 28 + b2n x.sideband * 2 ^ 27 + (x.peerPort % 8) * 2 ^ 24 +
    (x.peerIndex % 16) * 2 ^ 20 + spareCount x * 2 ^ 16 + (x.activeLanes % 32) * 2 ^ 8 + x.state.code

/-- A pair of this module is diverged. -/
def pairDiverged (d : Device) : Bool :=
  d.tenants.toList.any fun x => match x.pair with | some p => decide (p.state = 1) | none => false

/-- SPAN_STATUS. -/
def spanStatus (d : Device) : Nat :=
  let s := d.span
  s.members.toNat * 2 ^ 32 + s.carried.toNat * 2 ^ 16 + (s.leader % 16) * 2 ^ 12 + (s.topology % 4) * 2 ^ 10 +
    b2n (pairDiverged d) * 2 ^ 9 + b2n s.arithMixed * 2 ^ 8 + b2n s.formed

/-! ### Sections of QUERY_STATUS (Table 15-12) -/

/-- Sites and their states, in site order. -/
def siteCodes (d : Device) : List (Nat × Nat) := (List.range 9600).map fun s => (s, (siteState d s).code)

/-- Section 1: the site map and the counts of each state by region. -/
def sitesBody (d : Device) : List Byte :=
  let codes := siteCodes d
  siteMap d ++ (List.range 16).flatMap fun g => (List.range 6).flatMap fun k =>
    leBytes 2 (codes.filter fun x => decide (siteRegion x.1 = g) && decide (x.2 = k)).length

/-- A collar of a site works. -/
def collarWorks (d : Device) (s : Nat) : Bool := !decide (siteState d s = .holed)

/-- The sites to which an edge router is wired (Table 5-4). -/
def wiredSites (e : Nat) : List Nat :=
  if e < 96 then [siteAt (25 * (e / 24) + e % 24) 0, siteAt (25 * (e / 24) + e % 24 + 1) 0]
  else if e < 192 then [siteAt 99 (e - 96)]
  else if e < 288 then
    let x := 287 - e
    [siteAt (25 * (x / 24) + x % 24) 95, siteAt (25 * (x / 24) + x % 24 + 1) 95]
  else [siteAt 0 (383 - e)]

/-- The edge routers that are stranded (R185), ascending. -/
def strandedRouters (d : Device) : List Nat := (List.range 384).filter fun e => (wiredSites e).all fun s => !collarWorks d s

/-- The holed sites, ascending. -/
def holedSites (d : Device) : List Nat := (d.sites.filter fun r => decide (r.bad = some .holed)).map (·.id)

/-- Section 2. -/
def meshBody (d : Device) : List Byte :=
  let cut := cutLinks d
  let holed := holedSites d
  let stranded := strandedRouters d
  leBytes 2 cut.length ++ leBytes 2 holed.length ++ leBytes 2 stranded.length ++ leBytes 2 d.fabric.fenced.toNat ++
    (cut ++ holed ++ stranded).flatMap (leBytes 2)

/-- RUN_STATE. -/
def RunState.code : RunState → Nat
  | .none => 0 | .running => 1 | .stopped => 2

/-- A tenant record (Table 15-16). -/
def tenantRecord (d : Device) (t : TenantId) : List Byte :=
  let x := d.tenant t
  let (x0, y0, x1, y1) := if x.isOpen then x.rect else (0, 0, 0, 0)
  leBytes 1 (b2n x.isOpen) ++ leBytes 1 (b2n x.strict) ++ leBytes 1 x.runState.code ++ leBytes 1 (b2n x.movePending) ++
    leBytes 1 x0 ++ leBytes 1 y0 ++ leBytes 1 x1 ++ leBytes 1 y1 ++ leBytes 8 (x.shares.toNat % 2 ^ 42) ++
    leBytes 4 (if x.isOpen then x.epoch.number else 0) ++ leBytes 4 0 ++ bytes16 (scheduleDigestOf d t) ++
    bytes16 (residencyDigestOf d t) ++ leBytes 8 (x.runId.getD 0) ++ leBytes 8 x.nextStep ++
    bytes16 (match x.seed with | some s => s.id | none => 0) ++ leBytes 8 0

/-- The tenant of a virtual function; none for the physical one. -/
def functionTenant (fn : FunctionId) : Option TenantId := if h : 0 < fn.val then some ⟨fn.val - 1, by omega⟩ else none

/-- A function may see what belongs to a tenant. -/
def sees (fn : FunctionId) (t : TenantId) : Bool := match functionTenant fn with | none => true | some u => decide (u = t)

/-- Section 3; a virtual function sees its own tenant's record. -/
def tenantsBody (fn : FunctionId) (d : Device) : List Byte :=
  allTenants.flatMap fun t => if sees fn t then tenantRecord d t else List.replicate 96 0

/-- Section 4: PLANNED_PENDING and, for each pending move, the vtiles that it affects (log entry 40). -/
def placementBody (d : Device) : List Byte :=
  let moves := (plannedSites d).map fun s => carries d s
  Config.statusBody 4 (d.count .plannedPending :: moves.flatMap fun vs => vs.length :: vs)

/-- States of a stack or package in section 5. -/
def DeviceHealth.code : DeviceHealth → Nat
  | .good => 0 | .degraded => 1 | .lost => 2

/-- Section 5: capacity after retirement and state of each stack and package; user, module and free capacity of tier 3 (log
entry 40). -/
def tiersBody (d : Device) : List Byte :=
  Config.statusBody 5
    ((d.tiers.stackDevs.toList.flatMap fun m => [m.capacity 32768, m.health.code]) ++
     (d.tiers.packages.toList.flatMap fun m => [m.capacity 49152, m.health.code]) ++ [tier3Bytes, tier3Used d, tier3Free d])

/-- States of Table 15-17. -/
def ContextState.code : ContextState → Nat
  | .disabled => 0 | .enabled => 1 | .started => 2 | .stopping => 3

/-- A context record (Table 15-17). -/
def contextRecord (d : Device) (c : ContextId) : List Byte :=
  let x := d.ctx c
  let oldest := match x.ring.find? fun f => !f.released with | some f => f.seq | none => 0xFFFFFFFF
  leBytes 1 x.state.code ++ leBytes 1 x.desc.tenant ++ leBytes 2 0 ++ leBytes 4 x.frameSeq ++ leBytes 8 (ringUsed x) ++
    leBytes 4 oldest ++ leBytes 4 0

/-- A context belongs to what a function may see. -/
def seesCtx (fn : FunctionId) (d : Device) (c : ContextId) : Bool :=
  decide (fn.val = 0) || (!decide ((d.ctx c).state = .disabled) && sees fn (ctxTenant d c))

/-- Section 6; a virtual function sees the contexts of its own tenant. -/
def intakeBody (fn : FunctionId) (d : Device) : List Byte :=
  allContexts.flatMap fun c => if seesCtx fn d c then contextRecord d c else List.replicate 24 0

/-- Section 7. -/
def portsBody (d : Device) : List Byte := (d.ridge.toList.map portStatus ++ [spanStatus d]).flatMap (leBytes 8)

/-- PROFILE. -/
def Profile.code : Profile → Nat
  | .full => 0 | .vehicle => 1

/-- Section 8: profile, power state, grid divisor in effect and throttle events since the module reset (log entry 40). -/
def powerBody (d : Device) : List Byte :=
  Config.statusBody 8 [d.clocks.profile.code, d.power.state.code, d.clocks.divisor,
    d.count .throttleUp + d.count .throttleEmergency + d.count .powerLimitEvents]

/-- The body of a section as a function receives it. -/
def sectionBody (fn : FunctionId) (d : Device) (id : Nat) : List Byte :=
  if id = 0 then identityRecord fn d else if id = 1 then sitesBody d else if id = 2 then meshBody d
  else if id = 3 then tenantsBody fn d else if id = 4 then placementBody d else if id = 5 then tiersBody d
  else if id = 6 then intakeBody fn d else if id = 7 then portsBody d else powerBody d

/-- The sections that a function receives of those that it asks for, ascending. -/
def sectionIds (fn : FunctionId) (mask : Nat) : List Nat :=
  (List.range 9).filter fun i => bitAt mask i && (decide (fn.val = 0) || decide (i = 3) || decide (i = 6))

/-- A section with its header; the length is that of the body without its padding (log entry 41). -/
def sectionBytes (fn : FunctionId) (d : Device) (id : Nat) : List Byte :=
  let b := sectionBody fn d id
  leBytes 2 id ++ leBytes 2 0 ++ leBytes 4 b.length ++ padTo 8 b

/-- What QUERY_STATUS writes. -/
def statusReport (fn : FunctionId) (mask : Nat) (d : Device) : List Byte :=
  let ids := sectionIds fn mask
  ascii "L96STAT0" ++ leBytes 4 ids.length ++ leBytes 4 0 ++ ids.flatMap (sectionBytes fn d)

/-- QUERY_STATUS. -/
def queryStatus (c : Call) (d : Device) : Device :=
  let mask := field (c.w 3) 0 9
  let bytes := statusReport c.fn mask d
  withOut c 2 bytes (fun d => post c .ok 0 (leBytes 8 bytes.length ++ leBytes 8 (moduleState d) ++ leBytes 2 (sectionIds c.fn mask).length) false d) d

/-! ### READ_COUNTERS (R625) -/

/-- The link ids of the mesh. -/
def linkIds : List Nat :=
  (List.range 19200).filter fun l => if l % 2 = 0 then decide (siteX (l / 2) < 99) else decide (siteY (l / 2) < 95)

/-- Instances of a scope (Table 15-15). -/
def scopeInstances (scope : Nat) : List Nat :=
  if scope = 0 then [0] else if scope = 1 then List.range 96 else if scope = 2 then List.range 8
  else if scope = 3 then List.range 24 else if scope = 4 then List.range 8 ++ rangeFrom 16 16 else if scope = 5 then List.range 4
  else if scope = 6 then List.range 128 else if scope = 7 then List.range 5 else if scope = 8 then List.range 8
  else if scope = 9 then List.range 9 else if scope = 10 then List.range 16 else if scope = 11 then List.range 4
  else if scope = 12 then linkIds else if scope = 13 then List.range 21 else if scope = 14 then List.range 5
  else if scope = 15 then List.range 6 else if scope = 16 then List.range 2 else List.range 4

/-- An instance of a counter exists. -/
def counterAt (c : Counter) (i : Nat) : Bool :=
  if c = .borrowedSlots then within 1 7 (i / 4)
  else if c = .ridgeFlits then within 8 23 (i / 4)
  else if c.info.scope = 1 then decide (i < 4)
  else if c = .t1Corrected ∨ c = .retiredPages then decide (i < 8)
  else if c = .t2Corrected ∨ c = .retiredRows then decide (16 ≤ i)
  else if c = .stateEntries then decide (1 ≤ i)
  else true

/-- Milliseconds since a time. -/
def msSince (d : Device) (t : Nat) : Nat := (d.now - t) / ms

/-- SPARE_LEFT of a stack or package. -/
def spareLeft (d : Device) (i : Nat) : Nat :=
  let dev : Option TierDev :=
    if h : i < 8 then some (.stack ⟨i, h⟩) else if h : 16 ≤ i ∧ i < 32 then some (.package ⟨i - 16, by omega⟩) else none
  match dev with
  | some x => (sparePool x - (tierDev d x).spareUsed) * 65536 / sparePool x
  | none => 0

/-- The value of a counter's instance: what it has counted, with the time that still runs, or what the state gives it now. -/
def counterValue (d : Device) (c : Counter) (i : Nat) : Nat :=
  let above := decide (profileDivisor d.clocks.profile < d.clocks.divisor)
  let v := match c with
    | .fencedSegments => d.fabric.fenced.toNat
    | .foldedPairs => ((siteCodes d).filter fun x => decide (x.2 = 5)).length
    | .spareLeft => spareLeft d i
    | .spareBlocksPct => d.tiers.t3.spare / 100
    | .svnFusesLeft => 128 - d.boot.svnFuses
    | .recovery => (d.gutter.cls.toList.map (·.recovery)).getD i 0
    | .phaseFails => d.clocks.phaseFails.toList.getD i 0
    | .stateMs => d.count c i + (if d.power.state.code = i then uncounted d / ms else 0)
    | .div10Ms => d.count c + (if above && decide (d.clocks.divisor = 10) then msSince d d.clocks.divSince else 0)
    | .div16Ms => d.count c + (if above && decide (d.clocks.divisor = 16) then msSince d d.clocks.divSince else 0)
    | .holdoverMs => d.count c + (match d.clocks.holdover with | some t => msSince d t | none => 0)
    | .pairFaultMs => d.count c + (if d.gutter.pairFault then msSince d d.gutter.pairSince else 0)
    | _ => d.count c i
  min v (2 ^ c.info.width - 1)

/-- A is before B in the order of bytes. -/
def bytesBefore : List Byte → List Byte → Bool
  | [], [] => false
  | [], _ => true
  | _, [] => false
  | a :: as, b :: bs => if a = b then bytesBefore as bs else decide (a.toNat < b.toNat)

/-- The counters of a scope in the order of their names. -/
def scopeCounters (scope : Nat) : List CounterInfo :=
  sortBy (fun a b => bytesBefore (ascii a.name) (ascii b.name)) (counterInfos.filter fun i => decide (i.scope = scope))

/-- A function receives an instance of a scope. -/
def receives (fn : FunctionId) (d : Device) (scope i : Nat) : Bool :=
  match functionTenant fn with
  | none => true
  | some t =>
    if scope = 1 then decide (i % 4 = t.val)
    else if scope = 3 then (if h : i < 24 then seesCtx fn d ⟨i, h⟩ else false)
    else decide (scope = 7) && decide (i = fn.val)

/-- A 40-byte entry. -/
def counterEntry (d : Device) (scope i : Nat) (x : CounterInfo) : List Byte :=
  fit 24 (ascii x.name) ++ leBytes 1 scope ++ leBytes 1 x.width ++ leBytes 2 i ++ leBytes 4 0 ++
    leBytes 8 (counterValue d x.counter i)

/-- The entries of the selected scopes. -/
def counterEntries (fn : FunctionId) (mask : Nat) (d : Device) : List (List Byte) :=
  ((List.range 18).filter (bitAt mask)).flatMap fun scope =>
    let infos := scopeCounters scope
    ((scopeInstances scope).filter (receives fn d scope)).flatMap fun i =>
      (infos.filter fun x => counterAt x.counter i).map (counterEntry d scope i)

/-- READ_COUNTERS. -/
def readCounters (c : Call) (d : Device) : Device :=
  let es := counterEntries c.fn (field (c.w 3) 0 18) d
  withOut c 2 es.flatten (fun d => post c .ok 0 (leBytes 8 (40 * es.length) ++ leBytes 4 es.length) false d) d

/-! ### Meanings -/

/-- QUERY_IDENTITY. -/
def execQueryIdentity (c : Call) (s : State) : Host.Outcome State Fault Refusal := done s (runEngine c (queryIdentity c) s.dev)

/-- QUERY_STATUS. -/
def execQueryStatus (c : Call) (s : State) : Host.Outcome State Fault Refusal := done s (runFw c (queryStatus c) s.dev)

/-- READ_COUNTERS. -/
def execReadCounters (c : Call) (s : State) : Host.Outcome State Fault Refusal := done s (runFw c (readCounters c) s.dev)

end Sys2Proof.Machine
end

