-- ==== Sys2Proof/Machine/Registers.lean ====
section
/-! DEFINITION. The registers of BAR0 and the rings of BAR2 as the host reads and writes them, by their access codes (R15 to R19,
R594 to R600), and the function-level reset (R595). -/

namespace Sys2Proof.Machine

open Sys2Proof

/-! ### Reads -/

/-- The sources of which an open window may cover an instance (Table 16-4). -/
def windowSources (d : Device) (w : Shadow) : List Nat :=
  let hold := if w.tenants.isEmpty then [] else [48]
  match w.block with
  | .tileCore _ => [0, 32, 33, 35, 36]
  | .collar _ => [16, 34, 64] ++ hold
  | .eaveSegment _ => [17] ++ hold
  | .tier1Ctl _ => [1, 4, 6, 48]
  | .tier2Ctl _ => [2, 4, 5, 6, 48]
  | .tier3Ctl => [3, 7, 48, 50]
  | .strainer _ => [36, 37]
  | .ridgePort p => [19, 20, 21] ++ (if (onlyThrough d p).isEmpty then [] else [97, 98])
  | .intake => [22, 23]
  | .kettle => [9, 25, 52, 53]
  | .module => (sourceTable.map (·.num)).filter fun s => decide (s < 112) && !decide (s = 55)

/-- A mask of 128 bits of the sources for which a predicate holds. -/
def sourceMask (p : Nat → Bool) : Nat := (((List.range 128).filter p).map (2 ^ ·)).sum

/-- A mask of 8 bits of the classes for which a predicate holds. -/
def classesWhere (p : ClassId → Bool) : Nat := (((List.finRange 8).filter fun k => p k).map fun k => 2 ^ k.val).sum

/-- SHADOWED bits. -/
def shadowMask (d : Device) : Nat :=
  let under := d.gutter.shadows.flatMap (windowSources d)
  sourceMask fun s => under.contains s && (sourceRow s).isSome

/-- A class holds a latched source. -/
def classLatched (d : Device) (k : ClassId) : Bool := !decide (d.gutter.latched &&& classMask k = 0)

/-- A class has a sticky bit set. -/
def classUnack (d : Device) (k : ClassId) : Bool := !decide (d.gutter.sticky &&& classMask k = 0)

/-- A class with a source under an open window. -/
def classShadow (d : Device) (k : ClassId) : Bool := decide (field (shadowMask d) (16 * k.val) 16 ≠ 0)

/-- GUTTER_STATUS (Table 16-8). -/
def gutterStatus (d : Device) : Nat :=
  classesWhere (classLatched d) * 2 ^ 40 + classesWhere (classShadow d) * 2 ^ 32 + classesWhere (classUnack d) * 2 ^ 24 +
    classesWhere (fun k => (classRec d k).inFault) * 2 ^ 16 + b2n (!decide (d.gutter.traps = 0)) * 4 +
    b2n d.gutter.pairFault * 2 + b2n d.gutter.initDone

/-- GUTTER_CLASS_STAT of a class (Table 16-10). -/
def classStat (d : Device) (k : ClassId) : Nat :=
  let c := classRec d k
  (c.recovery % 65536) * 2 ^ 16 + (c.applied % 8) * 2 ^ 8 + b2n (classLatched d k) * 4 + b2n (classUnack d k) * 2 + b2n c.inFault

/-- SELFTEST_STATUS (Table 16-11). -/
def selftestStatus (d : Device) : Nat :=
  min 255 (d.selftest.consec.toList.foldl max 0) * 2 ^ 32 + (d.selftest.unit % 32) * 2 ^ 16 + b2n d.selftest.forced * 2 +
    b2n d.selftest.running

/-- ERRPIN_STATUS (Table 16-13). What a leg between low and high reads as is a free value (log entry 1). -/
def errpinStatus (d : Device) : Nat :=
  let p := d.pins
  let free := Config.free64 d.fresh
  b2n (decide (p.senseP = some p.errP) && decide (p.senseN = some p.errN)) * 16 + b2n (p.senseN.getD (free.getLsbD 1)) * 8 +
    b2n (p.senseP.getD (free.getLsbD 0)) * 4 + b2n p.errN * 2 + b2n p.errP

/-- The staged fields of a register: field id, lowest bit, width (Table 16-14, Table 15-13). -/
def rwsFields (reg : Nat) : List (Nat × Nat × Nat) :=
  if reg = 0x400 then [(0x02FF0001, 0, 1)]
  else if 0x420 ≤ reg ∧ reg < 0x428 then
    let b := 0x02800000 + (reg - 0x420) * 0x10000
    [(b + 1, 0, 16), (b + 2, 16, 8), (b + 3, 32, 16)]
  else if reg = 0x440 then [(0x02FF0010, 0, 1), (0x02FF0011, 32, 32)]
  else if 0x480 ≤ reg ∧ reg < 0x500 then
    let b := 0x02000000 + (reg - 0x480) * 0x10000
    [(b + 1, 4, 1), (b + 2, 0, 3)]
  else if reg = 0x600 then [(0x03000001, 0, 20), (0x03000002, 32, 1)]
  else if reg = 0xC00 then [(0x06000001, 0, 1)]
  else []

/-- A register of staged fields reads as their values in effect; a field that a reserved source does not have reads as zero. -/
def rwsRead (d : Device) (reg : Nat) : Nat := ((rwsFields reg).map fun f => fieldValue d f.1 % 2 ^ f.2.2 * 2 ^ f.2.1).sum

/-- Registers of the Gutter block, by number from its start (Table 16-8 to Table 16-11). -/
def gutterRead (d : Device) (reg : Nat) : Nat :=
  let half := fun (m : Nat) => field m (64 * (reg % 2)) 64
  if reg = 0x401 then gutterStatus d
  else if reg = 0x402 ∨ reg = 0x403 then half d.gutter.sticky.toNat
  else if reg = 0x404 ∨ reg = 0x405 then half (sourceMask (condPresent d))
  else if reg = 0x406 ∨ reg = 0x407 then half d.gutter.latched.toNat
  else if reg = 0x408 ∨ reg = 0x409 then half d.gutter.force.toNat
  else if reg = 0x40A ∨ reg = 0x40B then half d.gutter.checkInvert.toNat
  else if reg = 0x40C ∨ reg = 0x40D then half (shadowMask d)
  else if h : 0x428 ≤ reg ∧ reg < 0x430 then classStat d ⟨reg - 0x428, by omega⟩
  else if reg = 0x441 then selftestStatus d
  else rwsRead d reg

/-- Codes of TIME_STATUS.SOURCE. -/
def TimeSource.code : TimeSource → Nat
  | .free => 0 | .gptp => 1 | .pps => 2 | .span => 3

/-- The discipline in effect: the leader's while this module is another member of a span, else TIME_SOURCE (R574, R575). -/
def timeSource (d : Device) : TimeSource :=
  let f := cfgOr d 0x04000001 0 % 4
  if d.span.formed && !isLeader d then .span else if f = 1 then .gptp else if f = 2 then .pps else .free

/-- The Ethernet port that TIME_SOURCE names. -/
def gptpPort (d : Device) : Nat := field (cfgOr d 0x04000001 0) 4 2

/-- TIME_STATUS (Table 14-4). -/
def timeStatus (d : Device) : Nat :=
  let s := timeSource d
  let o := if s = .free then 0 else d.time.offset
  (BitVec.ofInt 32 o).toNat * 2 ^ 32 + s.code * 64 + (if s = .gptp then gptpPort d * 16 else 0) + b2n d.backup.rtcLost * 8 +
    b2n d.time.holdover * 4 + b2n d.time.locked * 2

/-- TRNG_STATUS (Table 8-6). -/
def trngStatus (d : Device) : Nat :=
  let e := d.entropy
  let oks := ((List.range 4).map fun k => b2n ((e.src.toList.map (·.ok)).getD k false) * 2 ^ k).sum
  (e.startup % 2048) * 2 ^ 32 + oks * 16 + b2n e.failed * 2 + b2n (decide (1024 ≤ e.startup) && e.instantiated && !e.failed)

/-- Registers of a mailbox as a function sees them (Table 15-4). -/
def mailboxRead (d : Device) (fn : FunctionId) (m : MailboxId) (r : Nat) : Nat :=
  let x := d.mb m
  if r = 0 then x.cmdTail.toNat else if r = 1 then x.cmdHead.toNat else if r = 2 then x.cplHead.toNat
  else if r = 3 then x.cplTail.toNat
  else if r = 4 then b2n (if fn.val = 0 then x.intEnPf else x.intEn) * 2 + b2n x.en
  else if r = 5 then
    x.overflowEntries * 2 ^ 40 + min 256 x.owed.length * 2 ^ 16 + b2n d.boot.kettleRestarting * 8 + b2n x.flushing * 4 +
      b2n x.badTail * 2 + b2n (x.en && d.boot.engineReady)
  else 0

/-- Registers of the tensor window (Table 7-5 to Table 7-8). -/
def windowRegRead (d : Device) (fn : FunctionId) (r : Nat) : Nat :=
  let w := window d fn
  if r = 0 then (windowTenant d fn).val * 2 ^ 32 + w.tensor.toNat
  else if r = 1 then w.base.toNat * 4096
  else if r = 2 then b2n w.wrEn * 2 + b2n w.en
  else if r = 3 then windowStatus d fn
  else if r = 4 then windowLength d fn
  else 0

/-- A BAR0 register, by its number, as a function reads it; TIME_NOW is read whole here. An offset without a register reads as
zero (R18). -/
def regRead (d : Device) (fn : FunctionId) (reg : Nat) : Nat :=
  let pf := decide (fn.val = 0)
  if reg < 7 then (identityRegs fn d).getD reg 0
  else if h : 0x200 ≤ reg ∧ reg < 0x248 then
    let m : MailboxId := ⟨(reg - 0x200) / 8, by omega⟩
    if shows fn m then mailboxRead d fn m ((reg - 0x200) % 8) else 0
  else if 0x400 ≤ reg ∧ reg < 0x500 then
    (if pf then (if reg = 0x410 then 0 else gutterRead d reg)
     else if reg = 0x410 then (match functionTenant fn with | some t => (d.gutter.tenantClasses[t.val]'t.isLt).toNat | none => 0)
     else 0)
  else if reg = 0x600 then (if pf then rwsRead d reg else 0)
  else if reg = 0x601 then (if pf then errpinStatus d else 0)
  else if reg = 0x800 then moduleTime d % 2 ^ 64
  else if reg = 0x801 then timeStatus d
  else if 0xA00 ≤ reg ∧ reg < 0xA05 then windowRegRead d fn (reg - 0xA00)
  else if reg = 0xC00 then (if pf then rwsRead d reg else 0)
  else if reg = 0xC01 then (if pf then trngStatus d else 0)
  else if 0xE00 ≤ reg ∧ reg < 0xE08 then (if pf then (d.ridge.toList.map portStatus).getD (reg - 0xE00) 0 else 0)
  else if reg = 0xE08 then (if pf then spanStatus d else 0)
  else 0

end Sys2Proof.Machine

namespace Sys2Proof

/-! ### Parts of a register (R596) -/

/-- The bits that an access covers. -/
def RegPart.mask : RegPart → W64
  | .whole => BitVec.allOnes 64
  | .low => 0xFFFFFFFF
  | .high => 0xFFFFFFFF00000000

/-- The written value in the place of the register's bits: a 32-bit access carries its half in bits [31:0]. -/
def RegPart.place (p : RegPart) (v : W64) : W64 :=
  match p with
  | .high => v <<< 32
  | _ => v &&& p.mask

/-- A register value with the written part replaced. -/
def RegPart.merge (p : RegPart) (old v : W64) : W64 := (old &&& ~~~p.mask) ||| p.place v

/-- The access covers a bit. -/
def RegPart.has (p : RegPart) (bit : Nat) : Bool := p.mask.getLsbD bit

end Sys2Proof

namespace Sys2Proof.Machine

open Sys2Proof

/-! ### Writes -/

/-- One field staged by a BAR0 write, as CONFIG_STAGE would stage it: an invalid value, a read-only Caddy or a commit of module
scope in progress leaves it unstaged (R630, R631, R633). -/
def stageRws (f v : Nat) (d : Device) : Device :=
  if (fieldDefault f).isSome && fieldValueOk f v && !d.caddy.readOnly && !commitPending d .module then stageField .module f v d else d

/-- A write to a register of staged fields: each field that the access covers is staged (R15, R681). -/
def rwsWrite (reg : Nat) (p : RegPart) (v : W64) (d : Device) : Device :=
  ((rwsFields reg).filter fun f => p.has f.2.1).foldl (fun d f => stageRws f.1 (field (p.place v).toNat f.2.1 f.2.2) d) d

/-- A write of the acknowledge bits of GUTTER_STICKY0 or GUTTER_STICKY1 (R646). -/
def stickyAck (hi : Bool) (p : RegPart) (v : W64) (d : Device) : Device :=
  let m : BitVec 128 := (p.place v).setWidth 128
  endCycle (acknowledge (if hi then m <<< 64 else m) d)

/-- RECOV_CLR of a class (R660). -/
def recovClr (k : ClassId) (d : Device) : Device := modClass k (fun c => { c with recovery := 0 }) d

/-- A write to CTRL: EN enables or disables the mailbox, FLUSH flushes it, INT_EN is the bit of the function that writes
(Table 15-4, R599, R609). -/
def ctrlWrite (m : MailboxId) (fn : FunctionId) (v : W64) (d : Device) : Device :=
  let d := modMbx m (fun x =>
    if fn.val = 0 then { x with intEnPf := v.getLsbD 1 } else { x with intEn := v.getLsbD 1 }) d
  let d := if v.getLsbD 0 then enableMailbox m d else disableMailbox m d
  if v.getLsbD 2 then flushMailbox m d else d

/-- A write to a mailbox register (Table 15-4). Only low halves hold writable bits. -/
def mailboxWrite (m : MailboxId) (fn : FunctionId) (r : Nat) (v : W64) (d : Device) : Device :=
  if r = 0 then doorbell m v d
  else if r = 2 then (if (d.mb m).en then modMbx m (fun x => { x with cplHead := v.setWidth 9 }) d else d)
  else if r = 4 then ctrlWrite m fn v d
  else if r = 5 then (if v.getLsbD 1 then modMbx m (fun x => { x with badTail := false }) d else d)
  else d

/-- A write to a register of the tensor window; one that does not cover WIN_CTRL.EN leaves READY as it is (R281). -/
def windowWriteReg (fn : FunctionId) (r : Nat) (p : RegPart) (v : W64) (d : Device) : Device :=
  if r = 2 ∧ !p.has 0 then d
  else if h : r < 3 then windowSelect fn ⟨r, h⟩ (p.merge (BitVec.ofNat 64 (windowRegRead d fn r)) v) d
  else if r = 3 then (if (p.place v).getLsbD 2 then modWindow fn (fun w => { w with rejected := false }) d else d)
  else d

/-- A write of classes to GUTTER_TENANT of a virtual function (Table 16-12). -/
def tenantAck (fn : FunctionId) (v : W64) (d : Device) : Device :=
  match functionTenant fn with
  | none => d
  | some t => { d with gutter := { d.gutter with tenantClasses := vmod d.gutter.tenantClasses t fun b => b &&& ~~~(v.setWidth 8) } }

/-- A write to a BAR0 register of a function, by its access code; read-only and reserved bits, and offsets without a register, take
no effect (R17, R18). -/
def regWrite (fn : FunctionId) (reg : Nat) (p : RegPart) (v : W64) (d : Device) : Device :=
  let pf := decide (fn.val = 0)
  if h : 0x200 ≤ reg ∧ reg < 0x248 then
    let m : MailboxId := ⟨(reg - 0x200) / 8, by omega⟩
    if shows fn m && p.has 0 then mailboxWrite m fn ((reg - 0x200) % 8) (p.place v) d else d
  else if 0xA00 ≤ reg ∧ reg < 0xA05 then windowWriteReg fn (reg - 0xA00) p v d
  else if reg = 0x410 then tenantAck fn (p.place v) d
  else if !pf then d
  else if reg = 0x402 ∨ reg = 0x403 then stickyAck (decide (reg = 0x403)) p v d
  else if h : 0x428 ≤ reg ∧ reg < 0x430 then (if (p.place v).getLsbD 32 then recovClr ⟨reg - 0x428, by omega⟩ d else d)
  else rwsWrite reg p v d

/-- Bytes written to BAR2 from an offset on: those in the rings of mailboxes that the function shows are stored (R600). -/
def ringWrite (fn : FunctionId) : Nat → List Byte → Device → Device
  | _, [], d => d
  | off, b :: bs, d =>
    let d := if h : off / 0x6000 < 9 then
        (if shows fn ⟨off / 0x6000, h⟩ then modMbx ⟨off / 0x6000, h⟩ (fun x => { x with ring := x.ring.write (off % 0x6000) b }) d else d)
      else d
    ringWrite fn (off + 1) bs d

/-- A host write. -/
def hostWriteTo (fn : FunctionId) (w : HostWrite) (d : Device) : Device :=
  match w with
  | .bar0 reg part value => regWrite fn reg.val part value d
  | .bar2 off bytes => ringWrite fn off.val bytes d

/-- A 32-bit or 64-bit read of TIME_NOW (R576); one outside a required IDE stream returns zero (R594). A read of the upper half
that follows no read of the lower half returns the time's own upper half (log entry 92). -/
def timeNowRead (fn : FunctionId) (p : RegPart) (ide : Bool) (d : Device) : Device :=
  let off := if p = .high then 0x4004 else 0x4000
  if d.boot.inReset then d
  else if ideRequired d && !(ide && d.host.ide[fn.val]'fn.isLt) then emit (.readData fn.val off 0) (bump .ideRejects fn.val d)
  else
    let t : W64 := BitVec.ofNat 64 (moduleTime d)
    match p with
    | .whole => emit (.readData fn.val off t) d
    | .low => emit (.readData fn.val off (t &&& RegPart.low.mask))
        { d with time := { d.time with latch := vset d.time.latch fn (some ((t >>> 32).setWidth 32)) } }
    | .high => emit (.readData fn.val off (((d.time.latch[fn.val]'fn.isLt).getD ((t >>> 32).setWidth 32)).setWidth 64))
        { d with time := { d.time with latch := vset d.time.latch fn none } }

/-- A function-level reset (R595): the function's mailboxes are flushed and its WIN_CTRL is cleared. -/
def functionReset (fn : FunctionId) (d : Device) : Device :=
  let d := (List.finRange 9).foldl (fun d m => if shows fn m then flushMailbox m d else d) d
  modWindow fn (fun w => { w with en := false, wrEn := false }) d

/-! ### Meanings -/

/-- TIME_NOW_READ. -/
def execTimeNowRead (fn : FunctionId) (part : RegPart) (ide : Bool) (s : State) : Host.Outcome State Fault Refusal :=
  done s (timeNowRead fn part ide s.dev)

/-- STICKY_ACK_WRITE: a write to GUTTER_STICKY0, or to GUTTER_STICKY1 when `hi` is set; only the physical function has them. -/
def execStickyAckWrite (fn : FunctionId) (hi : Bool) (part : RegPart) (value : W64) (ide : Bool) (s : State) :
    Host.Outcome State Fault Refusal :=
  done s (hostAccess fn ide (fun d => if fn.val = 0 then stickyAck hi part value d else d) s.dev)

/-- RECOV_CLR: a write of 1 to GUTTER_CLASS_STAT.RECOV_CLR of a class. -/
def execRecovClr (fn : FunctionId) (cls : ClassId) (ide : Bool) (s : State) : Host.Outcome State Fault Refusal :=
  done s (hostAccess fn ide (fun d => if fn.val = 0 then recovClr cls d else d) s.dev)

/-- RWS_FIELD_WRITE. -/
def execRwsFieldWrite (fn : FunctionId) (reg : Fin 8192) (part : RegPart) (value : W64) (ide : Bool) (s : State) :
    Host.Outcome State Fault Refusal :=
  done s (hostAccess fn ide (fun d => if fn.val = 0 then rwsWrite reg.val part value d else d) s.dev)

/-- REGISTER_WRITE. -/
def execRegisterWrite (fn : FunctionId) (w : HostWrite) (ide : Bool) (s : State) : Host.Outcome State Fault Refusal :=
  done s (hostAccess fn ide (hostWriteTo fn w) s.dev)

/-- FUNCTION_LEVEL_RESET. -/
def execFunctionLevelReset (fn : FunctionId) (s : State) : Host.Outcome State Fault Refusal := done s (functionReset fn s.dev)

end Sys2Proof.Machine
end

