-- ==== Sys2Proof/Machine/Ring.lean ====
section
/-! DEFINITION. The Eave ring and its edge: transfers, fenced segments and what loses its attachment (R179 to R191). -/

namespace Sys2Proof.Machine

open Sys2Proof

/-- The place of an end of a transfer in half segments, from stop 0 anticlockwise: stop k lies at 2k, an edge router in the
middle of its segment (R181, R182). -/
def ringPos : RingPlace → Nat
  | .stop k => 2 * k.val
  | .edge e => 2 * (e.val / 24) + 1

/-- The segments that a transfer crosses from a place to another anticlockwise. -/
def segmentsFrom (a b : Nat) : List Nat := ((List.range ((b + 32 - a) % 32)).map fun i => (a + i) % 32 / 2).eraseDups

/-- The segments of a transfer with its direction, 0 anticlockwise: the way with fewer segments, anticlockwise when they are equal;
a way that a fenced segment interrupts gives way to the other (R181, R186). An edge router on a fenced segment has no ring
attachment. -/
def ringPath (fenced : BitVec 16) (src dst : RingPlace) : Option (List Nat × Nat) :=
  let a := ringPos src
  let b := ringPos dst
  let ac := segmentsFrom a b
  let cw := segmentsFrom b a
  let closed := fun l : List Nat => l.any fenced.getLsbD
  let first := if (b + 32 - a) % 32 ≤ (a + 32 - b) % 32 then [(ac, 0), (cw, 1)] else [(cw, 1), (ac, 0)]
  let attached := fun q : RingPlace => match q with | .stop _ => true | .edge e => !fenced.getLsbD (e.val / 24)
  if attached src && attached dst then first.find? fun q => !closed q.1 else none

/-- The slots that a transfer uses on each segment of its way: 2,048 bytes a ring cycle (R179, Table 5-6). -/
def ringSlots (t : TenantId) (others : List TenantId) (path : List Nat) (dir bytes : Nat) (d : Device) : Option Device :=
  path.foldl (fun acc s => acc.bind (useSlots 0 (2 * s + dir) t others ((bytes + 2047) / 2048))) (some d)

/-! ### Fenced segments (R186, R187, R191) -/

/-- The blocks at a stop have lost both segments: each is failed, with the consequences of its own chapter (Table 5-3). -/
def loseStop (k : Nat) (d : Device) : Device :=
  let ports := fun (d : Device) (a b : PortId) => [a, b].foldl (fun d p =>
    if (d.port p).state = .fenced then d else fencePort p d) d
  let packages := fun (d : Device) (ps : List (Fin 16)) => ps.foldl (fun d p => loseDevice (.package p) [] d) d
  match k with
  | 0 => condBegin 24 0 none (ports { d with host := { d.host with linkUp := false } } 0 1)
  | 2 => fenceStrainer 0 (packages d [0, 1, 2, 3])
  | 4 => ports d 2 3
  | 6 => fenceStrainer 1 (packages d [4, 5, 6, 7])
  | 8 => ports d 4 5
  | 10 => fenceStrainer 2 (packages d [8, 9, 10, 11])
  | 12 => ports d 6 7
  | 14 => fenceStrainer 3 (packages d [12, 13, 14, 15])
  | n => loseDevice (.stack ⟨n / 2 % 8, Nat.mod_lt _ (by decide)⟩) [] d

/-- A segment is fenced: EAVE_SEGMENT is raised, the steps with a transfer in flight on it are invalidated, a build that uses it is
abandoned, and the placer builds a new epoch for every tenant that used it. -/
def fenceSegment (k : Fin 16) (inFlight : List TenantId) (d : Device) : Device :=
  if d.fabric.fenced.getLsbD k.val then d
  else
    let users := allTenants.filter fun t => (d.tenant t).isOpen && (d.tenant t).epoch.segments.contains k.val
    let uses := match d.fabric.build with
      | some b => (match b.built with | some e => e.segments.contains k.val | none => false)
      | none => false
    let d := { d with fabric := { d.fabric with fenced := d.fabric.fenced ||| (1#16 <<< k.val) } }
    let d := occurFor 18 k.val inFlight d
    let d := inFlight.foldl (fun d t => invalidate t 0x0A (some 18) d) d
    let d := if uses then abandonBuild d else d
    let d := startBuild (users.foldl (fun d t => trigger 2 t d) d)
    let d := updateEdges d
    let d := if d.fabric.fenced.getLsbD ((k.val + 15) % 16) then loseStop k.val d else d
    if d.fabric.fenced.getLsbD ((k.val + 1) % 16) then loseStop ((k.val + 1) % 16) d else d

/-- Times of the uncorrectable words of a segment. -/
def segErrors (d : Device) (k : Fin 16) : List Nat := d.fabric.segErrors[k.val]'k.isLt

/-- An uncorrectable ring word on a segment: the step of its tenant is invalidated, and the second within 24 hours fences the
segment. -/
def ringUncorr (k : Fin 16) (t : TenantId) (d : Device) : Device :=
  let d := invalidate t 0x03 (some 17) (occur 17 k.val (some t) d)
  let d := { d with fabric := { d.fabric with segErrors := vmod d.fabric.segErrors k fun l => d.now :: recent d day l } }
  if 2 ≤ (segErrors d k).length then fenceSegment k [t] d else d

/-- RING_TRANSFER: `bytes` cross the ring for a tenant, `others` having transfers ready as well; `corrected` words are corrected, `bad`
is a segment on which a word is uncorrectable, and `chain` bytes travel on over an edge chain (R188, R189). -/
def ringTransfer (t : TenantId) (others : List TenantId) (src dst : RingPlace) (bytes corrected : Nat) (bad : Option (Fin 16))
    (chain : Nat) (d : Device) : Device :=
  match ringPath d.fabric.fenced src dst with
  | none => d
  | some (path, dir) =>
    match ringSlots t others path dir bytes d with
    | none => d
    | some d =>
      let d := bumpBy .edgeEntryBytes t.val chain (bumpBy .eaveCorrected 0 corrected d)
      let d := (List.range corrected).foldl (fun d _ => chargeCorrected (some t) d) d
      if checkInverted d 17 then injectedError 17 (path.headD 0) (some t) 0x03 d
      else match bad with
        | some k => if path.contains k.val then ringUncorr k t d else d
        | none => d

/-! ### Meanings -/

/-- RING_TRANSFER. -/
def execRingTransfer (t : TenantId) (others : List TenantId) (src dst : RingPlace) (bytes corrected : Nat) (bad : Option (Fin 16))
    (chain : Nat) (s : State) : Host.Outcome State Fault Refusal :=
  done s (ringTransfer t others src dst bytes corrected bad chain s.dev)

/-- EAVE_SEGMENT: a segment has a control fault, fails self-test, or has had its second uncorrectable word. -/
def execEaveSegment (k : Fin 16) (inFlight : List TenantId) (s : State) : Host.Outcome State Fault Refusal :=
  done s (fenceSegment k inFlight s.dev)

end Sys2Proof.Machine
end

