-- ==== Sys2Proof/Machine/Span.lean ====
section
/-! DEFINITION. The span: formation, heartbeats, lost members and partition, leaving, time, and the barrier sideband (R477 to R485,
R490 to R502). -/

namespace Sys2Proof.Machine

open Sys2Proof

/-- The span changed. -/
def modSpan (f : Span → Span) (d : Device) : Device := { d with span := f d.span }

/-! ### The configuration record (Table 12-8) -/

/-- A record with every field in its range. -/
def recordOk (b : List Byte) : Bool :=
  let top := leAt b 8 1
  let n := leAt b 9 1
  decide (top ≤ 2) && within 2 16 n && (decide (top ≠ 1) || decide (3 ≤ n)) && (decide (top ≠ 2) || decide (n = 16)) &&
    within 1 16 (leAt b 10 1) && within 100 60000 (leAt b 12 4) && within 100 10000000 (leAt b 16 4) &&
    within 100 10000000 (leAt b 20 4)

/-- MIN_MEMBERS and FORM_TIMEOUT in ns. -/
def minMembers (d : Device) : Nat := leAt d.span.record 10 1
def formTimeout (d : Device) : Nat := leAt d.span.record 12 4 * ms

/-- SPAN_ID. -/
def spanId (d : Device) : Nat := leAt d.span.record 0 8

/-- A set of span indices as a mask. -/
def maskOf (l : List Nat) : BitVec 16 := l.foldl (fun m i => m ||| (1#16 <<< i)) 0

/-! ### Formation (R492 to R495) -/

/-- This module as it stands in its own SPAN_HELLO. -/
def selfMember (d : Device) : Member :=
  let i := runningImage d
  { serial := d.boot.serial, indices := (maskOf (recordIndices d d.boot.serial)).toNat, digest := d.span.digest
    arith := i.arith, iface := i.iface, latency := d.span.lSelf
    cabling := allPorts.all fun p => !decide ((d.port p).state = .active) || (d.port p).cablingOk
    runs := allTenants.filterMap fun t =>
      match (d.tenant t).runId with
      | some r => if spanBound d t then some (r, (d.tenant t).nextStep) else none
      | none => none }

/-- Modules present, by ascending lowest index. -/
def present (d : Device) : List Member := sortBy (fun a b => decide (a.lowest < b.lowest)) (selfMember d :: d.span.peers)

/-- The winning digest: held by the most modules present, on a tie by the one with the lowest index (R493). -/
def winningDigest (l : List Member) : BitVec 128 :=
  let votes := fun m : Member => (l.filter fun x => decide (x.digest = m.digest)).length
  match l with
  | [] => 0
  | m :: ms => (ms.foldl (fun best x => if votes best < votes x then x else best) m).digest

/-- The leader: the lowest index that holds the winning digest. -/
def electLeader (l : List Member) : Option Member := l.find? fun m => decide (m.digest = winningDigest l)

/-- The modules admitted: right digest and cabling, leader first and then by ascending index while the interface levels differ by one
at most (R494). -/
def admitted (l : List Member) : List Member :=
  match electLeader l with
  | none => []
  | some ld =>
    let rest := l.filter fun m => !decide (m.serial = ld.serial) && decide (m.digest = ld.digest) && m.cabling
    rest.foldl (fun acc m =>
      let levels := m.iface :: acc.map (·.iface)
      if levels.foldl max 0 ≤ levels.foldl min m.iface + 1 then acc ++ [m] else acc) [ld]

/-- Every index of the span has its carrier among some modules. -/
def covers16 (d : Device) (l : List Member) : Bool :=
  (List.range (spanSize d)).all fun i => l.any fun m => bitAt m.indices i

/-- What a leader commits for the modules that it admits. -/
def commitOf (d : Device) (l : List Member) : SpanCommit :=
  let self := selfMember d
  { digest := d.span.digest, leader := ⟨self.lowest % 16, Nat.mod_lt _ (by decide)⟩
    members := l.map fun m => (m.serial, BitVec.ofNat 16 m.indices)
    lMax := (l.map (·.latency)).foldl max 0, time := moduleTime d
    iface := (l.map (·.iface)).foldl min self.iface
    arithMixed := l.any fun m => !decide (m.arith = self.arith), runs := self.runs }

/-- SPAN_COMMIT leaves for a module over the port by which it is reached. -/
def sendCommit (k : SpanCommit) (m : Member) (d : Device) : Device :=
  match (m.ports.head?).bind fun p => if h : p < 8 then some (⟨p, h⟩ : PortId) else none with
  | none => d
  | some p =>
    sendMessage p k.leader.val m.lowest none .spanCommit
      ([spanId d % 2 ^ 32, d.span.commitNumber, k.lMax, k.time, k.iface, b2n k.arithMixed] ++
        k.members.flatMap (fun q => [q.1.toNat, q.2.toNat]) ++ k.runs.flatMap fun q => [q.1, q.2]) (bytes16 k.digest) d

/-- The result bytes of SPAN_FORM (Table 15-9). -/
def formResult (d : Device) : List Byte :=
  leBytes 2 d.span.members.toNat ++ leBytes 2 d.span.carried.toNat ++ leBytes 1 d.span.leader ++ leBytes 1 (b2n d.span.arithMixed) ++
    leBytes 1 d.span.iface ++ leBytes 1 0 ++ bytes16 d.span.digest

/-- The next step of a run bound to the span takes the leader's value, which the Slate records (R494). -/
def adjustRun (t : TenantId) (runs : List (Nat × Nat)) (d : Device) : Device :=
  let x := d.tenant t
  match x.runId.bind fun r => (assoc runs r).map fun n => (r, n) with
  | none => d
  | some (r, n) =>
    if n = x.nextStep ∨ !spanBound d t then d
    else
      let d := writeRecord recAdjust t.val (leBytes 8 r ++ leBytes 8 x.nextStep ++ leBytes 8 n) d
      bump .spanStepAdjust 0 (modRun t (fun r => { r with adjusted := true }) (modTenant t (fun x => { x with nextStep := n }) d))

/-- This module is a member under a commit: it takes the members, the leader, L_max, the levels and the time (R494). -/
def applyCommit (k : SpanCommit) (d : Device) : Device :=
  let own := (assoc k.members d.boot.serial).getD 0
  let others := k.members.filter fun q => !decide (q.1 = d.boot.serial)
  let held := others.foldl (fun m q => m ||| q.2) 0
  let peer := fun q : BitVec 128 × BitVec 16 =>
    let m := (d.span.peers.find? fun m => decide (m.serial = q.1)).getD
      { serial := q.1, indices := 0, digest := k.digest, arith := 0, iface := k.iface }
    { m with indices := q.2.toNat, heard := d.now }
  let late := d.span.formed
  let d := modSpan (fun s => { s with
    formed := true, partitioned := false, leader := k.leader.val, arithMixed := k.arithMixed, iface := k.iface, lMax := k.lMax
    peers := others.map peer, carried := if late then s.carried else own
    members := held ||| own, committed := k.members.map fun q => (indicesOf q.2.toNat).headD 0
    nextBarrier := if late then s.nextBarrier else 0, barriers := if late then s.barriers else [] }) d
  let lead := isLeader d
  let d := if lead then d else allTenants.foldl (fun d t => adjustRun t k.runs d) d
  if lead then d
  else
    let by_ := Int.ofNat k.time - Int.ofNat (moduleTime d)
    let d := if by_ = 0 then d else bump .timeSteps 0 (stepTime by_ d)
    { d with time := { d.time with offset := satInt32 (-by_) }, backup := { d.backup with rtcLost := false } }

/-- SPAN_FORM completes. -/
def formDone (st : Status) (reason : Nat) (result : List Byte) (d : Device) : Device :=
  match d.span.forming with
  | none => d
  | some (c, _) => post c st reason result false (modSpan (fun s => { s with forming := none }) d)

/-- The leader commits with the modules that it admits; those it refuses hear of it as well. -/
def commitSpan (d : Device) : Device :=
  let l := admitted (present d)
  let d := modSpan (fun s => { s with commitNumber := s.commitNumber + 1 }) d
  let k := commitOf d l
  let d := d.span.peers.foldl (fun d m => sendCommit k m d) d
  let d := applyCommit k d
  formDone .ok 0 (formResult d) d

/-- This module would lead the modules present. -/
def leadsPresent (d : Device) : Bool := match electLeader (present d) with | some m => decide (m.serial = d.boot.serial) | none => false

/-- The leader commits as soon as the carriers of all indices are admitted. -/
def tryForm (d : Device) : Device :=
  if d.span.forming.isSome && leadsPresent d && covers16 d (admitted (present d)) then commitSpan d else d

/-- SPAN_FORM: the record is taken and the cabled ports train (R492 steps 1 to 3). -/
def spanForm (c : Call) (d : Device) : Device :=
  withBuf c 2 544 (fun b d =>
    let e := modSpan (fun s => { s with record := b, digest := sha384First16 b, topology := leAt b 8 1 }) d
    let own := recordIndices e d.boot.serial
    if !recordOk b || own.isEmpty || decide (2 < own.length) then badParam c 0 d
    else if d.span.formed || d.span.forming.isSome then finish c .busy 0 d
    else if own.length = 2 ∧ goodCount d < 9216 then finish c .noResource 0 d
    else
      let d := modSpan (fun s => { s with forming := some (c, d.now), peers := [], arrivals := [], partitioned := false }) e
      let mine := allPorts.filter fun p => bitAt (ownPorts d) p.val
      let d := mine.foldl (fun d p =>
        match (d.port p).state with
        | .down => modPort p (fun r => { r with state := .detect, since := d.now }) d
        | .fenced => modPort p (fun r => { r with state := .detect, since := d.now }) d
        | .active => sendHello p d
        | _ => d) d
      tryForm d) d

/-- A module that greets, as a member record. -/
def helloMember (h : Hello) (p : PortId) (d : Device) : Member :=
  { serial := h.serial, indices := h.indices.toNat, digest := h.digest, arith := h.arith, iface := h.iface, runs := h.runs
    cabling := h.cabling, latency := h.latency, heard := d.now
    ports := ((((d.span.peers ++ d.span.arrivals).find? fun m => decide (m.serial = h.serial)).map (·.ports)).getD []) ++ [p.val] |>.eraseDups }

/-- SPAN_HELLO: one for another span is ignored and counted, and its link carries no span traffic; any other is noted, and passed on
over the other ports when it is new. After the commit its sender waits for the leader's next heartbeat (R495). -/
def spanHello (p : PortId) (h : Hello) (d : Device) : Device :=
  if !d.span.formed && d.span.forming.isNone then d
  else if h.spanId.toNat ≠ spanId d then bump .protoErrors p.val (modPort p (fun r => { r with cablingOk := false }) d)
  else if h.serial = d.boot.serial then d
  else
    let m := helloMember h p d
    let known := (d.span.peers ++ d.span.arrivals).any fun x => decide (x.serial = h.serial)
    let put := fun l : List Member => l.filter (fun x => !decide (x.serial = h.serial)) ++ [m]
    let d := if d.span.formed then
        (if d.span.peers.any fun x => decide (x.serial = h.serial) then d
         else modSpan (fun s => { s with arrivals := put s.arrivals }) d)
      else modSpan (fun s => { s with peers := put s.peers }) d
    let d := if known then d
      else (allPorts.filter fun q => !decide (q = p) && decide ((d.port q).state = .active)).foldl (fun d q =>
        sendMessage q m.lowest 0 none .spanHello
          ([spanId d % 2 ^ 32, 0, spanId d, h.indices.toNat, h.arith, h.iface, h.time] ++ h.runs.flatMap fun r => [r.1, r.2])
          (bytes16 h.digest) d) d
    tryForm d

/-- SPAN_COMMIT: an admitted module becomes a member; a refused one completes SPAN_FORM with SPAN_MISMATCH, and raises
SPAN_CONFIG_MISMATCH over its digest or its cabling. A later commit brings members that came late; what they are to carry again goes
to them at the next barrier. -/
def spanCommit (k : SpanCommit) (d : Device) : Device :=
  if !d.span.formed && d.span.forming.isNone then d
  else if k.members.any fun q => decide (q.1 = d.boot.serial) then
    let new := k.members.filter fun q => !decide (q.1 = d.boot.serial) && !(d.span.peers.any fun m => decide (m.serial = q.1))
    let back := if d.span.formed then new.flatMap fun q =>
        ((recordIndices d q.1).filter fun i => isOwn d i && !decide (recordSerial d i = d.boot.serial)).map fun i =>
          (i, (recordIndices d q.1).headD 0)
      else []
    let d := applyCommit k d
    let d := modSpan (fun s => { s with moves := s.moves ++ back }) d
    formDone .ok 0 (formResult d) d
  else if d.span.formed then d
  else
    let config := !decide (k.digest = d.span.digest) || !(selfMember d).cabling
    let d := if config then occur 96 0 none d else d
    formDone .spanMismatch (if config then 0x30 else 0x32) [] d

/-- FORM_TIMEOUT: the leader commits with the modules admitted when they are enough; with too few every module gives up. -/
def formTimesOut (d : Device) : Device :=
  match d.span.forming with
  | none => d
  | some (_, since) =>
    let d := advanceTo (since + formTimeout d) d
    if (admitted (present d)).length < minMembers d then formDone .timeout 0 [] (modSpan (fun s => { s with peers := [] }) d)
    else if leadsPresent d then commitSpan d
    else d

/-! ### Members that leave (R497 to R499, R502) -/

/-- This module is no longer a member of the span. -/
def leaveSpan (d : Device) : Device :=
  modSpan (fun s => { s with
    formed := false, carried := 0, members := 0, peers := [], arrivals := [], barriers := [], moves := [], leaving := none }) d

/-- Steps in progress that use an uncarried index are invalid (R502). -/
def dropUncarried (d : Device) : Device :=
  allTenants.foldl (fun d t => if d.inStep t && spanBound d t && indexUncarried d t then invalidate t 0x14 none d else d) d

/-- A member's indices become uncarried; the lowest remaining index leads when it was the leader. -/
def removeMember (m : Member) (d : Device) : Device :=
  let d := modSpan (fun s => { s with
    peers := s.peers.filter fun x => !decide (x.serial = m.serial), members := s.members &&& ~~~(BitVec.ofNat 16 m.indices) }) d
  let d := if bitAt m.indices d.span.leader then
      modSpan (fun s => { s with leader := (indicesOf s.members.toNat).headD 0 }) d else d
  dropUncarried d

/-- The step that waits at a barrier completes with STEP_INVALID: it is created, and is invalid before it runs (R485). -/
def abortWait (t : TenantId) (d : Device) : Device :=
  match (d.tenant t).run with
  | none => d
  | some r =>
    let d := modRun t (fun r => { r with barrier := none }) d
    if r.step.isNone then
      let d := match r.replay with
        | some p => createReplay t r p d
        | none => createStep t r d
      if (d.stepOf t).isSome then invalidate t 0x09 (some 98) (beginStep t d) else d
    else invalidate t 0x09 (some 98) (beginStep t d)

/-- A barrier is aborted: ABORT goes on to the children, and every step that waits on it is invalid. -/
def abortBarrier (n : Nat) (d : Device) : Device :=
  match barrierOf d n with
  | none => d
  | some b =>
    let d := (children d).foldl (fun d c => sideband c .abort n d) d
    let d := modSpan (fun s => { s with barriers := s.barriers.filter fun x => !decide (x.number = n) }) d
    (b.tenants.filterMap tenantOf).foldl (fun d t => abortWait t d) d

/-- Barriers of the leader that wait on a member. -/
def waitingOn (d : Device) (child : Nat) : List Nat :=
  (d.span.barriers.filter fun b => b.releaseAt.isNone && (children d).contains child && !b.arrived.contains child).map (·.number)

/-- The part of a split span in which this module remains goes on: more than half of the members last committed, or half of them with
the lowest index among them (R499). -/
def partGoesOn (d : Device) : Bool :=
  let here := d.span.committed.filter fun i => d.span.members.getLsbD i
  let all := d.span.committed
  decide (all.length < 2 * here.length) || (decide (all.length = 2 * here.length) && here.contains (all.foldl min 16))

/-- SPAN_MEMBER_LOST: no heartbeat from a member for 10 ms. -/
def memberLost (i : Nat) (d : Device) : Device :=
  match memberAt d i with
  | none => d
  | some m =>
    if !d.span.formed then d
    else
      let d := advanceTo (m.heard + 10 * ms) d
      let d := occur 97 m.lowest none d
      let stuck := if isLeader d then waitingOn d m.lowest else []
      let d := stuck.foldl (fun d n => abortBarrier n d) d
      let d := removeMember m d
      if partGoesOn d then d else modSpan (fun s => { s with partitioned := true }) (leaveSpan d)

/-- SPAN_EXPEL: this module is expelled for a configuration mismatch. -/
def spanExpel (d : Device) : Device := if d.span.formed then dropUncarried (leaveSpan (occur 96 0 none d)) else d

/-! ### Heartbeats and time (R494 to R497, R575) -/

/-- A late module is admitted when its digest and levels allow it; its indices that no member carries are its own at once. -/
def admitArrivals (d : Device) : Device :=
  let base := selfMember d :: d.span.peers
  let ok := d.span.arrivals.filter fun m =>
    decide (m.digest = d.span.digest) && m.cabling && (let levels := m.iface :: base.map (·.iface)
      decide (levels.foldl max 0 ≤ levels.foldl min m.iface + 1))
  let refused := d.span.arrivals.filter fun m => !ok.contains m
  let number := d.span.commitNumber + 1
  if d.span.arrivals.isEmpty then d
  else
    let free := fun m : Member => (BitVec.ofNat 16 m.indices) &&& ~~~d.span.members
    let new := ok.map fun m => { m with indices := (free m).toNat }
    let back := ok.flatMap fun m => ((recordIndices d m.serial).filter (isOwn d)).map fun i => (i, (recordIndices d m.serial).headD 0)
    let d := modSpan (fun s => { s with arrivals := [], commitNumber := number, peers := s.peers ++ new }) d
    let k := commitOf d ({ selfMember d with indices := d.span.carried.toNat } :: d.span.peers)
    let d := (d.span.peers ++ refused).foldl (fun d m => sendCommit k m d) d
    modSpan (fun s => { s with moves := s.moves ++ back }) (applyCommit k d)

/-- HEARTBEAT_SEND: a heartbeat goes to every other member, with the leader's time from the leader; the leader admits late modules. -/
def heartbeatSend (d : Device) : Device :=
  if !d.span.formed then d
  else
    let n := d.span.heartbeat
    let i := runningImage d
    let d := modSpan (fun s => { s with heartbeat := n + 1 }) d
    let d := d.span.peers.foldl (fun d m =>
      sendMgmt m.lowest .spanHeartbeat [spanId d % 2 ^ 32, n % 2 ^ 32, i.arith, i.iface, d.span.carried.toNat, d.span.lSelf, d.span.lMax]
        (bytes16 d.span.digest) d) d
    if isLeader d then
      admitArrivals (d.span.peers.foldl (fun d m => sendMgmt m.lowest .timeSync [n % 2 ^ 32, 0, moduleTime d] [] d) d)
    else d

/-- SPAN_HEARTBEAT: a member has been heard. One whose digest is not the leader's is expelled by the leader, and its indices become
uncarried on every member; the leader's heartbeat brings L_max. -/
def spanHeartbeat (serial digest : BitVec 128) (indices : BitVec 16) (latency lMax : Nat) (d : Device) : Device :=
  match d.span.peers.find? fun m => decide (m.serial = serial) with
  | none => d
  | some m =>
    if !d.span.formed then d
    else if digest ≠ d.span.digest then
      (if bitAt m.indices d.span.leader then d
       else
         let d := if isLeader d then sendMgmt m.lowest .spanExpel [spanId d % 2 ^ 32, 0x30] [] d else d
         removeMember m d)
    else
      let lead := bitAt m.indices d.span.leader
      let d := modSpan (fun s => { s with
        peers := s.peers.map fun x => if x.serial = serial then
            { x with heard := d.now, indices := indices.toNat &&& (65535 - s.carried.toNat), latency := latency } else x
        lMax := if lead then lMax else s.lMax }) d
      let d := modSpan (fun s => { s with members := s.peers.foldl (fun m x => m ||| BitVec.ofNat 16 x.indices) s.carried }) d
      if isLeader d then modSpan (fun s => { s with lMax := (s.peers.map (·.latency)).foldl max s.lSelf }) d else d

/-- TIME_SYNC: a member's time follows the leader's. -/
def timeSync (time : Nat) (d : Device) : Device :=
  if d.span.formed && !isLeader d then
    let by_ := Int.ofNat time - Int.ofNat (moduleTime d)
    discipline (-by_) (modSpan (fun s => { s with syncOffset := by_ }) d)
  else d

/-! ### Handing indices over (R500, R501) -/

/-- The carried state and the tier data of a tenant's run at an index, as STATE_MOVE sends them. -/
def stateOf (d : Device) (t : TenantId) (i : Nat) : List Byte :=
  let areas := (runVtiles d t).filter fun n => decide (n / 16384 = i)
  let k := runDecl d t
  areas.flatMap (fun n => spadRead d (refOf n) ((k.map (·.carriedBase)).getD 0) (carriedLen d t)) ++
    ((d.tenant t).tensors.filter fun x => !decide (x.mode = .readOnly)).flatMap fun x => x.bytes.readN 0 x.size

/-- The indices that this module hands over are sent, one after the other, and are its own no more. -/
def sendMoves (d : Device) : Device :=
  let runs := allTenants.filter fun t => running d t && spanBound d t
  let d := d.span.moves.foldl (fun d q =>
    let d := runs.foldl (fun d t => sendData q.2 (2 * t.val + 1) q.1 .stateMove [q.1, 0] (stateOf d t q.1) d) d
    modSpan (fun s => { s with
      carried := s.carried &&& ~~~(1#16 <<< q.1)
      peers := s.peers.map fun m => if bitAt m.indices q.2 then { m with indices := m.indices ||| 2 ^ q.1 } else m }) d) d
  let moved := maskOf (d.span.moves.map (·.1))
  let d := modSpan (fun s => { s with moves := [] }) d
  match d.span.leaving with
  | none => d
  | some c => post c .ok 0 (leBytes 2 moved.toNat) false (leaveSpan d)

/-- Handing over waits for the next step-start barrier of the runs bound to the span; without such a run it starts at once. -/
def tryMoves (d : Device) : Device :=
  if d.span.moves.isEmpty || (allTenants.any fun t => running d t && spanBound d t) then d else sendMoves d

/-- SPAN_LEAVE: a taker for every index that this module carries. `able` tells that each taker meets R500 on its side. -/
def spanLeave (c : Call) (able : Bool) (d : Device) : Device :=
  let w := c.w 1
  let pairs := (if bitAt w 8 then [(field w 0 4, field w 4 4)] else []) ++ (if bitAt w 24 then [(field w 16 4, field w 20 4)] else [])
  let takerOk := fun q : Nat × Nat =>
    match d.span.peers.find? fun m => decide (m.lowest = q.2) with
    | some m => decide ((indicesOf m.indices).length + (pairs.filter fun x => decide (x.2 = q.2)).length ≤ 2)
    | none => false
  if !d.span.formed || !decide (maskOf (pairs.map (·.1)) = d.span.carried) || !decide (pairs.map (·.1)).Nodup then badParam c 0 d
  else if d.span.leaving.isSome then finish c .busy 0 d
  else if !able || !pairs.all takerOk then finish c .noResource 0 d
  else tryMoves (modSpan (fun s => { s with leaving := some c, moves := s.moves ++ pairs }) d)

/-- STATE_MOVE: carried state or tier data of an index land here; with the last of them this module carries the index, and the
placer folds its vtiles (R59, R501). -/
def stateMove (t : TenantId) (i : SpanIndex) (dst : SlotEnd) (bytes : List Byte) (last : Bool) (d : Device) : Device :=
  let d := match dst with
    | .spad v a => spadPut v a bytes d
    | .tensor id off => modTensor t id (fun x => x.write off bytes) d
    | .remote .. => d
  if last && d.span.formed then
    let d := modSpan (fun s => { s with
      carried := s.carried ||| (1#16 <<< i.val), members := s.members ||| (1#16 <<< i.val)
      peers := s.peers.map fun m => { m with indices := m.indices &&& (65535 - 2 ^ i.val) } }) d
    allTenants.foldl (fun d t => trigger 4 t d) d
  else d

/-! ### The sideband (R481 to R485) -/

/-- A sideband message with a CRC error is discarded and counted; `crc` is none for a barrier message that came in-band (R484). -/
def onSideband (p : PortId) (kind : LinkMsg) (n src : Nat) (crc : Option (BitVec 8)) (k : Device → Device) (d : Device) : Device :=
  match crc with
  | some c => if c.toNat = crc8 (sidebandBody kind n src) 24 0 then k d else bump .sidebandCrc p.val d
  | none => k (if (barrierOf d n).isSome then modBarrier n (fun b => { b with inband := true }) d else d)

/-- The barrier n lies behind the next one and is over. -/
def barrierOver (d : Device) (n : Nat) : Bool :=
  (barrierOf d n).isNone && decide ((d.span.nextBarrier + 2 ^ 16 - n % 2 ^ 16) % 2 ^ 16 < 2 ^ 15) && decide (n ≠ d.span.nextBarrier)

/-- ARRIVE: a child has reached a barrier. To a child that has missed a release, it goes again in-band (R484). -/
def arrive (n src : Nat) (d : Device) : Device :=
  if !d.span.formed then d
  else if barrierOver d n then sendMgmt src .release [n, selfIndex d] [] d
  else tryBarrier n (modBarrier n (fun b => { b with arrived := if b.arrived.contains src then b.arrived else b.arrived ++ [src] }) d)

/-- ARRIVE_REPEAT: a member that has sent ARRIVE repeats it every 1 µs until RELEASE. -/
def arriveRepeat (n : Nat) (d : Device) : Device :=
  match barrierOf d n with
  | none => d
  | some b =>
    if b.reached.isSome && b.releaseAt.isNone && !isLeader d && (children d).all b.arrived.contains then
      sideband (parentOf d (selfIndex d)) .arrive n d
    else d

/-- RELEASE: it goes on to the children, and this module releases at t + (L_max − L_self). -/
def release (n : Nat) (d : Device) : Device :=
  match barrierOf d n with
  | none => d
  | some b =>
    if b.reached.isSome && b.releaseAt.isNone then releaseBarrier n (d.now + (d.span.lMax - d.span.lSelf)) d else d

/-- RELEASE_COPY: used when RELEASE was lost; this module then releases 20 ns earlier than R483 would have it. -/
def releaseCopy (n : Nat) (d : Device) : Device :=
  match barrierOf d n with
  | none => d
  | some b =>
    if b.reached.isSome && b.releaseAt.isNone then releaseBarrier n (d.now + (d.span.lMax - d.span.lSelf) - 20) d else d

/-- What the members compare at the first barrier of a run: the checkpoint parts after RESTORE, and the model and descriptor of an
annealing run (R404, R557). The run ends with SPAN_MISMATCH when they differ. -/
def compareRun (t : TenantId) (differ : Bool) (d : Device) : Device :=
  match (d.tenant t).run with
  | none => d
  | some r =>
    let first := (d.tenant t).restored || (r.model.isSome && !r.begun)
    let reason := if r.model.isSome && !(d.tenant t).restored then 0x26 else 0
    let d := modTenant t (fun x => { x with restored := false }) d
    if first && differ then stopRun t .spanMismatch reason d else d

/-- BARRIER_LOCAL_RELEASE: the members' release of a barrier; what waits for it goes on, and indices are handed over. -/
def barrierLocalRelease (n : Nat) (differ : Bool) (d : Device) : Device :=
  match barrierOf d n with
  | none => d
  | some b =>
    if b.releaseAt.isNone then d
    else
      let d := localRelease n d
      let d := (b.tenants.filterMap tenantOf).foldl (fun d t => compareRun t differ d) d
      if d.span.moves.isEmpty then d else sendMoves d

/-- BARRIER_TIMEOUT: the leader's own arrival lies BARRIER_TIMEOUT back; it names the members whose ARRIVE is missing, and its ABORT
releases the barrier (R485, Table 16-5). -/
def barrierTimesOut (n : Nat) (d : Device) : Device :=
  match barrierOf d n with
  | none => d
  | some b =>
    match b.reached with
    | none => d
    | some t =>
      if isLeader d && b.releaseAt.isNone then
        let d := advanceTo (t + barrierTimeout d) d
        let missing := (children d).filter fun c => !b.arrived.contains c
        let d := endCycle (sourceEvent 98 missing (b.tenants.filterMap tenantOf).head? d)
        abortBarrier n (releaseEvent 4 (b.tenants.filterMap tenantOf).head? (journal kForcedRelease 0 d))
      else d

/-- ECHO is answered on its port. -/
def echo (p : PortId) (n : Nat) (d : Device) : Device :=
  emit (.ridge p.val .echoReply [sidebandWord .echoReply n (selfIndex d)] []) d

/-- The port towards the parent. -/
def parentPort (d : Device) : Option PortId :=
  if d.span.formed && !isLeader d then (groupTo d (parentOf d (selfIndex d))).head? else none

/-- ECHO_REPLY: half the round trip is the latency to the parent; `above` is the sum of the rest of the path. -/
def echoReply (p : PortId) (above : Nat) (d : Device) : Device :=
  match (d.port p).echoSent with
  | none => d
  | some t =>
    let lat := (d.now - t) / 2
    let d := modPort p (fun r => { r with echo := some lat, echoSent := none, sideband := true }) d
    if parentPort d = some p then modSpan (fun s => { s with lSelf := lat + above }) d else d

/-- ECHO_MEASUREMENT: once a second the latency to the parent is measured; a probe without an answer is a failed sideband (R484). -/
def echoMeasurement (d : Device) : Device :=
  match parentPort d with
  | none => d
  | some p =>
    let failed := (d.port p).echoSent.isSome && (d.port p).sideband
    let d := if failed then occur 21 p.val none (modPort p (fun r => { r with sideband := false }) d) else d
    emit (.ridge p.val .echo [sidebandWord .echo 0 (selfIndex d)] []) (modPort p (fun r => { r with echoSent := some d.now }) d)

/-! ### Meanings -/

/-- SPAN_FORM. -/
def execSpanForm (c : Call) (s : State) : Host.Outcome State Fault Refusal := done s (runFw c (spanForm c) s.dev)

/-- SPAN_LEAVE. -/
def execSpanLeave (c : Call) (able : Bool) (s : State) : Host.Outcome State Fault Refusal := done s (runFw c (spanLeave c able) s.dev)

/-- SPAN_HELLO. -/
def execSpanHello (p : PortId) (h : Hello) (s : State) : Host.Outcome State Fault Refusal := done s (spanHello p h s.dev)

/-- SPAN_COMMIT. -/
def execSpanCommit (k : SpanCommit) (s : State) : Host.Outcome State Fault Refusal := done s (spanCommit k s.dev)

/-- SPAN_HEARTBEAT. -/
def execSpanHeartbeat (serial digest : BitVec 128) (indices : BitVec 16) (latency lMax : Nat) (s : State) :
    Host.Outcome State Fault Refusal := done s (spanHeartbeat serial digest indices latency lMax s.dev)

/-- HEARTBEAT_SEND. -/
def execHeartbeatSend (s : State) : Host.Outcome State Fault Refusal := done s (heartbeatSend s.dev)

/-- SPAN_EXPEL. -/
def execSpanExpel (s : State) : Host.Outcome State Fault Refusal := done s (spanExpel s.dev)

/-- FORM_TIMEOUT. -/
def execFormTimeout (s : State) : Host.Outcome State Fault Refusal := done s (formTimesOut s.dev)

/-- SPAN_MEMBER_LOST. -/
def execSpanMemberLost (i : SpanIndex) (s : State) : Host.Outcome State Fault Refusal := done s (memberLost i.val s.dev)

/-- TIME_SYNC. -/
def execTimeSync (time : Nat) (s : State) : Host.Outcome State Fault Refusal := done s (timeSync time s.dev)

/-- STATE_MOVE. -/
def execStateMove (t : TenantId) (i : SpanIndex) (dst : SlotEnd) (bytes : List Byte) (last : Bool) (s : State) :
    Host.Outcome State Fault Refusal := done s (stateMove t i dst bytes last s.dev)

/-- ARRIVE. -/
def execArrive (p : PortId) (n : BitVec 16) (src : SpanIndex) (crc : Option (BitVec 8)) (s : State) :
    Host.Outcome State Fault Refusal := done s (onSideband p .arrive n.toNat src.val crc (arrive n.toNat src.val) s.dev)

/-- ARRIVE_REPEAT. -/
def execArriveRepeat (n : BitVec 16) (s : State) : Host.Outcome State Fault Refusal := done s (arriveRepeat n.toNat s.dev)

/-- RELEASE. -/
def execRelease (p : PortId) (n : BitVec 16) (src : SpanIndex) (crc : Option (BitVec 8)) (s : State) :
    Host.Outcome State Fault Refusal := done s (onSideband p .release n.toNat src.val crc (release n.toNat) s.dev)

/-- RELEASE_COPY. -/
def execReleaseCopy (p : PortId) (n : BitVec 16) (src : SpanIndex) (crc : Option (BitVec 8)) (s : State) :
    Host.Outcome State Fault Refusal := done s (onSideband p .releaseCopy n.toNat src.val crc (releaseCopy n.toNat) s.dev)

/-- BARRIER_LOCAL_RELEASE: `differ` tells that what the members compare at the barrier differs. -/
def execBarrierLocalRelease (n : BitVec 16) (differ : Bool) (s : State) : Host.Outcome State Fault Refusal :=
  done s (barrierLocalRelease n.toNat differ s.dev)

/-- ABORT. -/
def execAbort (p : PortId) (n : BitVec 16) (src : SpanIndex) (crc : Option (BitVec 8)) (s : State) :
    Host.Outcome State Fault Refusal := done s (onSideband p .abort n.toNat src.val crc (abortBarrier n.toNat) s.dev)

/-- BARRIER_TIMEOUT. -/
def execBarrierTimeout (n : BitVec 16) (s : State) : Host.Outcome State Fault Refusal := done s (barrierTimesOut n.toNat s.dev)

/-- ECHO. -/
def execEcho (p : PortId) (n : BitVec 16) (src : SpanIndex) (crc : Option (BitVec 8)) (s : State) :
    Host.Outcome State Fault Refusal := done s (onSideband p .echo n.toNat src.val crc (echo p n.toNat) s.dev)

/-- ECHO_REPLY. -/
def execEchoReply (p : PortId) (n : BitVec 16) (src : SpanIndex) (crc : Option (BitVec 8)) (above : Nat) (s : State) :
    Host.Outcome State Fault Refusal := done s (onSideband p .echoReply n.toNat src.val crc (echoReply p above) s.dev)

/-- ECHO_MEASUREMENT. -/
def execEchoMeasurement (s : State) : Host.Outcome State Fault Refusal := done s (echoMeasurement s.dev)

end Sys2Proof.Machine
end

