-- ==== Sys2Proof/Machine/Faults.lean ====
section
/-! DEFINITION. The commands and events of the Gutter: FAULT_READ, FAULT_ACK, FAULT_FORCE, events that fall together, block resets,
shadow windows, quiet periods, forced releases, the error pair's readback, and the events of the Kettle and the Purlin network
(R643 to R674, R683). -/

namespace Sys2Proof.Machine

open Sys2Proof

/-! ### FAULT_READ and FAULT_ACK (R646, R659, R683) -/

/-- The source record of Table 16-15; a reserved source has a zero one. -/
def sourceRecord (d : Device) (s : Nat) : List Byte :=
  match sourceRow s with
  | none => List.replicate 32 0
  | some r =>
    let g := d.gutter
    let flags := b2n (g.sticky.getLsbD s) + 2 * b2n (condPresent d s) + 4 * b2n (g.latched.getLsbD s) + 8 * b2n (g.force.getLsbD s) +
      16 * b2n (g.checkInvert.getLsbD s) + 32 * b2n (srcEnabled d s) + 64 * b2n (bitAt (shadowMask d) s)
    leBytes 1 s ++ leBytes 1 r.cls.val ++ leBytes 1 flags ++ leBytes 1 (srcLevel d s) ++ leBytes 1 (g.lastLevel.toList.getD s 0) ++
      leBytes 3 0 ++ leBytes 4 (d.count .events s) ++ leBytes 4 (d.count .shadowed s) ++ leBytes 4 (d.count .escalations s) ++
      leBytes 4 (d.count .injected s) ++ leBytes 8 0

/-- QUIET_LEFT_MS: the rest of a running quiet period, rounded up to milliseconds (log entry 42). -/
def quietLeft (d : Device) (k : ClassId) : Nat :=
  match (classRec d k).quiet with
  | none => 0xFFFFFFFF
  | some (t, n) => (t + n * ms - d.now + ms - 1) / ms

/-- The class record of Table 16-15. -/
def classRecord (d : Device) (k : ClassId) : List Byte :=
  let c := classRec d k
  leBytes 1 k.val ++ leBytes 1 (b2n c.inFault + 2 * b2n (classUnack d k) + 4 * b2n (classLatched d k)) ++ leBytes 1 c.applied ++
    leBytes 1 (classCfg d k 2) ++ leBytes 2 c.recovery ++ leBytes 2 (classCfg d k 3) ++ leBytes 4 (classCfg d k 1) ++
    leBytes 4 (quietLeft d k) ++ leBytes 16 0

/-- The 4,352 bytes of FAULT_READ. -/
def faultRecords (d : Device) : List Byte := (List.range 128).flatMap (sourceRecord d) ++ (List.finRange 8).flatMap (classRecord d)

/-- The result of FAULT_READ. -/
def faultResult (d : Device) : List Byte :=
  leBytes 16 d.gutter.sticky.toNat ++ leBytes 1 (classesWhere fun k => (classRec d k).inFault) ++
    leBytes 1 (classesWhere (classUnack d)) ++ leBytes 1 (b2n d.pins.errP + 2 * b2n d.pins.errN)

/-- FAULT_READ. -/
def faultRead (c : Call) (d : Device) : Device :=
  if c.hasList 2 then
    (if c.fn.val ≠ 0 then finish c .notOwner 0 d
     else withOut c 2 (faultRecords d) (fun d => post c .ok 0 (faultResult d) false d) d)
  else post c .ok 0 (faultResult d) false d

/-- FAULT_ACK. -/
def faultAck (c : Call) (d : Device) : Device :=
  let d := endCycle (acknowledge (BitVec.ofNat 128 (c.w 1 + c.w 2 * 2 ^ 64)) d)
  post c .ok 0 (leBytes 16 d.gutter.sticky.toNat) false d

/-! ### FAULT_FORCE (R672, R673) -/

/-- The source that FAULT_FORCE names. -/
def forcedSource (c : Call) : SourceId := ⟨field (c.w 1) 0 7, Nat.mod_lt _ (by decide)⟩

/-- A bit of 128. -/
def srcBit (s : SourceId) : BitVec 128 := 1#128 <<< s.val

/-- A forced event that reacts counts in INJECTED too (R672). -/
def countForced (s : SourceId) (insts : List Nat) (d : Device) : Device :=
  if insts.contains forcedInstance && srcEnabled d s.val && d.gutter.initDone && !shadowed d s.val forcedInstance then
    bump .injected s.val d
  else d

/-- The force bit of a source is set: its condition is present, which makes one event when it was absent; an event that reacts
also counts in INJECTED. -/
def setForce (s : SourceId) (d : Device) : Device :=
  let was := condPresent d s.val
  let d := { d with gutter := { d.gutter with force := d.gutter.force ||| srcBit s } }
  if was then endCycle d
  else endCycle (sourceEvent s [forcedInstance] none (countForced s [forcedInstance] d))

/-- The force bit of a source is cleared. -/
def clearForce (s : SourceId) (d : Device) : Device :=
  endCycle { d with gutter := { d.gutter with force := d.gutter.force &&& ~~~(srcBit s) } }

/-- FAULT_FORCE for a source that exists; a reserved number is refused. -/
def onSource (c : Call) (k : SourceId → Device → Device) (d : Device) : Device :=
  if (sourceRow (forcedSource c).val).isSome then finish c .ok 0 (k (forcedSource c) d) else badParam c 0 d

/-- The sources that support check-invert. -/
def invertible (s : SourceId) : Bool := [0, 1, 2, 3, 9, 16, 17].contains s.val

/-- Check-invert of a source turned on or off. -/
def setInvert (on : Bool) (s : SourceId) (d : Device) : Device :=
  { d with gutter := { d.gutter with
    checkInvert := if on then d.gutter.checkInvert ||| srcBit s else d.gutter.checkInvert &&& ~~~(srcBit s) } }

/-- FAULT_FORCE with ACTION 2 or 3. -/
def checkInvert (on : Bool) (c : Call) (d : Device) : Device :=
  if invertible (forcedSource c) then finish c .ok 0 (setInvert on (forcedSource c) d) else badParam c 0 d

/-! ### Events that fall together (R661) -/

/-- The reports of a cycle on one source. -/
def reportsOf (rs : List FaultReport) (s : SourceId) : List FaultReport := rs.filter fun r => decide (r.src = s)

/-- The instances that make an event of a source in the cycle: occurrences, and the conditions that begin while the source's
condition is absent (R643). -/
def eventInstances (d : Device) (rs : List FaultReport) (s : SourceId) : List Nat :=
  (reportsOf rs s).flatMap fun r => match r.kind with
    | .occurrence => r.insts
    | .begins => if condPresent d s.val then [] else r.insts.filter fun i => !d.gutter.cond.contains (s.val, i)
    | .ends => []

/-- The conditions of a source as its reports leave them. -/
def reportConds (rs : List FaultReport) (s : SourceId) (d : Device) : Device :=
  (reportsOf rs s).foldl (fun d r => match r.kind with
    | .occurrence => d
    | .begins => { d with gutter := { d.gutter with
        cond := d.gutter.cond ++ (r.insts.eraseDups.filter fun i => !d.gutter.cond.contains (s.val, i)).map fun i => (s.val, i) } }
    | .ends => { d with gutter := { d.gutter with
        cond := d.gutter.cond.filter fun p => !(decide (p.1 = s.val) && r.insts.contains p.2) } }) d

/-- The events of one source in the cycle; the flag tells whether one reacted. -/
def cycleSource (rs : List FaultReport) (q : Device × BitVec 128) (s : SourceId) : Device × BitVec 128 :=
  let d := q.1
  let insts := eventInstances d rs s
  let reacts := srcEnabled d s.val && d.gutter.initDone && insts.any fun i => !shadowed d s.val i
  let charge := ((reportsOf rs s).filterMap (·.charge)).head?
  let d := reportConds rs s d
  (if insts.isEmpty then d else sourceEvent s insts charge d, if reacts then q.2 ||| srcBit s else q.2)

/-- FAULT_EVENT: what reports in one Gutter cycle, with the acknowledgement write that falls in it. Events are taken in ascending
source number; an acknowledgement leaves the bits that an event of the cycle has set (R19). -/
def faultEvent (rs : List FaultReport) (ack : BitVec 128) (d : Device) : Device :=
  let q := (List.finRange 128).foldl (cycleSource rs) (d, 0)
  endCycle (acknowledge (ack &&& ~~~q.2) q.1)

/-! ### Block resets, shadow windows and quiet periods -/

/-- A block reset completes: its reaction ends, and its window closes 100 µs later, unless the reset's maximum closes it before
(R656, R662). -/
def completeReset (b : Block) (d : Device) : Device :=
  if d.gutter.resets.any fun r => decide (r.block = b) then
    endCycle { d with gutter := { d.gutter with
      resets := d.gutter.resets.eraseP fun r => decide (r.block = b)
      shadows := d.gutter.shadows.map fun w => if w.block = b then { w with closeAt := min w.closeAt (d.now + 100 * us) } else w } }
  else d

/-- The tenant charged for a condition: FRAME_HOLD names it as its instance, and INTAKE_LINK charges the owner of a context that
uses the port. -/
def condCharge (d : Device) (s inst : Nat) : Option TenantId :=
  if s = 48 then tenantOf inst
  else if s = 22 then (portUser d (decide (inst < 16)) (inst % 16)).map (ctxTenant d)
  else none

/-- Instances at which a source's condition is present, a force bit among them. -/
def condInstances (d : Device) (s : Nat) : List Nat :=
  ((d.gutter.cond.filter fun p => decide (p.1 = s)).map (·.2)) ++ (if d.gutter.force.getLsbD s then [forcedInstance] else [])

/-- Windows that are due to close do, and each condition that they covered and that is still present forms an event. -/
def closeWindows (d : Device) : Device :=
  let due := d.gutter.shadows.filter fun w => decide (w.closeAt ≤ d.now)
  let held := fun (s : Nat) => (condInstances d s).filter fun i =>
    due.any fun w => covers w (match w.block with | .ridgePort p => onlyThrough d p | _ => []) s i
  let d := { d with gutter := { d.gutter with shadows := d.gutter.shadows.filter fun w => !decide (w.closeAt ≤ d.now) } }
  (List.finRange 128).foldl (fun d s =>
    let insts := held s.val
    if insts.isEmpty then d
    else sourceEvent s insts (condCharge d s.val (insts.headD 0)) (countForced s insts d)) d

/-- SHADOW_WINDOW_CLOSE: the window that is due first closes. -/
def shadowWindowClose (d : Device) : Device :=
  match d.gutter.shadows with
  | [] => d
  | w :: ws => endCycle (closeWindows (advanceTo (ws.foldl (fun t x => min t x.closeAt) w.closeAt) d))

/-- QUIET_PERIOD_EXPIRY: the quiet period of a class ends; windows due by then have closed first (R661). -/
def quietPeriodExpiry (k : ClassId) (d : Device) : Device :=
  match (classRec d k).quiet with
  | none => d
  | some (t, n) =>
    let d := closeWindows (advanceTo (t + n * ms) d)
    if (classRec d k).quiet.isSome then endCycle (quietEnds k d) else endCycle d

/-! ### Forced release (R663, R664) -/

/-- The holder of a resource, as the tenant charged: none when it is free. -/
def resourceHolder (r : Resource) (d : Device) : Option (Option TenantId) :=
  match r with
  | .strainer k i => ((d.strainer k).ctx[i.val]?).map fun x => tenantOf x.tenant
  | .flits p t =>
    let x := d.port p
    if (x.txq.any fun f => !f.mgmt && decide (f.vc / 2 = t.val)) || (x.operands.any fun o => decide (o.vc / 2 = t.val)) ||
        (x.opBufs.any fun b => decide (b.1 / 2 = t.val)) then some (some t) else none
  | .reduce t => if (d.tenant t).held.isEmpty then none else some (some t)
  | .gate t => if (d.tenant t).gateUnmet.isSome || (d.tenant t).gateEvent then some (some t) else none
  | .barrier n => (barrierOf d n.toNat).map fun b => (b.tenants.filterMap tenantOf).head?
  | .lock dev row => if (tierDev d dev).copying.any fun c => decide (c.1 = row) then some none else none

/-- The flits of a tenant that wait on a port, and the operands it holds there, are discarded and their buffers freed (R468). -/
def dropFlits (p : PortId) (t : TenantId) (d : Device) : Device :=
  let x := d.port p
  let mine := fun vc : Nat => decide (vc / 2 = t.val)
  let bufs := ((x.operands.filter fun o => mine o.vc).flatMap (·.bufs)) ++ (x.opBufs.filter fun b => mine b.1).map (·.2)
  freeBufs p bufs (modPort p (fun r => { r with
    txq := r.txq.filter fun f => f.mgmt || !mine f.vc
    operands := r.operands.filter fun o => !mine o.vc
    opBufs := r.opBufs.filter fun b => !mine b.1
    rxMsg := Vector.ofFn fun c => if c.val < 8 ∧ mine c.val then [] else r.rxMsg[c.val]'c.isLt }) d)

/-- The item in flight is discarded and the resource returned; the dependent step is invalid with reason FORCED_RELEASE, but for
a barrier, whose ABORT invalidates, and a retirement copy, which goes on by the unplanned path (Table 16-5). -/
def discardItem (r : Resource) (d : Device) : Device :=
  match r with
  | .strainer k i => releaseContext k i.val d
  | .flits p t => invalidate t 0x06 (some 56) (dropFlits p t d)
  | .reduce t => invalidate t 0x06 (some 56) (modTenant t (fun x => { x with held := [] }) d)
  | .gate t => invalidate t 0x06 (some 56) (modTenant t (fun x => { x with posted := [], gateUnmet := none, gateEvent := false }) d)
  | .barrier n => abortBarrier n.toNat d
  | .lock dev row => retire dev row [] d

/-- The row of Table 16-5 of a resource. -/
def resourceRow : Resource → Nat
  | .strainer _ _ => 0 | .flits _ _ => 1 | .reduce _ => 2 | .gate _ => 3 | .barrier _ => 4 | .lock _ _ => 5

/-- A release reaches its resource. One that its holder frees in the same cycle, or that is free, is left as it is. -/
def releaseNow (r : Resource) (freed : Bool) (d : Device) : Device :=
  match resourceHolder r d with
  | some charge => if freed then bump .releaseNoops 0 d else discardItem r (releaseEvent (resourceRow r) charge d)
  | none => bump .releaseNoops 0 d

/-- FORCED_RELEASE: the Kettle journals the release and issues it; during a Kettle restart it stays pending. -/
def forcedRelease (r : Resource) (freed : Bool) (d : Device) : Device :=
  let d := journal kForcedRelease 0 d
  if d.boot.kettleRestarting then { d with gutter := { d.gutter with releases := d.gutter.releases ++ [r] } }
  else releaseNow r freed d

/-! ### The error pair (R665, R666) -/

/-- ERRPIN_READBACK: for 10 µs the legs have been sensed at these levels, none for one between low and high; one that differs from
the driven level raises the source. -/
def errpinReadback (p n : Option Bool) (d : Device) : Device :=
  let d := { d with pins := { d.pins with senseP := p, senseN := n } }
  if p = some d.pins.errP ∧ n = some d.pins.errN then d else occur 55 0 none d

/-- PAIR_MIN_ASSERT_EXPIRY. -/
def pairMinAssert (d : Device) : Device :=
  if d.gutter.pairFault then evalPair (advanceTo (d.gutter.pairSince + minAssertUs d * us) d) else d

/-- KETTLE_SRAM_UNCORR; with check-invert on for it the error is an injected one. -/
def kettleSram (d : Device) : Device := if checkInverted d 9 then injectedError 9 0 none 0 d else occur 9 0 none d

/-! ### Meanings -/

/-- FAULT_READ. -/
def execFaultRead (c : Call) (s : State) : Host.Outcome State Fault Refusal := done s (runEngine c (faultRead c) s.dev)

/-- FAULT_ACK. -/
def execFaultAck (c : Call) (s : State) : Host.Outcome State Fault Refusal := done s (runEngine c (faultAck c) s.dev)

/-- FAULT_FORCE with ACTION 0. -/
def execFaultForceSet (c : Call) (s : State) : Host.Outcome State Fault Refusal :=
  done s (runEngine c (onSource c setForce) s.dev)

/-- FAULT_FORCE with ACTION 1. -/
def execFaultForceClear (c : Call) (s : State) : Host.Outcome State Fault Refusal :=
  done s (runEngine c (onSource c clearForce) s.dev)

/-- FAULT_FORCE with ACTION 2. -/
def execCheckInvertOn (c : Call) (s : State) : Host.Outcome State Fault Refusal := done s (runEngine c (checkInvert true c) s.dev)

/-- FAULT_FORCE with ACTION 3. -/
def execCheckInvertOff (c : Call) (s : State) : Host.Outcome State Fault Refusal := done s (runEngine c (checkInvert false c) s.dev)

/-- FAULT_EVENT. -/
def execFaultEvent (reports : List FaultReport) (ack : BitVec 128) (s : State) : Host.Outcome State Fault Refusal :=
  done s (faultEvent reports ack s.dev)

/-- BLOCK_RESET_COMPLETE. -/
def execBlockResetComplete (b : Block) (s : State) : Host.Outcome State Fault Refusal := done s (completeReset b s.dev)

/-- SHADOW_WINDOW_CLOSE. -/
def execShadowWindowClose (s : State) : Host.Outcome State Fault Refusal := done s (shadowWindowClose s.dev)

/-- QUIET_PERIOD_EXPIRY. -/
def execQuietPeriodExpiry (cls : ClassId) (s : State) : Host.Outcome State Fault Refusal := done s (quietPeriodExpiry cls s.dev)

/-- FORCED_RELEASE: `freed` when the holder frees the resource in the same Purlin cycle. -/
def execForcedRelease (r : Resource) (freed : Bool) (s : State) : Host.Outcome State Fault Refusal :=
  done s (forcedRelease r freed s.dev)

/-- ERRPIN_READBACK. -/
def execErrpinReadback (p n : Option Bool) (s : State) : Host.Outcome State Fault Refusal := done s (errpinReadback p n s.dev)

/-- PAIR_MIN_ASSERT_EXPIRY. -/
def execPairMinAssertExpiry (s : State) : Host.Outcome State Fault Refusal := done s (pairMinAssert s.dev)

/-- KETTLE_WDT: 10 ms without service. -/
def execKettleWdt (s : State) : Host.Outcome State Fault Refusal := done s (occur 52 0 none s.dev)

/-- KETTLE_LOCKSTEP. -/
def execKettleLockstep (s : State) : Host.Outcome State Fault Refusal := done s (occur 53 0 none s.dev)

/-- KETTLE_SRAM_UNCORR. -/
def execKettleSramUncorr (s : State) : Host.Outcome State Fault Refusal := done s (kettleSram s.dev)

/-- PURLIN_ERR: at an endpoint, a parity error (kind 0), a timeout of a transaction with the Kettle (1) or another timeout (2). -/
def execPurlinErr (endpoint : Nat) (kind : Fin 3) (s : State) : Host.Outcome State Fault Refusal :=
  done s (occur 25 (endpoint * 4 + kind.val) none s.dev)

/-- MBX_ENGINE. -/
def execMbxEngine (s : State) : Host.Outcome State Fault Refusal := done s (occur 54 0 none s.dev)

end Sys2Proof.Machine
end

