-- ==== Sys2Proof/Machine/Reset.lean ====
section
/-! DEFINITION. Module reset, the loss of the backup domain, and the boot ROM (R251, R641, R667 to R670, R685 to R691, R707, R708,
R753 to R757). -/

namespace Sys2Proof.Machine

open Sys2Proof

/-! ### What a module reset keeps (Table 17-1) -/

/-- Sources whose condition stands outside the logic that a module reset clears: wear of tier 3 and of the Caddy, the PCIe link, the
root PLL and its reference, temperatures, and the backup cell. -/
def standing (s : Nat) : Bool := [7, 8, 24, 66, 67, 68, 69, 70, 113].contains s

/-- A mailbox after a module reset: word 0 of every visible command that had not posted its final completion still owes a FAULTED one
(R641). -/
def resetMailbox (m : Mailbox) : Mailbox := { owed := m.owed ++ m.records }

/-- The PCIe side: the rings are gone, the endpoint and its streams stay. -/
def resetHost (h : HostLink) : HostLink :=
  { mbx := h.mbx.map resetMailbox, endpointReady := h.endpointReady, linkUp := h.linkUp, d3cold := h.d3cold, ide := h.ide }

/-- The Gutter: sticky bits, latches, exit times and RECOVERY counters are in the always-on domain (R646, R658, R660); conditions
outside the module's logic go on. The root PLL locks again where the reference is valid. -/
def resetGutter (d : Device) : Gutter :=
  { sticky := d.gutter.sticky, latched := d.gutter.latched
    cond := d.gutter.cond.filter fun p => standing p.1 && !(decide (p.1 = 66) && d.clocks.refclk)
    cls := d.gutter.cls.map fun c => { exits := c.exits, recovery := c.recovery }
    pairSince := d.now }

/-- The boot state: slots, fuses, the floor, an unfinished confirmation and the update state are kept. -/
def resetBoot (cause now : Nat) (b : Boot) : Boot :=
  { cause := cause, tripHold := b.tripHold, resetAt := now, running := b.running, slotA := b.slotA, slotB := b.slotB
    confirmed := b.confirmed, trial := b.trial, svnFuses := b.svnFuses, floor := b.floor, intent := b.intent
    update := { b.update with forward := [], forwarded := 0 }, phyRecords := b.phyRecords
    part := b.part, stepLetter := b.stepLetter, stepDigit := b.stepDigit, serial := b.serial }

/-- The clocks: the profile survives (R731); the throttle starts at level 0. -/
def resetClocks (d : Device) : Clocks :=
  { refclk := d.clocks.refclk, locked := d.clocks.refclk, profile := nextProfile d, divisor := profileDivisor (nextProfile d)
    temp := d.clocks.temp, sampled := d.clocks.sampled, throttleSince := d.now, divSince := d.now, coolSince := none }

/-- A tier 1 stack or tier 2 package: its retirement state is kept, its contents are not (R251). -/
def resetMemory (m : MemDevice) : MemDevice :=
  { health := m.health, retired := m.retired, spareUsed := m.spareUsed, removed := m.removed, failed := m.failed }

/-- Sites, with planned fences and tests in progress still to be resolved (R67); the error histories are gone. -/
def resetSite (x : SiteRec) : SiteRec := { id := x.id, bad := x.bad, planned := x.planned, returns := x.returns }

/-- Cut links and fenced segments stay until start-up self-test passes (R159, R692). -/
def resetFabric (f : Fabric) : Fabric :=
  { links := (f.links.filter (·.cut)).map fun l => { id := l.id, cut := true }, fenced := f.fenced }

/-- A module reset with its cause (Table 17-1, Table 17-3): it clears everything but what Table 17-1 keeps, drives the pair to fault
(R667), and holds until the boot ROM starts. A start that was not complete has failed (R691). -/
def moduleReset (cause : Nat) (d : Device) : Device :=
  let d := failStart d
  drivePair true
    { fresh := d.fresh, now := d.now, out := d.out
      counters := d.counters.filter fun p => p.1.1.info.kept
      cfg := d.cfgLater.foldl (fun c x => assocSet c x.1 x.2) d.cfg, staged := d.staged, stagedShares := d.stagedShares
      host := resetHost d.host, gutter := resetGutter d, boot := resetBoot cause d.now d.boot
      caddy := d.caddy, backup := d.backup, clocks := resetClocks d, power := { since := d.now }
      pins := { d.pins with syncOut := false }
      sites := d.sites.map resetSite, fabric := resetFabric d.fabric
      tiers := { stackDevs := d.tiers.stackDevs.map resetMemory, packages := d.tiers.packages.map resetMemory
                 t3 := { d.tiers.t3 with scanning := false } }
      coeffs := d.coeffs, slate := { d.slate with waiting := [], stalled := false }
      intake := { csiLock := d.intake.csiLock, ethLink := d.intake.ethLink, staged := d.intake.staged } }

/-! ### The backup domain (R753 to R757) -/

/-- The part has a VBAT input, and its cell keeps the domain alive: between 2.5 V and 3.6 V on FNM-L96-AV. -/
def cellHolds (d : Device) : Bool := decide (d.boot.part = 0) && decide (2500 ≤ d.pins.vbat) && decide (d.pins.vbat ≤ 3600)

/-- A field whose value in effect the always-on domain holds: the Gutter's and the error pair's (Table 16-14). -/
def domainField (f : Nat) : Bool := f / 0x1000000 = 2 ∨ f / 0x1000000 = 3

/-- The counters of alarm causes. -/
def backupCounter : Counter → Bool
  | .bkpCold | .bkpHot | .bkpCellDip | .bkpOscStop => true
  | _ => false

/-- The backup domain loses power: its contents are gone (R670, R756). -/
def loseDomain (d : Device) : Device :=
  let forget := fun s : SlotRec => { s with attemptsBkp := 0 }
  { d with
    counters := d.counters.filter fun p => !backupCounter p.1.1
    cfg := d.cfg.filter fun p => !domainField p.1
    gutter := { d.gutter with sticky := 0, latched := 0, cls := Vector.replicate 8 {} }
    boot := { d.boot with slotA := forget d.boot.slotA, slotB := forget d.boot.slotB }
    backup := { rtc := 0, rtcAt := d.now, rtcLost := true, alarm := false, lost := true }
    host := { d.host with mbx := d.host.mbx.map fun m => { m with records := [], owed := [] } } }

/-- Seconds that the real-time clock reads (R754). -/
def rtcNow (d : Device) : Nat := d.backup.rtc + (d.now - d.backup.rtcAt) / sec

/-! ### The boot ROM (R668 to R670, R688, R690, R707, R708, R710) -/

/-- The highest LEVEL in effect among the latched sources of a class (R668). -/
def latchedLevel (d : Device) (k : ClassId) : Nat :=
  ((classSources k).filter fun s => d.gutter.latched.getLsbD s).foldl (fun m s => max m (srcLevel d s)) 0

/-- A class at initialisation: out of the fault state unless it holds a latched source (R668). -/
def initClass (d : Device) (k : ClassId) (c : GClass) : GClass :=
  if d.gutter.latched &&& classMask k = 0 then { exits := c.exits, recovery := c.recovery }
  else { inFault := true, applied := latchedLevel d k, exits := c.exits, recovery := c.recovery }

/-- The instances at which a source reports when the Gutter is initialised: the backup alarm latch, a lost domain, and conditions
that the module's window covered and that are still present (R662, R669, R670). -/
def initInstances (d : Device) (s : Nat) : List Nat :=
  if s = 112 then (if d.backup.alarm then [0] else [])
  else if s = 114 then (if d.backup.lost then [0] else [])
  else (d.gutter.cond.filter fun p => decide (p.1 = s)).map (·.2)

/-- The Gutter is initialised (R668 to R670). -/
def initGutter (d : Device) : Device :=
  let at_ := initInstances d
  let d := { d with gutter := { d.gutter with
    initDone := true, cls := Vector.ofFn fun k => initClass d k (d.gutter.cls[k.val]'k.isLt) } }
  let d := (List.finRange 128).foldl (fun d s =>
    if (at_ s.val).isEmpty then d else sourceEvent s (at_ s.val) none d) d
  endCycle { d with backup := { d.backup with alarm := false, lost := false } }

/-- Recovery mode (R708, R710): every port with stored coefficients trains. -/
def enterRecovery (d : Device) : Device :=
  let d := { d with boot := { d.boot with stage := .recovery, romReady := false, readySince := d.now } }
  let ports := allPorts.filter fun p => d.coeffs.any fun c => decide (c.port = p.val)
  evalPair (ports.foldl (fun d p => modPort p (fun r => { r with state := .detect, since := d.now }) d)
    (bump .recoveryEntries 0 d))

/-- The time base at a boot: the module time starts from the real-time clock (R754). -/
def startTime (d : Device) : Device :=
  { d with time := { shift := Int.ofNat (rtcNow d * sec) - Int.ofNat d.now } }

/-- The reset is released and the boot ROM runs (R688): it initialises the Gutter, the mailbox engine takes commands, an interrupted
confirmation is completed, and a slot is chosen, whose attempt is counted before it starts. `recovery` holds the readings of
RECOVERY_L where it is sampled (R687, R770). -/
def romBoot (recovery : Option Readings) (d : Device) : Device :=
  let scan := decide (d.boot.cause = 1) && d.backup.lost
  let d := startTime { d with
    boot := { d.boot with inReset := false, resetAt := d.now }
    selftest := { d.selftest with lastDone := Vector.replicate 21 d.now }
    power := { d.power with since := d.now }
    tiers := { d.tiers with t3 := { d.tiers.t3 with scanDue := d.tiers.t3.scanDue || scan } }
    host := { d.host with endpointReady := d.host.endpointReady || d.pins.perstL } }
  let d := initGutter d
  let d := { d with boot := { d.boot with engineReady := true } }
  let d := if d.host.mbx.toList.any fun m => !m.owed.isEmpty then announceState d else d
  let d := finishIntent (bump .boots 0 d)
  if recovery = some 0 then enterRecovery d
  else match chooseSlot d with
    | (none, d) => enterRecovery d
    | (some k, d) => evalPair (startAttempt k { d with boot := { d.boot with running := k, romReady := true } })

/-- A module reset that the module makes on its own: the boot follows, unless RESET_L holds the module, and does not sample
RECOVERY_L (R687). -/
def selfReset (cause : Nat) (d : Device) : Device :=
  let d := moduleReset cause d
  if d.pins.resetL then romBoot none d else d

end Sys2Proof.Machine
end

