-- ==== Sys2Proof/Machine/Update.lean ====
section
/-! DEFINITION. Firmware images and updates: the header, chunks, verification, activation, confirmation, and passing an image along a
chain (R695 to R706, R710, R711). -/

namespace Sys2Proof.Machine

open Sys2Proof

/-! ### The image header (Table 17-4) -/

/-- Length of the header in bytes. -/
def headerBytes : Nat := 4096

/-- MAJOR, MINOR, PATCH and BUILD. -/
def headerVersion (h : List Byte) : Version :=
  { major := leAt h 24 2, minor := leAt h 26 2, patch := leAt h 28 2, build := leAt h 32 4 }

/-- FLOOR. -/
def headerFloor (h : List Byte) : Version := { major := leAt h 40 2, minor := leAt h 42 2, patch := leAt h 44 2 }

/-- STAGE1_LENGTH + MAIN_LENGTH. -/
def imageLength (h : List Byte) : Nat := leAt h 48 8 + leAt h 56 8

/-- CHUNK_COUNT. -/
def chunkCount (h : List Byte) : Nat := leAt h 64 4

/-- The image as the slot table keeps it. -/
def headerInfo (h : List Byte) : ImageInfo :=
  { version := headerVersion h, arith := leAt h 36 1, iface := leAt h 37 1, svn := leAt h 38 1, floor := headerFloor h
    digests := slice h 168 144 }

/-- The reserved fields of the header, as (offset, length). -/
def headerReserved : List (Nat × Nat) :=
  [(14, 2), (16, 8), (30, 2), (39, 1), (46, 2), (68, 4), (132, 4), (316, 4), (360, 3640)]

/-- Every reserved bit of the header is zero. -/
def reservedZero (h : List Byte) : Bool :=
  (headerReserved.all fun r => (slice h r.1 r.2).all fun b => decide (b = 0)) && decide (leAt h 12 1 < 4) &&
    decide (leAt h 320 40 < 2 ^ 260)

/-- Lengths and CHUNK_COUNT lie within Table 17-4. -/
def lengthsOk (h : List Byte) : Bool :=
  let s := leAt h 48 8
  let m := leAt h 56 8
  let p := leAt h 312 4
  decide (4096 ≤ s) && decide (s ≤ 16773120) && decide (1 ≤ m) && decide (m ≤ 4294963200) && decide (1 ≤ p) &&
    decide (p ≤ 8388608) && decide (chunkCount h = 1 + (s + m + 2 ^ 20 - 1) / 2 ^ 20)

/-- The bit of STEPPINGS that stands for the module's stepping. -/
def steppingBit (d : Device) : Nat := 10 * (d.boot.stepLetter.toNat - 0x41) + (d.boot.stepDigit.toNat - 0x30)

/-- The first check of R697 that a header fails, if any: its number and the status. -/
def headerRefusal (h : List Byte) (d : Device) : Option (Nat × Status) :=
  let v := headerVersion h
  if !(decide (slice h 0 8 = ascii "LEMUPIMG") && decide (leAt h 8 2 = 1) && decide (leAt h 10 2 = 1) && reservedZero h &&
      lengthsOk h && decide (leAt h 38 1 ≤ 128) && (headerFloor h).le v) then some (1, .imageRefused)
  else if !(bitAt (leAt h 12 1) d.boot.part && bitAt (leAt h 320 40) (steppingBit d)) then some (2, .imageRefused)
  else if !Config.imageSignatureOk h then some (3, .imageRefused)
  else if !d.boot.floor.le v then some (4, .versionFloor)
  else if leAt h 38 1 < d.boot.svnFuses then some (5, .svnFloor)
  else none

/-- A refused header is counted; a signature that does not verify raises IMAGE_AUTH. -/
def refuseHeader (check : Nat) (d : Device) : Device :=
  let d := bump .imagesRefused 0 d
  if check = 3 then occur 85 0 none d else d

/-! ### The update state -/

/-- The slot that an update writes: the one that is not confirmed; in recovery mode, where no slot is both confirmed and eligible,
slot A (R698, R711). -/
def targetSlot (d : Device) : Slot :=
  if recovering d && !slotEligible d d.boot.confirmed then .a else otherSlot d.boot.confirmed

/-- The update state changed, and journalled (R698). -/
def modUpdate (f : Update → Update) (d : Device) : Device :=
  journal kUpdate 0 { d with boot := { d.boot with update := f d.boot.update } }

/-- A slot is discarded. -/
def emptySlot (k : Slot) (d : Device) : Device :=
  journal kSlots 0 (modSlot k (fun s => { s with mark := .empty, signatureOk := false, stage1Ok := false }) d)

/-- Reception of an image starts with its header. An image held before, and the inactive slot, are discarded (Table 17-5). -/
def beginImage (h : List Byte) (peer : Option Nat) (d : Device) : Device :=
  let d := if d.boot.update.state = .idle then d else emptySlot d.boot.update.target d
  modUpdate (fun _ => { state := .receiving, header := h, fromPeer := peer, target := targetSlot d }) d

/-- The result of UPDATE_BEGIN: chunk count, chunks held, target slot. -/
def beginResult (d : Device) : List Byte :=
  let u := d.boot.update
  leBytes 4 (chunkCount u.header) ++ leBytes 4 u.chunks.length ++ leBytes 1 u.target.index

/-- UPDATE_BEGIN with its header (R697, R698, R701). -/
def updateHeader (c : Call) (h : List Byte) (d : Device) : Device :=
  let u := d.boot.update
  let same := decide (u.header = h)
  let began := fun (d : Device) => post c .ok 0 (beginResult d) false d
  match headerRefusal h d with
  | some (n, st) => if u.state = .trial then finish c .busy 0 d else finish c st 0 (refuseHeader n d)
  | none =>
    match u.state with
    | .idle => began (beginImage h none d)
    | .receiving =>
      if same then began d else if u.fromPeer.isSome then finish c .busy 0 d else began (beginImage h none d)
    | .received => if same then began d else began (beginImage h none d)
    | .verified => if same then finish c .busy 0 d else began (beginImage h none d)
    | .trial => finish c .busy 0 d

/-- UPDATE_BEGIN. -/
def updateBegin (c : Call) (d : Device) : Device := withBuf c 2 headerBytes (updateHeader c) d

/-! ### Chunks (R696, R699) -/

/-- Length of a chunk of the image. -/
def chunkLength (h : List Byte) (i : Nat) : Nat :=
  if i = 0 then 48 * (chunkCount h - 1) else min (imageLength h) (i * 2 ^ 20) - (i - 1) * 2 ^ 20

/-- The hash that a chunk must have: HASH_LIST_ROOT for chunk 0, else its entry in chunk 0. -/
def chunkHash (u : Update) (i : Nat) : List Byte :=
  if i = 0 then slice u.header 72 48 else slice ((assoc u.chunks 0).getD []) (48 * (i - 1)) 48

/-- A chunk number that the image has and that is already held. -/
def chunkHeld (u : Update) (i : Nat) : Bool := (assoc u.chunks i).isSome

/-- A chunk whose hash is right is stored, and its chunk-map record committed; the image is received once it was the last one. -/
def storeChunk (i : Nat) (bs : List Byte) (d : Device) : Device :=
  let d := journal kChunk i { d with boot := { d.boot with update := { d.boot.update with chunks := (i, bs) :: d.boot.update.chunks } } }
  if d.boot.update.chunks.length = chunkCount d.boot.update.header then modUpdate (fun u => { u with state := .received }) d else d

/-- UPDATE_CHUNK with its bytes. -/
def chunkBytes (c : Call) (i : Nat) (bs : List Byte) (d : Device) : Device :=
  let held := fun (d : Device) => post c .ok 0 (leBytes 4 d.boot.update.chunks.length) false d
  if chunkHeld d.boot.update i then held d
  else if sha384 bs = chunkHash d.boot.update i then held (storeChunk i bs d)
  else finish c .imageRefused 0 (bump .chunksRefused 0 d)

/-- UPDATE_CHUNK (R699). -/
def updateChunk (c : Call) (d : Device) : Device :=
  let u := d.boot.update
  let i := field (c.w 1) 0 32
  if u.state ≠ .receiving then finish c .busy 0 d
  else if chunkCount u.header ≤ i ∨ (i ≠ 0 ∧ !chunkHeld u 0) then badParam c 0 d
  else withBuf c 3 (chunkLength u.header i) (chunkBytes c i) d

/-! ### Verification (R700) -/

/-- The ciphertext: the data chunks in order. -/
def ciphertext (u : Update) : List Byte :=
  (rangeFrom 1 (chunkCount u.header - 1)).flatMap fun i => (assoc u.chunks i).getD []

/-- The plaintext, when GCM_TAG verifies under the image key that KEY_GEN names. -/
def plaintext (u : Update) : Option (List Byte) :=
  if 3 < leAt u.header 13 1 then none else Config.imagePlaintext u.header (ciphertext u)

/-- STAGE1_DIGEST, MAIN_DIGEST and PROGRAM_DIGEST are those of the plaintext. -/
def digestsOk (h : List Byte) (p : List Byte) : Bool :=
  let main := p.drop (leAt h 48 8)
  decide (sha384 (p.take (leAt h 48 8)) = slice h 168 48) && decide (sha384 main = slice h 216 48) &&
    decide (sha384 (main.take (leAt h 312 4)) = slice h 264 48)

/-- Stored chunks that fail their hash: those whose copy is damaged, and those that never matched. -/
def badChunks (damaged : List Nat) (u : Update) : List Nat :=
  (u.chunks.filter fun x => damaged.contains x.1 || !decide (sha384 x.2 = chunkHash u x.1)).map (·.1)

/-- Steps 4 to 7 of R700: the inactive slot is INVALID while it is written, and VALID at the end. -/
def writeSlot (k : Slot) (h : List Byte) (steps : Nat) (d : Device) : Device :=
  let d := if 4 ≤ steps then
      journal kSlots 0 (modSlot k (fun s => { s with mark := .invalid, signatureOk := false, stage1Ok := false }) d)
    else d
  if 7 ≤ steps then
    modUpdate (fun u => { u with state := .verified, staged := true })
      (clearAttempts k (journal kSlots 0 (modSlot k (fun s => { s with
        mark := .valid, image := headerInfo h, signatureOk := true, stage1Ok := true }) d)))
  else d

/-- The verification of a received image, with its status; `steps` of the seven steps of R700 are done, all of them unless a reset
or a loss of power interrupts it. -/
def verifyImage (damaged : List Nat) (steps : Nat) (d : Device) : Status × Device :=
  let u := d.boot.update
  let bad := badChunks damaged u
  if !bad.isEmpty then
    (.imageRefused, bump .imagesRefused 0 (modUpdate (fun u => { u with
      state := .receiving, chunks := u.chunks.filter fun x => !bad.contains x.1 }) d))
  else match plaintext u with
    | some p =>
      if digestsOk u.header p then (.ok, writeSlot u.target u.header steps d)
      else (.imageRefused, occur 85 0 none (bump .imagesRefused 0 (modUpdate (fun _ => {}) d)))
    | none => (.imageRefused, occur 85 0 none (bump .imagesRefused 0 (modUpdate (fun _ => {}) d)))

/-- A command that takes long completes with ACCEPTED first (R614). -/
def acceptFirst (c : Call) (d : Device) : Device :=
  if (match startedRec d c with | some x => x.first | none => false) then d else post c .accepted 0 [] true d

/-- UPDATE_VERIFY. -/
def updateVerify (c : Call) (damaged : List Nat) (steps : Nat) (d : Device) : Device :=
  match d.boot.update.state with
  | .verified => finish c .ok 0 d
  | .received =>
    let (st, d) := verifyImage damaged steps (acceptFirst c d)
    if steps = 7 ∨ st ≠ .ok then finish c st 0 d else d
  | _ => finish c .busy 0 d

/-! ### Activation and confirmation (R704, R705, R711) -/

/-- A package is loaded. -/
def anyPackage (d : Device) : Bool := allTenants.any fun t => !(d.tenant t).packages.isEmpty

/-- The members admitted to the span, this module excepted, whose interface level differs from an image's by more than one. -/
def ifaceFar (d : Device) (iface : Nat) : Bool :=
  d.span.formed && d.span.peers.any fun m => decide (1 < absDiff m.iface iface)

/-- The image becomes the trial (Table 17-5). -/
def beginTrial (k : Slot) (d : Device) : Device :=
  modUpdate (fun u => { u with state := .trial }) (journal kSlots 0 { d with boot := { d.boot with trial := some k } })

/-- UPDATE_ACTIVATE: into the inactive slot, back to the confirmed one, or, in recovery mode, a module reset. The completion follows
the Kettle restart. -/
def updateActivate (c : Call) (d : Device) : Device :=
  let k := d.boot.update.target
  match d.boot.update.state with
  | .verified =>
    if recovering d then selfReset 4 (beginTrial k (clearAttempts k d))
    else
      let i := (d.slot k).image
      if i.arith ≠ (runningImage d).arith ∧ anyPackage d then finish c .busy 0 d
      else if ifaceFar d i.iface then finish c .spanMismatch 0x32 d
      else restartInto k 5 (beginTrial k d)
  | .trial =>
    if recovering d then finish c .busy 0 d
    else
      let d := journal kSlots 0 (bump .fallbacks 0 { d with boot := { d.boot with trial := none } })
      restartInto d.boot.confirmed 6 (modUpdate (fun u => { u with state := .verified }) d)
  | _ => finish c .busy 0 d

/-- UPDATE_CONFIRM: `steps` of the five steps of R705 are done, all of them unless a reset or a loss of power interrupts it. -/
def updateConfirm (c : Call) (steps : Nat) (d : Device) : Device :=
  match d.boot.update.state, d.boot.trial with
  | .trial, some k =>
    if d.boot.startComplete && decide (d.boot.running = k) then
      let i : ConfirmIntent := { slot := k, svn := (d.slot k).image.svn, floor := (d.slot k).image.floor }
      let d := (([1, 2, 3, 4, 5] : List Nat).take steps).foldl (confirmStep i) d
      if steps = 5 then finish c .ok 0 d else d
    else finish c .busy 0 d
  | _, _ => finish c .busy 0 d

/-! ### Passing an image along a chain (R702, R703) -/

/-- The number that stands for the header in an IMAGE_CHUNK message (log entry 11). -/
def headerChunk : Nat := 0xFFFFFFFF

/-- The IMAGE_CHUNK answer numbers: the chunks still missing, and a refused header (log entry 11). -/
def missingAnswer : Nat := 0xFFFFFFFE
def refusedAnswer : Nat := 0xFFFFFFFD

/-- An IMAGE_CHUNK message leaves over a port on the management channel. -/
def sendImage (p : PortId) (chunk : Nat) (body : List Byte) (d : Device) : Device :=
  sendMessage p ((recordIndices d d.boot.serial).headD 0) (d.port p).peerIndex none .imageChunk [chunk, 0] body d

/-- UPDATE_FORWARD completes once no named peer is left to serve; ports that have left ACTIVE count as refused. -/
def settleForward (d : Device) : Device :=
  let live := d.boot.update.forward.filter fun q =>
    allPorts.any fun p => decide (p.val = q.1) && (decide ((d.port p).state = .active) || decide ((d.port p).state = .retrain))
  let was := !d.boot.update.forward.isEmpty
  let d := { d with boot := { d.boot with update := { d.boot.update with forward := live } } }
  if was && live.isEmpty then
    let calls := d.host.mbx.toList.flatMap fun m => (m.started.filter fun s => decide (s.call.opcode = 0x95)).map (·.call)
    calls.foldl (fun d c => post c .ok 0 (leBytes 1 d.boot.update.forwarded) false d) d
  else d

/-- UPDATE_FORWARD: the header goes out over every named port that is ACTIVE. -/
def updateForward (c : Call) (d : Device) : Device :=
  let u := d.boot.update
  let allowed := decide (u.state = .verified) || decide (u.state = .trial) || (decide (u.state = .idle) && u.staged)
  let ports := allPorts.filter fun p => bitAt (c.w 1) p.val && decide ((d.port p).state = .active)
  if !allowed || !u.forward.isEmpty then finish c .busy 0 d
  else if ports.isEmpty then post c .ok 0 [0] false d
  else
    let d := { d with boot := { d.boot with update := { u with forward := ports.map fun p => (p.val, []), forwarded := 0 } } }
    ports.foldl (fun d p => sendImage p headerChunk u.header d) d

/-- A peer answers with the chunks that it misses: they are sent; a peer that misses none holds every chunk. -/
def peerMissing (p : PortId) (chunks : List Nat) (d : Device) : Device :=
  let u := d.boot.update
  if !u.forward.any fun q => decide (q.1 = p.val) then d
  else if chunks.isEmpty then
    settleForward { d with boot := { d.boot with update := { u with
      forward := u.forward.filter fun q => !decide (q.1 = p.val), forwarded := u.forwarded + 1 } } }
  else
    let d := { d with boot := { d.boot with update := { u with
      forward := u.forward.map fun q => if q.1 = p.val then (q.1, chunks) else q } } }
    settleForward (chunks.foldl (fun d i => match assoc u.chunks i with
      | some bs => sendImage p i bs (bump .chunksForwarded 0 d)
      | none => d) d)

/-- A peer has refused the header. -/
def peerRefused (p : PortId) (d : Device) : Device :=
  let u := d.boot.update
  settleForward { d with boot := { d.boot with update := { u with forward := u.forward.filter fun q => !decide (q.1 = p.val) } } }

/-- The chunks that the image in progress still misses. -/
def missingChunks (u : Update) : List Nat := (List.range (chunkCount u.header)).filter fun i => !chunkHeld u i

/-- The answer that names the chunks still missing. -/
def answerMissing (p : PortId) (d : Device) : Device :=
  let l := if d.boot.update.state = .receiving then missingChunks d.boot.update else []
  sendImage p missingAnswer (l.flatMap (leBytes 4)) d

/-- A header offered over a Ridge port (R697, R701, R703): a different one is refused in any state but IDLE, and every one while the
Caddy is read-only (R710). -/
def offeredHeader (p : PortId) (h : List Byte) (d : Device) : Device :=
  let u := d.boot.update
  if d.caddy.readOnly then sendImage p refusedAnswer [] d
  else if u.state ≠ .idle then
    (if u.header = h then answerMissing p d else sendImage p refusedAnswer [] (bump .imagesRefused 0 d))
  else match headerRefusal h d with
    | some (n, _) => sendImage p refusedAnswer [] (refuseHeader n d)
    | none => answerMissing p (beginImage h (some p.val) d)

/-- A chunk received over a Ridge port is checked and recorded as under R699; the last one starts the verification. -/
def offeredChunk (p : PortId) (i : Nat) (bs : List Byte) (damaged : List Nat) (d : Device) : Device :=
  let u := d.boot.update
  if u.state ≠ .receiving ∨ chunkCount u.header ≤ i ∨ (i ≠ 0 ∧ !chunkHeld u 0) ∨ chunkHeld u i ∨ d.caddy.readOnly then d
  else if bs.length = chunkLength u.header i ∧ sha384 bs = chunkHash u i then
    let d := storeChunk i bs d
    if d.boot.update.state = .received then (verifyImage damaged 7 (answerMissing p d)).2 else d
  else answerMissing p (bump .chunksRefused 0 d)

/-- IMAGE_CHUNK, which the running firmware, or the ROM in recovery mode, handles. -/
def imageChunk (p : PortId) (m : ImageMsg) (d : Device) : Device :=
  if d.boot.mbxReady || (recovering d && !d.boot.kettleRestarting) then
    match m with
    | .header bs => offeredHeader p (fit headerBytes bs) d
    | .chunk i bs damaged => offeredChunk p i bs damaged d
    | .missing l => peerMissing p l d
    | .refused => peerRefused p d
  else d

/-! ### Meanings -/

/-- UPDATE_BEGIN. -/
def execUpdateBegin (c : Call) (s : State) : Host.Outcome State Fault Refusal := done s (runFw c (updateBegin c) s.dev)

/-- UPDATE_CHUNK. -/
def execUpdateChunk (c : Call) (s : State) : Host.Outcome State Fault Refusal := done s (runFw c (updateChunk c) s.dev)

/-- UPDATE_VERIFY. -/
def execUpdateVerify (c : Call) (damaged : List Nat) (steps : Fin 8) (s : State) : Host.Outcome State Fault Refusal :=
  done s (runFw c (updateVerify c damaged steps.val) s.dev)

/-- UPDATE_ACTIVATE. -/
def execUpdateActivate (c : Call) (s : State) : Host.Outcome State Fault Refusal := done s (runFw c (updateActivate c) s.dev)

/-- UPDATE_CONFIRM. -/
def execUpdateConfirm (c : Call) (steps : Fin 6) (s : State) : Host.Outcome State Fault Refusal :=
  done s (runFw c (updateConfirm c steps.val) s.dev)

/-- UPDATE_FORWARD. -/
def execUpdateForward (c : Call) (s : State) : Host.Outcome State Fault Refusal := done s (runFw c (updateForward c) s.dev)

/-- IMAGE_CHUNK. -/
def execImageChunk (p : PortId) (m : ImageMsg) (s : State) : Host.Outcome State Fault Refusal := done s (imageChunk p m s.dev)

end Sys2Proof.Machine
end

