-- ==== Sys2Proof/Machine/Boot.lean ====
section
/-! DEFINITION. Power, the reset pin, the stages of a boot, Kettle restarts, module resets and the backup domain as events (R64, R67,
R68, R173, R175, R267, R548, R650, R685 to R694, R727, R751 to R757, R769, R770). -/

namespace Sys2Proof.Machine

open Sys2Proof

/-! ### Power and RESET_L (R685, R687, R752 to R757, R769, R770) -/

/-- POWER_ON: the input rises at J1 after `off` ns without power. The pair comes up at fault, and the module boots at once where
RESET_L is released, else when it is. Thirty days without power, or a lost clock, make a scan of tier 3 due (R267). -/
def powerOn (off : Nat) (resetL : Bool) (recovery : Readings) (d : Device) : Device :=
  if d.pins.vin then d
  else
    let d := { d with now := d.now + off, pins := { d.pins with vin := true, resetL := resetL, perstL := false } }
    let d := moduleReset 1 { d with
      boot := { d.boot with tripHold := false }
      tiers := { d.tiers with t3 := { d.tiers.t3 with scanDue := d.tiers.t3.scanDue || decide (30 * day < off) } } }
    if resetL then romBoot (some recovery) d else d

/-- POWER_LOSS: the input is lost without warning. What is committed stands; a Slate record in the middle of its write is torn. The
backup domain runs on the cell, and is lost without one (R752, R753, R757). -/
def powerLoss (torn : Bool) (d : Device) : Device :=
  if !d.pins.vin then d
  else
    let d := moduleReset 1 d
    let d := { d with
      pins := { d.pins with vin := false, wakeL := false }
      host := { d.host with endpointReady := false, linkUp := false, d3cold := false, ide := Vector.replicate 5 false }
      slate := { d.slate with torn := d.slate.torn + b2n torn }
      power := { d.power with state := .backup }
      gutter := { d.gutter with cond := d.gutter.cond.filter fun p => decide (p.1 = 7) || decide (p.1 = 8) } }
    drivePair true (if cellHolds d then d else loseDomain d)

/-- RESET_L_ASSERT: RESET_L has been low for `lowNs`; 50 ns make a module reset, which also takes the endpoint down (R769, R771). -/
def resetAssert (lowNs : Nat) (d : Device) : Device :=
  if lowNs < 50 ∨ !d.pins.resetL then d
  else if d.pins.vin then
    let d := moduleReset 2 d
    { d with
      pins := { d.pins with resetL := false }
      host := { d.host with endpointReady := false, linkUp := false, d3cold := false, ide := Vector.replicate 5 false }
      gutter := { d.gutter with cond := d.gutter.cond.filter fun p => !decide (p.1 = 24) } }
  else { d with pins := { d.pins with resetL := false } }

/-- RESET_L_RELEASE: RESET_L has been high for `highNs`; 50 ns release the reset, and the boot ROM starts (R769, R770). -/
def resetRelease (highNs : Nat) (recovery : Readings) (d : Device) : Device :=
  if highNs < 50 ∨ d.pins.resetL then d
  else
    let d := { d with pins := { d.pins with resetL := true } }
    if d.pins.vin && d.boot.inReset then romBoot (some recovery) d else d

/-- BACKUP_DOMAIN_POWER_LOSS: main input and cell are both absent. -/
def backupLoss (d : Device) : Device :=
  if d.pins.vin then d else loseDomain { d with pins := { d.pins with vbat := 0 } }

/-- The alarm latch is set and a cause counted (R755). -/
def backupAlarm (cause : Counter) (d : Device) : Device := bump cause 0 { d with backup := { d.backup with alarm := true } }

/-- BACKUP_ALARM_CHECK: one second later on the cell alone, the domain checks its conditions (Table 18-4): its temperature in °C, the
cell in mV, and for how many ns the crystal had stopped. -/
def backupCheck (temp : Int) (cell stopped : Nat) (d : Device) : Device :=
  if d.pins.vin || d.backup.lost then d
  else
    let d := { d with now := d.now + sec, pins := { d.pins with vbat := cell } }
    let d := if temp < -45 then backupAlarm .bkpCold d else d
    let d := if 90 < temp then backupAlarm .bkpHot d else d
    let d := if cell < 2500 then backupAlarm .bkpCellDip d else d
    if sec < stopped then backupAlarm .bkpOscStop { d with backup := { d.backup with rtcAt := d.backup.rtcAt + stopped } } else d

/-- VBAT_LOW: the voltage of the backup cell, in mV, while main power is present; below 2.5 V it holds the condition of source 113. -/
def vbatLow (cell : Nat) (d : Device) : Device :=
  let d := { d with pins := { d.pins with vbat := cell } }
  if !d.pins.vin ∨ d.boot.part ≠ 0 then d
  else if cell < 2500 then condBegin 113 0 none d else condEnd 113 0 d

/-! ### Stage 1 (R64, R67, R68, R159, R173, R175, R688, R692) -/

/-- Planned fences that wait and tests in progress are resolved before start-up self-test (R67). -/
def resolveSites (d : Device) : Device :=
  { d with sites := d.sites.map fun x =>
      if x.planned ∨ x.bad = some .testing then
        { x with planned := false, bad := match x.bad with | some .holed => some .holed | _ => some .fenced }
      else x }

/-- The core of a site fails start-up self-test. -/
def coreFails (f : StartupFindings) (site : Nat) : Bool :=
  (f.cores.any fun s => decide (s.val = site)) || f.lanes.any fun q => decide (q.1.val = site) && !laneOk q.2

/-- The state of a site after start-up self-test: HOLED where its collar fails, FENCED where its core fails, and SPARE again where
both pass, unless it has returned three times (R68, R692). -/
def siteTested (f : StartupFindings) (x : SiteRec) : SiteRec :=
  if f.collars.any fun s => decide (s.val = x.id) then { x with bad := some .holed }
  else if coreFails f x.id then { x with bad := some .fenced }
  else if x.bad.isSome && decide (x.returns < 3) then { x with bad := none, returns := x.returns + 1 }
  else x

/-- Start-up self-test of the sites. Known answers of tiles and lanes that fail raise their sources. -/
def testSites (f : StartupFindings) (d : Device) : Device :=
  let bad := ((f.cores ++ f.collars ++ f.lanes.map (·.1)).map (·.val)).eraseDups
  let d := bad.foldl (fun d s => modSite s id d) d
  let d := { d with sites := d.sites.map (siteTested f) }
  let d := f.cores.foldl (fun d s => occur 35 s.val none d) d
  let d := (f.lanes.filter fun q => !laneOk q.2).foldl (fun d q => occur 36 q.1.val none d) d
  updateCapacity (recordMap d)

/-- Start-up self-test of links and segments: those that pass come back, those that fail are cut or fenced. -/
def testFabric (f : StartupFindings) (d : Device) : Device :=
  let d := { d with fabric := { d.fabric with
    links := d.fabric.links.map fun l => { l with cut := false }
    fenced := (f.segments.map fun k => 1#16 <<< k.val).foldl (· ||| ·) 0 } }
  let d := f.links.foldl (fun d l => cutLink l.val d) d
  updateEdges (bumpBy .fencedSegments 0 f.segments.eraseDups.length d)

/-- Start-up self-test of the Strainers, their stream engines and the TRNG. -/
def testUnits (f : StartupFindings) (d : Device) : Device :=
  let d := f.strainers.foldl (fun d k => fenceStrainer k (occur 37 k.val none d)) d
  let d := (f.streams.filter fun q => !laneOk q.2).foldl (fun d q => fenceStrainer q.1 (occur 36 (9600 + q.1.val) none d)) d
  if f.trng then modEntropy (fun e => { e with stopped := true }) (occur 82 0 none d) else d

/-- The region crossings are calibrated; a crossing that fails raises CROSS_CAL and cuts its link (R173, R175). -/
def calibrate (crossings : List (Fin 19200)) (d : Device) : Device :=
  let d := crossings.foldl (fun d l => cutLink l.val (occur 64 l.val none d)) d
  { d with fabric := { d.fabric with calibrated := true } }

/-- STAGE1_START: once the reference is valid, the root locked and the junctions cool after a trip (R728, R736), stage 1 calibrates the
crossings, runs start-up self-test, mounts tier 3 and runs the Slate steps. -/
def stage1Start (f : StartupFindings) (d : Device) : Device :=
  if d.boot.romReady && !d.boot.kettleRestarting && d.clocks.refclk && d.clocks.locked && !d.boot.tripHold then
    let d := evalPair { d with boot := { d.boot with romReady := false, stage := .stage1 } }
    let d := testUnits f (testFabric f (testSites f (resolveSites d)))
    let d := calibrate f.crossings d
    slateBoot { d with tiers := { d.tiers with t3 := { d.tiers.t3 with scanning := d.tiers.t3.scanDue } } }
  else d

/-! ### The main firmware (R597, R686, R688, R691, R715) -/

/-- MAIN_FIRMWARE_START: the main firmware replays the journal, where it counts torn records and records that fail their tag, and
serves mailboxes. -/
def mainStart (torn authFails : Nat) (d : Device) : Device :=
  if d.boot.stage = .stage1 ∧ !d.boot.kettleRestarting then
    let d := bumpBy .caddyAuthFails 0 authFails (bumpBy .caddyTorn 0 torn d)
    let d := if d.boot.phyRecords then d else journal kPhy 0 { d with boot := { d.boot with phyRecords := true } }
    let d := { d with
      boot := { d.boot with stage := .main, mbxReady := true, readySince := d.now }
      selftest := { d.selftest with nextAt := some d.now } }
    announceState d
  else d

/-- START_COMPLETE: MBX_READY has held for 10 s. -/
def startComplete (d : Device) : Device :=
  if d.boot.stage = .main ∧ d.boot.mbxReady ∧ !d.boot.startComplete then
    let d := advanceTo (d.boot.readySince + 10 * sec) d
    clearAttempts d.boot.running { d with boot := { d.boot with startComplete := true } }
  else d

/-! ### Kettle restarts (R222, R639, R640, R664, R671, R693, R694, R704) -/

/-- UPDATE_ACTIVATE completes after its restart: IMAGE_REFUSED when the trial has fallen back (Table 17-5). -/
def finishActivate (cause : Nat) (d : Device) : Device :=
  let st : Status := if cause = 6 ∧ d.boot.update.state = .idle then .imageRefused else .ok
  let calls := d.host.mbx.toList.flatMap fun m => (m.started.filter fun s => decide (s.call.opcode = 0x93)).map (·.call)
  calls.foldl (fun d c => finish c st 0 d) d

/-- A restart into a different slot: its BOOT record, the completion of UPDATE_ACTIVATE, and a rebuild of every open tenant's epoch
under the new build (R222, R694, R704). -/
def finishSwitch (d : Device) : Device :=
  match d.boot.switching with
  | none => d
  | some cause =>
    let d := bootRecord { d with boot := { d.boot with cause := cause } }
    let d := finishActivate cause { d with boot := { d.boot with switching := none } }
    allTenants.foldl (fun d t => trigger 4 t d) d

/-- The traps queued during the restart are taken in ascending source number (R671). -/
def takeTraps (d : Device) : Device :=
  let l := (List.range 128).filter fun s => d.gutter.traps.getLsbD s
  l.foldl (fun d s => emit (.trap s) d) { d with gutter := { d.gutter with traps := 0 } }

/-- Releases that were pending are issued again (R664). -/
def reissueReleases (d : Device) : Device :=
  d.gutter.releases.foldl (fun d r => releaseNow r false d) { d with gutter := { d.gutter with releases := [] } }

/-- KETTLE_RESTART_COMPLETE: the firmware attaches to the running grid and serves mailboxes; without an eligible slot the module enters
recovery mode through a module reset. A boot that was in progress, and recovery mode, go on. -/
def kettleComplete (d : Device) : Device :=
  if !d.boot.kettleRestarting then d
  else if d.boot.noSlot then selfReset 3 d
  else if d.boot.stage ≠ .rom ∨ d.boot.romReady then completeReset .kettle (announceState { d with boot := { d.boot with kettleRestarting := false } })
  else
    let d := { d with boot := { d.boot with kettleRestarting := false, stage := .main, mbxReady := true, readySince := d.now } }
    let d := announceState (completeReset .kettle d)
    let d := startBuild (abandonBuild d)
    finishSwitch (reissueReleases (takeTraps d))

/-! ### Module resets that the module makes (R650, R727) -/

/-- GUTTER_MODULE_RESET: 10 µs after a level-5 reaction took the pair to fault. -/
def gutterReset (d : Device) : Device :=
  match d.gutter.resetDue with
  | none => d
  | some t => selfReset 3 (advanceTo t d)

/-- HOLDOVER_EXPIRY: 100 ms of holdover without a reference make a module reset whatever the staged LEVEL. -/
def holdoverExpiry (d : Device) : Device :=
  match d.clocks.holdover with
  | some t => if d.clocks.refclk then d else selfReset 3 (advanceTo (t + 100 * ms) d)
  | none => d

/-! ### Meanings -/

/-- POWER_ON. -/
def execPowerOn (off : Nat) (resetL : Bool) (recovery : Readings) (s : State) : Host.Outcome State Fault Refusal :=
  done s (powerOn off resetL recovery s.dev)

/-- POWER_LOSS. -/
def execPowerLoss (slateTorn : Bool) (s : State) : Host.Outcome State Fault Refusal := done s (powerLoss slateTorn s.dev)

/-- RESET_L_ASSERT. -/
def execResetLAssert (lowNs : Nat) (s : State) : Host.Outcome State Fault Refusal := done s (resetAssert lowNs s.dev)

/-- RESET_L_RELEASE. -/
def execResetLRelease (highNs : Nat) (recovery : Readings) (s : State) : Host.Outcome State Fault Refusal :=
  done s (resetRelease highNs recovery s.dev)

/-- STAGE1_START. -/
def execStage1Start (f : StartupFindings) (s : State) : Host.Outcome State Fault Refusal := done s (stage1Start f s.dev)

/-- MAIN_FIRMWARE_START. -/
def execMainFirmwareStart (torn authFails : Nat) (s : State) : Host.Outcome State Fault Refusal :=
  done s (mainStart torn authFails s.dev)

/-- START_COMPLETE. -/
def execStartComplete (s : State) : Host.Outcome State Fault Refusal := done s (startComplete s.dev)

/-- KETTLE_RESTART_COMPLETE. -/
def execKettleRestartComplete (s : State) : Host.Outcome State Fault Refusal := done s (kettleComplete s.dev)

/-- GUTTER_MODULE_RESET. -/
def execGutterModuleReset (s : State) : Host.Outcome State Fault Refusal := done s (gutterReset s.dev)

/-- HOLDOVER_EXPIRY. -/
def execHoldoverExpiry (s : State) : Host.Outcome State Fault Refusal := done s (holdoverExpiry s.dev)

/-- BACKUP_DOMAIN_POWER_LOSS. -/
def execBackupDomainPowerLoss (s : State) : Host.Outcome State Fault Refusal := done s (backupLoss s.dev)

/-- BACKUP_ALARM_CHECK. -/
def execBackupAlarmCheck (temp : Int) (cell stopped : Nat) (s : State) : Host.Outcome State Fault Refusal :=
  done s (backupCheck temp cell stopped s.dev)

/-- VBAT_LOW. -/
def execVbatLow (cell : Nat) (s : State) : Host.Outcome State Fault Refusal := done s (vbatLow cell s.dev)

end Sys2Proof.Machine
end

