-- ==== Sys2Proof/Machine/Link.lean ====
section
/-! DEFINITION. PERST_L and the PCIe link (R637, R648, R685, R771, R772). -/

namespace Sys2Proof.Machine

open Sys2Proof

/-- PERST_ASSERT: the endpoint, its configuration space and the IDE streams are reset, and every mailbox is flushed (Table 17-1). -/
def perstAssert (d : Device) : Device :=
  let d := { d with
    pins := { d.pins with perstL := false }
    host := { d.host with endpointReady := false, linkUp := false, ide := Vector.replicate 5 false } }
  (List.finRange 9).foldl (fun d m => flushMailbox m d) d

/-- PERST_L_RELEASE: the endpoint is ready for link training once RESET_L is released too (R771). -/
def perstRelease (d : Device) : Device :=
  { d with
    pins := { d.pins with perstL := d.pins.vin }
    host := { d.host with endpointReady := d.pins.vin && !d.boot.inReset } }

/-- The held messages of the vectors that have waited long enough are sent (R609). -/
def sendHeld (d : Device) : Device :=
  (List.finRange 5).foldl (fun d fn => (List.finRange 16).foldl (fun d v =>
    let x := msixVec d fn v
    let free := match x.last with | some t => decide (t + 2 * us ≤ d.now) | none => true
    if x.held && free then msixSent fn v d else d) d) d

/-- Something waits to be sent to the host: a message held back, or a completion (R772). -/
def hostWaits (d : Device) : Bool :=
  ((List.finRange 5).any fun fn => (List.finRange 16).any fun v => (msixVec d fn v).held) ||
    d.host.mbx.toList.any fun m => !m.overflow.isEmpty

/-- PCIE_LINK: the link goes down, or enters L2 with the endpoint in D3cold, which hold the condition of source 24; an uncorrectable
error is an occurrence of it. -/
def pcieLink (e : PcieEvent) (d : Device) : Device :=
  match e with
  | .uncorrectable => occur 24 0 none d
  | .down => condBegin 24 0 none { d with host := { d.host with linkUp := false } }
  | .l2 =>
    let d := condBegin 24 0 none { d with host := { d.host with linkUp := false, d3cold := true } }
    if hostWaits d then wakeHost d else d

/-- PCIE_LINK_UP: the link reaches L0, WAKE_L is released, and what waited is sent. -/
def pcieLinkUp (d : Device) : Device :=
  if d.host.endpointReady then
    let d := { d with host := { d.host with linkUp := true, d3cold := false }, pins := { d.pins with wakeL := false } }
    sendHeld (condEnd 24 0 d)
  else d

/-! ### Meanings -/

/-- PERST_ASSERT. -/
def execPerstAssert (s : State) : Host.Outcome State Fault Refusal := done s (perstAssert s.dev)

/-- PERST_L_RELEASE. -/
def execPerstLRelease (s : State) : Host.Outcome State Fault Refusal := done s (perstRelease s.dev)

/-- PCIE_LINK. -/
def execPcieLink (e : PcieEvent) (s : State) : Host.Outcome State Fault Refusal := done s (pcieLink e s.dev)

/-- PCIE_LINK_UP. -/
def execPcieLinkUp (s : State) : Host.Outcome State Fault Refusal := done s (pcieLinkUp s.dev)

end Sys2Proof.Machine
end

