-- ==== Sys2Proof/Machine/PairCmds.lean ====
section
/-! DEFINITION. The lock-step pair's command and messages (R504, R507 to R509). -/

namespace Sys2Proof.Machine

open Sys2Proof

/-- The package digest of the run of a tenant that a pair names. -/
def pairPackage (d : Device) (t : TenantId) : BitVec 384 := ((runPackage d t).map (·.digest)).getD 0

/-- The partner has issued the matching command: the pair forms, or the command ends over the packages or the arithmetic levels. -/
def formPair (t : TenantId) (d : Device) : Device :=
  match (d.tenant t).pair with
  | none => d
  | some p =>
    if p.formed then d
    else match d.span.pairOffers.find? fun o => decide (o.1 = p.partner) && decide (o.2.1 = p.runId % 2 ^ 32) with
      | none => d
      | some o =>
        let d := modSpan (fun s => { s with pairOffers := s.pairOffers.filter fun x => !decide (x = o) }) d
        let stop := fun (reason : Nat) (d : Device) =>
          finish p.call .spanMismatch reason (modTenant t (fun x => { x with pair := none }) d)
        if o.2.2.1 ≠ pairPackage d t then stop 0x35 d
        else if o.2.2.2 ≠ (runningImage d).arith then stop 0x31 d
        else modPair t (fun p => { p with formed := true }) d

/-- PAIR_COMPARE_SET. A run id of 0 ends the pair; another command forms it anew. -/
def pairSet (c : Call) (d : Device) : Device :=
  let t := c.tenant
  if c.w 1 = 0 then finish c .ok 0 (endPair t d)
  else
    let key : BitVec 128 := BitVec.ofNat 128 (c.w 4 + c.w 5 * 2 ^ 64)
    let partner : BitVec 128 := BitVec.ofNat 128 (c.w 2 + c.w 3 * 2 ^ 64)
    let every := field (c.w 6) 0 9
    if key = 0 ∨ !within 1 256 every ∨ (d.tenant t).runId ≠ some (c.w 1) then badParam c 0 d
    else match d.span.peers.find? fun m => decide (m.serial = partner) with
      | none => badParam c 0 d
      | some m =>
        if (routeTo d m.lowest).isEmpty then badParam c 0 d
        else if d.span.arithMixed then finish c .spanMismatch 0x31 d
        else
          let phases := match (d.tenant t).pair with
            | some p => if p.runId = c.w 1 then p.phases else 0
            | none => 0
          let d := endPair t d
          let d := modTenant t (fun x => { x with pair := (some
            ({ call := c, runId := c.w 1, partner := partner, key := key, every := every, timing := bitAt (c.w 6) 16
               phases := phases, equalTo := phases } : Pair)) }) d
          let d := sendMgmt m.lowest .pairDigest [c.w 1 % 2 ^ 32, 2 ^ 32 - 1, (runningImage d).arith] (beOf 48 (pairPackage d t)) d
          formPair t d

/-- The tenant whose pair a partner's message names. -/
def pairTenant (d : Device) (partner : BitVec 128) (run : Nat) : Option TenantId :=
  allTenants.find? fun t => match (d.tenant t).pair with
    | some p => decide (p.partner = partner) && decide (p.runId % 2 ^ 32 = run)
    | none => false

/-- PAIR_DIGEST: the partner's matching command, or its value of a phase, which is compared once both are there. -/
def pairDigest (partner : BitVec 128) (run : Nat) (m : PairMsg) (d : Device) : Device :=
  match m with
  | .set package arith =>
    let d := modSpan (fun s => { s with pairOffers :=
      (partner, run, package, arith) :: s.pairOffers.filter fun o => !(decide (o.1 = partner) && decide (o.2.1 = run)) }) d
    (match pairTenant d partner run with
     | some t => formPair t d
     | none => d)
  | .digest f chain own cycles =>
    match pairTenant d partner run with
    | none => d
    | some t =>
      (match (d.tenant t).pair with
       | some p =>
         if p.formed && decide (p.state = 0) then
           settlePair t 64 (modPair t (fun p => { p with theirs := p.theirs ++ [(f, chain, own, cycles)] }) d)
         else d
       | none => d)

/-- PAIR_PROBE: the partner's value at a midpoint halves the range of the bisection. A module that has not found the mismatch yet
answers with its own value. -/
def pairProbe (partner : BitVec 128) (run mid : Nat) (chain own : BitVec 128) (d : Device) : Device :=
  match pairTenant d partner run with
  | none => d
  | some t =>
    match (d.tenant t).pair with
    | none => d
    | some p =>
      match p.bisect, p.at mid with
      | some (lo, hi), some (dp, c, _) =>
        if mid ≠ (lo + hi) / 2 then d
        else
          let (lo, hi) := if c = chain then (mid + 1, hi) else (lo, mid)
          let d := if c = chain then d else modPair t (fun p => { p with found := some (mid, dp, own) }) d
          if lo = hi then modPair t (fun p => { p with bisect := none }) d
          else sendProbe t (modPair t (fun p => { p with bisect := some (lo, hi) }) d)
      | none, some (dp, c, _) =>
        if p.state = 0 then
          (match indexOfSerial d p.partner with
           | some i => sendMgmt i .pairProbe [p.runId % 2 ^ 32, mid] (bytes16 c ++ bytes16 dp) d
           | none => d)
        else d
      | _, none => d

/-- PAIR_WAIT_TIMEOUT: the partner's value has not come within PAIR_WAIT of the own phase end: the pair diverges as LATE. -/
def pairWaitTimeout (t : TenantId) (d : Device) : Device :=
  match (d.tenant t).pair with
  | none => d
  | some p =>
    match p.own with
    | [] => d
    | (_, since) :: _ => diverge t 2 (advanceTo (since + pairWait d) d)

/-! ### Meanings -/

/-- PAIR_COMPARE_SET. -/
def execPairCompareSet (c : Call) (s : State) : Host.Outcome State Fault Refusal := done s (runFw c (pairSet c) s.dev)

/-- PAIR_DIGEST. -/
def execPairDigest (partner : BitVec 128) (run : W32) (m : PairMsg) (s : State) : Host.Outcome State Fault Refusal :=
  done s (pairDigest partner run.toNat m s.dev)

/-- PAIR_PROBE. -/
def execPairProbe (partner : BitVec 128) (run : W32) (mid : Nat) (chain own : BitVec 128) (s : State) :
    Host.Outcome State Fault Refusal := done s (pairProbe partner run.toNat mid chain own s.dev)

/-- PAIR_WAIT_TIMEOUT. -/
def execPairWaitTimeout (t : TenantId) (s : State) : Host.Outcome State Fault Refusal := done s (pairWaitTimeout t s.dev)

end Sys2Proof.Machine
end

