-- ==== Sys2Proof/Machine/Power.lean ====
section
/-! DEFINITION. The power policy, the plan, profiles and the converter phases (R729 to R731, R738 to R749). -/

namespace Sys2Proof.Machine

open Sys2Proof

/-! ### The plan and the profile (R731, R748) -/

/-- POWER_PLAN with its times. -/
def setPlan (c : Call) (n : Nat) (bs : List Byte) (d : Device) : Device :=
  let times := (List.range n).map fun i => leAt bs (8 * i) 8
  let plan := (sortBy (fun a b => decide (a < b)) (times.filter fun t => decide (moduleTime d < t))).eraseDups
  finish c .ok 0 { d with power := { d.power with plan := plan } }

/-- POWER_PLAN. -/
def powerPlan (c : Call) (d : Device) : Device :=
  let n := field (c.w 1) 0 5
  if 16 < n then badParam c 0 d
  else if n = 0 then setPlan c 0 [] d
  else withBuf c 3 (8 * n) (setPlan c n) d

/-- The profile that POWER_PROFILE selects. -/
def namedProfile (c : Call) : Profile := if bitAt (c.w 1) 0 then .vehicle else .full

/-- POWER_PROFILE: the profile is journalled, and its completion follows the change point. -/
def powerProfile (c : Call) (d : Device) : Device :=
  decideDivisor (journal kApplied 0 { d with clocks := { d.clocks with newProfile := some (namedProfile c) } })

/-! ### Choosing a state (R739 to R743) -/

/-- The Kettle has grid work in progress (R739): an epoch that loads, a mirror or planned-move copy, a migration, or a release. -/
def gridWork (d : Device) : Bool :=
  (match d.fabric.build with | some b => b.built.isSome | none => false) || !d.gutter.releases.isEmpty ||
    allTenants.any fun t =>
      let x := d.tenant t
      (x.mirrors.any fun m => !m.complete) || (x.units.any fun u => u.migrating.isSome) || (x.nextEpoch.isSome && !x.nextReady) ||
        !x.checkpoints.isEmpty

/-- What holds the module in RUN (R739). -/
def mustRun (d : Device) : Bool :=
  allTenants.any d.inStep || (allTenants.any fun t => ((d.tenant t).run.bind (·.redo)).isSome) ||
    (d.strainers.toList.any fun x => !x.ctx.isEmpty || !x.queue.isEmpty) || gridWork d || d.selftest.running || !d.selftest.due.isEmpty

/-- A command that the firmware executes is in progress. -/
def firmwareBusy (d : Device) : Bool :=
  d.host.mbx.toList.any fun m => m.started.any fun s => !(match s.call.info with | some o => o.engine | none => false)

/-- What keeps the module out of DARK and PARK, and out of PARK (R740). -/
def darkBarred (d : Device) : Bool := d.windows.toList.any (·.en)

/-- What keeps the module out of PARK (R740). -/
def parkBarred (d : Device) : Bool :=
  darkBarred d || d.span.formed || firmwareBusy d ||
    (d.intake.ctx.toList.any fun x => decide (x.state = .started) || decide (x.state = .stopping)) ||
    allTenants.any fun t => (d.tenant t).pair.isSome

/-- The root time of a module time that lies ahead. -/
def rootTime (d : Device) (t : Nat) : Nat := d.now + (t - moduleTime d)

/-- The next boundary of a paced run as a known event; that of the SYNC_TENANT less h (R582, R742). -/
def knownBoundary (d : Device) (t : TenantId) : Option Nat :=
  match (d.tenant t).run with
  | some r =>
    if decide ((d.tenant t).runState = .running) && decide (0 < r.period) && r.begun then
      some (if syncTenant d = t.val then r.nominal - min (r.period / 4) (5 * ms) else r.nominal)
    else none
  | none => none

/-- The known events, as root times (R742). -/
def knownEvents (d : Device) : List Nat :=
  (d.power.plan.map (rootTime d)) ++ allTenants.filterMap (knownBoundary d) ++
    (if cfgOr d 0x02FF0010 1 = 1 then d.selftest.nextAt.toList else [])

/-- The next known event. -/
def nextEvent (d : Device) : Option Nat :=
  match knownEvents d with
  | [] => none
  | t :: l => some (l.foldl min t)

/-- The predicted time: the smallest of the last 8 intervals. -/
def predicted (d : Device) : Nat := match d.power.intervals with | [] => 0 | t :: l => l.foldl min t

/-- T_e of R741 in ns. -/
def timeToEvent (d : Device) : Nat :=
  match nextEvent d with
  | some t => min (t - d.now) (predicted d)
  | none => predicted d

/-- entry_s + 1.1 × wake_s + 50 µs. -/
def stateCost (p : PState) : Nat := entryTime p + wakeTime p * 11 / 10 + 50 * us

/-- The deepest allowed state whose cost the time to the next event covers; GATE before 8 intervals have been measured, or when no
deeper state qualifies (R741, R743). -/
def chooseState (d : Device) : PState :=
  let te := timeToEvent d
  if d.power.measured < 8 then .gate
  else if !parkBarred d && decide (stateCost .park ≤ te) then .park
  else if !darkBarred d && decide (stateCost .dark ≤ te) then .dark
  else if stateCost .retain ≤ te then .retain
  else .gate

/-- IDLE_PERIOD_START: nothing holds the module in RUN, and it enters the state that it chooses; a wake trigger in the same Kettle tick
wins (R745). -/
def idleStart (trigger : Bool) (d : Device) : Device :=
  if d.boot.stage = .main && awake d && d.power.idleSince.isNone && !mustRun d && !trigger then
    { d with power := { d.power with idleSince := some d.now, entering := some (chooseState d) } }
  else d

/-- Scratchpads are saved in tier 1 in DARK and PARK (Table 18-3). -/
def savesScratch (p : PState) : Bool := decide (p = .dark) || decide (p = .park)

/-- STATE_ENTRY_COMPLETE. -/
def entryComplete (d : Device) : Device :=
  match d.power.entering, d.power.idleSince with
  | some p, some t =>
    let d := changeState p (advanceTo (t + entryTime p) d)
    let d := bump .stateEntries p.code { d with
      power := { d.power with entering := none, saved := savesScratch p }
      fabric := { d.fabric with calibrated := d.fabric.calibrated && !savesScratch p } }
    if p = .park then announceState { d with boot := { d.boot with mbxReady := false } } else d
  | _, _ => d

/-! ### Waking (R744 to R747) -/

/-- PLANNED_WAKE_START: the wake starts 1.1 wake times and 50 µs before the next known event, at which the idle period ends. -/
def plannedWake (d : Device) : Device :=
  match nextEvent d with
  | some t =>
    let p := match d.power.entering with | some p => p | none => d.power.state
    if p = .run ∨ p = .backup ∨ d.power.waking.isSome then d
    else startWake p (endIdle t (advanceTo (t - (wakeTime p * 11 / 10 + 50 * us)) d))
  | none => d

/-- A cause wakes the module: a doorbell for a command that needs neither the grid nor tier 1 does so in PARK only. -/
def triggers (d : Device) (w : WakeCause) : Bool :=
  match w with
  | .doorbell grid => grid || decide (d.power.state = .park) || decide (d.power.entering = some .park)
  | _ => true

/-- WAKE_TRIGGER. -/
def wakeTrigger (w : WakeCause) (d : Device) : Device := if triggers d w then wakeUp d else d

/-- A paced run whose boundary passed during the wake: it falls at the end of the wake, late (R747). -/
def wakeLateRun (d : Device) (t : TenantId) : Device :=
  match (d.tenant t).run with
  | some r =>
    if decide ((d.tenant t).runState = .running) && decide (0 < r.period) && r.begun && r.idle && r.lateAt.isNone &&
        decide (r.due < d.now) then
      bump .wakeLate t.val (modRun t (fun r => { r with lateStart := true }) (lateStep t d.now d))
    else d
  | none => d

/-- WAKE_COMPLETE: the module is in RUN; scratchpads are reloaded unchanged, and after DARK and PARK the crossings are calibrated again,
of which `crossings` fail (R173, R175, R746). -/
def wakeComplete (crossings : List (Fin 19200)) (d : Device) : Device :=
  match d.power.waking with
  | none => d
  | some (p, t) =>
    let d := changeState .run (advanceTo t d)
    let d := { d with power := { d.power with waking := none, entering := none, saved := false } }
    let d := if savesScratch p then calibrate crossings d else d
    let d := if p = .park then
        announceState { d with boot := { d.boot with
          mbxReady := decide (d.boot.stage = .main) && !d.boot.kettleRestarting, readySince := d.now } } else d
    allTenants.foldl wakeLateRun d

/-- PLAN_TIME_PASSED: the first planned time passes and leaves the plan. -/
def planPassed (d : Device) : Device :=
  match d.power.plan with
  | [] => d
  | t :: l =>
    let d := advanceTo (rootTime d t) d
    bump .planEvents 0 { d with power := { d.power with plan := l } }

/-! ### Supply (R749) -/

/-- The grid core rail (log entry 54). -/
def coreRail : Nat := 0

/-- VRM_PHASE: a converter phase of a rail fails; a second one on the grid core rail caps the grid divisor at 16 until the next module
reset. -/
def vrmPhase (rail : Fin 6) (d : Device) : Device :=
  let d := bump .phaseFails rail.val { d with clocks := { d.clocks with phaseFails := vmod d.clocks.phaseFails rail (· + 1) } }
  let d := occur 71 rail.val none d
  if rail.val = coreRail ∧ 2 ≤ d.clocks.phaseFails.toList.getD rail.val 0 then
    decideDivisor { d with clocks := { d.clocks with capped := true } }
  else d

/-! ### Meanings -/

/-- POWER_PLAN. -/
def execPowerPlan (c : Call) (s : State) : Host.Outcome State Fault Refusal := done s (runFw c (powerPlan c) s.dev)

/-- POWER_PROFILE. -/
def execPowerProfile (c : Call) (s : State) : Host.Outcome State Fault Refusal := done s (runFw c (powerProfile c) s.dev)

/-- IDLE_PERIOD_START. -/
def execIdlePeriodStart (trigger : Bool) (s : State) : Host.Outcome State Fault Refusal := done s (idleStart trigger s.dev)

/-- STATE_ENTRY_COMPLETE. -/
def execStateEntryComplete (s : State) : Host.Outcome State Fault Refusal := done s (entryComplete s.dev)

/-- PLANNED_WAKE_START. -/
def execPlannedWakeStart (s : State) : Host.Outcome State Fault Refusal := done s (plannedWake s.dev)

/-- WAKE_TRIGGER. -/
def execWakeTrigger (w : WakeCause) (s : State) : Host.Outcome State Fault Refusal := done s (wakeTrigger w s.dev)

/-- WAKE_COMPLETE. -/
def execWakeComplete (crossings : List (Fin 19200)) (s : State) : Host.Outcome State Fault Refusal :=
  done s (wakeComplete crossings s.dev)

/-- PLAN_TIME_PASSED. -/
def execPlanTimePassed (s : State) : Host.Outcome State Fault Refusal := done s (planPassed s.dev)

/-- VRM_PHASE. -/
def execVrmPhase (rail : Fin 6) (s : State) : Host.Outcome State Fault Refusal := done s (vrmPhase rail s.dev)

/-- VRM_OVERCURRENT. -/
def execVrmOvercurrent (rail : Fin 6) (s : State) : Host.Outcome State Fault Refusal := done s (occur 72 rail.val none s.dev)

end Sys2Proof.Machine
end

