-- ==== Sys2Proof/Machine/Protect.lean ====
section
/-! DEFINITION. Attestation over SPDM, the board-management interface, and the debug port (R296, R594, R720 to R722, R779). -/

namespace Sys2Proof.Machine

open Sys2Proof

/-! ### SPDM over DOE (R721) -/

/-- Response codes of SPDM 1.2 (DMTF DSP0274; log entry 53). -/
def spdmDigests : Nat := 0x01
def spdmCertificate : Nat := 0x02
def spdmChallenge : Nat := 0x03
def spdmMeasurements : Nat := 0x60
def spdmVendor : Nat := 0x7E
def spdmError : Nat := 0x7F

/-- The chain of certificate slot 0, a function of the DICE values of the running firmware (R720). -/
def chain (d : Device) : List Byte := Config.certificateChain ((runningImage d).digests ++ leBytes 1 (runningImage d).svn)

/-- A version as measurement 4 gives it. -/
def versionBytes (v : Version) : List Byte := leBytes 2 v.major ++ leBytes 2 v.minor ++ leBytes 2 v.patch ++ leBytes 4 v.build

/-- A measurement by its index. -/
def measurement (d : Device) (i : Nat) : Option (List Byte) :=
  let g := (runningImage d).digests
  if i = 1 then some (beOf 48 Config.romDigest)
  else if i = 2 then some (slice g 0 48)
  else if i = 3 then some (slice g 48 48)
  else if i = 4 then some (versionBytes (runningImage d).version ++ versionBytes d.boot.floor ++ leBytes 1 d.boot.svnFuses)
  else none

/-- The IDE stream of a function is established or ended (R594). -/
def setIde (fn : FunctionId) (on : Bool) (d : Device) : Device := { d with host := { d.host with ide := vset d.host.ide fn on } }

/-- SPDM_REQUEST: the physical function answers while the module is out of reset and its endpoint is ready. -/
def spdmRequest (r : SpdmRequest) (d : Device) : Device :=
  if d.boot.inReset || !d.host.endpointReady then d
  else match r with
    | .digests => emit (.spdm spdmDigests (sha384 (chain d))) d
    | .certificate off len => emit (.spdm spdmCertificate (((chain d).drop off).take len)) d
    | .measurement i =>
      (match measurement d i with
       | some bs => emit (.spdm spdmMeasurements bs) d
       | none => emit (.spdm spdmError []) d)
    | .challenge nonce =>
      emit (.spdm spdmChallenge (beOf 96 (Config.sign (sha384Bits (chain d ++ nonce)) d.fresh))) { d with fresh := d.fresh + 1 }
    | .ideKeySet fn => emit (.spdm spdmVendor []) (setIde fn true d)
    | .ideKeyStop fn => emit (.spdm spdmVendor []) (setIde fn false d)
    | .other _ => emit (.spdm spdmError []) d

/-! ### I3C (R779) -/

/-- A temperature as a two's complement number of 16 bits. -/
def tempField (t : Int) : Nat := (BitVec.ofInt 16 t).toNat

/-- The reading of a sensor: input voltage in mV, input power in mW, coolant inlet and highest junction temperature in °C, power state,
error-pair state. One not yet measured is unavailable. -/
def sensorReading (d : Device) (k : Nat) : Option Nat :=
  let t := d.clocks.temp.toList
  if k = 0 then some (Config.inputVoltage d.fresh)
  else if k = 1 then d.clocks.estimates.head?
  else if k = 2 then (if d.clocks.sampled then some (tempField (t.getD 87 0)) else none)
  else if k = 3 then (if d.clocks.sampled then some (tempField ((t.take 73).foldl max (t.getD 0 0))) else none)
  else if k = 4 then some d.power.state.code
  else some (b2n d.gutter.pairFault)

/-- I3C_MESSAGE: the always-on domain answers while the input is present, RESET_L held or not. -/
def i3cMessage (r : I3cRequest) (d : Device) : Device :=
  if !d.pins.vin then d
  else
    let d := bump .i3cMessages 0 d
    match r with
    | .control code =>
      let (v, d) := freshValue d
      emit (.i3c [0, code.toNat, v.toNat]) d
    | .sensor k =>
      emit (.i3c (match sensorReading d k.val with
        | some v => [1, k.val, 1, v]
        | none => [1, k.val, 0])) { d with fresh := d.fresh + 1 }

/-! ### The debug port (R722) -/

/-- DEBUG_NONCE_REQUEST. -/
def debugNonce (d : Device) : Device :=
  if d.boot.inReset then d
  else
    let n := fit 32 (Config.debugNonce d.fresh)
    emit (.debug true n) { d with fresh := d.fresh + 1, boot := { d.boot with nonce := some n } }

/-- Every command in progress completes with FAULTED. -/
def faultCommands (d : Device) : Device :=
  let calls := d.host.mbx.toList.flatMap fun m => m.started.map (·.call)
  calls.foldl (fun d c => finish c .faulted 0 d) d

/-- What the commands in progress had left to do is dropped: their runs, waits, commits and loads. -/
def dropWork (d : Device) : Device :=
  let clear := fun x : Tenant => { x with run := none, runState := .none, pair := none, checkpoints := [], binds := [] }
  let d := allTenants.foldl (fun d t => modTenant t clear d) d
  { d with
    commits := [], loads := [], clocks := { d.clocks with newProfile := none }
    entropy := { d.entropy with waits := [] }
    span := { d.span with forming := none, leaving := none }
    boot := { d.boot with update := { d.boot.update with forward := [] }, switching := none }
    intake := { d.intake with ctx := d.intake.ctx.map fun x => { x with stopCall := none } } }

/-- The run state is zeroised: every seed, every tenant's keys with the effect of TENANT_CLOSE, and every scratchpad. -/
def zeroise (d : Device) : Device :=
  let d := allTenants.foldl (fun d t => if (d.tenant t).isOpen then closeTenant t d else d) d
  { d with scratch := [], vtiles := [], halo := [] }

/-- DEBUG_UNLOCK: a valid signature over the nonce and the serial number unlocks the port until the next module reset; an invalid one
spends the nonce. -/
def debugUnlock (signature : List Byte) (d : Device) : Device :=
  if d.boot.inReset then d
  else
    let ok := match d.boot.nonce with
      | some n => Config.debugSignatureOk n d.boot.serial signature
      | none => false
    let d := { d with boot := { d.boot with nonce := none } }
    if ok then
      let d := zeroise (dropWork (faultCommands d))
      let d := bump .debugUnlocks 0 { d with boot := { d.boot with debugUnlocked := true } }
      emit (.debug true []) (occur 83 0 none d)
    else emit (.debug false []) (occur 84 0 none d)

/-! ### Meanings -/

/-- SPDM_REQUEST. -/
def execSpdmRequest (r : SpdmRequest) (s : State) : Host.Outcome State Fault Refusal := done s (spdmRequest r s.dev)

/-- I3C_MESSAGE. -/
def execI3cMessage (r : I3cRequest) (s : State) : Host.Outcome State Fault Refusal := done s (i3cMessage r s.dev)

/-- DEBUG_NONCE_REQUEST. -/
def execDebugNonceRequest (s : State) : Host.Outcome State Fault Refusal := done s (debugNonce s.dev)

/-- DEBUG_UNLOCK. -/
def execDebugUnlock (signature : List Byte) (s : State) : Host.Outcome State Fault Refusal := done s (debugUnlock signature s.dev)

end Sys2Proof.Machine
end

