-- ==== Sys2Proof/Machine/SelfTest.lean ====
section
/-! DEFINITION. In-field self-test (R321 to R323, R675 to R678). -/

namespace Sys2Proof.Machine

open Sys2Proof

/-- PERIOD_S in ns. -/
def testPeriod (d : Device) : Nat := fieldValue d 0x02FF0011 * sec

/-- SELFTEST_CTRL.EN. -/
def testEnabled (d : Device) : Bool := decide (fieldValue d 0x02FF0010 = 1)

/-- Duration of a unit's test in ns (Table 16-7). -/
def testTime (u : Nat) : Nat := if u < 16 then 300 * us else if u < 20 then 120 * us else 200 * us

/-- How long a test may hold work back (R677): its duration and 20 µs. -/
def testWindow (u : Nat) : Nat := testTime u + 20 * us

/-- An open tenant has a vtile on a site of a region. -/
def usesRegion (d : Device) (u : Nat) (t : TenantId) : Bool :=
  (d.tenant t).isOpen && (rectVtiles (d.tenant t).rect).any fun v =>
    match carrierOf d v with | some s => decide (siteRegion s = u) | none => false

/-- When the next step of a tenant's run is known to start: a paced run's next boundary. -/
def knownStart (d : Device) (t : TenantId) : Option Nat :=
  match (d.tenant t).run with
  | some r => if running d t && decide (0 < r.period) && r.begun then some r.due else none
  | none => none

/-- A unit is idle now, and the next known event that needs it lies at least the test's duration and 20 µs away (R675). -/
def unitIdle (d : Device) (u : Nat) : Bool :=
  if u < 16 then
    allTenants.all fun t => !usesRegion d u t ||
      (!d.inStep t && (match knownStart d t with | some s => decide (d.now + testWindow u ≤ s) | none => true))
  else if h : u < 20 then
    let x := d.strainer ⟨u - 16, by omega⟩
    !x.fenced && x.ctx.isEmpty && x.queue.isEmpty
  else d.entropy.waits.isEmpty && !d.entropy.reseedDue && !d.entropy.stopped

/-- The test of a due unit starts when the unit is idle; a unit preempted 16 times in a row gets a forced window (R675, R677). -/
def startTest (u : Fin 21) (d : Device) : Device :=
  if testEnabled d && !d.selftest.running && d.selftest.due.contains u.val && unitIdle d u.val then
    let forced := decide (16 ≤ d.selftest.consec[u.val]'u.isLt)
    let d := if forced then bump .selftestForced u.val d else d
    { d with selftest := { d.selftest with
      unit := u.val, running := true, forced := forced, repeating := false, since := d.now
      due := d.selftest.due.filter fun v => !decide (v = u.val) } }
  else d

/-- SELFTEST_DUE: the next unit of the cycle falls due, at equal intervals of the period, or a unit that is due meets an idle
window. -/
def selftestDue (u : Fin 21) (d : Device) : Device :=
  let s := d.selftest
  if d.boot.stage ≠ .main then d
  else if s.due.contains u.val then startTest u d
  else match s.nextAt with
    | none => d
    | some t =>
      if testEnabled d && decide (s.next = u.val) && !underTest d u.val then
        let d := advanceTo t d
        startTest u { d with selftest := { d.selftest with
          due := d.selftest.due ++ [u.val], next := (u.val + 1) % 21, nextAt := some (t + testPeriod d / 21) } }
      else d

/-- The unit is handed back. -/
def endTest (d : Device) : Device :=
  { d with selftest := { d.selftest with unit := 31, running := false, forced := false, repeating := false } }

/-- Work that waited for the unit goes on. -/
def resumeUnit (u : Nat) (d : Device) : Device :=
  if h : 16 ≤ u ∧ u < 20 then serveQueue ⟨u - 16, by omega⟩ 512 d
  else if u = 20 then serveEntropy (d.entropy.waits.length + 2) d else d

/-- The test is complete: it is counted, and the count of preemptions starts again (R677). -/
def completeTest (u : Nat) (d : Device) : Device :=
  let d := bump .selftestRuns u d
  let d := endTest (if h : u < 21 then { d with selftest := { d.selftest with
      consec := vset d.selftest.consec ⟨u, h⟩ 0, lastDone := vset d.selftest.lastDone ⟨u, h⟩ d.now
      overdue := d.selftest.overdue.filter fun v => !decide (v = u) } } else d)
  resumeUnit u d

/-- The sites that a region test finds bad: cores, and lanes that answer wrongly. Only sites with a running core are tested. -/
def testedSite (d : Device) (u site : Nat) : Bool := decide (siteRegion site = u) && (d.site site).bad.isNone

/-- What the findings say against a unit. -/
def testFails (d : Device) (u : Nat) (f : TestFindings) : Bool :=
  if u < 16 then
    (f.cores.any fun s => testedSite d u s.val) || (f.lanes.any fun q => testedSite d u q.1.val && !laneOk q.2)
  else if u < 20 then f.fails || f.lanes.any fun q => !laneOk q.2
  else f.fails

/-- The repair after a second failure (R678): bad sites become FENCED, a Strainer is fenced, and the TRNG stops delivering
entropy. -/
def testRepair (u : Nat) (f : TestFindings) (d : Device) : Device :=
  if u < 16 then
    let bad := ((f.lanes.filter fun q => testedSite d u q.1.val && !laneOk q.2).map (·.1.val)).eraseDups
    let d := (f.cores.filter fun s => testedSite d u s.val).foldl (fun d s => fenceNow s.val 35 (occur 35 s.val none d)) d
    bad.foldl (fun d s => fenceNow s 36 (occur 36 s none d)) d
  else if h : 16 ≤ u ∧ u < 20 then
    let k : StrainerId := ⟨u - 16, by omega⟩
    let d := if f.fails then occur 37 k.val none d else d
    let d := if f.lanes.any fun q => !laneOk q.2 then occur 36 (9600 + k.val) none d else d
    fenceStrainer k d
  else dropWaits .faulted (modEntropy (fun e => { e with stopped := true }) (occur 82 0 none d))

/-- SELFTEST_COMPLETE: the test in progress ends with its findings. A failed test is repeated once at once. -/
def selftestComplete (f : TestFindings) (d : Device) : Device :=
  let s := d.selftest
  if !s.running then d
  else if testFails d s.unit f then
    (if s.repeating then completeTest s.unit (testRepair s.unit f (bump .selftestFails s.unit d))
     else { d with selftest := { s with repeating := true, since := d.now } })
  else completeTest s.unit d

/-- The run of a tenant was started from a mailbox of normal class. -/
def normalRun (d : Device) (t : TenantId) : Bool :=
  match (d.tenant t).run with
  | some r => if r.call.mbx.val < 8 then decide (r.call.mbx.val % 2 = 1) else decide (r.call.cls = 1)
  | none => false

/-- The request meets the unit under test. -/
def requestMeets (d : Device) (q : TestRequest) : Bool :=
  match q with
  | .stepStart t => decide (d.selftest.unit < 16) && regionTest d t
  | .row k _ => decide (d.selftest.unit = 16 + k.val)
  | .entropy _ => decide (d.selftest.unit = 20)

/-- A forced window holds the request back. -/
def requestHeld (d : Device) (q : TestRequest) : Bool :=
  let normal := match q with
    | .stepStart t => normalRun d t
    | .row _ t => normalRun d t
    | .entropy urgent => !urgent
  d.selftest.forced && normal && decide (d.now < d.selftest.since + testWindow d.selftest.unit)

/-- TEST_WAIT of the step whose start a preemption delays. -/
def noteTestWait (t : TenantId) (d : Device) : Device :=
  if (d.stepOf t).isSome then setFlag t 6 d else modRun t (fun r => { r with testWait := true }) d

/-- SELFTEST_PREEMPTION: a service request takes the unit back from its test, which is retried at the next idle window. -/
def selftestPreempt (q : TestRequest) (d : Device) : Device :=
  let u := d.selftest.unit
  if d.selftest.running && requestMeets d q && !requestHeld d q then
    let d := bump .selftestPreempts u d
    let d := if h : u < 21 then { d with selftest := { d.selftest with
        consec := vmod d.selftest.consec ⟨u, h⟩ (· + 1), due := d.selftest.due ++ [u] } } else d
    let d := match q with | .stepStart t => noteTestWait t d | _ => d
    resumeUnit u (endTest d)
  else d

/-- SELFTEST_OVERDUE: a unit has completed no test for four periods. -/
def selftestOverdue (u : Fin 21) (d : Device) : Device :=
  let s := d.selftest
  if d.boot.stage = .main ∧ !s.overdue.contains u.val then
    let d := advanceTo ((s.lastDone[u.val]'u.isLt) + 4 * testPeriod d) d
    occur 41 u.val none { d with selftest := { d.selftest with overdue := u.val :: d.selftest.overdue } }
  else d

/-! ### Meanings -/

/-- SELFTEST_DUE. -/
def execSelftestDue (u : Fin 21) (s : State) : Host.Outcome State Fault Refusal := done s (selftestDue u s.dev)

/-- SELFTEST_COMPLETE. -/
def execSelftestComplete (f : TestFindings) (s : State) : Host.Outcome State Fault Refusal := done s (selftestComplete f s.dev)

/-- SELFTEST_PREEMPTION. -/
def execSelftestPreemption (q : TestRequest) (s : State) : Host.Outcome State Fault Refusal := done s (selftestPreempt q s.dev)

/-- SELFTEST_OVERDUE. -/
def execSelftestOverdue (u : Fin 21) (s : State) : Host.Outcome State Fault Refusal := done s (selftestOverdue u s.dev)

end Sys2Proof.Machine
end

