-- ==== Sys2Proof/Machine/Thermal.lean ====
section
/-! DEFINITION. Temperatures, throttling and the input-power limiter (R271, R733 to R737, R788). -/

namespace Sys2Proof.Machine

open Sys2Proof

/-! ### Thresholds (Table 18-2) -/

/-- Warn threshold of a sensor in °C. -/
def warnAt (d : Device) (k : Nat) : Int :=
  if k < 73 then 100 else if k < 81 then 95 else if k < 87 then 110 else if d.boot.part = 0 then 65 else 45

/-- Emergency threshold; the coolant inlet has none. -/
def emergencyAt (k : Nat) : Option Int :=
  if k < 73 then some 108 else if k < 81 then some 105 else if k < 87 then some 120 else none

/-- Trip threshold of the junction sensors. -/
def tripAt (k : Nat) : Option Int := if k < 73 then some 115 else none

/-- Sensors of a throttling zone. -/
def throttles (k : Nat) : Bool := decide (k < 87)

/-- A condition with a threshold: it begins at the threshold and ends when the reading is 5 °C below it (log entry 96). -/
def holdsAt (was : Bool) (limit t : Int) : Bool := decide (limit ≤ t) || (was && decide (limit - 5 < t))

/-- The sensors at which a source's condition is present after a sample. -/
def heldSensors (d : Device) (src : Nat) (limit : Nat → Option Int) (temps : List Int) : List Nat :=
  (List.range 88).filter fun k => match limit k with
    | some l => holdsAt (d.gutter.cond.contains (src, k)) l (temps.getD k 0)
    | none => false

/-- The reports of one source: the conditions that begin and those that end. -/
def thermalReports (d : Device) (src : SourceId) (now : List Nat) : List FaultReport :=
  let was := (List.range 88).filter fun k => d.gutter.cond.contains (src.val, k)
  [{ src := src, insts := now.filter fun k => !was.contains k, kind := .begins },
   { src := src, insts := was.filter fun k => !now.contains k, kind := .ends }].filter fun r => !r.insts.isEmpty

/-! ### The throttle level (R734, R735) -/

/-- The level changes, and the divisor with it under R730. -/
def setThrottle (level : Nat) (d : Device) : Device :=
  decideDivisor { d with clocks := { d.clocks with throttle := level, throttleSince := d.now } }

/-- An emergency: the level becomes 2, and divisor 16 takes effect at once, whatever change was pending. -/
def emergencyThrottle (d : Device) : Device :=
  changeDivisor (bump .throttleEmergency 0 { d with clocks := { d.clocks with throttle := 2, throttleSince := d.now } })

/-- What the throttle keeps of a sample: since when each sensor holds its warn condition, which hold their emergency condition, and
since when every throttling sensor is cool. -/
def noteSample (temps : List Int) (warn emerg : List Nat) (d : Device) : Device :=
  let cool := (List.range 87).all fun k => decide (temps.getD k 0 < warnAt d k - 5)
  { d with clocks := { d.clocks with
    sampled := true
    temp := Vector.ofFn fun k => temps.getD k.val 0
    warnSince := Vector.ofFn fun k => if warn.contains k.val then some ((d.clocks.warnSince[k.val]'k.isLt).getD d.now) else none
    emergency := Vector.ofFn fun k => emerg.contains k.val
    coolSince := if cool then some (d.clocks.coolSince.getD d.now) else none } }

/-- Whole seconds with a device above 85 °C are counted (REFRESH_HOT). -/
def noteHot (hot : Bool) (d : Device) : Device :=
  let n := match d.clocks.hotSince with | some t => (d.now - t) / sec | none => 0
  let start := match d.clocks.hotSince with | some t => t + n * sec | none => d.now
  let d := bumpBy .refreshHot 0 n d
  { d with clocks := { d.clocks with hotSince := if hot then some start else none } }

/-- The boot's hold after a trip ends once every junction sensor reads below 95 °C (R736). -/
def endTripHold (temps : List Int) (d : Device) : Device :=
  let cool := (List.range 73).all fun k => decide (temps.getD k 0 < 95)
  if d.boot.tripHold && cool && d.gutter.resetDue.isNone then evalPair { d with boot := { d.boot with tripHold := false } } else d

/-- THERMAL_SAMPLE: the readings of the 88 sensors in °C, and whether a tier 1 or tier 2 device is above 85 °C. -/
def thermalSample (temps : Vector Int 88) (hot : Bool) (d : Device) : Device :=
  if !d.pins.vin then d
  else
    let l := temps.toList
    let warn := heldSensors d 68 (fun k => some (warnAt d k)) l
    let emerg := heldSensors d 69 emergencyAt l
    let trip := heldSensors d 70 tripAt l
    let new := emerg.any fun k => !d.gutter.cond.contains (69, k)
    let tripped := trip.any fun k => !d.gutter.cond.contains (70, k)
    let reports := thermalReports d 68 warn ++ thermalReports d 69 emerg ++ thermalReports d 70 trip
    let hottest := ((l.take 73).foldl max 0).toNat
    let d := setCount .maxJunctionC 0 (max (d.count .maxJunctionC) hottest) (noteHot hot (noteSample l warn emerg d))
    let d := if tripped then { d with boot := { d.boot with tripHold := true } } else d
    let d := if new then emergencyThrottle d else d
    endTripHold l (faultEvent reports 0 d)

/-- When the level rises: 100 ms after a throttling sensor's warn condition began, or after the last change of level. -/
def riseAt (d : Device) : Option Nat :=
  let ws := ((List.range 87).zip d.clocks.warnSince.toList).filterMap (·.2)
  match ws with
  | [] => none
  | w :: rest => some (max (rest.foldl min w) d.clocks.throttleSince + 100 * ms)

/-- THROTTLE_RISE. -/
def throttleRise (d : Device) : Device :=
  match riseAt d with
  | some t => if d.clocks.throttle < 2 then setThrottle (d.clocks.throttle + 1) (bump .throttleUp 0 (advanceTo t d)) else d
  | none => d

/-! ### The input-power limiter (R737) -/

/-- The input power ceiling of a profile in mW (Table 1-3). -/
def powerCeiling : Profile → Nat
  | .full => 1600000
  | .vehicle => 1100000

/-- The 1 s average is below 90 % of the ceiling. -/
def limiterAllows (d : Device) : Bool :=
  !d.clocks.limited ||
    (decide (d.clocks.estimates.length = 1000) && decide (d.clocks.estimates.sum * 10 < 1000 * 9 * powerCeiling d.clocks.profile))

/-- THROTTLE_FALL: every throttling sensor has been below its warn threshold less 5 °C for 1 s since the last change. -/
def throttleFall (d : Device) : Device :=
  match d.clocks.coolSince with
  | some t =>
    if 0 < d.clocks.throttle ∧ limiterAllows d then
      let d := advanceTo (max t d.clocks.throttleSince + sec) d
      let d := { d with clocks := { d.clocks with limited := d.clocks.limited && decide (1 < d.clocks.throttle) } }
      setThrottle (d.clocks.throttle - 1) d
    else d
  | none => d

/-- POWER_ESTIMATE: an estimate of the input power in mW; a 10 ms average above the ceiling raises the level by one. -/
def powerEstimate (mw : Nat) (d : Device) : Device :=
  let l := (mw :: d.clocks.estimates).take 1000
  let d := { d with clocks := { d.clocks with estimates := l } }
  let last := l.take 10
  if last.length = 10 ∧ 10 * powerCeiling d.clocks.profile < last.sum ∧ d.clocks.throttle < 2 then
    let d := bump .powerLimitEvents 0 { d with clocks := { d.clocks with limited := true } }
    setThrottle (d.clocks.throttle + 1) d
  else d

/-- THERMAL_TRIP: a junction sensor reaches 115 °C; the boot after the module reset holds until every junction is cool (R736). -/
def thermalTrip (k : Fin 73) (d : Device) : Device :=
  if !d.pins.vin then d
  else
    let i : Fin 88 := ⟨k.val, by omega⟩
    let d := { d with
      clocks := { d.clocks with temp := vmod d.clocks.temp i (fun t => max 115 t) }
      boot := { d.boot with tripHold := true } }
    condBegin 70 k.val none d

/-! ### Meanings -/

/-- THERMAL_SAMPLE. -/
def execThermalSample (temps : Vector Int 88) (hot : Bool) (s : State) : Host.Outcome State Fault Refusal :=
  done s (thermalSample temps hot s.dev)

/-- THROTTLE_RISE. -/
def execThrottleRise (s : State) : Host.Outcome State Fault Refusal := done s (throttleRise s.dev)

/-- THROTTLE_FALL. -/
def execThrottleFall (s : State) : Host.Outcome State Fault Refusal := done s (throttleFall s.dev)

/-- POWER_ESTIMATE. -/
def execPowerEstimate (mw : Nat) (s : State) : Host.Outcome State Fault Refusal := done s (powerEstimate mw s.dev)

/-- THERMAL_TRIP. -/
def execThermalTrip (k : Fin 73) (s : State) : Host.Outcome State Fault Refusal := done s (thermalTrip k s.dev)

end Sys2Proof.Machine
end

