-- ==== Sys2Proof/Machine/TileUnits.lean ====
section
/-! DEFINITION. The tile controller, the tensor engine and the vector unit (chapters "Tiles, sites and the virtual grid",
"Number formats, conversions and defined functions" and "Accumulation, reduction and fused output"). -/

namespace Sys2Proof.Machine

open Sys2Proof

/-! ### The controller (R75 to R81) -/

/-- The queue of a unit. -/
def queueOf : QueueUnit → Fin 6
  | .tensor => 0 | .vector => 1 | .steep => 2 | .draw => 3 | .jump => 4 | .digest => 5

/-- A scalar register; x0 reads as zero (R75). -/
def readX (x : VtileState) (r : Fin 32) : W32 := if r = 0 then 0 else x.x[r.val]'r.isLt

/-- A scalar register written; writes of x0 are discarded. -/
def writeX (r : Fin 32) (a : W32) (x : VtileState) : VtileState := if r = 0 then x else { x with x := vset x.x r a }

/-- A read-only value of the controller. -/
def specialValue (d : Device) (v : VtileRef) (t : TenantId) : SpecialReg → W32
  | .vtileId => BitVec.ofNat 32 v.vtile.val
  | .spanIndex => BitVec.ofNat 32 v.span.val
  | .stepLo => BitVec.ofNat 32 (drawKey d t).2.1
  | .stepHi => BitVec.ofNat 32 ((drawKey d t).2.1 / 2 ^ 32)

/-- The effect of one instruction after its fetch, with the address of the next one. -/
def scalarEffect (v : VtileRef) (t : TenantId) (next : Nat) (op : ScalarOp) (d : Device) : Device :=
  let go := modVt v fun x => { x with pc := next }
  match op with
  | .illegal => tileTrap v t trapIllegal d
  | .write rd a => modVt v (writeX rd a) (go d)
  | .special rd w => modVt v (writeX rd (specialValue d v t w)) (go d)
  | .load rd a => withSpad v t a 4 (fun bs d => modVt v (writeX rd (BitVec.ofNat 32 (ofLe bs))) (go d)) d
  | .store a rs =>
    if spadOk a 4 then go (spadWrite v t a (leBytes 4 (readX (vt d v) rs).toNat) d) else tileTrap v t trapRange d
  | .setLoop k a => modVt v (fun x => { x with loops := vset x.loops k a }) (go d)
  | .jump target => modVt v (fun x => { x with pc := target }) d
  | .issue u =>
    if (vt d v).queues[(queueOf u).val]'(queueOf u).isLt < 16 then
      modVt v (fun x => { x with queues := vmod x.queues (queueOf u) (· + 1) }) (go d)
    else d

/-- One instruction of `len` bytes at the program counter (R77); a fetch outside the declared instruction space traps. -/
def scalarInstruction (v : VtileRef) (len : Nat) (op : ScalarOp) (d : Device) : Device :=
  onVtile v (fun t d =>
    let pc := (vt d v).pc
    let space := ((runDecl d t).map (·.imageSize)).getD 0
    if (vt d v).waits.isSome then d
    else if space < pc + len then tileTrap v t trapImage d else scalarEffect v t (pc + len) op d) d

/-- A wait on a unit's completion (R77): it completes once the unit has finished every issued command, and deadlocks when
none was issued since the last wait (Table 2-6). -/
def unitWait (v : VtileRef) (u : QueueUnit) (d : Device) : Device :=
  onVtile v (fun t d =>
    let x := vt d v
    let q := x.queues[(queueOf u).val]'(queueOf u).isLt
    let f := x.finished[(queueOf u).val]'(queueOf u).isLt
    if 0 < q then d
    else if f = 0 then tileTrap v t trapDeadlock d
    else modVt v (fun x => { x with finished := vset x.finished (queueOf u) 0 }) d) d

/-- END_STEP (R79): the vtile's step ends once every unit queue has drained. -/
def endStep (v : VtileRef) (d : Device) : Device :=
  onVtile v (fun _ d =>
    if (vt d v).queues.toList.all (fun q => decide (q = 0)) && (vt d v).waits.isNone then modVt v (fun x => { x with ended := true }) d else d) d

/-! ### The tensor engine -/

/-- C of an element, widened to FP32 (R98, R137). -/
def cValue (f : NumFmt) (row : Bool) (codes : List Nat) (i : Nat) : W32 :=
  let c := codes.getD (if row then i % 16 else i) 0
  match f with
  | .fp32 => BitVec.ofNat 32 c
  | _ => rne32 (decodeNum f c)

/-- The codes and counts of a FINAL pass. -/
def finalElements (r : PsRecord) (fmt : NumFmt) (rnd : Nat) (sat : Bool) (fuse : Fuse) (cf : NumFmt) (row : Bool)
    (cs : List Nat) (outs : List (List W64)) : List (Nat × Nat × Nat) :=
  (List.range 256).map fun i =>
    finalElement fmt rnd sat fuse (r.words.getD i 0) r.tag (r.nan.getD i false) (cValue cf row cs i)
      (if rnd = 2 then itemField outs 16 i else 0)

/-- The accumulator's counters and the saturation report of a pass or of MOMENTS (R129, R131). -/
def accCounts (v : VtileRef) (t : TenantId) (replays : Nat) (sat : Bool) (d : Device) : Device :=
  let d := bumpBy .accReplays t.val replays d
  if sat then occur 38 (siteOfVtile d v.vtile.val) (some t) (setFlag t 8 (bump .accSaturated t.val d)) else d

/-- TENSOR_PASS (R116 to R140). The words of a RECORD pass go to the record; the elements of a FINAL pass go to the
scratchpad row-major, packed by width (R90). -/
def tensorPass (v : VtileRef) (p : Pass) (d : Device) : Device :=
  onVtile v (fun t d =>
    if !passValid p then d
    else
      withSpad v t (16 * p.record.val) 1072 (fun bs d =>
        let (r, sat) := passRun p (PsRecord.ofBytes bs)
        let finish := fun d => setResult v [BitVec.ofNat 32 (2 * r.replays + b2n r.sat)]
          (unitDone v 0 (accCounts v t r.replays sat d))
        match p.out with
        | .record => finish (spadWrite v t (16 * p.record.val) r.bytes d)
        | .final fmt rnd s fuse cf row cs dst =>
          withDraws v t .next (if rnd.val = 2 then laneCounts 256 4 else []) (fun outs d =>
            let es := finalElements r fmt rnd.val s fuse cf row cs outs
            let d := bumpBy .saturated t.val (es.map (·.2.1)).sum (bumpBy .nanToZero t.val (es.map (·.2.2)).sum d)
            finish (storeSpad v t dst (es.flatMap fun e => leBytes (codeBits fmt / 8) e.1) d)) d) d) d

/-! ### The vector unit -/

/-- A vector-unit command that has a result: the result words, and the unit is free. -/
def vectorResult (v : VtileRef) (ws : List W32) (d : Device) : Device := setResult v ws (unitDone v 1 d)

/-- Widening of block elements (R98). -/
def widenBlockCodes (f : NumFmt) (scales codes : List Nat) : List W32 :=
  (codes.zip (List.range codes.length)).map fun (c, i) =>
    let s := scales.getD (i / 32) 0x7F
    if s = 0xFF then nan32
    else match decodeNum f c with
      | .fin neg m e => rne32 (.fin neg m (e + (s : Int) - 127))
      | x => rne32 x

/-- The words of a block conversion: for each block its scale code, then its element codes. -/
def convertBlocks (f : NumFmt) (rnd : Nat) (outs : List (List W64)) (xs : List W32) : List (Nat × List Nat × Bool × Nat) :=
  let items := (xs.zip (List.range xs.length)).map fun (x, i) => (x, if rnd = 2 then itemField outs 16 i else 0)
  (groupsOf 32 items.length items).map fun g => toBlock f rnd g

/-- VECTOR_CONVERSION (R98 to R106). RND = 0b11 traps and converts nothing (R99). -/
def vectorConversion (v : VtileRef) (op : ConvOp) (d : Device) : Device :=
  onVtile v (fun t d =>
    match op with
    | .widen f cs => vectorResult v (cs.map fun c => rne32 (decodeNum f c)) d
    | .widenBlock f ss cs => vectorResult v (widenBlockCodes f ss cs) d
    | .narrow src dst ctl o cs =>
      let rnd := ctl.val % 4
      if rnd = 3 then tileTrap v t trapIllegal d
      else
        withDraws v t o (if rnd = 2 then laneCounts cs.length 4 else []) (fun outs d =>
          let rs := (cs.zip (List.range cs.length)).map fun (c, i) =>
            convertTo dst rnd (decide (4 ≤ ctl.val)) (if rnd = 2 then itemField outs 16 i else 0) (decodeNum src c)
          let d := bumpBy .nanToZero t.val (rs.filter (·.nanToZero)).length d
          let d := bumpBy .saturated t.val (rs.filter (·.saturated)).length d
          vectorResult v (rs.map fun r => BitVec.ofNat 32 r.code) d) d
    | .toBlock dst ctl o xs =>
      let rnd := ctl.val % 4
      if rnd = 3 then tileTrap v t trapIllegal d
      else
        withDraws v t o (if rnd = 2 then laneCounts xs.length 4 else []) (fun outs d =>
          let bs := convertBlocks dst rnd outs xs
          let d := bumpBy .blockNonfinite t.val (bs.filter (·.2.2.1)).length d
          let d := bumpBy .saturated t.val (bs.map (·.2.2.2)).sum d
          vectorResult v (bs.flatMap fun b => BitVec.ofNat 32 b.1 :: b.2.1.map (BitVec.ofNat 32)) d) d) d

/-- One FP32 operation (R95). -/
def fpEffect (op : FpOp) (a b c : W32) : W32 :=
  match op with
  | .add => add32 a b | .sub => sub32 a b | .mul => mul32 a b | .fma => fma32 a b c | .div => div32 a b | .sqrt => sqrt32 a

/-- VECTOR_FP32_ARITHMETIC: the operation on each element (R95). -/
def vectorArith (v : VtileRef) (op : FpOp) (xs : List (W32 × W32 × W32)) (d : Device) : Device :=
  onVtile v (fun _ d => vectorResult v (xs.map fun x => fpEffect op x.1 x.2.1 x.2.2) d) d

/-- One minimum, maximum or comparison (R96); a comparison gives 1 or 0. -/
def minMaxEffect (op : MinMaxOp) (a b : W32) : W32 :=
  let bit := fun p : Bool => if p then (1 : W32) else 0
  match op with
  | .min => min32 a b
  | .max => max32 a b
  | .lt => bit (lt32 a b)
  | .le => bit (lt32 a b || eq32 a b)
  | .eq => bit (eq32 a b)
  | .ne => bit (!eq32 a b)
  | .gt => bit (lt32 b a)
  | .ge => bit (lt32 b a || eq32 a b)

/-- VECTOR_MIN_MAX. -/
def vectorMinMax (v : VtileRef) (op : MinMaxOp) (xs : List (W32 × W32)) (d : Device) : Device :=
  onVtile v (fun _ d => vectorResult v (xs.map fun x => minMaxEffect op x.1 x.2) d) d

/-- MOMENTS (R141 to R145): S1, S2, e and n, then the requested results; canonical NaNs when an input is not finite. -/
def momentsCommand (v : VtileRef) (f : NumFmt) (scales codes : List Nat) (e : BitVec 8) (q : MomentsReq) (d : Device) :
    Device :=
  onVtile v (fun t d =>
    let n := codes.length
    let vals := (codes.zip (List.range n)).map fun (c, i) =>
      let s := scales.getD (i / 32) 0x7F
      if s = 0xFF then FVal.nan
      else match decodeNum f c with
        | .fin neg m x => .fin neg m (x + (s : Int) - 127)
        | y => y
    if n = 0 ∨ 131072 < n then d
    else match moments vals e.toInt with
      | none =>
        let k := b2n q.sum + b2n q.sumsq + b2n q.mean + b2n q.var + b2n q.varSample
        vectorResult v (List.replicate (6 + k) nan32) d
      | some m =>
        vectorResult v (words64 (BitVec.ofInt 64 m.s1) ++ words64 (BitVec.ofNat 64 m.s2) ++
          [BitVec.ofInt 32 m.e, BitVec.ofNat 32 n] ++ momentResults m n q) (accCounts v t m.replays m.sat d)) d

/-- A random operation of the vector unit on n elements of a field width (R315, R316): a word from each item's field. -/
def randCommand (v : VtileRef) (width : Nat) (o : Origin) (n : Nat) (word : Nat → List W32) (d : Device) : Device :=
  onVtile v (fun t d =>
    withDraws v t o (laneCounts n (64 / width)) (fun outs d =>
      vectorResult v ((List.range n).flatMap fun i => word (itemField outs width i)) d) d) d

/-- RAND_UNIFORM of a field: (u >> 8) × 2^−24 in FP32, exact (R315). -/
def uniform32 (u : Nat) : W32 := rne32 (.fin false (u / 256) (-24))

/-! ### Meanings -/

/-- SCALAR_INSTRUCTION. -/
def execScalarInstruction (v : VtileRef) (len : Nat) (op : ScalarOp) (s : State) : Host.Outcome State Fault Refusal :=
  done s (scalarInstruction v len op s.dev)

/-- TENSOR_PASS. -/
def execTensorPass (v : VtileRef) (p : Pass) (s : State) : Host.Outcome State Fault Refusal := done s (tensorPass v p s.dev)

/-- VECTOR_CONVERSION. -/
def execVectorConversion (v : VtileRef) (op : ConvOp) (s : State) : Host.Outcome State Fault Refusal :=
  done s (vectorConversion v op s.dev)

/-- VECTOR_FP32_ARITHMETIC. -/
def execVectorFp32Arithmetic (v : VtileRef) (op : FpOp) (xs : List (W32 × W32 × W32)) (s : State) :
    Host.Outcome State Fault Refusal := done s (vectorArith v op xs s.dev)

/-- VECTOR_MIN_MAX. -/
def execVectorMinMax (v : VtileRef) (op : MinMaxOp) (xs : List (W32 × W32)) (s : State) : Host.Outcome State Fault Refusal :=
  done s (vectorMinMax v op xs s.dev)

/-- HORIZONTAL_SUM (R146): a chain of FP32 adds from the first term on. -/
def execHorizontalSum (v : VtileRef) (xs : List W32) (s : State) : Host.Outcome State Fault Refusal :=
  done s (onVtile v (fun _ d => if xs.isEmpty then d else vectorResult v [sumChain xs] d) s.dev)

/-- DOT_PRODUCT (R146). -/
def execDotProduct (v : VtileRef) (xs : List (W32 × W32)) (s : State) : Host.Outcome State Fault Refusal :=
  done s (onVtile v (fun _ d => if xs.isEmpty then d else vectorResult v [dotChain xs] d) s.dev)

/-- EXP2 (R108). -/
def execExp2 (v : VtileRef) (xs : List W32) (s : State) : Host.Outcome State Fault Refusal :=
  done s (onVtile v (fun _ d => vectorResult v (xs.map exp2Defined) d) s.dev)

/-- NATURAL_EXPONENTIAL (R110, R111): the Strainer exponential. -/
def execNaturalExponential (v : VtileRef) (xs : List W32) (s : State) : Host.Outcome State Fault Refusal :=
  done s (onVtile v (fun _ d => vectorResult v (xs.map strainerExp) d) s.dev)

/-- MOMENTS. -/
def execMoments (v : VtileRef) (fmt : NumFmt) (scales codes : List Nat) (e : BitVec 8) (req : MomentsReq) (s : State) :
    Host.Outcome State Fault Refusal := done s (momentsCommand v fmt scales codes e req s.dev)

/-- RAND_BITS64: u as uint64. -/
def execRandBits64 (v : VtileRef) (n : Nat) (origin : Origin) (s : State) : Host.Outcome State Fault Refusal :=
  done s (randCommand v 64 origin n (fun u => words64 (BitVec.ofNat 64 u)) s.dev)

/-- RAND_BITS32: u as uint32. -/
def execRandBits32 (v : VtileRef) (n : Nat) (origin : Origin) (s : State) : Host.Outcome State Fault Refusal :=
  done s (randCommand v 32 origin n (fun u => [BitVec.ofNat 32 u]) s.dev)

/-- RAND_UNIFORM. -/
def execRandUniform (v : VtileRef) (n : Nat) (origin : Origin) (s : State) : Host.Outcome State Fault Refusal :=
  done s (randCommand v 32 origin n (fun u => [uniform32 u]) s.dev)

/-- RAND_BERNOULLI: a mask bit, 1 when u < T. -/
def execRandBernoulli (v : VtileRef) (n : Nat) (origin : Origin) (threshold : W32) (s : State) :
    Host.Outcome State Fault Refusal :=
  done s (randCommand v 32 origin n (fun u => [if u < threshold.toNat then 1 else 0]) s.dev)

/-- UNIT_COMPLETION_WAIT. -/
def execUnitCompletionWait (v : VtileRef) (u : QueueUnit) (s : State) : Host.Outcome State Fault Refusal :=
  done s (unitWait v u s.dev)

/-- END_STEP. -/
def execEndStep (v : VtileRef) (s : State) : Host.Outcome State Fault Refusal := done s (endStep v s.dev)

end Sys2Proof.Machine
end

