-- ==== Sys2Proof/Machine/Timing.lean ====
section
/-! DEFINITION. The reference clock, the time base and the real-time clock as events (R565, R574, R575, R726, R727, R754, R773). -/

namespace Sys2Proof.Machine

open Sys2Proof

/-! ### REFCLK and the root PLL (R726, R727) -/

/-- Steps in progress carry THROTTLED while holdover runs (R727). -/
def markSteps (d : Device) : Device :=
  allTenants.foldl (fun d t => if d.inStep t then modStep t (stepDivisor d) d else d) d

/-- REFCLK_LOSS: the reference is absent or out of frequency at a root time; the root PLL holds its last frequency. -/
def refclkLoss (at_ : Nat) (d : Device) : Device :=
  let d := advanceTo at_ d
  let run := !d.boot.inReset && d.clocks.holdover.isNone
  let d := { d with clocks := { d.clocks with
    refclk := false, holdover := if run then some d.now else d.clocks.holdover } }
  condBegin 67 0 none (markSteps d)

/-- REFCLK_RETURN: the reference is back, and the root PLL locks to it. -/
def refclkReturn (at_ : Nat) (d : Device) : Device :=
  let d := advanceTo at_ d
  let d := match d.clocks.holdover with | some t => bumpBy .holdoverMs 0 ((d.now - t) / ms) d | none => d
  let d := { d with clocks := { d.clocks with refclk := true, locked := true, holdover := none } }
  condEnd 66 0 (condEnd 67 0 d)

/-- PLL_LOCK: the root PLL leaves lock. -/
def pllLock (d : Device) : Device := condBegin 66 0 none { d with clocks := { d.clocks with locked := false } }

/-! ### The time base (R574, R575, R773) -/

/-- An edge of TIME_PPS at a root time is accepted (R773). -/
def ppsAccepts (d : Device) (at_ : Nat) : Bool :=
  match d.time.lastPps with
  | none => true
  | some t => (decide (t + 999 * ms ≤ at_) && decide (at_ ≤ t + 1001 * ms)) || decide (t + 2 * sec ≤ at_)

/-- The whole second that an accepted edge marks: that of TIME_SET, which applies at it, else the nearest. -/
def ppsSecond (d : Device) : Nat := d.time.timeSet.getD ((moduleTime d + 500 * ms) / sec)

/-- An accepted edge disciplines the time base; only TIME_SET sets the date. -/
def ppsDiscipline (d : Device) : Device :=
  let lost := d.backup.rtcLost && d.time.timeSet.isNone
  let d := discipline (Int.ofNat (moduleTime d) - Int.ofNat (ppsSecond d * sec)) d
  { d with time := { d.time with timeSet := none }, backup := { d.backup with rtcLost := lost } }

/-- TIME_PPS_EDGE: a rising edge at a root time. -/
def timePpsEdge (at_ : Nat) (d : Device) : Device :=
  if d.boot.inReset then d
  else
    let d := advanceTo at_ d
    if ppsAccepts d at_ then
      let d := bump .ppsAccepted 0 { d with time := { d.time with lastPps := some at_ } }
      if timeSource d = .pps then ppsDiscipline d else d
    else bump .ppsRejected 0 d

/-- GPTP_MESSAGE: a gPTP message on a port measures the offset of the module time from the reference, in ns. -/
def gptpMessage (port : Nat) (offset : Int) (at_ : Nat) (d : Device) : Device :=
  if d.boot.inReset then d
  else
    let d := advanceTo at_ d
    if timeSource d = .gptp ∧ gptpPort d = port then discipline offset d else d

/-- TIME_LOCK_ACQUIRED: every offset of eight consecutive seconds has been below 100 ns. -/
def timeLockAcquired (d : Device) : Device :=
  match d.time.goodSince, d.time.lastRef with
  | some t, some r =>
    if d.time.locked || decide (r < t + 7 * sec) then d
    else
      let d := advanceTo (t + 8 * sec) d
      { d with time := { d.time with locked := true, holdover := false } }
  | _, _ => d

/-- TIME_LOCK: ten seconds have passed without a valid reference. -/
def timeLockLost (d : Device) : Device :=
  match d.time.lastRef with
  | some r =>
    if d.time.locked then
      let d := advanceTo (r + 10 * sec) d
      occur 65 0 none { d with time := { d.time with locked := false, holdover := true, goodSince := none } }
    else d
  | none => d

/-- RTC_UPDATE: while the time base is locked the real-time clock is set from the module time. -/
def rtcUpdate (d : Device) : Device :=
  if d.time.locked then { d with backup := { d.backup with rtc := moduleTime d / sec, rtcAt := d.now } } else d

/-! ### Meanings -/

/-- REFCLK_LOSS. -/
def execRefclkLoss (at_ : Nat) (s : State) : Host.Outcome State Fault Refusal := done s (refclkLoss at_ s.dev)

/-- REFCLK_RETURN. -/
def execRefclkReturn (at_ : Nat) (s : State) : Host.Outcome State Fault Refusal := done s (refclkReturn at_ s.dev)

/-- PLL_LOCK. -/
def execPllLock (s : State) : Host.Outcome State Fault Refusal := done s (pllLock s.dev)

/-- TIME_PPS_EDGE. -/
def execTimePpsEdge (at_ : Nat) (s : State) : Host.Outcome State Fault Refusal := done s (timePpsEdge at_ s.dev)

/-- TIME_LOCK_ACQUIRED. -/
def execTimeLockAcquired (s : State) : Host.Outcome State Fault Refusal := done s (timeLockAcquired s.dev)

/-- TIME_LOCK. -/
def execTimeLock (s : State) : Host.Outcome State Fault Refusal := done s (timeLockLost s.dev)

/-- RTC_UPDATE. -/
def execRtcUpdate (s : State) : Host.Outcome State Fault Refusal := done s (rtcUpdate s.dev)

/-- GPTP_MESSAGE. -/
def execGptpMessage (port : Fin 4) (offset : Int) (at_ : Nat) (s : State) : Host.Outcome State Fault Refusal :=
  done s (gptpMessage port.val offset at_ s.dev)

end Sys2Proof.Machine
end

