-- ==== Sys2Proof/Machine/Dispatch.lean ====
section
/-! DEFINITION. `exec`: one arm for each command, a direct call of its meaning. -/

namespace Sys2Proof.Machine

open Sys2Proof

def exec (i : Instr) (s : State) : Host.Outcome State Fault Refusal :=
  match i with
  | .queryIdentity c => Sys2Proof.Machine.execQueryIdentity c s
  | .queryStatus c => Sys2Proof.Machine.execQueryStatus c s
  | .readCounters c => Sys2Proof.Machine.execReadCounters c s
  | .tenantOpen c => Sys2Proof.Machine.execTenantOpen c s
  | .tenantClose c => Sys2Proof.Machine.execTenantClose c s
  | .tenantShares c => Sys2Proof.Machine.execTenantShares c s
  | .packageLoad c p => Sys2Proof.Machine.execPackageLoad c p s
  | .packageUnload c => Sys2Proof.Machine.execPackageUnload c s
  | .tensorBind c => Sys2Proof.Machine.execTensorBind c s
  | .tensorCreate c => Sys2Proof.Machine.execTensorCreate c s
  | .tensorRead c => Sys2Proof.Machine.execTensorRead c s
  | .residencyHint c => Sys2Proof.Machine.execResidencyHint c s
  | .stepRun c => Sys2Proof.Machine.execStepRun c s
  | .stepAbort c => Sys2Proof.Machine.execStepAbort c s
  | .seedSet c => Sys2Proof.Machine.execSeedSet c s
  | .seedFresh c => Sys2Proof.Machine.execSeedFresh c s
  | .checkpoint c => Sys2Proof.Machine.execCheckpoint c s
  | .restore c => Sys2Proof.Machine.execRestore c s
  | .restoreDiscard c => Sys2Proof.Machine.execRestoreDiscard c s
  | .sampleRow c => Sys2Proof.Machine.execSampleRow c s
  | .decodeRun c => Sys2Proof.Machine.execDecodeRun c s
  | .specVerify c => Sys2Proof.Machine.execSpecVerify c s
  | .annealLoadModel c => Sys2Proof.Machine.execAnnealLoadModel c s
  | .annealRun c => Sys2Proof.Machine.execAnnealRun c s
  | .annealReadPool c => Sys2Proof.Machine.execAnnealReadPool c s
  | .spanForm c => Sys2Proof.Machine.execSpanForm c s
  | .spanLeave c able => Sys2Proof.Machine.execSpanLeave c able s
  | .pairCompareSet c => Sys2Proof.Machine.execPairCompareSet c s
  | .configStage c => Sys2Proof.Machine.execConfigStage c s
  | .configDiscard c => Sys2Proof.Machine.execConfigDiscard c s
  | .configCommit c => Sys2Proof.Machine.execConfigCommit c s
  | .configRead c => Sys2Proof.Machine.execConfigRead c s
  | .faultRead c => Sys2Proof.Machine.execFaultRead c s
  | .faultAck c => Sys2Proof.Machine.execFaultAck c s
  | .faultForceSet c => Sys2Proof.Machine.execFaultForceSet c s
  | .faultForceClear c => Sys2Proof.Machine.execFaultForceClear c s
  | .checkInvertOn c => Sys2Proof.Machine.execCheckInvertOn c s
  | .checkInvertOff c => Sys2Proof.Machine.execCheckInvertOff c s
  | .fenceSite c => Sys2Proof.Machine.execFenceSite c s
  | .updateBegin c => Sys2Proof.Machine.execUpdateBegin c s
  | .updateChunk c => Sys2Proof.Machine.execUpdateChunk c s
  | .updateVerify c damaged steps => Sys2Proof.Machine.execUpdateVerify c damaged steps s
  | .updateActivate c => Sys2Proof.Machine.execUpdateActivate c s
  | .updateConfirm c steps => Sys2Proof.Machine.execUpdateConfirm c steps s
  | .updateForward c => Sys2Proof.Machine.execUpdateForward c s
  | .powerPlan c => Sys2Proof.Machine.execPowerPlan c s
  | .powerProfile c => Sys2Proof.Machine.execPowerProfile c s
  | .intakeConfigure c => Sys2Proof.Machine.execIntakeConfigure c s
  | .intakeStart c => Sys2Proof.Machine.execIntakeStart c s
  | .intakeStop c => Sys2Proof.Machine.execIntakeStop c s
  | .intakeFlush c => Sys2Proof.Machine.execIntakeFlush c s
  | .intakeRelease c => Sys2Proof.Machine.execIntakeRelease c s
  | .slateRead c => Sys2Proof.Machine.execSlateRead c s
  | .replayBegin c => Sys2Proof.Machine.execReplayBegin c s
  | .replayContinue c => Sys2Proof.Machine.execReplayContinue c s
  | .commandDoorbell m fn value ide => Sys2Proof.Machine.execCommandDoorbell m fn value ide s
  | .commandTake m => Sys2Proof.Machine.execCommandTake m s
  | .commandStart m => Sys2Proof.Machine.execCommandStart m s
  | .commandDeadline m tag => Sys2Proof.Machine.execCommandDeadline m tag s
  | .completionPost m => Sys2Proof.Machine.execCompletionPost m s
  | .msixHoldoffExpiry fn vec => Sys2Proof.Machine.execMsixHoldoffExpiry fn vec s
  | .cplHeadWrite m fn value ide => Sys2Proof.Machine.execCplHeadWrite m fn value ide s
  | .mailboxEnable m fn ide => Sys2Proof.Machine.execMailboxEnable m fn ide s
  | .mailboxDisable m fn ide => Sys2Proof.Machine.execMailboxDisable m fn ide s
  | .mailboxFlush m fn ide => Sys2Proof.Machine.execMailboxFlush m fn ide s
  | .windowSelect fn reg value ide => Sys2Proof.Machine.execWindowSelect fn reg value ide s
  | .windowReady fn => Sys2Proof.Machine.execWindowReady fn s
  | .bar4Read fn off n ide => Sys2Proof.Machine.execBar4Read fn off n ide s
  | .bar4Write fn off bs ide => Sys2Proof.Machine.execBar4Write fn off bs ide s
  | .timeNowRead fn part ide => Sys2Proof.Machine.execTimeNowRead fn part ide s
  | .stickyAckWrite fn hi part value ide => Sys2Proof.Machine.execStickyAckWrite fn hi part value ide s
  | .recovClr fn cls ide => Sys2Proof.Machine.execRecovClr fn cls ide s
  | .rwsFieldWrite fn reg part value ide => Sys2Proof.Machine.execRwsFieldWrite fn reg part value ide s
  | .registerWrite fn w ide => Sys2Proof.Machine.execRegisterWrite fn w ide s
  | .functionLevelReset fn => Sys2Proof.Machine.execFunctionLevelReset fn s
  | .perstAssert => Sys2Proof.Machine.execPerstAssert s
  | .spdmRequest r => Sys2Proof.Machine.execSpdmRequest r s
  | .i3cMessage r => Sys2Proof.Machine.execI3cMessage r s
  | .debugNonceRequest => Sys2Proof.Machine.execDebugNonceRequest s
  | .debugUnlock signature => Sys2Proof.Machine.execDebugUnlock signature s
  | .powerOn off resetL recovery => Sys2Proof.Machine.execPowerOn off resetL recovery s
  | .powerLoss slateTorn => Sys2Proof.Machine.execPowerLoss slateTorn s
  | .resetLAssert lowNs => Sys2Proof.Machine.execResetLAssert lowNs s
  | .resetLRelease highNs recovery => Sys2Proof.Machine.execResetLRelease highNs recovery s
  | .stage1Start f => Sys2Proof.Machine.execStage1Start f s
  | .mainFirmwareStart torn authFails => Sys2Proof.Machine.execMainFirmwareStart torn authFails s
  | .startComplete => Sys2Proof.Machine.execStartComplete s
  | .kettleRestartComplete => Sys2Proof.Machine.execKettleRestartComplete s
  | .refclkLoss at_ => Sys2Proof.Machine.execRefclkLoss at_ s
  | .refclkReturn at_ => Sys2Proof.Machine.execRefclkReturn at_ s
  | .holdoverExpiry => Sys2Proof.Machine.execHoldoverExpiry s
  | .pllLock => Sys2Proof.Machine.execPllLock s
  | .frameSyncEdge at_ => Sys2Proof.Machine.execFrameSyncEdge at_ s
  | .timePpsEdge at_ => Sys2Proof.Machine.execTimePpsEdge at_ s
  | .timeLockAcquired => Sys2Proof.Machine.execTimeLockAcquired s
  | .timeLock => Sys2Proof.Machine.execTimeLock s
  | .rtcUpdate => Sys2Proof.Machine.execRtcUpdate s
  | .errpinReadback p n => Sys2Proof.Machine.execErrpinReadback p n s
  | .pairMinAssertExpiry => Sys2Proof.Machine.execPairMinAssertExpiry s
  | .backupAlarmCheck temp cell stopped => Sys2Proof.Machine.execBackupAlarmCheck temp cell stopped s
  | .csiFrameStart port vc at_ => Sys2Proof.Machine.execCsiFrameStart port vc at_ s
  | .csiLongPacket port vc dt payload err fifo at_ => Sys2Proof.Machine.execCsiLongPacket port vc dt payload err fifo at_ s
  | .csiFrameEnd port vc at_ => Sys2Proof.Machine.execCsiFrameEnd port vc at_ s
  | .avtpPdu port stream seq payload m fifo at_ => Sys2Proof.Machine.execAvtpPdu port stream seq payload m fifo at_ s
  | .udpDatagram port v6 addr dport payload fifo at_ => Sys2Proof.Machine.execUdpDatagram port v6 addr dport payload fifo at_ s
  | .gptpMessage port offset at_ => Sys2Proof.Machine.execGptpMessage port offset at_ s
  | .frameLanded c at_ => Sys2Proof.Machine.execFrameLanded c at_ s
  | .frameTimeout c => Sys2Proof.Machine.execFrameTimeout c s
  | .frameRelease c => Sys2Proof.Machine.execFrameRelease c s
  | .intakeLink csi port => Sys2Proof.Machine.execIntakeLink csi port s
  | .stepBoundary t => Sys2Proof.Machine.execStepBoundary t s
  | .syncOutCadencePulse => Sys2Proof.Machine.execSyncOutCadencePulse s
  | .syncOutPulseEnd => Sys2Proof.Machine.execSyncOutPulseEnd s
  | .stepStart t => Sys2Proof.Machine.execStepStart t s
  | .scalarInstruction v len op => Sys2Proof.Machine.execScalarInstruction v len op s
  | .tensorPass v p => Sys2Proof.Machine.execTensorPass v p s
  | .vectorConversion v op => Sys2Proof.Machine.execVectorConversion v op s
  | .vectorFp32Arithmetic v op xs => Sys2Proof.Machine.execVectorFp32Arithmetic v op xs s
  | .vectorMinMax v op xs => Sys2Proof.Machine.execVectorMinMax v op xs s
  | .horizontalSum v xs => Sys2Proof.Machine.execHorizontalSum v xs s
  | .dotProduct v xs => Sys2Proof.Machine.execDotProduct v xs s
  | .exp2 v xs => Sys2Proof.Machine.execExp2 v xs s
  | .naturalExponential v xs => Sys2Proof.Machine.execNaturalExponential v xs s
  | .moments v fmt scales codes e req => Sys2Proof.Machine.execMoments v fmt scales codes e req s
  | .randBits64 v n origin => Sys2Proof.Machine.execRandBits64 v n origin s
  | .randBits32 v n origin => Sys2Proof.Machine.execRandBits32 v n origin s
  | .randUniform v n origin => Sys2Proof.Machine.execRandUniform v n origin s
  | .randBernoulli v n origin threshold => Sys2Proof.Machine.execRandBernoulli v n origin threshold s
  | .drawUnitRow v invT scores => Sys2Proof.Machine.execDrawUnitRow v invT scores s
  | .steepColour v area colour metropolis beta wait => Sys2Proof.Machine.execSteepColour v area colour metropolis beta wait s
  | .steepEnergy v area => Sys2Proof.Machine.execSteepEnergy v area s
  | .steepExchange area round heads positions betas energies => Sys2Proof.Machine.execSteepExchange area round heads positions betas energies s
  | .slotPost v slot => Sys2Proof.Machine.execSlotPost v slot s
  | .slotWait v slot => Sys2Proof.Machine.execSlotWait v slot s
  | .unitCompletionWait v u => Sys2Proof.Machine.execUnitCompletionWait v u s
  | .endStep v => Sys2Proof.Machine.execEndStep v s
  | .phaseEnd t cycles far => Sys2Proof.Machine.execPhaseEnd t cycles far s
  | .endOfStepSequence t cycles far peerInvalid => Sys2Proof.Machine.execEndOfStepSequence t cycles far peerInvalid s
  | .slateRecordCommit => Sys2Proof.Machine.execSlateRecordCommit s
  | .signRecord => Sys2Proof.Machine.execSignRecord s
  | .slateDrain => Sys2Proof.Machine.execSlateDrain s
  | .mirrorCopy v => Sys2Proof.Machine.execMirrorCopy v s
  | .stepRerun t => Sys2Proof.Machine.execStepRerun t s
  | .unplannedLossRecovery t regen areas => Sys2Proof.Machine.execUnplannedLossRecovery t regen areas s
  | .plannedMove => Sys2Proof.Machine.execPlannedMove s
  | .epochBuildComplete collars segments links spill fits => Sys2Proof.Machine.execEpochBuildComplete collars segments links spill fits s
  | .epochLoaded => Sys2Proof.Machine.execEpochLoaded s
  | .commitTimeout m tag => Sys2Proof.Machine.execCommitTimeout m tag s
  | .migrationSwitch t tensor index => Sys2Proof.Machine.execMigrationSwitch t tensor index s
  | .migrationAbandon t tensor index => Sys2Proof.Machine.execMigrationAbandon t tensor index s
  | .readmissionTest site => Sys2Proof.Machine.execReadmissionTest site s
  | .readmissionTestDone site tileOk lanes stopped => Sys2Proof.Machine.execReadmissionTestDone site tileOk lanes stopped s
  | .scrubAccess site r => Sys2Proof.Machine.execScrubAccess site r s
  | .spadUncorr v => Sys2Proof.Machine.execSpadUncorr v s
  | .tileCoreFault site => Sys2Proof.Machine.execTileCoreFault site s
  | .collarFault site => Sys2Proof.Machine.execCollarFault site s
  | .meshUncorr link dir t => Sys2Proof.Machine.execMeshUncorr link dir t s
  | .reductionOperandArrival t red kind path values v addr => Sys2Proof.Machine.execReductionOperandArrival t red kind path values v addr s
  | .frameGateOpen t needs c1 c2 c3 c4 moves corrected => Sys2Proof.Machine.execFrameGateOpen t needs c1 c2 c3 c4 moves corrected s
  | .frameHold t unmet => Sys2Proof.Machine.execFrameHold t unmet s
  | .ringTransfer t others src dst bytes corrected bad chain => Sys2Proof.Machine.execRingTransfer t others src dst bytes corrected bad chain s
  | .eaveSegment k inFlight => Sys2Proof.Machine.execEaveSegment k inFlight s
  | .tierRead o others a => Sys2Proof.Machine.execTierRead o others a s
  | .tierRecovered dev addr => Sys2Proof.Machine.execTierRecovered dev addr s
  | .patrolScrub dev addr row own r => Sys2Proof.Machine.execPatrolScrub dev addr row own r s
  | .retentionRead page own r => Sys2Proof.Machine.execRetentionRead page own r s
  | .retirementCopy dev row pages => Sys2Proof.Machine.execRetirementCopy dev row pages s
  | .retirementLockTimeout dev row pages lines => Sys2Proof.Machine.execRetirementLockTimeout dev row pages lines s
  | .tierStackLost dev held mirrors => Sys2Proof.Machine.execTierStackLost dev held mirrors s
  | .trngBlock k raw katFails => Sys2Proof.Machine.execTrngBlock k raw katFails s
  | .drbgReseed => Sys2Proof.Machine.execDrbgReseed s
  | .drbgKat fails => Sys2Proof.Machine.execDrbgKat fails s
  | .seedFreshStartupTimeout => Sys2Proof.Machine.execSeedFreshStartupTimeout s
  | .seedFreshTimeout m tag => Sys2Proof.Machine.execSeedFreshTimeout m tag s
  | .rowAdmission k t p contributors group pos size v addr => Sys2Proof.Machine.execRowAdmission k t p contributors group pos size v addr s
  | .candidateBlock t stream row pos b => Sys2Proof.Machine.execCandidateBlock t stream row pos b s
  | .strainerTimeout t stream row pos => Sys2Proof.Machine.execStrainerTimeout t stream row pos s
  | .strainerFault k => Sys2Proof.Machine.execStrainerFault k s
  | .annealSweep t halos energies decisions locked wait => Sys2Proof.Machine.execAnnealSweep t halos energies decisions locked wait s
  | .presenceDetect p lanes => Sys2Proof.Machine.execPresenceDetect p lanes s
  | .trainingComplete p serial peerPort iface bad sideband => Sys2Proof.Machine.execTrainingComplete p serial peerPort iface bad sideband s
  | .warmTrainingTimeout p => Sys2Proof.Machine.execWarmTrainingTimeout p s
  | .coldTrainingTimeout p => Sys2Proof.Machine.execColdTrainingTimeout p s
  | .flitReceived p bytes errors credit => Sys2Proof.Machine.execFlitReceived p bytes errors credit s
  | .nak p seq => Sys2Proof.Machine.execNak p seq s
  | .nakRepeat p => Sys2Proof.Machine.execNakRepeat p s
  | .laneSwapReq p failing spare => Sys2Proof.Machine.execLaneSwapReq p failing spare s
  | .laneSwapDone p failing spare => Sys2Proof.Machine.execLaneSwapDone p failing spare s
  | .laneAck p kind failing spare => Sys2Proof.Machine.execLaneAck p kind failing spare s
  | .retrainReq p cause width => Sys2Proof.Machine.execRetrainReq p cause width s
  | .linkMessageRepeat p => Sys2Proof.Machine.execLinkMessageRepeat p s
  | .laneFailure p lane => Sys2Proof.Machine.execLaneFailure p lane s
  | .laneSwapTakeover p => Sys2Proof.Machine.execLaneSwapTakeover p s
  | .slotData t dst bytes landed model halo => Sys2Proof.Machine.execSlotData t dst bytes landed model halo s
  | .reduceOperand p t red node right kind mark values up dest => Sys2Proof.Machine.execReduceOperand p t red node right kind mark values up dest s
  | .reduceResult t red all kind mark values v addr => Sys2Proof.Machine.execReduceResult t red all kind mark values v addr s
  | .poolCandidate src handle capture bytes => Sys2Proof.Machine.execPoolCandidate src handle capture bytes s
  | .stateMove t index dst bytes last => Sys2Proof.Machine.execStateMove t index dst bytes last s
  | .spanHello p h => Sys2Proof.Machine.execSpanHello p h s
  | .spanCommit k => Sys2Proof.Machine.execSpanCommit k s
  | .spanHeartbeat serial digest indices latency lMax => Sys2Proof.Machine.execSpanHeartbeat serial digest indices latency lMax s
  | .heartbeatSend => Sys2Proof.Machine.execHeartbeatSend s
  | .spanExpel => Sys2Proof.Machine.execSpanExpel s
  | .formTimeout => Sys2Proof.Machine.execFormTimeout s
  | .spanMemberLost lost => Sys2Proof.Machine.execSpanMemberLost lost s
  | .pairDigest partner run m => Sys2Proof.Machine.execPairDigest partner run m s
  | .pairProbe partner run mid chain own => Sys2Proof.Machine.execPairProbe partner run mid chain own s
  | .pairWaitTimeout t => Sys2Proof.Machine.execPairWaitTimeout t s
  | .imageChunk p m => Sys2Proof.Machine.execImageChunk p m s
  | .timeSync time => Sys2Proof.Machine.execTimeSync time s
  | .arrive p n src crc => Sys2Proof.Machine.execArrive p n src crc s
  | .arriveRepeat n => Sys2Proof.Machine.execArriveRepeat n s
  | .release p n src crc => Sys2Proof.Machine.execRelease p n src crc s
  | .releaseCopy p n src crc => Sys2Proof.Machine.execReleaseCopy p n src crc s
  | .barrierLocalRelease n differ => Sys2Proof.Machine.execBarrierLocalRelease n differ s
  | .abort p n src crc => Sys2Proof.Machine.execAbort p n src crc s
  | .barrierTimeout n => Sys2Proof.Machine.execBarrierTimeout n s
  | .echo p n src crc => Sys2Proof.Machine.execEcho p n src crc s
  | .echoReply p n src crc above => Sys2Proof.Machine.execEchoReply p n src crc above s
  | .echoMeasurement => Sys2Proof.Machine.execEchoMeasurement s
  | .faultEvent reports ack => Sys2Proof.Machine.execFaultEvent reports ack s
  | .blockResetComplete b => Sys2Proof.Machine.execBlockResetComplete b s
  | .gutterModuleReset => Sys2Proof.Machine.execGutterModuleReset s
  | .shadowWindowClose => Sys2Proof.Machine.execShadowWindowClose s
  | .quietPeriodExpiry cls => Sys2Proof.Machine.execQuietPeriodExpiry cls s
  | .forcedRelease r freed => Sys2Proof.Machine.execForcedRelease r freed s
  | .kettleWdt => Sys2Proof.Machine.execKettleWdt s
  | .kettleLockstep => Sys2Proof.Machine.execKettleLockstep s
  | .selftestDue u => Sys2Proof.Machine.execSelftestDue u s
  | .selftestComplete f => Sys2Proof.Machine.execSelftestComplete f s
  | .selftestPreemption q => Sys2Proof.Machine.execSelftestPreemption q s
  | .selftestOverdue u => Sys2Proof.Machine.execSelftestOverdue u s
  | .caddyCompaction fails => Sys2Proof.Machine.execCaddyCompaction fails s
  | .idlePeriodStart trigger => Sys2Proof.Machine.execIdlePeriodStart trigger s
  | .plannedWakeStart => Sys2Proof.Machine.execPlannedWakeStart s
  | .wakeTrigger w => Sys2Proof.Machine.execWakeTrigger w s
  | .wakeComplete crossings => Sys2Proof.Machine.execWakeComplete crossings s
  | .planTimePassed => Sys2Proof.Machine.execPlanTimePassed s
  | .thermalSample temps hot => Sys2Proof.Machine.execThermalSample temps hot s
  | .throttleRise => Sys2Proof.Machine.execThrottleRise s
  | .throttleFall => Sys2Proof.Machine.execThrottleFall s
  | .powerEstimate mw => Sys2Proof.Machine.execPowerEstimate mw s
  | .divisorChange => Sys2Proof.Machine.execDivisorChange s
  | .vrmPhase rail => Sys2Proof.Machine.execVrmPhase rail s
  | .vrmOvercurrent rail => Sys2Proof.Machine.execVrmOvercurrent rail s
  | .thermalTrip k => Sys2Proof.Machine.execThermalTrip k s
  | .perstLRelease => Sys2Proof.Machine.execPerstLRelease s
  | .pcieLink e => Sys2Proof.Machine.execPcieLink e s
  | .pcieLinkUp => Sys2Proof.Machine.execPcieLinkUp s
  | .kettleSramUncorr => Sys2Proof.Machine.execKettleSramUncorr s
  | .purlinErr endpoint kind => Sys2Proof.Machine.execPurlinErr endpoint kind s
  | .mbxEngine => Sys2Proof.Machine.execMbxEngine s
  | .vbatLow cell => Sys2Proof.Machine.execVbatLow cell s
  | .backupDomainPowerLoss => Sys2Proof.Machine.execBackupDomainPowerLoss s
  | .intakeLinkRestored csi port => Sys2Proof.Machine.execIntakeLinkRestored csi port s
  | .spareDeskew p => Sys2Proof.Machine.execSpareDeskew p s
  | .stateEntryComplete => Sys2Proof.Machine.execStateEntryComplete s
  | .tier3BlockErase block average fails => Sys2Proof.Machine.execTier3BlockErase block average fails s
  | .tier3ScanComplete => Sys2Proof.Machine.execTier3ScanComplete s
  | .ethFrameDiscard port => Sys2Proof.Machine.execEthFrameDiscard port s

end Sys2Proof.Machine
end

