-- ==== Sys2Proof/Safety.lean ====
section
/-! DEFINITION. The terms in which statements about the module are made: a command completes with an effect, a mailbox command
is served and answered, what a command leaves alone, and the canonical form of the memories. -/

namespace Sys2Proof.Machine

open Sys2Proof

/-! ### Completion -/

/-- The command answers a next state in which the queue is as it was and the device satisfies a property. -/
def Completes (i : Instr) (s : State) (P : Device → Prop) : Prop :=
  ∃ t : State, exec i s = .next t ∧ t.pending = s.pending ∧ P t.dev

/-- The firmware serves a mailbox command: the module is out of reset, the main firmware serves mailboxes (R613), none of the
common checks refuses the command (R604, R618, R620, R633), and the grid is awake if the command needs it (R744). -/
def Served (c : Call) (d : Device) : Prop :=
  d.boot.inReset = false ∧ d.boot.stage = .main ∧ d.boot.mbxReady = true ∧ preCheck c d = none ∧
    (needsGrid c.opcode = true → awake d = true)

/-- The mailbox engine serves a command that it executes itself (R617). -/
def EngineServed (c : Call) (d : Device) : Prop :=
  d.boot.stage = .main ∧ d.boot.engineReady = true ∧ preCheck c d = none

/-- The newest completion that waits to be posted on the command's mailbox is the final one of the command, with a status, a reason
and result bytes (R603, R605). -/
def Answered (c : Call) (st : Status) (reason : Nat) (result : List Byte) (d : Device) : Prop :=
  ∃ k, (d.mb c.mbx).overflow.getLast? = some k ∧ k.tag = c.tag ∧ k.status = st ∧ k.reason = reason ∧ k.result = result ∧
    k.more = false

/-- As `Answered`, whatever the result bytes are. -/
def Finished (c : Call) (st : Status) (d : Device) : Prop :=
  ∃ reason result, Answered c st reason result d

/-- The command stays in execution: it is among the started commands of its mailbox, and no completion has been queued. -/
def Held (c : Call) (before after : Device) : Prop :=
  (after.mb c.mbx).overflow = (before.mb c.mbx).overflow ∧ ∃ x ∈ (after.mb c.mbx).started, x.call = c

/-- The host reaches a register of a function: the module is out of reset and IDE_REQUIRED is 0, or the access comes in an established
stream (R594). -/
def Reaches (fn : FunctionId) (ide : Bool) (d : Device) : Prop :=
  d.boot.inReset = false ∧ (ideRequired d = false ∨ (ide = true ∧ d.host.ide[fn.val]'fn.isLt = true))

/-! ### What commands leave alone -/

/-- What the grid, the tiers and the span hold is as it was: sites, links, vtiles, scratchpads, tiers, Ridge ports, the span, Strainers,
the Slate, sensor contexts and windows. -/
def SameFabric (a b : Device) : Prop :=
  b.sites = a.sites ∧ b.fabric = a.fabric ∧ b.vtiles = a.vtiles ∧ b.scratch = a.scratch ∧ b.tiers = a.tiers ∧ b.ridge = a.ridge ∧
    b.span = a.span ∧ b.strainers = a.strainers ∧ b.slate = a.slate ∧ b.intake = a.intake ∧ b.windows = a.windows

/-- Configuration, entropy, time base, backup domain and clocks are as they were. -/
def SameControl (a b : Device) : Prop :=
  b.cfg = a.cfg ∧ b.staged = a.staged ∧ b.commits = a.commits ∧ b.entropy = a.entropy ∧ b.time = a.time ∧ b.backup = a.backup ∧
    b.clocks = a.clocks

/-! ### What counts and what raises -/

/-- A counter has counted one more, saturating at its width. -/
def Counted (c : Counter) (i : Nat) (a b : Device) : Prop := b.count c i = min (a.count c i + 1) (2 ^ c.info.width - 1)

/-- An event of a source at an instance leaves its sticky bit set, where the source is enabled, the Gutter is initialised and no window
covers the instance (R644, R645, R662, R668). -/
def Raised (src inst : Nat) (a b : Device) : Prop :=
  a.gutter.initDone = true → srcEnabled a src = true → shadowed a src inst = false → b.gutter.sticky.getLsbD src = true

/-- An event that is a single report of a source at an instance: it sets the sticky bit, counts in EVENTS, puts the class in the fault
state, and at level 5 sets the instant of a module reset; a shadow window turns it into a SHADOWED count, and a disabled source or
an uninitialised Gutter into nothing (R644, R645, R650, R656, R662, R668). -/
def RaisesAlone (i : Instr) (src : SourceId) (inst : Nat) (s : State) : Prop :=
  (s.dev.gutter.initDone = true → srcEnabled s.dev src.val = true → shadowed s.dev src.val inst = false →
    Completes i s fun d => d.gutter.sticky.getLsbD src.val = true ∧ Counted .events src.val s.dev d ∧
      (classRec d (classOf src)).inFault = true ∧ d.tenants = s.dev.tenants ∧ SameFabric s.dev d ∧
      (gutterEn s.dev = true → 5 ≤ srcLevel s.dev src.val → d.gutter.resetDue.isSome = true)) ∧
  (s.dev.gutter.initDone = true → srcEnabled s.dev src.val = true → shadowed s.dev src.val inst = true →
    Completes i s fun d => d.gutter.sticky = s.dev.gutter.sticky ∧ Counted .shadowed src.val s.dev d ∧
      d.count .events src.val = s.dev.count .events src.val) ∧
  ((s.dev.gutter.initDone = false ∨ srcEnabled s.dev src.val = false) →
    Completes i s fun d => d.gutter.sticky = s.dev.gutter.sticky ∧ d.count .events src.val = s.dev.count .events src.val ∧
      d.tenants = s.dev.tenants ∧ SameFabric s.dev d)

/-- What Table 17-1 has a module reset clear: tenants, scratchpads, what waits for boundaries or driving packages, entropy service, the
span, Strainer contexts and tensor windows. -/
def ResetClears (d : Device) : Prop :=
  d.tenants = Vector.replicate 4 {} ∧ d.scratch = [] ∧ d.vtiles = [] ∧ d.commits = [] ∧ d.loads = [] ∧ d.entropy = {} ∧ d.span = {} ∧
    d.strainers = Vector.replicate 4 {} ∧ d.windows = Vector.replicate 5 {}

/-- What it keeps: configuration in effect and staged, equalisation coefficients, what is fused, and the Slate's records. -/
def ResetKeeps (a b : Device) : Prop :=
  b.cfg = a.cfg ∧ b.staged = a.staged ∧ b.coeffs = a.coeffs ∧ b.boot.serial = a.boot.serial ∧ b.boot.part = a.boot.part ∧
    a.boot.svnFuses ≤ b.boot.svnFuses ∧ b.slate.buffer = a.slate.buffer ∧ b.slate.ring = a.slate.ring

/-- The module is held in reset, with the error pair at fault. -/
def InReset (cause : Nat) (d : Device) : Prop :=
  d.boot.inReset = true ∧ d.boot.cause = cause ∧ d.gutter.initDone = false ∧ d.gutter.pairFault = true ∧ ResetClears d

/-- The boot ROM has run: the Gutter is initialised, the mailbox engine takes commands, the boot is counted, and a slot has been chosen
or recovery mode entered. -/
def Booted (cause : Nat) (a d : Device) : Prop :=
  d.boot.inReset = false ∧ d.boot.cause = cause ∧ d.gutter.initDone = true ∧ d.boot.engineReady = true ∧ Counted .boots 0 a d ∧
    (d.boot.stage = .recovery ∨ (d.boot.romReady = true ∧ d.boot.stage = .rom)) ∧ ResetClears d

/-! ### Frames -/

/-- Every byte of the scratchpads outside one range reads as it did. -/
def ScratchOutside (lo n : Nat) (a b : Device) : Prop :=
  ∀ x, (x < lo ∨ lo + n ≤ x) → b.scratch.read x = a.scratch.read x

/-! ### Invariants -/

/-- Every memory of the device is in canonical form: the scratchpads, the rings of the mailboxes, and the tensors. -/
def MemoriesCanonical (d : Device) : Prop :=
  d.scratch.wf = true ∧ (∀ m : MailboxId, (d.mb m).ring.wf = true) ∧ ∀ t : TenantId, ∀ x ∈ (d.tenant t).tensors, x.bytes.wf = true

/-- A state is safe when its memories are canonical; nothing is said of its queue, which any sender may fill. -/
def State.Safe (s : State) : Prop := MemoriesCanonical s.dev

end Sys2Proof.Machine
end

