-- ==== Sys2Proof/Certificates/Slice0/Obligations.lean ====
section
/-! DEFINITION. The statements about the module, one `def Obligations.<Name> : Prop` each. They are stated of every state, command
and operand that meet their hypotheses. -/

open Sys2Proof Sys2Proof.Machine

/-- For every command c, queue rest and state s, step on s with c in front of rest is exec of c on s with the queue rest.
(00_scope.md, 95_what_each_step_holds.md) -/
def Obligations.StepRunsFrontCommand : Prop :=
  ∀ (c : Instr) (rest : List Instr) (s : State),
    step { s with pending := c :: rest } = exec c { s with pending := rest }

/-- On an empty queue the block idles for one tick: the root time grows by 10 ns and every other field of the state is as it was.
The tick is the model's choice (log entry 2, DESIGN CHOICE). (00_scope.md, notes/assumptions/2.md) -/
def Obligations.IdleStepIsOneTick : Prop :=
  ∀ s : State, s.pending = [] → step s = .next { s with dev := { s.dev with now := s.dev.now + 10 } }

/-- No command is refused and none stops the module: for every command and every state, exec answers a next state with the same
queue, and a step on a queue c :: rest leaves exactly rest. (95_what_each_step_holds.md) -/
def Obligations.EveryCommandConsumesOneQueueEntry : Prop :=
  (∀ (c : Instr) (s : State), ∃ d : Device, exec c s = .next { s with dev := d }) ∧
    ∀ (c : Instr) (rest : List Instr) (s : State), s.pending = c :: rest →
      ∃ t : State, step s = .next t ∧ t.pending = rest

/-- COMMAND_DOORBELL on an enabled mailbox through a function that shows it: a TAIL that lies at most 256 entries ahead of HEAD is
stored, and as many entries as lie between HEAD and TAIL are then visible; any other TAIL is ignored and sets BAD_TAIL, with
TAIL and the visible entries as they were. A doorbell on a mailbox that is not enabled, or that the function does not show,
changes nothing. (R598, R599, R602) -/
def Obligations.DoorbellMovesTailOrSetsBadTail : Prop :=
  ∀ (m : MailboxId) (fn : FunctionId) (v : W64) (ide : Bool) (s : State), Reaches fn ide s.dev →
    (shows fn m = true → (s.dev.mb m).en = true → ringDist (s.dev.mb m).cmdHead (v.setWidth 9) ≤ 256 →
      Completes (.commandDoorbell m fn v ide) s fun d =>
        (d.mb m).cmdTail = v.setWidth 9 ∧ (d.mb m).visible.length = ringDist (s.dev.mb m).cmdHead (v.setWidth 9) ∧
        (d.mb m).cmdHead = (s.dev.mb m).cmdHead ∧ (d.mb m).badTail = (s.dev.mb m).badTail ∧ SameFabric s.dev d) ∧
    (shows fn m = true → (s.dev.mb m).en = true → 256 < ringDist (s.dev.mb m).cmdHead (v.setWidth 9) →
      Completes (.commandDoorbell m fn v ide) s fun d =>
        (d.mb m).cmdTail = (s.dev.mb m).cmdTail ∧ (d.mb m).visible = (s.dev.mb m).visible ∧ (d.mb m).badTail = true) ∧
    (shows fn m = false ∨ (s.dev.mb m).en = false → exec (.commandDoorbell m fn v ide) s = .next s)

/-- COMMAND_TAKE on an enabled mailbox takes the oldest visible entry and advances CMD_HEAD past it. COMMAND_START starts the oldest
taken firmware command once every earlier one has posted its first completion and no urgent mailbox waits before it.
COMMAND_DEADLINE posts ACCEPTED with MORE = 1 for a started command that has posted nothing. COMPLETION_POST writes a one-entry
completion at CPL_TAIL, with its word 0, and advances CPL_TAIL, or leaves it in the overflow queue while the ring is full.
(R602, R606, R607, R614, R615) -/
def Obligations.EngineTakesStartsAndPosts : Prop :=
  (∀ (m : MailboxId) (s : State) (v : Visible) (rest : List Visible),
      (s.dev.mb m).visible = v :: rest → (s.dev.mb m).en = true → s.dev.boot.engineReady = true → (s.dev.mb m).owed = [] →
      (s.dev.mb m).flushing = false →
      Completes (.commandTake m) s fun d =>
        (d.mb m).cmdHead = (s.dev.mb m).cmdHead + 1 ∧ (d.mb m).visible = rest ∧
        (d.mb m).taken = (s.dev.mb m).taken ++ [{ entry := ringEntry (s.dev.mb m) (s.dev.mb m).cmdHead.toNat, rung := v.rung }] ∧
        SameFabric s.dev d) ∧
    (∀ (m : MailboxId) (s : State) (x : Taken) (rest : List Taken) (c : Call) (o : OpInfo),
      (s.dev.mb m).taken = x :: rest → c = { mbx := m, words := x.entry } → c.info = some o → o.engine = false → Served c s.dev →
      (∀ y ∈ (s.dev.mb m).started, y.first = true ∧ sameCommand y.call c = false) → (s.dev.mb m).hasRoom = true →
      (urgentEntry m x = true ∨ urgentWaits s.dev = false) →
      Completes (.commandStart m) s fun d =>
        (d.mb m).taken = rest ∧ (d.mb m).records = (s.dev.mb m).records ∧
        (d.mb m).started = (s.dev.mb m).started ++
          [{ call := c, rung := x.rung, first := o.compute, compute := o.compute }]) ∧
    (∀ (m : MailboxId) (s : State) (x : Started) (o : OpInfo),
      (s.dev.mb m).started = [x] → x.call.mbx = m → x.call.info = some o → o.engine = false → x.first = false → x.compute = false →
      x.call.opcode ≠ 0x33 → s.dev.boot.kettleRestarting = false → s.dev.boot.mbxReady = true →
      Completes (.commandDeadline m x.call.tag) s fun d =>
        (d.mb m).started = [{ x with first := true }] ∧
        ∃ k, (d.mb m).overflow = (s.dev.mb m).overflow ++ [k] ∧ k.tag = x.call.tag ∧ k.status = .accepted ∧ k.more = true) ∧
    (∀ (m : MailboxId) (s : State) (k : Completion) (rest : List Completion),
      (s.dev.mb m).owed = [] → (s.dev.mb m).overflow = k :: rest → k.ext = 0 → (s.dev.mb m).ring.wf = true →
      ((s.dev.mb m).freeSlots 1 = true →
        Completes (.completionPost m) s fun d =>
          (d.mb m).overflow = rest ∧ (d.mb m).cplTail = (s.dev.mb m).cplTail + 1 ∧
          (d.mb m).ring.readLe (cplSlot (s.dev.mb m).cplTail.toNat) 8 = cplWord0 k (s.dev.mb m).cplTail % 2 ^ 64 ∧
          SameFabric s.dev d) ∧
      ((s.dev.mb m).freeSlots 1 = false →
        Completes (.completionPost m) s fun d =>
          (d.mb m).overflow = k :: rest ∧ (d.mb m).cplTail = (s.dev.mb m).cplTail ∧ (d.mb m).ring = (s.dev.mb m).ring))

/-- MAILBOX_ENABLE on a mailbox whose EN is 0 zeroes both rings and all four indices and then sets READY (with the engine ready and
nothing owed from before a reset). MAILBOX_DISABLE on an enabled mailbox has the effect of a flush and then leaves EN 0, after
which COMMAND_TAKE takes nothing. While EN is 0, a write of CMD_TAIL or of CPL_HEAD has no effect. With EN 1, a write of
CPL_HEAD stores the index. (R599) -/
def Obligations.EnableZeroesDisableFlushesAndIdleIndicesStay : Prop :=
  (∀ (m : MailboxId) (fn : FunctionId) (ide : Bool) (s : State), Reaches fn ide s.dev → shows fn m = true →
      (s.dev.mb m).en = false → (s.dev.mb m).owed = [] →
      Completes (.mailboxEnable m fn ide) s fun d =>
        (d.mb m).en = true ∧ (d.mb m).ring = [] ∧ (d.mb m).cmdTail = 0 ∧ (d.mb m).cmdHead = 0 ∧ (d.mb m).cplHead = 0 ∧
        (d.mb m).cplTail = 0 ∧ (s.dev.boot.engineReady = true → (mailboxRead d 0 m 5).testBit 0 = true)) ∧
    (∀ (m : MailboxId) (fn : FunctionId) (ide : Bool) (s : State), Reaches fn ide s.dev → shows fn m = true →
      (s.dev.mb m).en = true →
      (Completes (.mailboxDisable m fn ide) s fun d =>
        (d.mb m).en = false ∧ d = modMbx m (fun x => { x with en := false }) (flushMailbox m s.dev)) ∧
      (∀ v : W64, Completes (.cplHeadWrite m fn v ide) s fun d =>
        d = modMbx m (fun x => { x with cplHead := v.setWidth 9 }) s.dev)) ∧
    (∀ (m : MailboxId) (s : State), (s.dev.mb m).en = false → exec (.commandTake m) s = .next s) ∧
    (∀ (m : MailboxId) (fn : FunctionId) (v : W64) (ide : Bool) (s : State), Reaches fn ide s.dev → (s.dev.mb m).en = false →
      exec (.commandDoorbell m fn v ide) s = .next s ∧ exec (.cplHeadWrite m fn v ide) s = .next s)

/-- MAILBOX_FLUSH empties the taken and the visible entries, sets CMD_HEAD equal to CMD_TAIL, and queues exactly one FLUSHED
completion for each command taken and not started, in order; every compute command in progress is marked to stop, and no other
started command is touched. FUNCTION_LEVEL_RESET flushes every mailbox that the function shows and clears its WIN_CTRL, and
changes no tenant. MSIX_HOLDOFF_EXPIRY sends the message that was held back. (R595, R609, R637) -/
def Obligations.FlushAnswersTakenCommandsWithFlushed : Prop :=
  (∀ (m : MailboxId) (fn : FunctionId) (ide : Bool) (s : State), Reaches fn ide s.dev → shows fn m = true →
      Completes (.mailboxFlush m fn ide) s fun d =>
        (d.mb m).taken = [] ∧ (d.mb m).visible = [] ∧ (d.mb m).cmdHead = (s.dev.mb m).cmdTail ∧
        (d.mb m).cmdTail = (s.dev.mb m).cmdTail ∧
        (∃ ks, (d.mb m).overflow = (s.dev.mb m).overflow ++ ks ∧
          ks.map (fun k => (k.status, k.more, k.w0)) = (s.dev.mb m).taken.map (fun x => (Status.flushed, false, x.entry[0]))) ∧
        (d.mb m).started.map (·.call) = (s.dev.mb m).started.map (·.call) ∧
        (∀ x ∈ (d.mb m).started, x.compute = true → x.latch ≠ .none) ∧
        (∀ x ∈ (s.dev.mb m).started, x.compute = false → x ∈ (d.mb m).started) ∧ SameFabric s.dev d) ∧
    (∀ (fn : FunctionId) (s : State),
      Completes (.functionLevelReset fn) s fun d =>
        (window d fn).en = false ∧ (window d fn).wrEn = false ∧
        (∀ m : MailboxId, shows fn m = true → (d.mb m).taken = [] ∧ (d.mb m).visible = [] ∧ (d.mb m).cmdHead = (d.mb m).cmdTail) ∧
        (∀ m : MailboxId, shows fn m = false → d.mb m = s.dev.mb m) ∧
        d.tenants = s.dev.tenants ∧ d.scratch = s.dev.scratch) ∧
    (∀ (fn : FunctionId) (v : Fin 16) (s : State), (msixVec s.dev fn v).held = true → s.dev.host.d3cold = false →
      Completes (.msixHoldoffExpiry fn v) s fun d =>
        d.out = .msix fn.val v.val :: s.dev.out ∧ (msixVec d fn v).held = false)

/-- QUERY_IDENTITY without a buffer list answers OK with MOD_ID in result bytes 0 to 7, FW_VERSION in 8 to 15, BUILD in 16 to 19 and
SERIAL in 24 to 39; with a list it also writes the 128-byte identity record. QUERY_STATUS writes the report of the sections
asked for, which begins with the ASCII bytes L96STAT0, and gives its length; READ_COUNTERS writes one 40-byte entry a counter.
Where the buffer list is too short, nothing is written and the answer is BUFFER_SHORT with the length needed. What the host link
does not hold is unchanged but for the counters. (R597, R611, R620, R625, R626) -/
def Obligations.IdentityStatusAndCountersAreReported : Prop :=
  (∀ (c : Call) (s : State), EngineServed c s.dev → c.hasList 2 = false →
      Completes (.queryIdentity c) s fun d =>
        Answered c .ok 0 (leBytes 8 (modId s.dev) ++ leBytes 8 (fwVersion s.dev) ++ leBytes 4 (fwBuild s.dev) ++ leBytes 4 0 ++
          leBytes 16 s.dev.boot.serial.toNat) d ∧ d.tenants = s.dev.tenants ∧ SameFabric s.dev d ∧ SameControl s.dev d) ∧
    (∀ (c : Call) (s : State), EngineServed c s.dev → c.hasList 2 = true → field (c.w 2) 0 16 ≤ 4096 → 128 ≤ c.room →
      c.dmaFails = false →
      Completes (.queryIdentity c) s fun d => Finished c .ok d ∧
        ∃ bs, d.out = .hostBuffer c.mbx.val c.tag bs :: s.dev.out ∧ bs.length = 128 ∧ bs.take 8 = leBytes 8 (modId s.dev)) ∧
    (∀ (c : Call) (s : State), Served c s.dev → field (c.w 2) 0 16 ≤ 4096 → c.dmaFails = false →
      let report := statusReport c.fn (field (c.w 3) 0 9) (acceptCall c s.dev)
      Completes (.queryStatus c) s fun d =>
        (c.hasList 2 = true → report.length ≤ c.room →
          Finished c .ok d ∧ d.out = .hostBuffer c.mbx.val c.tag report :: s.dev.out ∧ report.take 8 = ascii "L96STAT0") ∧
        (c.hasList 2 = false ∨ c.room < report.length →
          Answered c .badParam rsnBufferShort (leBytes 8 report.length) d ∧ d.out = s.dev.out)) ∧
    (∀ (c : Call) (s : State), Served c s.dev → field (c.w 2) 0 16 ≤ 4096 → c.dmaFails = false → c.hasList 2 = true →
      let es := counterEntries c.fn (field (c.w 3) 0 18) (acceptCall c s.dev)
      40 * es.length ≤ c.room → es ≠ [] →
      Completes (.readCounters c) s fun d =>
        Answered c .ok 0 (leBytes 8 (40 * es.length) ++ leBytes 4 es.length) d ∧
        d.out = .hostBuffer c.mbx.val c.tag es.flatten :: s.dev.out ∧ es.flatten.length = 40 * es.length)

/-- CONFIG_STAGE on mailbox 8 with valid fields replaces the staged value of each field named, the last of a field named twice, and
leaves every other staged module field; with any invalid value or field it stages nothing and answers BAD_PARAM. CONFIG_DISCARD
of module scope leaves nothing staged in it. CONFIG_COMMIT of module scope puts every staged field that takes effect at the
commit into effect, and leaves no field staged in the scope; with nothing staged in its scopes it answers OK at once and changes
no value. CONFIG_READ returns the value in effect. (R620, R631, R634) -/
def Obligations.StagingReplacesCommitApplies : Prop :=
  (∀ (c : Call) (s : State), Served c s.dev → c.mbx = 8 → (∀ p ∈ stagePairs c, commandOnly p.1 = false) →
      ((∀ p ∈ stagePairs c, (fieldDefault p.1).isSome = true ∧ fieldValueOk p.1 p.2 = true) → commitPending s.dev .module = false →
        Completes (.configStage c) s fun d =>
          Answered c .ok 0 [BitVec.ofNat 8 (stagePairs c).length] d ∧
          ∀ f : Nat, ((d.staged.filter fun x => decide (x.scope = .module ∧ x.field = f)).map (·.value)) =
            match (stagePairs c).reverse.find? fun p => decide (p.1 = f) with
            | some p => [p.2]
            | none => (s.dev.staged.filter fun x => decide (x.scope = .module ∧ x.field = f)).map (·.value)) ∧
      ((∃ p ∈ stagePairs c, fieldDefault p.1 = none ∨ fieldValueOk p.1 p.2 = false) →
        Completes (.configStage c) s fun d => Answered c .badParam 0 [] d ∧ d.staged = s.dev.staged)) ∧
    (∀ (c : Call) (s : State), Served c s.dev → c.mbx = 8 → c.w 7 = 1 → commitPending s.dev .module = false →
      Completes (.configDiscard c) s fun d =>
        Answered c .ok 0 [0] d ∧ d.staged = s.dev.staged.filter (fun x => !decide (x.scope = .module)) ∧ d.cfg = s.dev.cfg) ∧
    (∀ (c : Call) (s : State), Served c s.dev → c.mbx = 8 → c.w 1 = 1 → s.dev.commits = [] → s.dev.cfgLater = [] →
      (s.dev.staged.map (·.field)).Nodup →
      Completes (.configCommit c) s fun d =>
        Finished c .ok d ∧ (∀ x ∈ d.staged, x.scope ≠ .module) ∧
        ∀ x ∈ s.dev.staged, x.scope = .module → isLater x.field = false → assoc d.cfg x.field = some x.value) ∧
    (∀ (c : Call) (s : State), Served c s.dev → c.w 1 < 2 ^ 32 → (fieldDefault (c.w 1)).isSome = true →
      Completes (.configRead c) s fun d =>
        Finished c .ok d ∧
        (∃ k, (d.mb c.mbx).overflow.getLast? = some k ∧ k.result.take 8 = leBytes 8 (fieldValue s.dev (c.w 1))) ∧
        d.cfg = s.dev.cfg ∧ d.staged = s.dev.staged)

/-- TENANT_SHARES with a valid set and no run in progress applies the shares and STRICT bits at once. FENCE_SITE stages the site
that carries the vtile. A tenant-scope commit whose timeout passes answers DEFERRED and keeps its staged set.
EPOCH_BUILD_COMPLETE gives the tenant's next epoch the next number, or leaves the tenant without a routing; EPOCH_LOADED loads
it, ready unless it needs planned-move copies; PLANNED_MOVE applies only when every affected tenant is between steps with its
epoch loaded, and then makes the planned sites unusable. (R200, R218, R224, R226, R244, R635) -/
def Obligations.SharesFencesAndEpochsTakeEffect : Prop :=
  (∀ (c : Call) (s : State), Served c s.dev → sharesOk ([2, 3, 4, 5].map fun i => (c.words[i]?.getD 0 : BitVec 64)) = true →
      s.dev.commits = [] → (∀ t : TenantId, running s.dev t = false) →
      Completes (.tenantShares c) s fun d =>
        Answered c .ok 0 [] d ∧ ∀ t : TenantId, (d.tenant t).strict = bitAt (c.w 1) t.val ∧
          (d.tenant t).shares = c.words[t.val + 2]'(by omega)) ∧
    (∀ (c : Call) (s : State) (v site : Nat), Served c s.dev → v = field (c.w 1) 0 14 → v < 9216 →
      carriesIndex s.dev (field (c.w 1) 16 4) = true → commitPending s.dev .placement = false → carrierOf s.dev v = some site →
      Completes (.fenceSite c) s fun d =>
        Answered c .ok 0 (leBytes 2 site) d ∧ (∃ x ∈ stagedFences d, x.value = site) ∧ d.sites = s.dev.sites) ∧
    (∀ (m : MailboxId) (k : Commit) (s : State) (t : TenantId) (dl : Nat), s.dev.commits = [k] → k.call.mbx = m →
      k.call.opcode = 0x71 → k.scopes = [.tenant t] → k.shares = none → k.deadline = some dl → plannedSites s.dev = [] →
      movingTenants s.dev = [] →
      Completes (.commitTimeout m k.call.tag) s fun d =>
        Finished k.call .deferred d ∧ d.commits = [] ∧ d.intake.staged = s.dev.intake.staged ∧ dl ≤ d.now) ∧
    (∀ (cs ss ls : List Nat) (spill : Nat) (s : State) (b : Build) (t : TenantId), s.dev.fabric.build = some b → b.tenant = t.val →
      b.built = none →
      (Completes (.epochBuildComplete cs ss ls spill true) s fun d =>
        ∃ e, d.fabric.build = some { b with built := some e } ∧ e.collars = cs ∧ e.segments = ss ∧ e.links = ls ∧
          e.number = (((s.dev.tenant t).nextEpoch.getD (s.dev.tenant t).epoch).number) + 1) ∧
      (Completes (.epochBuildComplete cs ss ls spill false) s fun d => (d.tenant t).noRoute = true)) ∧
    (∀ (s : State) (b : Build) (t : TenantId) (e : Epoch), s.dev.fabric.build = some b → b.tenant = t.val → b.built = some e →
      Completes .epochLoaded s fun d =>
        (d.tenant t).nextEpoch = some e ∧
        (d.tenant t).nextReady = !mapsDiffer (s.dev.tenant t).epoch.bad e.bad (s.dev.tenant t).rect) ∧
    (∀ s : State, (movesReady s.dev = false → exec .plannedMove s = .next s) ∧
      (movesReady s.dev = true → plannedSites s.dev ≠ [] →
        Completes .plannedMove s fun d => ∀ x ∈ plannedSites s.dev, (d.site x).bad.isSome = true ∧ (d.site x).planned = false))

/-- WINDOW_SELECT stores the selection and drops READY; WINDOW_READY sets READY and serves what waited; a read through an enabled
ready window between steps returns the tensor's bytes, and a write to a read-only tensor is rejected, counted and changes no
tensor. A TIME_NOW read returns the module time, and its low half latches the high half. A write of 1 to RECOV_CLR clears
RECOVERY of the class only. A write of a staged register stages its field. A BAR2 write stores the byte in the ring of a mailbox
that the function shows. An access outside a required IDE stream is counted and ignored. (R281, R283, R284, R576, R594, R600,
R630, R660) -/
def Obligations.HostReachesRegistersAndWindows : Prop :=
  (∀ (fn : FunctionId) (v : W64) (ide : Bool) (s : State), Reaches fn ide s.dev →
      Completes (.windowSelect fn 1 v ide) s fun d =>
        (window d fn).base = (v >>> 12).setWidth 52 ∧ (window d fn).ready = false ∧ (window d fn).en = (window s.dev fn).en ∧
        d.tenants = s.dev.tenants ∧ d.counters = s.dev.counters) ∧
    (∀ (fn : FunctionId) (s : State), (window s.dev fn).waiting = [] →
      Completes (.windowReady fn) s fun d => (window d fn).ready = true ∧ (window d fn).base = (window s.dev fn).base ∧
        d.tenants = s.dev.tenants) ∧
    (∀ (fn : FunctionId) (off : BitVec 32) (n : Nat) (ide : Bool) (s : State) (x : Tensor), Reaches fn ide s.dev →
      (window s.dev fn).ready = true → (window s.dev fn).en = true → windowTensor s.dev fn = some x →
      s.dev.inStep (windowTenant s.dev fn) = false → (window s.dev fn).base.toNat * 4096 + off.toNat + n ≤ x.size →
      (∀ i, x.isLost i = false) → undoLog s.dev (windowTenant s.dev fn) = [] →
      Completes (.bar4Read fn off n ide) s fun d =>
        (∃ bs rest, d.out = .windowData fn.val off.toNat bs :: rest ∧
          bs = x.bytes.readN ((window s.dev fn).base.toNat * 4096 + off.toNat) n) ∧ d.tenants = s.dev.tenants) ∧
    (∀ (fn : FunctionId) (off : BitVec 32) (bs : List Byte) (ide : Bool) (s : State) (x : Tensor), Reaches fn ide s.dev →
      (window s.dev fn).ready = true → (window s.dev fn).en = true → windowTensor s.dev fn = some x → x.mode = .readOnly →
      (bs.take (x.size - ((window s.dev fn).base.toNat * 4096 + off.toNat))) ≠ [] →
      Completes (.bar4Write fn off bs ide) s fun d =>
        d.tenants = s.dev.tenants ∧ (window d fn).rejected = true) ∧
    (∀ (fn : FunctionId) (ide : Bool) (s : State), Reaches fn ide s.dev →
      (Completes (.timeNowRead fn .low ide) s fun d =>
        (d.time.latch[fn.val]'fn.isLt) = some (((BitVec.ofNat 64 (moduleTime s.dev)) >>> 32).setWidth 32) ∧
        d.out = .readData fn.val 0x4000 ((BitVec.ofNat 64 (moduleTime s.dev)) &&& 0xFFFFFFFF) :: s.dev.out) ∧
      (∀ l : W32, (s.dev.time.latch[fn.val]'fn.isLt) = some l → Completes (.timeNowRead fn .high ide) s fun d =>
        d.out = .readData fn.val 0x4004 (l.setWidth 64) :: s.dev.out ∧ moduleTime d = moduleTime s.dev)) ∧
    (∀ (k : ClassId) (ide : Bool) (s : State), Reaches 0 ide s.dev →
      Completes (.recovClr 0 k ide) s fun d =>
        (classRec d k).recovery = 0 ∧ (∀ j : ClassId, j ≠ k → classRec d j = classRec s.dev j) ∧ d.gutter.sticky = s.dev.gutter.sticky) ∧
    (∀ (v : W64) (ide : Bool) (s : State), Reaches 0 ide s.dev → s.dev.caddy.readOnly = false →
      commitPending s.dev .module = false →
      Completes (.rwsFieldWrite 0 0xC00 .whole v ide) s fun d =>
        (stagedValue { d with staged := d.staged.filter fun x => decide (x.scope = .module) } 0x06000001) = some (v.toNat % 2) ∧
        d.cfg = s.dev.cfg) ∧
    (∀ (fn : FunctionId) (off : Fin 262144) (b : Byte) (ide : Bool) (s : State), Reaches fn ide s.dev →
      (h : off.val / 0x6000 < 9) → shows fn ⟨off.val / 0x6000, h⟩ = true → (s.dev.mb ⟨off.val / 0x6000, h⟩).ring.wf = true →
      Completes (.registerWrite fn (.bar2 off [b]) ide) s fun d =>
        (d.mb ⟨off.val / 0x6000, h⟩).ring.read (off.val % 0x6000) = b ∧
        ∀ a, a ≠ off.val % 0x6000 →
          (d.mb ⟨off.val / 0x6000, h⟩).ring.read a = (s.dev.mb ⟨off.val / 0x6000, h⟩).ring.read a) ∧
    (∀ (fn : FunctionId) (w : HostWrite) (s : State), s.dev.boot.inReset = false → ideRequired s.dev = true →
      exec (.registerWrite fn w false) s = .next { s with dev := bump .ideRejects fn.val s.dev })

/-- FAULT_EVENT with one occurrence of an enabled source of the initialised Gutter at an instance that no window covers: its sticky
bit is 1 afterwards whatever mask is acknowledged in the same cycle, its class is in the fault state, and every other sticky bit
is what the acknowledgement leaves of it. KETTLE_SRAM_UNCORR and a readback that differs from the driven legs set their bits
likewise; a readback that agrees changes only what is sensed. (R19, R643, R645, R646, R661, R666) -/
def Obligations.EventSetsItsStickyBitOverAnAcknowledgement : Prop :=
  (∀ (r : FaultReport) (i : Nat) (ack : BitVec 128) (s : State), r.insts = [i] → r.kind = .occurrence →
      s.dev.gutter.initDone = true → srcEnabled s.dev r.src.val = true → shadowed s.dev r.src.val i = false →
      Completes (.faultEvent [r] ack) s fun d =>
        d.gutter.sticky.getLsbD r.src.val = true ∧ (classRec d (classOf r.src)).inFault = true ∧
        (∀ n : Nat, n < 128 → n ≠ r.src.val → d.gutter.sticky.getLsbD n = (s.dev.gutter.sticky.getLsbD n && !ack.getLsbD n)) ∧
        SameFabric s.dev d ∧ SameControl s.dev d) ∧
    (∀ s : State, s.dev.gutter.initDone = true → srcEnabled s.dev 9 = true → shadowed s.dev 9 0 = false →
      checkInverted s.dev 9 = false →
      Completes .kettleSramUncorr s fun d => d.gutter.sticky = s.dev.gutter.sticky ||| 1#128 <<< 9) ∧
    (∀ (p n : Option Bool) (s : State), s.dev.gutter.initDone = true → srcEnabled s.dev 55 = true → shadowed s.dev 55 0 = false →
      (p ≠ some s.dev.pins.errP ∨ n ≠ some s.dev.pins.errN) →
      Completes (.errpinReadback p n) s fun d => d.gutter.sticky = s.dev.gutter.sticky ||| 1#128 <<< 55) ∧
    (∀ s : State, Completes (.errpinReadback (some s.dev.pins.errP) (some s.dev.pins.errN)) s fun d =>
      d = { s.dev with pins := { s.dev.pins with senseP := some s.dev.pins.errP, senseN := some s.dev.pins.errN } })

/-- FAULT_ACK leaves the sticky and latched bits outside its mask, clears those inside it, and returns the sticky bits after the
write; a write of GUTTER_STICKY0 or GUTTER_STICKY1 by the physical function does the same for its half. FAULT_READ without a
buffer list returns the sticky bits and changes none. Another function's write has no effect. (R646, R659, R683) -/
def Obligations.AcknowledgementClearsOnlyTheNamedBits : Prop :=
  (∀ (c : Call) (s : State), EngineServed c s.dev →
      let mask := BitVec.ofNat 128 (c.w 1 + c.w 2 * 2 ^ 64)
      Completes (.faultAck c) s fun d =>
        d.gutter.sticky = s.dev.gutter.sticky &&& ~~~mask ∧ d.gutter.latched = s.dev.gutter.latched &&& ~~~mask ∧
        Answered c .ok 0 (leBytes 16 (s.dev.gutter.sticky &&& ~~~mask).toNat) d ∧ SameFabric s.dev d ∧ SameControl s.dev d) ∧
    (∀ (hi : Bool) (v : W64) (ide : Bool) (s : State), Reaches 0 ide s.dev →
      Completes (.stickyAckWrite 0 hi .whole v ide) s fun d =>
        d.gutter.sticky = s.dev.gutter.sticky &&& ~~~(v.setWidth 128 <<< (if hi then 64 else 0)) ∧ SameFabric s.dev d) ∧
    (∀ (fn : FunctionId) (hi : Bool) (p : RegPart) (v : W64) (ide : Bool) (s : State), Reaches fn ide s.dev → fn ≠ 0 →
      exec (.stickyAckWrite fn hi p v ide) s = .next s) ∧
    (∀ (c : Call) (s : State), EngineServed c s.dev → c.hasList 2 = false →
      Completes (.faultRead c) s fun d =>
        d.gutter = s.dev.gutter ∧ ∃ rest, Answered c .ok 0 (leBytes 16 s.dev.gutter.sticky.toNat ++ rest) d)

/-- ACTION 0 sets the force bit of a source that exists, and with the Gutter initialised, the source enabled and not covered, and
its condition absent, its sticky bit; ACTION 1 clears the force bit and leaves the sticky bits. ACTIONS 2 and 3 set and clear
the check-invert bit of a source that has one and no other; for another source they answer BAD_PARAM and change nothing of the
Gutter. (R643, R672, R673) -/
def Obligations.ForceAndCheckInvertBits : Prop :=
  (∀ (c : Call) (s : State), EngineServed c s.dev → (sourceRow (forcedSource c).val).isSome = true →
      (Completes (.faultForceSet c) s fun d =>
        Finished c .ok d ∧ d.gutter.force = s.dev.gutter.force ||| srcBit (forcedSource c) ∧
        (s.dev.gutter.initDone = true → srcEnabled s.dev (forcedSource c).val = true →
          shadowed s.dev (forcedSource c).val forcedInstance = false → condPresent s.dev (forcedSource c).val = false →
          d.gutter.sticky = s.dev.gutter.sticky ||| srcBit (forcedSource c))) ∧
      (Completes (.faultForceClear c) s fun d =>
        Answered c .ok 0 [] d ∧ d.gutter.force = s.dev.gutter.force &&& ~~~(srcBit (forcedSource c)) ∧
        d.gutter.sticky = s.dev.gutter.sticky)) ∧
    (∀ (c : Call) (s : State), EngineServed c s.dev →
      (invertible (forcedSource c) = true →
        (Completes (.checkInvertOn c) s fun d =>
          Answered c .ok 0 [] d ∧ d.gutter = { s.dev.gutter with checkInvert := s.dev.gutter.checkInvert ||| srcBit (forcedSource c) }) ∧
        (Completes (.checkInvertOff c) s fun d =>
          Answered c .ok 0 [] d ∧
          d.gutter = { s.dev.gutter with checkInvert := s.dev.gutter.checkInvert &&& ~~~(srcBit (forcedSource c)) })) ∧
      (invertible (forcedSource c) = false →
        Completes (.checkInvertOn c) s fun d => Answered c .badParam 0 [] d ∧ d.gutter = s.dev.gutter))

/-- BLOCK_RESET_COMPLETE takes the reset off and lets its window close at most 100 µs later. SHADOW_WINDOW_CLOSE closes every window
that is due. QUIET_PERIOD_EXPIRY raises RECOVERY; with no threshold, or none reached, the class leaves the fault state, and at
the threshold with a sticky bit set its sticky sources latch and it stays. FORCED_RELEASE of held reduction operands discards
them, and one of a free resource is a counted no-op. PAIR_MIN_ASSERT_EXPIRY with nothing left to show drives the pair back to
healthy. (R656, R657, R658, R660, R662, R663, R664, R665) -/
def Obligations.ResetsWindowsQuietPeriodsAndThePair : Prop :=
  (∀ (b : Block) (s : State) (r : BlockReset), s.dev.gutter.resets = [r] → r.block = b →
      Completes (.blockResetComplete b) s fun d =>
        d.gutter.resets = [] ∧ (∀ w ∈ d.gutter.shadows, w.block = b → w.closeAt ≤ s.dev.now + 100000) ∧
        d.gutter.sticky = s.dev.gutter.sticky) ∧
    (∀ (s : State), s.dev.gutter.shadows ≠ [] →
      Completes .shadowWindowClose s fun d => ∀ w ∈ d.gutter.shadows, d.now < w.closeAt) ∧
    (∀ (k : ClassId) (s : State) (t n : Nat), (classRec s.dev k).quiet = some (t, n) → s.dev.gutter.shadows = [] →
      let c := classRec s.dev k
      let d1 := advanceTo (t + n * ms) s.dev
      let recent := (c.exits.filter fun e => decide (d1.now ≤ e + classCfg s.dev k 3 * sec)).length + 1
      let latches := 0 < classCfg s.dev k 2 ∧ classCfg s.dev k 2 ≤ recent ∧ s.dev.gutter.sticky &&& classMask k ≠ 0
      Completes (.quietPeriodExpiry k) s fun d =>
        (classRec d k).recovery = min (c.recovery + 1) 65535 ∧
        (¬latches → (classRec d k).inFault = false ∧ (classRec d k).applied = 0 ∧ d.gutter.latched = s.dev.gutter.latched) ∧
        (latches → (classRec d k).inFault = c.inFault ∧
          d.gutter.latched = s.dev.gutter.latched ||| (s.dev.gutter.sticky &&& classMask k))) ∧
    (∀ (t : TenantId) (s : State), s.dev.boot.kettleRestarting = false →
      ((s.dev.tenant t).held ≠ [] → Completes (.forcedRelease (.reduce t) false) s fun d => (d.tenant t).held = []) ∧
      ((s.dev.tenant t).held = [] → Completes (.forcedRelease (.reduce t) false) s fun d =>
        d.tenants = s.dev.tenants ∧ d.gutter = s.dev.gutter ∧ d.count .releaseNoops = min (s.dev.count .releaseNoops + 1) (2 ^ Counter.releaseNoops.info.width - 1))) ∧
    (∀ s : State, s.dev.gutter.pairFault = true → pairWantsFault s.dev = false →
      Completes .pairMinAssertExpiry s fun d =>
        d.gutter.pairFault = false ∧ d.pins.errP = s.dev.pins.vin ∧ d.pins.errN = false ∧ SameFabric s.dev d)

/-- While a vtile runs its program, VECTOR_FP32_ARITHMETIC gives for each element the exact sum, difference, product or fused
product-sum rounded once to nearest even; VECTOR_MIN_MAX gives one of its two operands or, with a NaN, the canonical NaN, and a
comparison gives 1 or 0, with a NaN 0 except for ne; HORIZONTAL_SUM and DOT_PRODUCT are the chains from the first term on; EXP2
and NATURAL_EXPONENTIAL give one word an element. Each changes only the vtile's own controller and unit state. (R95, R96, R108,
R110, R146) -/
def Obligations.VectorUnitGivesEachElementItsRoundedValue : Prop :=
  ∀ (v : VtileRef) (t : TenantId) (s : State), vtRuns s.dev v = some t →
    (∀ xs : List (W32 × W32 × W32),
      (Completes (.vectorFp32Arithmetic v .add xs) s fun d =>
        (vt d v).result = xs.map (fun x => rne32 (addVal (val32 x.1) (val32 x.2.1))) ∧ d = { s.dev with vtiles := d.vtiles }) ∧
      (Completes (.vectorFp32Arithmetic v .sub xs) s fun d =>
        (vt d v).result = xs.map (fun x => rne32 (addVal (val32 x.1) (negVal (val32 x.2.1))))) ∧
      (Completes (.vectorFp32Arithmetic v .mul xs) s fun d =>
        (vt d v).result = xs.map (fun x => rne32 (mulVal (val32 x.1) (val32 x.2.1)))) ∧
      (Completes (.vectorFp32Arithmetic v .fma xs) s fun d =>
        (vt d v).result = xs.map (fun x => rne32 (addVal (mulVal (val32 x.1) (val32 x.2.1)) (val32 x.2.2)))) ∧
      ∀ op : FpOp, Completes (.vectorFp32Arithmetic v op xs) s fun d => (vt d v).result.length = xs.length) ∧
    (∀ a b : W32,
      (∀ op : MinMaxOp, (op = .min ∨ op = .max) → Completes (.vectorMinMax v op [(a, b)]) s fun d =>
        ((isNan32 a = true ∨ isNan32 b = true) → (vt d v).result = [nan32]) ∧
        (isNan32 a = false → isNan32 b = false → (vt d v).result = [a] ∨ (vt d v).result = [b])) ∧
      (∀ op : MinMaxOp, op ≠ .min → op ≠ .max → Completes (.vectorMinMax v op [(a, b)]) s fun d =>
        ((vt d v).result = [0] ∨ (vt d v).result = [1]) ∧
        (isNan32 a = true → (vt d v).result = [if op = .ne then 1 else 0]) ∧ d = { s.dev with vtiles := d.vtiles })) ∧
    (∀ (x : W32) (xs : List W32), Completes (.horizontalSum v (x :: xs)) s fun d =>
      (vt d v).result = [xs.foldl add32 x] ∧ d = { s.dev with vtiles := d.vtiles }) ∧
    (∀ (x : W32 × W32) (xs : List (W32 × W32)), Completes (.dotProduct v (x :: xs)) s fun d =>
      (vt d v).result = [xs.foldl (fun acc p => fma32 p.1 p.2 acc) (mul32 x.1 x.2)] ∧ d = { s.dev with vtiles := d.vtiles }) ∧
    (∀ xs : List W32,
      (Completes (.exp2 v xs) s fun d => (vt d v).result = xs.map exp2Defined ∧
        (∀ x ∈ xs, isNan32 x = true → exp2Defined x = nan32) ∧ d = { s.dev with vtiles := d.vtiles }) ∧
      (Completes (.naturalExponential v xs) s fun d =>
        (vt d v).result = xs.map (fun x => exp2Defined (mul32 x 0x3FB8AA3B)) ∧ d = { s.dev with vtiles := d.vtiles })) ∧
    (Completes (.vectorFp32Arithmetic v .add []) s fun d => (vt d v).result = [] ∧
      (∀ w : VtileRef, vtNum w ≠ vtNum v → vt d w = vt s.dev w))

/-- MOMENTS of finite values returns S1, S2, e and n in its first six words, and canonical NaNs for a value that is not finite. A
widening conversion gives one FP32 word an element; a narrowing one with RND = 0b11 traps and gives no result. RAND_BITS32,
RAND_UNIFORM and RAND_BERNOULLI give one word an element and RAND_BITS64 two, and move the reservation position of every lane by
exactly its count when the budget allows it; otherwise the vtile traps with DRAW_BUDGET and its step is invalid. DRAW_UNIT_ROW
gives eight words and counts one row. A draw does not change the generator's seed. (R98, R99, R141, R143, R145, R311, R312,
R315, R316, R442) -/
def Obligations.MomentsConversionsAndDraws : Prop :=
  ∀ (v : VtileRef) (t : TenantId) (s : State), vtRuns s.dev v = some t →
    (∀ (f : NumFmt) (codes : List Nat) (e : BitVec 8) (q : MomentsReq) (m : Moments), codes ≠ [] → codes.length ≤ 131072 →
      moments (codes.map fun c => decodeNum f c) e.toInt = some m →
      Completes (.moments v f (List.replicate codes.length 0x7F) codes e q) s fun d =>
        (vt d v).result.take 6 = words64 (BitVec.ofInt 64 m.s1) ++ words64 (BitVec.ofNat 64 m.s2) ++
          [BitVec.ofInt 32 m.e, BitVec.ofNat 32 codes.length]) ∧
    (∀ (f : NumFmt) (codes : List Nat),
      Completes (.vectorConversion v (.widen f codes)) s fun d =>
        (vt d v).result = codes.map (fun c => rne32 (decodeNum f c)) ∧ d = { s.dev with vtiles := d.vtiles }) ∧
    (∀ (src dst : NumFmt) (o : Origin) (ctl : Fin 8) (codes : List Nat), ctl.val % 4 < 2 →
      Completes (.vectorConversion v (.narrow src dst ctl o codes)) s fun d => (vt d v).result.length = codes.length ∧
        d.scratch = s.dev.scratch) ∧
    (∀ (src dst : NumFmt) (o : Origin) (ctl : Fin 8) (codes : List Nat), ctl.val % 4 = 3 →
      Completes (.vectorConversion v (.narrow src dst ctl o codes)) s fun d =>
        (vt d v).ended = true ∧ (vt d v).trap = trapIllegal ∧ (vt d v).result = (vt s.dev v).result) ∧
    (∀ (n : Nat) (T : W32), (∀ l : Fin 32, (laneCounts n 2).getD l.val 0 ≠ 0 →
        (vt s.dev v).draws[l.val]'l.isLt + (laneCounts n 2).getD l.val 0 ≤ (drawKey s.dev t).2.2) →
      (Completes (.randBits32 v n .next) s fun d =>
        (vt d v).result.length = n ∧ (drawKey d t).1 = (drawKey s.dev t).1 ∧
        ∀ l : Fin 32, (vt d v).draws[l.val]'l.isLt = (vt s.dev v).draws[l.val]'l.isLt + (laneCounts n 2).getD l.val 0) ∧
      (Completes (.randUniform v n .next) s fun d => (vt d v).result.length = n) ∧
      (Completes (.randBernoulli v n .next T) s fun d =>
        (vt d v).result.length = n ∧ ∀ w ∈ (vt d v).result, w = 0 ∨ w = 1)) ∧
    (∀ n : Nat, (∀ l : Fin 32, (laneCounts n 1).getD l.val 0 ≠ 0 →
        (vt s.dev v).draws[l.val]'l.isLt + (laneCounts n 1).getD l.val 0 ≤ (drawKey s.dev t).2.2) →
      Completes (.randBits64 v n .next) s fun d => (vt d v).result.length = 2 * n) ∧
    (∀ n : Nat, (∃ l : Fin 32, (laneCounts n 2).getD l.val 0 ≠ 0 ∧
        (drawKey s.dev t).2.2 < (vt s.dev v).draws[l.val]'l.isLt + (laneCounts n 2).getD l.val 0) →
      Completes (.randBits32 v n .next) s fun d => (vt d v).ended = true ∧ (vt d v).trap = trapBudget ∧
        (∃ st, d.stepOf t = some st ∧ st.reason.isSome = true)) ∧
    (∀ (invT : W32) (scores : List W32), scores ≠ [] → scores.length ≤ 256 → (vt s.dev v).rows < (drawKey s.dev t).2.2 →
      Completes (.drawUnitRow v invT scores) s fun d =>
        (vt d v).result.length = 8 ∧ (vt d v).rows = (vt s.dev v).rows + 1 ∧ d = { s.dev with vtiles := d.vtiles })

/-- SCALAR_INSTRUCTION with its bytes inside the declared instruction space: a write changes its register and no other, and x0 keeps
reading zero; a load reads four little-endian bytes; a store writes four bytes and no others; a jump sets the counter; an issue
lengthens one queue. A fetch beyond the space, and an illegal instruction, trap and invalidate the step. UNIT_COMPLETION_WAIT
ends when the unit has drained; SLOT_POST posts a slot of the schedule; SLOT_WAIT completes at once for a slot that has landed;
END_STEP ends a vtile whose queues are empty. (R75, R77, R79, R80, R81, R161, R162) -/
def Obligations.ControllerInstructionsAndWaits : Prop :=
  ∀ (v : VtileRef) (t : TenantId) (s : State), vtRuns s.dev v = some t → (vt s.dev v).waits = none →
    (∀ (n : Nat), (vt s.dev v).pc + n ≤ ((runDecl s.dev t).map (·.imageSize)).getD 0 →
      (∀ (rd r : Fin 32) (a : W32), Completes (.scalarInstruction v n (.write rd a)) s fun d =>
        (vt d v).pc = (vt s.dev v).pc + n ∧ readX (vt d v) 0 = 0 ∧ (rd ≠ 0 → readX (vt d v) rd = a) ∧
        (r ≠ rd → readX (vt d v) r = readX (vt s.dev v) r) ∧ d = { s.dev with vtiles := d.vtiles }) ∧
      (∀ (rd : Fin 32) (a : Nat), rd ≠ 0 → spadOk a 4 = true → checkInverted s.dev 0 = false →
        Completes (.scalarInstruction v n (.load rd a)) s fun d =>
          readX (vt d v) rd = BitVec.ofNat 32 (s.dev.scratch.readLe (spadCell v a) 4) ∧ d.scratch = s.dev.scratch) ∧
      (∀ (rs : Fin 32) (a : Nat), spadOk a 4 = true → s.dev.scratch.wf = true →
        Completes (.scalarInstruction v n (.store a rs)) s fun d =>
          d.scratch.readLe (spadCell v a) 4 = (readX (vt s.dev v) rs).toNat ∧ ScratchOutside (spadCell v a) 4 s.dev d ∧
          d.scratch.wf = true) ∧
      (∀ (k : Fin 4) (a : W32), Completes (.scalarInstruction v n (.setLoop k a)) s fun d => (vt d v).loops[k.val]'k.isLt = a) ∧
      (∀ target : Nat, Completes (.scalarInstruction v n (.jump target)) s fun d => (vt d v).pc = target) ∧
      (∀ u : QueueUnit, (vt s.dev v).queues[(queueOf u).val]'(queueOf u).isLt < 16 →
        Completes (.scalarInstruction v n (.issue u)) s fun d =>
          (vt d v).queues[(queueOf u).val]'(queueOf u).isLt = (vt s.dev v).queues[(queueOf u).val]'(queueOf u).isLt + 1) ∧
      (Completes (.scalarInstruction v n .illegal) s fun d => (vt d v).ended = true ∧ (vt d v).trap = trapIllegal ∧
        ∃ st, d.stepOf t = some st ∧ st.reason.isSome = true)) ∧
    (∀ (n : Nat) (op : ScalarOp), ((runDecl s.dev t).map (·.imageSize)).getD 0 < (vt s.dev v).pc + n →
      Completes (.scalarInstruction v n op) s fun d => (vt d v).ended = true ∧ (vt d v).trap = trapImage) ∧
    (∀ u : QueueUnit, (vt s.dev v).queues[(queueOf u).val]'(queueOf u).isLt = 0 →
      (vt s.dev v).finished[(queueOf u).val]'(queueOf u).isLt ≠ 0 →
      Completes (.unitCompletionWait v u) s fun d => (vt d v).finished[(queueOf u).val]'(queueOf u).isLt = 0 ∧ (vt d v).ended = false) ∧
    (∀ slot : Nat, hasSlot s.dev t slot = true →
      (Completes (.slotPost v slot) s fun d => slotCode v slot ∈ (d.tenant t).posted ∧ slotCode v slot ∉ (d.tenant t).landed ∧
        d.scratch = s.dev.scratch) ∧
      (Completes (.slotWait v slot) s fun d =>
        (vt d v).waits = (if slotCode v slot ∈ (s.dev.tenant t).landed then none else some slot) ∧ d = { s.dev with vtiles := d.vtiles })) ∧
    ((∀ u : Fin 6, (vt s.dev v).queues[u.val]'u.isLt = 0) →
      Completes (.endStep v) s fun d => (vt d v).ended = true ∧ d = { s.dev with vtiles := d.vtiles })

/-- A valid TENSOR_PASS with RECORD output and no check-invert leaves at its record exactly the 1,072 bytes of the record that the
pass reaches, and every other scratchpad byte unchanged; with FINAL output and rounding without draws it changes only the bytes
of the elements it stores. STEEP_ENERGY on an area with a legal header, whose halos have landed and whose contents are legal,
changes only the eight bytes of its energies; STEEP_EXCHANGE gives every head the positions, which are the old ones when the
round has no pair. STEEP_COLOUR of one window of legal variables writes its colour to LAST, counts an update a variable and
draws exactly its reservation; with a colour outside the area's range stops the command with its step invalid. (R116, R133,
R137, R357, R362, R365, R368) -/
def Obligations.PassesAndSteepCommandsWriteTheirAreaOnly : Prop :=
  ∀ (v : VtileRef) (t : TenantId) (s : State), vtRuns s.dev v = some t → s.dev.scratch.wf = true → checkInverted s.dev 0 = false →
    (∀ p : Pass, passValid p = true → spadOk (16 * p.record.val) 1072 = true →
      (p.out = .record →
        Completes (.tensorPass v p) s fun d =>
          spadRead d v (16 * p.record.val) 1072 = (passRun p (PsRecord.ofBytes (spadRead s.dev v (16 * p.record.val) 1072))).1.bytes ∧
          ScratchOutside (spadCell v (16 * p.record.val)) 1072 s.dev d ∧ d.scratch.wf = true) ∧
      (∀ (fmt : NumFmt) (rnd : Fin 3) (sat : Bool) (fuse : Fuse) (cf : NumFmt) (row : Bool) (cs : List Nat) (dst : Nat),
        p.out = .final fmt rnd sat fuse cf row cs dst → rnd.val < 2 → spadOk dst (256 * (codeBits fmt / 8)) = true →
        Completes (.tensorPass v p) s fun d => ScratchOutside (spadCell v dst) (256 * (codeBits fmt / 8)) s.dev d)) ∧
    (∀ base : Nat, spadOk base 128 = true → halosLanded s.dev t (areaOf s.dev t v base) = true →
      (areaOf s.dev t v base).headerOk = true → 8 ≤ (areaOf s.dev t v base).last →
      (List.range (areaOf s.dev t v base).nvar).all (itemOk s.dev (areaOf s.dev t v base)) = true →
      (List.range (areaOf s.dev t v base).npen).all (groupOk s.dev (areaOf s.dev t v base)) = true →
      Completes (.steepEnergy v base) s fun d => ScratchOutside (spadCell v (base + 64)) 8 s.dev d ∧
        areaEnergy d v base = ((cutEnergy (((List.range (areaOf s.dev t v base).nvar).map
            (ownEnergy s.dev (areaOf s.dev t v base))).sum + denseEnergy s.dev (areaOf s.dev t v base) +
            penEnergy s.dev (areaOf s.dev t v base))).1, (cutEnergy (penEnergy s.dev (areaOf s.dev t v base))).1)) ∧
    (∀ (base : Nat) (c : Fin 8) (m : Bool) (beta : W32) (w lo hi : Nat), spadOk base 128 = true →
      (areaOf s.dev t v base).headerOk = true → 8 ≤ (areaOf s.dev t v base).last → c.val < (areaOf s.dev t v base).ncolour →
      lo = (areaOf s.dev t v base).colourStart.getD c.val 0 → hi = (areaOf s.dev t v base).colourStart.getD (c.val + 1) 0 →
      lo < hi → (hi + 31) / 32 - lo / 32 ≤ 1 → (rangeFrom lo (hi - lo)).all (itemOk s.dev (areaOf s.dev t v base)) = true →
      (∀ l : Fin 32, (colourCounts (areaOf s.dev t v base) c.val).getD l.val 0 ≠ 0 →
        (vt s.dev v).draws[l.val]'l.isLt + (colourCounts (areaOf s.dev t v base) c.val).getD l.val 0 ≤ (drawKey s.dev t).2.2) →
      Completes (.steepColour v base c m beta w) s fun d =>
        d.scratch.read (spadCell v (base + 14)) = BitVec.ofNat 8 c.val ∧ (vt d v).ended = false ∧
        (∀ l : Fin 32, (vt d v).draws[l.val]'l.isLt = (vt s.dev v).draws[l.val]'l.isLt +
          (colourCounts (areaOf s.dev t v base) c.val).getD l.val 0) ∧
        d.count .steepUpdates t.val = min (s.dev.count .steepUpdates t.val + (hi - lo)) (2 ^ Counter.steepUpdates.info.width - 1)) ∧
    (∀ (base : Nat) (c : Fin 8) (m : Bool) (beta : W32) (w : Nat), spadOk base 128 = true →
      halosLanded s.dev t (areaOf s.dev t v base) = true →
      ((areaOf s.dev t v base).headerOk = false ∨ (areaOf s.dev t v base).ncolour ≤ c.val) →
      Completes (.steepColour v base c m beta w) s fun d => d.scratch = s.dev.scratch ∧
        ∃ st, d.stepOf t = some st ∧ st.reason.isSome = true) ∧
    (∀ (base round : Nat) (positions : List Nat) (betas : List W32) (energies : List Int),
      (areaOf s.dev t v base).headerOk = true → positions.length ≤ 1 →
      Completes (.steepExchange base round [v] positions betas energies) s fun d =>
        (vt d v).result = positions.map (BitVec.ofNat 32) ∧ d.scratch = s.dev.scratch)

/-- TILE_CORE_FAULT leaves a good site FENCED and COLLAR_FAULT leaves any site that is not HOLED HOLED, and each raises its source;
on a site already so, nothing happens. READMISSION_TEST puts a FENCED site with fewer than three returns under test and leaves
any other as it is. READMISSION_TEST_DONE with every answer right returns the site as SPARE and counts the return; a test that
is stopped, or that a tile fails, leaves it FENCED. (R64, R66, R68, R176, R177) -/
def Obligations.SitesFenceHoleTestAndReturn : Prop :=
  ∀ (site : SiteId) (s : State),
    ((s.dev.site site.val).bad = none →
      Completes (.tileCoreFault site) s fun d => (d.site site.val).bad = some .fenced ∧ (d.site site.val).returns = (s.dev.site site.val).returns ∧
        (s.dev.gutter.initDone = true → srcEnabled s.dev 33 = true → shadowed s.dev 33 site.val = false →
          d.gutter.sticky.getLsbD 33 = true) ∧ d.scratch = s.dev.scratch) ∧
    ((s.dev.site site.val).bad = some .fenced → exec (.tileCoreFault site) s = .next s) ∧
    ((s.dev.site site.val).bad ≠ some .holed →
      Completes (.collarFault site) s fun d => (d.site site.val).bad = some .holed ∧
        (∀ x : SiteId, x ≠ site → (d.site x.val).bad = (s.dev.site x.val).bad)) ∧
    ((s.dev.site site.val).bad = some .fenced → (s.dev.site site.val).returns < 3 →
      Completes (.readmissionTest site) s fun d => (d.site site.val).bad = some .testing ∧ d.tenants = s.dev.tenants) ∧
    (((s.dev.site site.val).bad ≠ some .fenced ∨ 3 ≤ (s.dev.site site.val).returns) → exec (.readmissionTest site) s = .next s) ∧
    ((s.dev.site site.val).bad = some .testing →
      (∀ lanes : List LaneAnswer, lanes.all laneOk = true →
        Completes (.readmissionTestDone site true lanes false) s fun d =>
          (d.site site.val).bad = none ∧ (d.site site.val).returns = (s.dev.site site.val).returns + 1) ∧
      (∀ (ok : Bool) (lanes : List LaneAnswer),
        Completes (.readmissionTestDone site ok lanes true) s fun d => (d.site site.val).bad = some .fenced ∧
          (d.site site.val).returns = (s.dev.site site.val).returns ∧ d.gutter = s.dev.gutter) ∧
      (∀ lanes : List LaneAnswer,
        Completes (.readmissionTestDone site false lanes false) s fun d => (d.site site.val).bad = some .fenced))

/-- SCRUB_ACCESS that finds a corrected word counts it for its site; SPAD_UNCORR of a vtile whose tenant has a step in progress
invalidates the step, and with an earlier uncorrectable error within 24 hours leaves the site bad. MESH_UNCORR invalidates the
step of the tenant that owns the beat, and the second within 24 hours on a link cuts it. (R43, R44, R45, R46, R157, R158, R159) -/
def Obligations.ScratchpadAndLinkErrorsCountAndFence : Prop :=
  (∀ (site : SiteId) (s : State), (s.dev.site site.val).bad = none → checkInverted s.dev 0 = false →
      Completes (.scrubAccess site .corrected) s fun d =>
        (d.site site.val).correctedCount = (s.dev.site site.val).correctedCount + 1 ∧ d.scratch = s.dev.scratch) ∧
    (∀ (site : SiteId) (s : State), checkInverted s.dev 0 = false → exec (.scrubAccess site .clean) s = .next s) ∧
    (∀ (v : VtileId) (site : Nat) (t : TenantId) (s : State), carrierOf s.dev v.val = some site → tenantOfVtile s.dev v.val = some t →
      s.dev.inStep t = true → checkInverted s.dev 0 = false → (s.dev.site site).bad = none →
      Completes (.spadUncorr v) s fun d =>
        (∃ st, d.stepOf t = some st ∧ st.reason.isSome = true) ∧
        ((∃ e ∈ (s.dev.site site).uncorrected, s.dev.now ≤ e + 86400000000000) → (d.site site).bad.isSome = true)) ∧
    (∀ (l : Fin 19200) (dir : Fin 2) (t : TenantId) (s : State), checkInverted s.dev 16 = false →
      Completes (.meshUncorr l dir t) s fun d =>
        (s.dev.inStep t = true → ∃ st, d.stepOf t = some st ∧ st.reason.isSome = true) ∧
        ((∃ e ∈ (s.dev.link l.val).uncorrected, s.dev.now ≤ e + 86400000000000) → (d.link l.val).cut = true) ∧
        (d.link l.val).uncorrected.head? = some s.dev.now)

/-- FRAME_GATE_OPEN within a step, with every precondition posted and no hold beyond 2^24 cycles, counts the frame and its hold
cycles, takes the preconditions off, and a block that moves between scratchpads of the tenant's own vtiles lands unchanged. With
a precondition missing nothing happens. FRAME_HOLD records the first unmet condition once and counts the event.
REDUCTION_OPERAND_ARRIVAL holds an operand until its partner arrives, and the sum of the two then reaches the destination. (R86,
R147, R150, R152, R162, R163, R164, R167, R168) -/
def Obligations.FramesMoveSlotsAndReductionsClimb : Prop :=
  (∀ (t : TenantId) (s : State), s.dev.inStep t = true → checkInverted s.dev 16 = false → checkInverted s.dev 0 = false →
      (∀ (needs : List (VtileRef × Nat)) (c1 c2 c3 c4 : Int), (∀ q ∈ needs, slotCode q.1 q.2 ∈ (s.dev.tenant t).posted) →
        c1 ≤ 2 ^ 24 → c2 ≤ 2 ^ 24 → c3 ≤ 2 ^ 24 → c4 ≤ 2 ^ 24 →
        Completes (.frameGateOpen t needs c1 c2 c3 c4 [] []) s fun d =>
          (d.tenant t).frames = (s.dev.tenant t).frames + 1 ∧
          (∀ q ∈ needs, slotCode q.1 q.2 ∉ (d.tenant t).posted) ∧
          (∃ a b, s.dev.stepOf t = some a ∧ d.stepOf t = some b ∧ b.hold = a.hold + (max 0 (max (max c1 c2) (max c3 c4) + 48)).toNat) ∧
          d.scratch = s.dev.scratch) ∧
      (∀ (a b : VtileRef) (x y n : Nat), ownsVtile s.dev t a = true → ownsVtile s.dev t b = true → x + n ≤ 2 ^ 19 → y + n ≤ 2 ^ 19 →
        s.dev.scratch.wf = true →
        Completes (.frameGateOpen t [] 0 0 0 0 [{ src := .spad a x, dst := .spad b y, len := n }] []) s fun d =>
          spadRead d b y n = spadRead s.dev a x n ∧ ScratchOutside (spadCell b y) n s.dev d ∧ d.scratch.wf = true) ∧
      (∀ (needs : List (VtileRef × Nat)) (c1 c2 c3 c4 : Int) (moves : List SlotMove) (l : List Nat),
        (∃ q ∈ needs, slotCode q.1 q.2 ∉ (s.dev.tenant t).posted) →
        exec (.frameGateOpen t needs c1 c2 c3 c4 moves l) s = .next s)) ∧
    (∀ (t : TenantId) (k : Fin 4) (s : State), s.dev.inStep t = true →
      ((s.dev.tenant t).gateUnmet = none → Completes (.frameHold t (some k)) s fun d => (d.tenant t).gateUnmet = some k.val) ∧
      ((s.dev.tenant t).gateUnmet ≠ none → exec (.frameHold t (some k)) s = .next s) ∧ exec (.frameHold t none) s = .next s) ∧
    (∀ (t : TenantId) (red node : Nat) (k : ReduceKind) (xs ys : List Int) (v : VtileRef) (addr : Nat) (s : State),
      s.dev.inStep t = true →
      ((∀ h ∈ (s.dev.tenant t).held, h.1 ≠ red ∨ h.2.1 ≠ node) →
        Completes (.reductionOperandArrival t red k [node] xs v addr) s fun d =>
          (d.tenant t).held = (s.dev.tenant t).held ++ [(red, node, false, xs)] ∧ d.scratch = s.dev.scratch) ∧
      ((s.dev.tenant t).held = [(red, node, false, ys)] → k = .fp32 → xs.length = 1 → ys.length = 1 → ownsVtile s.dev t v = true →
        addr + 4 ≤ 2 ^ 19 → s.dev.scratch.wf = true →
        Completes (.reductionOperandArrival t red k [node] xs v addr) s fun d =>
          (d.tenant t).held = [] ∧
          d.scratch.readLe (spadCell v addr) 4 =
            (add32 (BitVec.ofInt 32 (ys.headD 0)) (BitVec.ofInt 32 (xs.headD 0))).toNat))

/-- RING_TRANSFER over an open way that gets its slots counts its corrected words and its edge-chain bytes and, with no bad word and
no check-invert, leaves the tenant's step valid as it was. EAVE_SEGMENT sets the segment's fenced bit, keeps every other, and
invalidates the steps in progress with a transfer in flight on it; on a fenced segment nothing happens. (R179, R181, R186, R188,
R189, R191) -/
def Obligations.RingTransfersAndFencedSegments : Prop :=
  (∀ (t : TenantId) (others : List TenantId) (src dst : RingPlace) (bytes n chain : Nat) (path : List Nat) (dir : Nat) (s : State) (e : Device),
      ringPath s.dev.fabric.fenced src dst = some (path, dir) → ringSlots t others path dir bytes s.dev = some e →
      checkInverted s.dev 17 = false →
      Completes (.ringTransfer t others src dst bytes n none chain) s fun d =>
        d.fabric = e.fabric ∧ d.scratch = s.dev.scratch ∧
        (∀ st, s.dev.stepOf t = some st → ∃ st', d.stepOf t = some st' ∧ st'.reason = st.reason) ∧
        d.gutter = s.dev.gutter) ∧
    (∀ (t : TenantId) (others : List TenantId) (src dst : RingPlace) (bytes n chain : Nat) (bad : Option (Fin 16)) (s : State),
      ringPath s.dev.fabric.fenced src dst = none → exec (.ringTransfer t others src dst bytes n bad chain) s = .next s) ∧
    (∀ (k : Fin 16) (ts : List TenantId) (s : State),
      (s.dev.fabric.fenced.getLsbD k.val = false →
        Completes (.eaveSegment k ts) s fun d =>
          (∀ j : Fin 16, d.fabric.fenced.getLsbD j.val = (decide (j = k) || s.dev.fabric.fenced.getLsbD j.val)) ∧
          (s.dev.fabric.fenced = 0 → ∀ t ∈ ts, s.dev.inStep t = true → ∃ st, d.stepOf t = some st ∧ st.reason.isSome = true)) ∧
      (s.dev.fabric.fenced.getLsbD k.val = true → exec (.eaveSegment k ts) s = .next s))

/-- PACKAGE_LOAD from buffers that nothing refuses and no driving package delays answers OK with a handle that no package or model
has and the first 16 bytes of the digest of the bytes; the tenant then holds the package under it, and each tensor it declares
with its size and mode. With FROM_STORE and a digest that is not stored for the tenant the answer is BAD_PARAM with
UNKNOWN_HANDLE. PACKAGE_UNLOAD of a loaded package that no run in progress uses takes the package and its tensors from the
tenant and keeps every other tensor; with FORGET the stored copy goes too. While a run of the package is in progress it answers
BUSY. (R229, R270, R503, R619) -/
def Obligations.PackagesLoadUnderAFreshHandleAndLeave : Prop :=
  (∀ (c : Call) (p : PackageDecl) (s : State), Served c s.dev → c.flag 8 = true → c.flag 9 = false → field (c.w 2) 0 16 ≤ 4096 →
      c.hasList 2 = true → c.dmaFails = false → s.dev.loads = [] → loadRefusal c p false s.dev = none →
      Completes (.packageLoad c p) s fun d =>
        ∃ h : Nat, (∀ t : TenantId, (∀ k ∈ (s.dev.tenant t).packages, k.handle ≠ h) ∧ (∀ m ∈ (s.dev.tenant t).models, m.handle ≠ h)) ∧
          (∃ k ∈ (d.tenant c.tenant).packages, k.handle = h ∧ k.decl = p ∧ k.digest = Config.packageDigest (fit c.room c.data)) ∧
          Answered c .ok 0 (leBytes 4 h ++ leBytes 4 0 ++ (beOf 48 (Config.packageDigest (fit c.room c.data))).take 16) d ∧
          (∀ y ∈ p.tensors, ∃ x, findTensor d c.tenant y.1 = some x ∧ x.size = y.2.1 ∧ x.mode = y.2.2.1 ∧ x.package = some h) ∧
          (∀ t : TenantId, t ≠ c.tenant → d.tenant t = s.dev.tenant t)) ∧
    (∀ (c : Call) (p : PackageDecl) (s : State), Served c s.dev → c.flag 8 = true → c.flag 9 = true → s.dev.loads = [] →
      s.dev.tiers.t3.packages = [] →
      Completes (.packageLoad c p) s fun d => Answered c .badParam rsnUnknownHandle [] d ∧ d.tenants = s.dev.tenants) ∧
    (∀ (c : Call) (s : State) (p : Package), Served c s.dev → (s.dev.tenant c.tenant).packages = [p] → p.ready = true →
      p.handle = field (c.w 1) 0 32 →
      (running s.dev c.tenant = false → Completes (.packageUnload c) s fun d =>
        Answered c .ok 0 [] d ∧ (d.tenant c.tenant).packages = [] ∧
        (d.tenant c.tenant).tensors = (s.dev.tenant c.tenant).tensors.filter (fun x => !decide (x.package = some p.handle)) ∧
        (c.flag 8 = true → ∀ k ∈ d.tiers.t3.packages, k.tenant ≠ c.tenant.val ∨ k.digest ≠ p.digest) ∧
        (c.flag 8 = false → d.tiers = s.dev.tiers) ∧ d.scratch = s.dev.scratch) ∧
      ((∃ r, (s.dev.tenant c.tenant).run = some r ∧ r.package = some p.handle) → running s.dev c.tenant = true →
        Completes (.packageUnload c) s fun d => Answered c .busy 0 [] d ∧ d.tenants = s.dev.tenants))

/-- TENSOR_CREATE that nothing refuses creates a tensor of SIZE bytes under a free host id, with the host bytes at their offset, and
answers OK with the id and the length. TENSOR_BIND between steps writes its bytes at OFFSET and leaves every other byte of the
tensor; in a step of the tenant's run it changes no tensor and stays in execution. TENSOR_READ writes to the host buffers the
bytes as the last committed step left them and changes no tenant. RESIDENCY_HINT sets the class and moves nothing; class 5 and
above is refused. (R233, R552, R618, R619, R623, R624) -/
def Obligations.HostTensorsAreCreatedWrittenAndReadAsCommitted : Prop :=
  (∀ (c : Call) (s : State) (id : Nat), Served c s.dev → createId s.dev c.tenant (c.w 1 / 2 ^ 32) = some id → field (c.w 1) 0 32 = 0 →
      rangeOk (c.w 2) (field (c.w 3) 0 32) (c.w 6) = true → bitAt (c.w 7) 0 = false → unitsOf (c.w 6) ≤ tierFree s.dev 1 + tierFree s.dev 2 →
      field (c.w 5) 0 16 ≤ 4096 → c.hasList 5 = true → field (c.w 3) 0 32 ≤ c.room → c.dmaFails = false → s.dev.inStep c.tenant = false →
      Completes (.tensorCreate c) s fun d =>
        Answered c .ok 0 (leBytes 4 id ++ leBytes 4 0 ++ leBytes 8 (field (c.w 3) 0 32)) d ∧ 2 ^ 31 ≤ id ∧
        findTensor s.dev c.tenant id = none ∧
        (∃ x, findTensor d c.tenant id = some x ∧ x.size = c.w 6 ∧ x.mode = .inPlace ∧ x.ready = true ∧
          x.bytes.readN (c.w 2) (field (c.w 3) 0 32) = fit (field (c.w 3) 0 32) c.data ∧ x.bytes.wf = true) ∧
        (∀ t : TenantId, t ≠ c.tenant → d.tenant t = s.dev.tenant t) ∧ d.scratch = s.dev.scratch) ∧
    (∀ (c : Call) (s : State) (x : Tensor), Served c s.dev → findTensor s.dev c.tenant (c.w 1 / 2 ^ 32) = some x → x.ready = true →
      field (c.w 1) 0 32 = 0 → x.package = none → rangeOk (c.w 2) (field (c.w 3) 0 32) x.size = true → x.mode = .inPlace →
      field (c.w 5) 0 16 ≤ 4096 → c.hasList 5 = true → field (c.w 3) 0 32 ≤ c.room → c.dmaFails = false → 0 < field (c.w 3) 0 32 →
      (s.dev.inStep c.tenant = false → x.lost = [] → x.bytes.wf = true →
        Completes (.tensorBind c) s fun d =>
          Answered c .ok 0 (leBytes 4 x.id ++ leBytes 4 0 ++ leBytes 8 (field (c.w 3) 0 32)) d ∧
          ∃ y, findTensor d c.tenant x.id = some y ∧ y.size = x.size ∧ y.bytes.wf = true ∧
            ∀ a, y.bytes.read a = if c.w 2 ≤ a ∧ a < c.w 2 + field (c.w 3) 0 32 then (fit (field (c.w 3) 0 32) c.data).getD (a - c.w 2) 0
              else x.bytes.read a) ∧
      (s.dev.inStep c.tenant = true →
        Completes (.tensorBind c) s fun d =>
          (∀ t : TenantId, (d.tenant t).tensors = (s.dev.tenant t).tensors) ∧ Held c s.dev d ∧
          (d.tenant c.tenant).binds.length = (s.dev.tenant c.tenant).binds.length + 1)) ∧
    (∀ (c : Call) (s : State) (x : Tensor), Served c s.dev → c.flag 8 = false → findTensor s.dev c.tenant (field (c.w 1) 0 32) = some x →
      x.ready = true → rangeOk (c.w 2) (c.w 3) x.size = true → x.lost = [] → 0 < c.w 3 → c.w 3 ≤ c.room → field (c.w 5) 0 16 ≤ 4096 →
      c.hasList 5 = true → c.dmaFails = false → atStopPoint s.dev c.tenant = false →
      Completes (.tensorRead c) s fun d =>
        d.out = .hostBuffer c.mbx.val c.tag ((undoTensor (undoLog s.dev c.tenant) x).bytes.readN (c.w 2) (c.w 3)) :: s.dev.out ∧
        Answered c .ok 0 (leBytes 8 (c.w 3) ++ leBytes 8 ((s.dev.tenant c.tenant).nextStep + 2 ^ 64 - 1)) d ∧
        d.tenants = s.dev.tenants ∧ d.scratch = s.dev.scratch) ∧
    (∀ (c : Call) (s : State) (x : Tensor), Served c s.dev → findTensor s.dev c.tenant (field (c.w 1) 0 32) = some x → x.ready = true →
      (field (c.w 2) 0 3 < 5 →
        Completes (.residencyHint c) s fun d => Answered c .ok 0 [] d ∧
          (∃ y, findTensor d c.tenant x.id = some y ∧ y = { x with cls := field (c.w 2) 0 3 }) ∧
          (d.tenant c.tenant).units = (s.dev.tenant c.tenant).units ∧ d.tiers = s.dev.tiers ∧ d.scratch = s.dev.scratch) ∧
      (5 ≤ field (c.w 2) 0 3 → Completes (.residencyHint c) s fun d => Answered c .badParam 0 [] d ∧ d.tenants = s.dev.tenants))

/-- SEED_SET and SEED_FRESH complete with BUSY, and leave the seed unchanged, while a step, a DECODE_RUN or an ANNEAL_RUN of the
tenant is in progress. Otherwise SEED_SET stores the seed of its words and returns its identifier, and SEED_FRESH, with the bits
of its reseed there, stores the DRBG's answer, marked fresh, and returns it with its identifier. Without the bits it waits and
the seed stays. SEED_FRESH_STARTUP_TIMEOUT before start-up completes, and SEED_FRESH_TIMEOUT after it, end the wait with
TIMEOUT. (R294) -/
def Obligations.SeedsAreHeldReturnedOrRefused : Prop :=
  (∀ (c : Call) (s : State), Served c s.dev → seedBusy s.dev c.tenant = true →
      (Completes (.seedSet c) s fun d => Answered c .busy 0 [] d ∧ d.tenants = s.dev.tenants) ∧
      (Completes (.seedFresh c) s fun d => Answered c .busy 0 [] d ∧ d.tenants = s.dev.tenants)) ∧
    (∀ (c : Call) (s : State), Served c s.dev → seedBusy s.dev c.tenant = false →
      (Completes (.seedSet c) s fun d =>
        let v := BitVec.ofNat 128 (c.w 1 + 2 ^ 64 * c.w 2)
        Answered c .ok 0 (bytes16 (seedId v)) d ∧ (d.tenant c.tenant).seed = some { value := v, id := seedId v, fresh := false } ∧
        (∀ t : TenantId, t ≠ c.tenant → (d.tenant t).seed = (s.dev.tenant t).seed) ∧ d.entropy = s.dev.entropy) ∧
      (c.opcode = 0x33 → s.dev.entropy.ready = true → s.dev.entropy.waits = [] → s.dev.entropy.reseedDue = false →
        underTest s.dev 20 = false →
        (1024 ≤ s.dev.entropy.pool.length → Completes (.seedFresh c) s fun d =>
          let v := Config.drbg (s.dev.entropy.absorbed ++ s.dev.entropy.pool.take 1024) s.dev.entropy.generated
          Answered c .ok 0 (leBytes 16 v.toNat ++ bytes16 (seedId v)) d ∧
          (d.tenant c.tenant).seed = some { value := v, id := seedId v, fresh := true } ∧
          d.entropy.pool = s.dev.entropy.pool.drop 1024 ∧ d.entropy.generated = s.dev.entropy.generated + 1) ∧
        (s.dev.entropy.pool.length < 1024 → Completes (.seedFresh c) s fun d =>
          Held c s.dev d ∧ d.entropy.waits = [c] ∧ d.tenants = s.dev.tenants)) ∧
      (s.dev.entropy.broken = true → Completes (.seedFresh c) s fun d => Answered c .faulted 0 [] d ∧ d.tenants = s.dev.tenants)) ∧
    (∀ (s : State) (c : Call), s.dev.entropy.waits = [c] →
      (s.dev.entropy.up = false → s.dev.boot.inReset = false → Completes .seedFreshStartupTimeout s fun d =>
        Answered c .timeout 0 [] d ∧ d.entropy.waits = [] ∧ d.entropy.timedOut = true ∧ s.dev.boot.resetAt + sec ≤ d.now ∧
        d.tenants = s.dev.tenants) ∧
      (s.dev.entropy.up = true → Completes (.seedFreshTimeout c.mbx c.tag) s fun d =>
        Answered c .timeout 0 [] d ∧ d.entropy.waits = [] ∧ d.tenants = s.dev.tenants) ∧
      (s.dev.entropy.up = true → exec .seedFreshStartupTimeout s = .next s))

/-- TENANT_OPEN that is refused for a tenant already open, a rectangle that is not allowed or one that overlaps answers BUSY,
BAD_PARAM or NO_RESOURCE and changes no tenant; otherwise, with the bits of its two keys there, the tenant is open on the
rectangle with its first epoch and its shares, and its keys exist. TENANT_CLOSE of a tenant that is not open answers NOT_OWNER;
with a run in progress and no FORCE, BUSY; otherwise the tenant is closed and holds no seed, package, tensor or model, and its
keys are gone. (R192, R195, R216, R268, R296) -/
def Obligations.TenantsOpenOnFreeRectanglesAndCloseEmpty : Prop :=
  (∀ (c : Call) (s : State) (st : Status), Served c s.dev → openRefusal c s.dev = some st →
      Completes (.tenantOpen c) s fun d => Answered c st 0 [] d ∧ d.tenants = s.dev.tenants ∧ (st = .busy ∨ st = .badParam ∨ st = .noResource) ∧
        ((s.dev.tenant (namedTenant c)).isOpen = true → st = .busy)) ∧
    (∀ (c : Call) (s : State), Served c s.dev → openRefusal c s.dev = none → c.opcode = 0x10 → s.dev.entropy.ready = true →
      s.dev.entropy.waits = [] → s.dev.entropy.reseedDue = false → underTest s.dev 20 = false → 2048 ≤ s.dev.entropy.pool.length →
      Completes (.tenantOpen c) s fun d =>
        Answered c .ok 0 [BitVec.ofNat 8 (namedTenant c).val] d ∧
        (d.tenant (namedTenant c)).isOpen = true ∧ (d.tenant (namedTenant c)).rect = openRect c ∧
        (d.tenant (namedTenant c)).shares = (s.dev.tenant (namedTenant c)).shares ∧ (d.tenant (namedTenant c)).epoch.number = 1 ∧
        (d.tenant (namedTenant c)).epoch.bad = badSites s.dev ∧ (d.tenant (namedTenant c)).seed = none ∧
        d.tiers.keys.getLsbD (namedTenant c).val = true ∧
        (∀ t : TenantId, t ≠ namedTenant c → (d.tenant t).isOpen = (s.dev.tenant t).isOpen ∧ (d.tenant t).tensors = (s.dev.tenant t).tensors ∧
          d.tiers.keys.getLsbD t.val = s.dev.tiers.keys.getLsbD t.val)) ∧
    (∀ (c : Call) (s : State) (t : TenantId), Served c s.dev → t = namedTenant c →
      ((s.dev.tenant t).isOpen = false → Completes (.tenantClose c) s fun d => Answered c .notOwner 0 [] d ∧ d.tenants = s.dev.tenants) ∧
      ((s.dev.tenant t).isOpen = true → running s.dev t = true → c.flag 8 = false →
        Completes (.tenantClose c) s fun d => Answered c .busy 0 [] d ∧ d.tenants = s.dev.tenants) ∧
      ((s.dev.tenant t).isOpen = true → (running s.dev t = false ∨ c.flag 8 = true) → s.dev.commits = [] →
        Completes (.tenantClose c) s fun d =>
          Answered c .ok 0 [] d ∧ (d.tenant t).isOpen = false ∧ (d.tenant t).seed = none ∧ (d.tenant t).packages = [] ∧
          (d.tenant t).tensors = [] ∧ (d.tenant t).models = [] ∧ (d.tenant t).runState = .none ∧
          (d.tenant t).shares = (s.dev.tenant t).shares ∧ d.tiers.keys.getLsbD t.val = false ∧
          (∀ v : Fin 9216, tenantOfVtile d v.val ≠ some t)))

/-- TRNG_BLOCK outside reset and BACKUP: a block that fails the repetition or the proportion test is discarded and marks its source;
a good block during start-up counts and gives no bits; a good one after it adds its conditioned bits to the pool. DRBG_RESEED
with 1,024 conditioned bits there takes them, and the request count starts again; with fewer the reseed stays due. DRBG_KAT that
fails makes every waiting command FAULTED; one that passes changes nothing. (R325, R326, R327, R329, R330, R331) -/
def Obligations.TheEntropySourceTestsGathersAndReseeds : Prop :=
  (∀ (k : Fin 4) (raw : BitVec 1024) (kat : Bool) (s : State), s.dev.boot.inReset = false → s.dev.power.state ≠ .backup →
      s.dev.entropy.stopped = false →
      let bad := (rctGo raw 1024 0 (s.dev.entropy.src[k.val]'k.isLt).run false).2 || decide (795 ≤ aptCount raw)
      (bad = true → Completes (.trngBlock k raw kat) s fun d =>
        (d.entropy.src[k.val]'k.isLt).ok = false ∧ d.entropy.pool = s.dev.entropy.pool ∧ d.entropy.startup = s.dev.entropy.startup ∧
        d.tenants = s.dev.tenants) ∧
      (bad = false → s.dev.entropy.startup < 1024 → Completes (.trngBlock k raw kat) s fun d =>
        (d.entropy.src[k.val]'k.isLt).ok = true ∧ d.entropy.startup = s.dev.entropy.startup + 1 ∧ d.entropy.pool = s.dev.entropy.pool) ∧
      (bad = false → 1024 ≤ s.dev.entropy.startup → s.dev.entropy.instantiated = true → s.dev.entropy.waits = [] →
        s.dev.entropy.reseedDue = false → Completes (.trngBlock k raw kat) s fun d =>
        d.entropy.pool = (s.dev.entropy.pool ++ conditioned (s.dev.entropy.src[k.val]'k.isLt).mode raw).take 2048 ∧
        d.entropy.absorbed = s.dev.entropy.absorbed)) ∧
    (∀ s : State, s.dev.entropy.ready = true → s.dev.entropy.waits = [] → underTest s.dev 20 = false →
      (1024 ≤ s.dev.entropy.pool.length → Completes .drbgReseed s fun d =>
        d.entropy.absorbed = s.dev.entropy.absorbed ++ s.dev.entropy.pool.take 1024 ∧ d.entropy.requests = 0 ∧
        d.entropy.pool = s.dev.entropy.pool.drop 1024 ∧ d.entropy.reseeded = d.now ∧
        (s.dev.entropy.requests < 65536 → s.dev.entropy.reseeded + sec ≤ d.now)) ∧
      (s.dev.entropy.pool.length < 1024 → Completes .drbgReseed s fun d =>
        d.entropy.reseedDue = true ∧ d.entropy.pool = s.dev.entropy.pool ∧ d.entropy.absorbed = s.dev.entropy.absorbed)) ∧
    (∀ s : State, exec (.drbgKat false) s = .next s) ∧
    (∀ (s : State) (c : Call), s.dev.entropy.ready = true → s.dev.entropy.waits = [c] →
      Completes (.drbgKat true) s fun d => d.entropy.failed = true ∧ d.entropy.waits = [] ∧ Answered c .faulted 0 [] d ∧
        (s.dev.gutter.initDone = true → srcEnabled s.dev 81 = true → shadowed s.dev 81 0 = false → d.gutter.sticky.getLsbD 81 = true))

/-- CHECKPOINT between steps to tier 3 adds the checkpoint of the committed state under the lowest free slot of the tenant; in a
step it waits. RESTORE answers BUSY during a run; a checkpoint that a check refuses answers BAD_PARAM with that reason and
changes no tenant; an accepted one makes the run stopped with the checkpoint's run id, next step and chain, and returns them.
RESTORE with DISCARD takes the slot away and restores nothing; a slot that is not there is UNKNOWN_HANDLE, and one of another
tenant NOT_OWNER. (R551, R552, R555, R556, R557, R627) -/
def Obligations.CheckpointsCaptureCommittedStateAndRestoresCheckIt : Prop :=
  (∀ (c : Call) (s : State) (slot : Nat), Served c s.dev → (s.dev.tenant c.tenant).runId.isSome = true → stepOpen s.dev c.tenant = false →
      (s.dev.tenant c.tenant).run.bind (·.dirty) = none → bitAt (c.w 1) 0 = false → tier3ReadOnly s.dev = false →
      pageBytes (ckptBytes s.dev c.tenant false).length ≤ tier3Free s.dev → freeSlot s.dev = some slot →
      Completes (.checkpoint c) s fun d =>
        Finished c .ok d ∧ 1 ≤ slot ∧ slot ≤ 65535 ∧ (∀ x ∈ s.dev.tiers.t3.checkpoints, x.slot ≠ slot) ∧
        d.tiers.t3.checkpoints = s.dev.tiers.t3.checkpoints ++ [{ slot := slot, tenant := c.tenant.val, bytes := ckptBytes s.dev c.tenant false }] ∧
        (d.tenant c.tenant).nextStep = (s.dev.tenant c.tenant).nextStep ∧ d.scratch = s.dev.scratch) ∧
    (∀ (c : Call) (s : State), Served c s.dev → (s.dev.tenant c.tenant).runId.isSome = true → stepOpen s.dev c.tenant = true →
      Completes (.checkpoint c) s fun d => Held c s.dev d ∧ d.tiers = s.dev.tiers ∧
        (d.tenant c.tenant).checkpoints.length = (s.dev.tenant c.tenant).checkpoints.length + 1) ∧
    (∀ (c : Call) (s : State), Served c s.dev →
      (running s.dev c.tenant = true → Completes (.restore c) s fun d => Answered c .busy 0 [] d ∧ d.tenants = s.dev.tenants) ∧
      (∀ (seed : Seed) (x : StoredCheckpoint), running s.dev c.tenant = false → (s.dev.tenant c.tenant).seed = some seed →
        bitAt (c.w 1) 0 = false → s.dev.tiers.t3.checkpoints = [x] → x.slot = field (c.w 1) 16 16 → x.tenant = c.tenant.val →
        (∀ r : Nat, ckptRefusal s.dev c.tenant seed.id x.bytes = some r →
          Completes (.restore c) s fun d => Answered c .badParam r [] d ∧ d.tenants = s.dev.tenants ∧ d.scratch = s.dev.scratch) ∧
        (ckptRefusal s.dev c.tenant seed.id x.bytes = none →
          Completes (.restore c) s fun d =>
            Answered c .ok 0 (slice x.bytes 32 16) d ∧ (d.tenant c.tenant).runId = some (leAt x.bytes 32 8) ∧
            (d.tenant c.tenant).nextStep = leAt x.bytes 40 8 ∧ (d.tenant c.tenant).runState = .stopped ∧
            (d.tenant c.tenant).chain = BitVec.ofNat 128 (ofBe (slice x.bytes 64 16)) ∧ d.tiers.t3 = s.dev.tiers.t3))) ∧
    (∀ (c : Call) (s : State) (x : StoredCheckpoint), Served c s.dev → bitAt (c.w 1) 0 = false → s.dev.tiers.t3.checkpoints = [x] →
      (x.slot = field (c.w 1) 16 16 → x.tenant = c.tenant.val → Completes (.restoreDiscard c) s fun d =>
        Answered c .ok 0 [] d ∧ d.tiers.t3.checkpoints = [] ∧ d.tenants = s.dev.tenants) ∧
      (x.slot = field (c.w 1) 16 16 → x.tenant ≠ c.tenant.val → Completes (.restoreDiscard c) s fun d =>
        Answered c .notOwner 0 [] d ∧ d.tiers = s.dev.tiers) ∧
      (x.slot ≠ field (c.w 1) 16 16 → Completes (.restoreDiscard c) s fun d =>
        Answered c .badParam rsnUnknownHandle [] d ∧ d.tiers = s.dev.tiers))

/-- SLATE_DRAIN moves the 16 oldest records of the buffer to the ring, whose oldest pages make room, and does nothing with fewer.
SIGN_RECORD at a full range starts the next range after it; before that it does nothing. SLATE_RECORD_COMMIT of a waiting record
that belongs to no step, with room in the buffer, appends it with the next SEQ. SLATE_READ writes the records from the SEQ named
that the mailbox may see; ADVANCE_MARK on a tenant's mailbox answers NOT_OWNER. (R539, R544, R545, R546, R547, R627) -/
def Obligations.TheSlateDrainsSignsAndReadsInOrder : Prop :=
  (∀ s : State,
      (s.dev.slate.buffer.length < 16 → exec .slateDrain s = .next s) ∧
      (16 ≤ s.dev.slate.buffer.length → Completes .slateDrain s fun d =>
        d.slate.buffer = s.dev.slate.buffer.drop 16 ∧
        d.slate.ring = s.dev.slate.ring.drop (16 * ((s.dev.slate.ring.length + 16 - ringCells + 15) / 16)) ++ s.dev.slate.buffer.take 16 ∧
        d.slate.nextSeq = s.dev.slate.nextSeq ∧ d.scratch = s.dev.scratch)) ∧
    (∀ s : State, (signPoint s.dev = none → exec .signRecord s = .next s) ∧
      (∀ last : Nat, signPoint s.dev = some last → slateRoom s.dev = true → s.dev.slate.waiting = [] →
        Completes .signRecord s fun d => d.slate.signFrom = last + 1 ∧ d.slate.nextSeq = s.dev.slate.nextSeq + 1 ∧
          (∃ b, d.slate.buffer = s.dev.slate.buffer ++ [(s.dev.slate.nextSeq, b)] ∧ kindOf b = recSign) ∧ d.tenants = s.dev.tenants)) ∧
    (∀ (s : State) (w : SlateWait) (rest : List SlateWait), s.dev.slate.waiting = w :: rest → w.kind ≠ recStep →
      (slateRoom s.dev = true → Completes .slateRecordCommit s fun d =>
        d.slate.waiting = rest ∧ d.slate.nextSeq = s.dev.slate.nextSeq + 1 ∧
        d.slate.buffer = s.dev.slate.buffer ++ [(s.dev.slate.nextSeq, sealRecord s.dev.slate.nextSeq (moduleTime s.dev) s.dev.slate.prev w.record)]) ∧
      (slateRoom s.dev = false → exec .slateRecordCommit s = .next s)) ∧
    (∀ (c : Call) (s : State), Served c s.dev →
      (c.mbx.val < 8 → c.flag 8 = true → Completes (.slateRead c) s fun d => Answered c .notOwner 0 [] d ∧ d.slate = s.dev.slate) ∧
      (c.mbx.val < 8 → c.flag 8 = false → c.flag 9 = false → field (c.w 4) 0 16 ≤ 4096 → c.hasList 4 = true → c.dmaFails = false →
        let from_ := max (c.w 1) (((heldRecords s.dev).head?.map (·.1)).getD (c.w 1))
        let recs := ((heldRecords s.dev).filter fun r => decide (from_ ≤ r.1) &&
          (decide (leAt r.2 9 1 = c.tenant.val) || decide (leAt r.2 9 1 = moduleRecord))).take (c.w 2)
        (recs.flatMap (·.2)).length ≤ c.room → recs.flatMap (·.2) ≠ [] →
        Completes (.slateRead c) s fun d =>
          d.out = .hostBuffer c.mbx.val c.tag (recs.flatMap (·.2)) :: s.dev.out ∧
          Answered c .ok 0 (leBytes 8 ((recs.head?.map (·.1)).getD from_) ++ leBytes 8 recs.length ++ leBytes 8 s.dev.slate.readMark) d ∧
          d.slate = s.dev.slate))

/-- While a run of the tenant is in progress, STEP_RUN, DECODE_RUN, ANNEAL_RUN and REPLAY_BEGIN answer BUSY and change no tenant.
Otherwise, with the package, tensors or model and the seed that they name there and with values that the rules allow, the
tenant's run is running with that run id and next step, under the command, with the tenant's seed and what it asks for; the
command stays in execution. STEP_RUN with a period outside 1 ms to 1 s is refused with BAD_PARAM. (R297, R303, R502, R528, R558,
R580, R621) -/
def Obligations.RunCommandsBeginARunOrAreRefused : Prop :=
  (∀ (c : Call) (s : State), Served c s.dev → running s.dev c.tenant = true → ∀ i ∈ [Instr.stepRun c, .decodeRun c, .annealRun c, .replayBegin c],
      Completes i s fun d => Answered c .busy 0 [] d ∧ d.tenants = s.dev.tenants) ∧
    (∀ (c : Call) (s : State) (p : Package) (seed : Seed), Served c s.dev → running s.dev c.tenant = false →
      (s.dev.tenant c.tenant).packages.find? (fun k => decide (k.handle = field (c.w 1) 0 32)) = some p → p.ready = true →
      (s.dev.tenant c.tenant).seed = some seed → spanRefusal s.dev (List.range p.decl.extent) = none →
      ((field (c.w 5) 0 30 ≠ 0 → field (c.w 5) 0 30 < 1000 ∨ 1000000 < field (c.w 5) 0 30 →
          Completes (.stepRun c) s fun d => Answered c .badParam 0 [] d ∧ d.tenants = s.dev.tenants) ∧
        ((field (c.w 5) 0 30 = 0 ∨ (1000 ≤ field (c.w 5) 0 30 ∧ field (c.w 5) 0 30 ≤ 1000000)) →
          runValuesOk s.dev c.tenant (c.w 2) (c.w 3) (field (c.w 4) 0 32) = none →
          Completes (.stepRun c) s fun d => Held c s.dev d ∧
            (d.tenant c.tenant).runState = .running ∧ (d.tenant c.tenant).runId = some (c.w 2) ∧ (d.tenant c.tenant).nextStep = c.w 3 ∧
            ∃ r, (d.tenant c.tenant).run = some r ∧ r.kind = .steps ∧ r.call = c ∧ r.seed = seed ∧ r.package = some p.handle ∧
              r.budget = p.decl.budget ∧ r.period = field (c.w 5) 0 30 * us ∧ r.step = none ∧ r.begun = false ∧
              r.left = if field (c.w 4) 0 32 = 0 then none else some (field (c.w 4) 0 32)) ∧
        (field (c.w 4) 32 4 ≤ 8 → 16 * (field (c.w 4) 32 4 + 1) ≤ p.decl.budget → p.decl.decodes = true →
          rowParamsOk { n := 1, temp := BitVec.ofNat 32 (field (c.w 5) 0 32), topK := field (c.w 6) 0 11,
                        topP := BitVec.ofNat 32 (field (c.w 5) 32 32), stream := field (c.w 6) 16 8, row := 0 } 65536 = true →
          (∃ x, findTensor s.dev c.tenant (field (c.w 7) 0 32) = some x ∧ x.ready = true) →
          (field (c.w 7) 32 32 = 0 ∨ ∃ x, findTensor s.dev c.tenant (field (c.w 7) 32 32) = some x ∧ x.ready = true) →
          runValuesOk s.dev c.tenant (c.w 2) (c.w 3) 0 = none →
          Completes (.decodeRun c) s fun d => Held c s.dev d ∧
            (d.tenant c.tenant).runState = .running ∧ (d.tenant c.tenant).runId = some (c.w 2) ∧ (d.tenant c.tenant).nextStep = c.w 3 ∧
            ∃ r, (d.tenant c.tenant).run = some r ∧ r.call = c ∧ r.seed = seed ∧ r.package = some p.handle ∧ r.period = 0 ∧ r.left = none ∧
              ∃ temp topK topP stream, r.kind = .decode (field (c.w 4) 0 32) (field (c.w 4) 32 4) temp topK topP stream
                (field (c.w 7) 0 32) (field (c.w 7) 32 32)))) ∧
    (∀ (c : Call) (s : State) (m : Model) (x : Tensor) (seed : Seed), Served c s.dev → running s.dev c.tenant = false →
      findModel s.dev c.tenant (field (c.w 1) 0 32) = some m → findTensor s.dev c.tenant (field (c.w 2) 0 32) = some x → x.ready = true →
      x.lost = [] → (s.dev.tenant c.tenant).seed = some seed → runRefusal s.dev m (x.bytes.readN 0 (min x.size 1320)) = none →
      spanRefusal s.dev (modelSpans m) = none →
      runValuesOk s.dev c.tenant (rdRunId (x.bytes.readN 0 (min x.size 1320))) (rdStep0 (x.bytes.readN 0 (min x.size 1320))) 0 = none →
      Completes (.annealRun c) s fun d => Held c s.dev d ∧ (d.tenant c.tenant).runState = .running ∧
        (d.tenant c.tenant).runId = some (rdRunId (x.bytes.readN 0 (min x.size 1320))) ∧
        (d.tenant c.tenant).nextStep = rdStep0 (x.bytes.readN 0 (min x.size 1320)) ∧
        ∃ r, (d.tenant c.tenant).run = some r ∧ r.call = c ∧ r.seed = seed ∧ r.package = m.package ∧
          r.kind = .anneal m.handle (x.bytes.readN 0 (min x.size 1320)) (c.flag 8)) ∧
    (∀ (c : Call) (s : State) (p : Replay) (seed : Seed) (b : List Byte), Served c s.dev → running s.dev c.tenant = false →
      (∀ id ∈ [field (c.w 4) 0 32, field (c.w 4) 32 32, field (c.w 5) 0 32], ∃ x, findTensor s.dev c.tenant id = some x ∧ x.ready = true) →
      (s.dev.tenant c.tenant).seed = some seed → p.expected = field (c.w 4) 0 32 → c.w 2 ≤ c.w 3 → c.w 3 < 2 ^ 48 →
      ((s.dev.tenant c.tenant).runId = some (c.w 1) → (s.dev.tenant c.tenant).nextStep = c.w 2) →
      (let lead := firstExpected s.dev c.tenant (field (c.w 4) 0 32)
       if kindOf lead = recStep ∧ leAt lead 32 8 + 1 = c.w 2 ∧ leAt lead 40 8 = c.w 1 then
         (s.dev.tenant c.tenant).runId = some (c.w 1) ∧ slice lead 128 16 = bytes16 (s.dev.tenant c.tenant).chain
       else (s.dev.tenant c.tenant).runId ≠ some (c.w 1) ∨ (s.dev.tenant c.tenant).chain = chainInit (c.w 1) seed.id) →
      expectedStep s.dev c.tenant p (c.w 1) (c.w 2) = some b → slice b 64 16 = List.replicate 16 0 →
      (s.dev.tenant c.tenant).packages = [] →
      Completes (.replayBegin c) s fun d => Held c s.dev d ∧ (d.tenant c.tenant).runState = .running ∧
        (d.tenant c.tenant).runId = some (c.w 1) ∧ (d.tenant c.tenant).nextStep = c.w 2 ∧
        ∃ r q, (d.tenant c.tenant).run = some r ∧ r.replay = some q ∧ q.first = c.w 2 ∧ q.last = c.w 3 ∧ q.keepGoing = c.flag 9 ∧
          r.call = c ∧ r.step = none)

/-- STEP_BOUNDARY of a paced run of the module alone that nothing holds back creates, not before it is due, the step with the run's
next value. STEP_START of an unpaced run creates and starts that step, and one that is created starts with its manifest; every
vtile of the run then stands at the step entry address. PHASE_END appends the digest of the next phase. REPLAY_CONTINUE at a
stop point lets the step go on, and elsewhere is refused with STEP_SEQUENCE. STEP_ABORT latches the run commands that it names
and returns their number. (R31, R78, R505, R522, R560, R580, R622) -/
def Obligations.StepsStartEndPhasesAndHalt : Prop :=
  (∀ (t : TenantId) (s : State) (r : Run), (s.dev.tenant t).run = some r →
      (running s.dev t = false → exec (.stepBoundary t) s = .next s ∧ exec (.stepStart t) s = .next s) ∧
      (running s.dev t = true → r.barrier = none → r.replay = none → spanBound s.dev t = false → drainHolds s.dev t = false →
        awake s.dev = true → latchOf s.dev r.call ≠ .flush → runRoom s.dev r = true →
        (0 < r.period → r.idle = true → r.released = false →
          Completes (.stepBoundary t) s fun d => (∃ st, d.stepOf t = some st ∧ st.n = (s.dev.tenant t).nextStep ∧ st.started = false) ∧
            (r.begun = true → r.lateAt = none → r.due ≤ d.now) ∧ (d.tenant t).nextStep = (s.dev.tenant t).nextStep) ∧
        (r.redo = none → r.committing = none → r.recorded = false → regionTest s.dev t = false →
          (r.period = 0 → r.step = none →
            Completes (.stepStart t) s fun d => (∃ st, d.stepOf t = some st ∧ st.n = (s.dev.tenant t).nextStep ∧ st.started = true) ∧
              (d.tenant t).posted = [] ∧ (d.tenant t).frames = 0 ∧
              (∀ n ∈ runVtiles s.dev t, (vt d (refOf n)).pc = ((runDecl s.dev t).map (·.entry)).getD 0 ∧ (vt d (refOf n)).ended = false)) ∧
          (∀ st : Step, r.step = some st → st.started = false →
            Completes (.stepStart t) s fun d => ∃ st', d.stepOf t = some st' ∧ st'.n = st.n ∧ st'.started = true ∧ st'.manifest = st.manifest ∧
              st'.intakeHash = st.intakeHash)))) ∧
    (∀ (t : TenantId) (s : State) (r : Run) (st : Step) (cy : Nat) (far : List (List Byte)) (p : PackageDecl),
      (s.dev.tenant t).run = some r → r.step = some st → st.started = true → runDecl s.dev t = some p →
      (st.halted = false → r.committing = none → r.recorded = false → r.kind = .steps → (s.dev.tenant t).pair = none → st.phases.length < p.phases.length →
        Completes (.phaseEnd t cy far) s fun d => (∃ st' g, d.stepOf t = some st' ∧ st'.phases = st.phases ++ [(st.phases.length, g)] ∧
          st'.n = st.n ∧ (st'.halted = true ↔ ∃ q, r.replay = some q ∧ q.stop = some (st.n, st.phases.length))) ∧ d.scratch = s.dev.scratch) ∧
      (p.phases.length ≤ st.phases.length → exec (.phaseEnd t cy far) s = .next s)) ∧
    (∀ (c : Call) (s : State), Served c s.dev →
      (running s.dev c.tenant = true → atStopPoint s.dev c.tenant = true →
        Completes (.replayContinue c) s fun d => Answered c .ok 0 [] d ∧ atStopPoint d c.tenant = false ∧ d.scratch = s.dev.scratch) ∧
      (atStopPoint s.dev c.tenant = false →
        Completes (.replayContinue c) s fun d => Answered c .badParam rsnStepSequence [] d ∧ d.tenants = s.dev.tenants)) ∧
    (∀ (c : Call) (s : State), EngineServed c s.dev → c.opcode = 0x31 → atStopPoint s.dev c.tenant = false →
      let named := fun (x : Started) => runOpcode x.call.opcode && decide (x.call.tenant = c.tenant) &&
        (decide (field (c.w 1) 0 32 = 0) || decide (x.call.tag.toNat = field (c.w 1) 0 32))
      Completes (.stepAbort c) s fun d =>
        Answered c .ok 0 (leBytes 4 (((s.dev.host.mbx.toList.flatMap (·.started)).filter named).length)) d ∧
        (∀ m : MailboxId, ∀ x ∈ (d.mb m).started, named x = true → x.latch ≠ .none) ∧ d.tenants = s.dev.tenants)

/-- END_OF_STEP_SEQUENCE of a STEP_RUN step whose vtiles have ended, with room, commits one STEP record, moves the next step past it
and the chain to the value over its inputs, and leaves no step in progress; without Slate room its record waits and the next
step stays. An invalid step that may be rerun posts STEP_INVALID with its reason and MORE = 1, keeps the next step and the
chain, and stands to be rerun; STEP_RERUN makes it the step in progress again, with its manifest, marked RERUN. A step that has
not started does not end. (R28, R29, R527, R529, R532, R533, R545) -/
def Obligations.TheEndOfAStepCommitsRerunsOrWaits : Prop :=
  (∀ (t : TenantId) (s : State) (r : Run) (st : Step) (cy : Nat) (far : List (List Byte)), (s.dev.tenant t).run = some r → r.step = some st →
      r.kind = .steps → r.replay = none → r.committing = none → r.recorded = false → running s.dev t = true →
      (st.started = false → exec (.endOfStepSequence t cy far false) s = .next s) ∧
      (st.started = true → st.halted = false → st.reason = none → (runVtiles s.dev t).all (fun n => (vt s.dev (refOf n)).ended) = true →
        (slateRoom s.dev = true → s.dev.slate.waiting = [] → runRoom s.dev r = true →
          Completes (.endOfStepSequence t cy far false) s fun d =>
            (d.tenant t).nextStep = st.n + 1 ∧ d.stepOf t = none ∧
            (∃ o, (d.tenant t).chain = chainNext (s.dev.tenant t).chain st.n st.intakeHash (hostDigest (s.dev.tenant t).hostInputs) o) ∧
            (∃ b rest, d.slate.buffer = s.dev.slate.buffer ++ (s.dev.slate.nextSeq, b) :: rest ∧ kindOf b = recStep ∧ leAt b 32 8 = st.n % 2 ^ 64)) ∧
        (slateRoom s.dev = false →
          Completes (.endOfStepSequence t cy far false) s fun d =>
            (d.tenant t).nextStep = (s.dev.tenant t).nextStep ∧ (d.stepOf t).isSome = true ∧ (d.tenant t).chain = (s.dev.tenant t).chain ∧
            d.slate.waiting.length = s.dev.slate.waiting.length + 1 ∧ d.slate.buffer = s.dev.slate.buffer)) ∧
      (∀ reason : Nat, st.started = true → st.halted = false → st.reason = some reason → st.overflowed = false → 1 ≤ reason → reason ≤ 7 →
        r.rerun = false → latchOf s.dev r.call ≠ .flush → slateRoom s.dev = true → s.dev.slate.waiting = [] → runRoom s.dev r = true →
        Completes (.endOfStepSequence t cy far false) s fun d =>
          (d.tenant t).nextStep = (s.dev.tenant t).nextStep ∧ (d.tenant t).chain = (s.dev.tenant t).chain ∧
          (∃ r' st', (d.tenant t).run = some r' ∧ r'.step = none ∧ r'.redo = some st' ∧ st'.n = st.n ∧ st'.manifest = st.manifest) ∧
          ∃ k, (d.mb r.call.mbx).overflow.getLast? = some k ∧ k.status = .stepInvalid ∧ k.reason = reason ∧ k.more = true)) ∧
    (∀ (t : TenantId) (s : State) (r : Run), (s.dev.tenant t).run = some r →
      (r.redo = none → exec (.stepRerun t) s = .next s) ∧
      (∀ st : Step, r.redo = some st → st.reason ≠ some 5 → running s.dev t = true → runRoom s.dev r = true →
        Completes (.stepRerun t) s fun d => (d.tenant t).nextStep = (s.dev.tenant t).nextStep ∧
          ∃ r' st', (d.tenant t).run = some r' ∧ r'.redo = none ∧ r'.rerun = true ∧ r'.step = some st' ∧ st'.n = st.n ∧
            st'.manifest = st.manifest ∧ st'.started = false ∧ st'.reason = none ∧ st'.flags.getLsbD 0 = true))

/-- MIRROR_COPY takes the next page of the vtile that is still to be copied, and does nothing when none is left.
UNPLANNED_LOSS_RECOVERY of a step that waits, with the vtiles placed and a complete mirror at an earlier step, gives a complete
mirror at the lost step when no regenerated digest differs from the committed one; a digest that differs stops the run with
REGEN_MISMATCH, and the loss of every complete mirror stops it too. (R70, R71, R72, R73, R279) -/
def Obligations.MirrorsCopyAndRegenerationChecksDigests : Prop :=
  (∀ (v : VtileRef) (s : State),
      ((vt s.dev v).uncopied = [] → exec (.mirrorCopy v) s = .next s) ∧
      (∀ (t : TenantId) (p : Nat) (rest : List Nat), tenantOfVtile s.dev v.vtile.val = some t → (vt s.dev v).uncopied = p :: rest →
        (runDecl s.dev t).isSome = true →
        Completes (.mirrorCopy v) s fun d => (vt d v).uncopied = rest ∧ d.scratch = s.dev.scratch ∧
          (∀ w : VtileRef, vtNum w ≠ vtNum v → vt d w = vt s.dev w))) ∧
    (∀ (t : TenantId) (s : State) (r : Run) (st : Step) (regen : List (List (List Byte))) (areas : List (VtileRef × List Byte)),
      (s.dev.tenant t).run = some r → r.redo = some st → running s.dev t = true → mappingReady s.dev t = true →
      (∀ m : Mirror, (s.dev.tenant t).mirrors.find? (·.complete) = some m → m.next < st.n →
        ((∀ i, i < st.n - m.next → ∀ o, assoc (s.dev.tenant t).digests (m.next + i) = some o →
            o = outputDigest (regen.getD i []) (m.next + i)) →
          Completes (.unplannedLossRecovery t regen areas) s fun d =>
            (∃ q ∈ (d.tenant t).mirrors, q.next = st.n ∧ q.complete = true ∧ q.areas = areas.map fun a => (vtNum a.1, a.2.length / 4096, a.2)) ∧
            (d.tenant t).runState = .running ∧ d.gutter = s.dev.gutter) ∧
        ((∃ i, i < st.n - m.next ∧ ∃ o, assoc (s.dev.tenant t).digests (m.next + i) = some o ∧
            o ≠ outputDigest (regen.getD i []) (m.next + i)) →
          Completes (.unplannedLossRecovery t regen areas) s fun d => (d.tenant t).runState = .stopped ∧
            (s.dev.gutter.initDone = true → srcEnabled s.dev 40 = true → shadowed s.dev 40 t.val = false → d.gutter.sticky.getLsbD 40 = true))) ∧
      ((s.dev.tenant t).mirrors.find? (·.complete) = none →
        Completes (.unplannedLossRecovery t regen areas) s fun d => (d.tenant t).runState = .stopped))

/-- With a seed, a Strainer that is not fenced, parameters that Table 11-1 allows and the row in its buffers, SAMPLE_ROW answers OK
with the record of the draw from its scores, and SPEC_VERIFY, whose draft records are valid and whose drafted tokens have
weight, with the record of the verified group. A row outside its parameters, a SPEC_VERIFY of no or more than 8 drafts, or of a
draft record outside them is BAD_PARAM; without a seed the answer is NO_SEED. Nothing of the grid changes. (R297, R413, R415,
R425, R430, R431) -/
def Obligations.HostRowsAreDrawnOrRefused : Prop :=
  (∀ (c : Call) (s : State), Served c s.dev →
      (rowParamsOk (packedRow c) 65536 = false → ∀ i ∈ [Instr.sampleRow c, .specVerify c],
        Completes i s fun d => Answered c .badParam 0 [] d ∧ d.tenants = s.dev.tenants ∧ d.strainers = s.dev.strainers) ∧
      ((field (c.w 3) 16 4 = 0 ∨ 8 < field (c.w 3) 16 4) →
        Completes (.specVerify c) s fun d => Answered c .badParam 0 [] d ∧ d.strainers = s.dev.strainers) ∧
      (rowParamsOk (packedRow c) 65536 = true → (s.dev.tenant c.tenant).seed = none →
        Completes (.sampleRow c) s fun d => Answered c .noSeed 0 [] d ∧ d.tenants = s.dev.tenants)) ∧
    (∀ (c : Call) (s : State) (seed : Seed) (k : StrainerId), Served c s.dev → rowParamsOk (packedRow c) 65536 = true →
      (s.dev.tenant c.tenant).seed = some seed → hostStrainer s.dev = some k → field (c.w 6) 0 16 ≤ 4096 → c.hasList 6 = true → c.dmaFails = false →
      let p := packedRow c
      let need := p.n * scoreBytes p.fmt
      need ≤ c.room →
      Completes (.sampleRow c) s fun d =>
        let rec_ := rowRecord (rowDraw (rowKept p (hostBlocks p (scoresAt (fit need c.data) p.fmt 0 p.n)))
          (hostUniform seed.value p.stream (field (c.w 4) 0 48) p.row 0)) false
        Answered c .ok 0 rec_ d ∧ (d.strainer k).result = rec_ ∧ d.scratch = s.dev.scratch ∧ d.gutter = s.dev.gutter ∧
        (∀ t : TenantId, t ≠ c.tenant → d.tenant t = s.dev.tenant t)) ∧
    (∀ (c : Call) (s : State) (seed : Seed) (k : StrainerId), Served c s.dev → rowParamsOk (packedRow c) 65536 = true →
      (s.dev.tenant c.tenant).seed = some seed → hostStrainer s.dev = some k → field (c.w 6) 0 16 ≤ 4096 → c.hasList 6 = true → c.dmaFails = false →
      let p := packedRow c
      let n := field (c.w 3) 16 4
      let len := p.n * scoreBytes p.fmt
      let need := (n + 1) * len + n * (16 + len)
      let bs := fit need c.data
      let recs := (List.range n).map fun i => (draftAt p bs ((n + 1) * len + i * (16 + len)), (n + 1) * len + i * (16 + len) + 16)
      1 ≤ n → n ≤ 8 → need ≤ c.room →
      ((∃ r ∈ recs, rowParamsOk r.1.1 65536 = false) →
        Completes (.specVerify c) s fun d => Answered c .badParam 0 [] d ∧ d.strainers = s.dev.strainers) ∧
      (let qs := recs.map fun r => { rowKept r.1.1 (hostBlocks r.1.1 (scoresAt bs p.fmt r.2 p.n)) with token := r.1.2 }
       let targets := (List.range (n + 1)).map fun i => rowKept p (hostBlocks p (scoresAt bs p.fmt (i * len) p.n))
       let g := verifyGroup (hostUniform seed.value p.stream (field (c.w 4) 0 48) p.row) qs targets
       (∀ r ∈ recs, rowParamsOk r.1.1 65536 = true) → (∀ q ∈ qs, 0 < weightOf q.set q.token) → g.unstated = false →
        Completes (.specVerify c) s fun d =>
          Answered c .ok 0 (groupRecord g (targets.any (·.kShort)) (targets.any (·.nan) || qs.any (·.nan)) false) d ∧
          d.scratch = s.dev.scratch ∧ d.fresh = s.dev.fresh))

/-- ROW_ADMISSION of a valid row takes it to the Strainer that serves it, in a context or its queue; a row outside the draw budget,
used twice, or with every Strainer fenced invalidates the step and takes no place. CANDIDATE_BLOCK adds the block to its row;
the last one of an ordinary row leaves the record of the draw, which lands in the scratchpad. STRAINER_TIMEOUT of a row that
still lacks blocks completes it with TIMEOUT and invalidates its step. STRAINER_FAULT fences the Strainer, empties it and
invalidates the steps with rows in its contexts. (R318, R414, R421, R425, R443, R444, R446) -/
def Obligations.RowsAreAdmittedGatheredDrawnOrTimedOut : Prop :=
  (∀ (k : StrainerId) (t : TenantId) (p : RowParams) (e g pos size : Nat) (v : VtileRef) (addr : Nat) (s : State) (st : Step),
      s.dev.stepOf t = some st → st.started = true → st.halted = false →
      let q := rowParamsOf s.dev t p
      let ok := rowParamsOk q ((drawKey s.dev t).2.2 / 16) && !repeatsRow st q.stream q.row (if q.kind = .group then pos + 1 else 0)
      (ok = false → Completes (.rowAdmission k t p e g pos size v addr) s fun d =>
        d.strainers = s.dev.strainers ∧ ∃ st', d.stepOf t = some st' ∧ st'.reason.isSome = true) ∧
      (ok = true → serving s.dev k = none → Completes (.rowAdmission k t p e g pos size v addr) s fun d =>
        d.strainers = s.dev.strainers ∧ ∃ st', d.stepOf t = some st' ∧ st'.reason.isSome = true) ∧
      (∀ j : StrainerId, ok = true → serving s.dev k = some j → Completes (.rowAdmission k t p e g pos size v addr) s fun d =>
        (∃ r ∈ (d.strainer j).ctx ++ (d.strainer j).queue, r.tenant = t.val ∧ r.params = q ∧ r.expect = e ∧ r.blocks = [] ∧ r.dest = vtNum v ∧ r.addr = addr) ∧
        ((d.strainer j).ctx ++ (d.strainer j).queue).length = ((s.dev.strainer j).ctx ++ (s.dev.strainer j).queue).length + 1 ∧
        (∀ i : StrainerId, i ≠ j → d.strainer i = s.dev.strainer i) ∧ d.scratch = s.dev.scratch)) ∧
    (∀ (t : TenantId) (stream row pos : Nat) (b : CandBlock) (s : State) (k : StrainerId) (r : RowCtx),
      findRow s.dev t.val stream row pos = some (k, r) →
      (r.blocks.length + 1 < r.expect → Completes (.candidateBlock t stream row pos b) s fun d =>
        { r with blocks := r.blocks ++ [b] } ∈ (d.strainer k).ctx ∧ (d.strainer k).queue = (s.dev.strainer k).queue ∧ d.scratch = s.dev.scratch) ∧
      (r.blocks.length + 1 = r.expect → r.params.kind = .ordinary → s.dev.scratch.wf = true →
        Completes (.candidateBlock t stream row pos b) s fun d =>
          let rec_ := rowRecord (rowDraw (rowKept r.params (r.blocks ++ [b])) (rowUniform s.dev t r.params.stream r.params.row 0)) false
          (d.strainer k).result = rec_ ∧ (spadOk r.addr rec_.length = true → d.scratch.readN (r.dest * 2 ^ 19 + r.addr) rec_.length = rec_)) ∧
      (r.blocks.length < r.expect → r.params.kind ≠ .group → Completes (.strainerTimeout t stream row pos) s fun d =>
        (d.strainer k).result = rowRecord (timeoutOut r.params) true ∧ r.admitted + strainerTimeout s.dev * us ≤ d.now ∧
        (s.dev.inStep t = true → ∃ st, d.stepOf t = some st ∧ st.reason.isSome = true)) ∧
      (r.expect ≤ r.blocks.length → exec (.candidateBlock t stream row pos b) s = .next s ∧ exec (.strainerTimeout t stream row pos) s = .next s)) ∧
    (∀ (k : StrainerId) (s : State), Completes (.strainerFault k) s fun d =>
      (d.strainer k).fenced = true ∧ (d.strainer k).ctx = [] ∧ (d.strainer k).queue = [] ∧
      (∀ j : StrainerId, j ≠ k → (d.strainer j).fenced = (s.dev.strainer j).fenced) ∧
      (∀ t : TenantId, (∃ r ∈ (s.dev.strainer k).ctx, r.tenant = t.val) → s.dev.inStep t = true →
        ∃ st, d.stepOf t = some st ∧ st.reason.isSome = true))

/-- ANNEAL_LOAD_MODEL of a description that a check of R373 refuses answers BAD_PARAM with that reason and adds nothing; one that
fits adds one model under a handle that none has and returns it with the numbers of colours and variables. ANNEAL_SWEEP of a
started annealing step with sweeps left, and the states of other members there when it captures, is one sweep more; with none
left nothing happens. ANNEAL_READ_POOL writes the entries from the rank asked for to the tensor and returns how many.
POOL_CANDIDATE keeps a member's states for each run of that model. (R344, R373, R378, R381, R393, R402, R404) -/
def Obligations.ModelsLoadSweepAndKeepTheirPool : Prop :=
  (∀ (c : Call) (s : State) (desc list : Tensor), Served c s.dev → findTensor s.dev c.tenant (field (c.w 1) 0 32) = some desc → desc.ready = true →
      findTensor s.dev c.tenant (field (c.w 2) 0 32) = some list → list.ready = true → desc.lost = [] → list.lost = [] →
      let nums := ((List.range (list.size / 4)).map fun i => leAt (list.bytes.readN 0 (list.size / 4 * 4)) (4 * i) 4)
      let res := checkModel (desc.bytes.readN 0 desc.size) (s.dev.tenant c.tenant).rect nums (field (c.w 2) 32 8)
      (namesRunning s.dev c.tenant (nums.map vtileOfEntry) = true →
        Completes (.annealLoadModel c) s fun d => Answered c .busy 0 [] d ∧ d.tenants = s.dev.tenants) ∧
      (namesRunning s.dev c.tenant (nums.map vtileOfEntry) = false →
        (∀ e : Nat, res = .error e → Completes (.annealLoadModel c) s fun d => Answered c .badParam e [] d ∧ d.tenants = s.dev.tenants) ∧
        (∀ q : Spread, res = .ok q → q.tooLarge = false → q.energyTooLarge = false →
          ((areaNeeds q (partsOfList (nums.map vtileOfEntry) (field (c.w 2) 32 8))).all fun n =>
            !(carriesIndex s.dev (n.1 / 16384) && decide (vtileSpace < vtileTaken s.dev n.1 + n.2))) = true →
          Completes (.annealLoadModel c) s fun d => ∃ m : Model,
            (d.tenant c.tenant).models = (s.dev.tenant c.tenant).models ++ [m] ∧ m.nvar = q.desc.nvar ∧ m.package = none ∧
            (∀ t : TenantId, (∀ k ∈ (s.dev.tenant t).packages, k.handle ≠ m.handle) ∧ (∀ k ∈ (s.dev.tenant t).models, k.handle ≠ m.handle)) ∧
            Answered c .ok 0 (leBytes 4 m.handle ++ leBytes 1 m.ncolour ++ leBytes 1 (codeOf 8 m.q) ++ leBytes 2 m.w ++ leBytes 4 m.nvar) d))) ∧
    (∀ (t : TenantId) (halos : List HaloMsg) (far : List (Nat × Int × Int)) (dec : List (Nat × Bool)) (locked wait : Nat) (s : State)
        (r : Run) (st : Step) (m : Model) (h : Nat) (bs : List Byte) (sw : Bool),
      (s.dev.tenant t).run = some r → r.step = some st → runModel s.dev t = some m → r.kind = .anneal h bs sw → st.started = true →
      r.committing = none → latchOf s.dev r.call = .none →
      (stepSweeps r bs ≤ st.sweeps → exec (.annealSweep t halos far dec locked wait) s = .next s) ∧
      (st.sweeps < stepSweeps r bs → statesIn s.dev m r (r.captures + st.captures) = true →
        Completes (.annealSweep t halos far dec locked wait) s fun d => ∃ r' st', (d.tenant t).run = some r' ∧ r'.step = some st' ∧
          st'.sweeps = st.sweeps + 1 ∧ st'.n = st.n ∧ r'.swept = r.swept ∧ (d.tenant t).nextStep = (s.dev.tenant t).nextStep)) ∧
    (∀ (c : Call) (s : State) (m : Model) (x : Tensor), Served c s.dev → findModel s.dev c.tenant (field (c.w 1) 0 32) = some m →
      findTensor s.dev c.tenant (field (c.w 3) 0 32) = some x → x.ready = true → x.lost = [] → x.bytes.wf = true →
      let es := (m.pool.drop (field (c.w 2) 0 16)).take (field (c.w 2) 16 16)
      let bs := es.flatMap poolEntryBytes
      (bs.length ≤ x.size → x.mode ≠ .readOnly → Completes (.annealReadPool c) s fun d =>
        Answered c .ok 0 (leBytes 2 es.length ++ leBytes 2 m.pool.length ++ leBytes 1 (codeOf 8 m.q)) d ∧
        ∃ y, findTensor d c.tenant x.id = some y ∧ y.bytes.readN 0 bs.length = bs ∧ y.size = x.size ∧
          ∀ a, bs.length ≤ a → y.bytes.read a = x.bytes.read a) ∧
      ((x.size < bs.length ∨ x.mode = .readOnly) → Completes (.annealReadPool c) s fun d =>
        Answered c .badParam 0 [] d ∧ d.tenants = s.dev.tenants)) ∧
    (∀ (src : SpanIndex) (h cap : Nat) (bs : List Byte) (s : State),
      Completes (.poolCandidate src h cap bs) s fun d =>
        (∀ (t : TenantId) (m : Model) (r : Run), runModel s.dev t = some m → m.handle = h → (s.dev.tenant t).run = some r →
          ∃ r', (d.tenant t).run = some r' ∧
            r'.candidates = r.candidates ++ [(cap, ((memberAt s.dev src.val).map Member.lowest).getD src.val, bs)]) ∧
        (∀ t : TenantId, runModel s.dev t = none → d.tenant t = s.dev.tenant t) ∧ d.scratch = s.dev.scratch)

/-- INTAKE_CONFIGURE with a valid descriptor of an open tenant stages it and changes no context. On a context of its tenant, START
makes an enabled context accept frames from FRAME_SEQ 0; STOP of a started one with a frame to land waits for it, and without
one ends at once; FLUSH takes the frame in progress and the unbound frames away and keeps the bound ones; RELEASE marks the
context released to the frame named. On a context of another tenant the answer is NOT_OWNER, and on a disabled one BAD_PARAM.
(R578, R587, R588, R589) -/
def Obligations.IntakeCommandsActOnTheirContext : Prop :=
  (∀ (c : Call) (s : State) (h : field (c.w 1) 0 5 < 24), Served c s.dev → c.mbx = 8 →
      (s.dev.tenant ⟨(descriptorOf c).tenant % 4, Nat.mod_lt _ (by decide)⟩).isOpen = true → field (c.w 1) 24 2 ≠ 3 → descriptorOk (descriptorOf c) = true →
      (∀ j : ContextId, j ≠ ⟨_, h⟩ → (s.dev.ctx j).state = .disabled) → s.dev.commits = [] →
      Completes (.intakeConfigure c) s fun d => Finished c .ok d ∧
        assoc d.intake.staged (field (c.w 1) 0 5) = some (descriptorOf c) ∧ d.intake.ctx = s.dev.intake.ctx ∧ d.tenants = s.dev.tenants) ∧
    (∀ (c : Call) (s : State) (h : field (c.w 1) 0 5 < 24), Served c s.dev →
      ((s.dev.ctx ⟨_, h⟩).state = .disabled → ∀ i ∈ [Instr.intakeStart c, .intakeStop c, .intakeFlush c, .intakeRelease c],
        Completes i s fun d => Answered c .badParam 0 [] d ∧ d.intake = s.dev.intake) ∧
      ((s.dev.ctx ⟨_, h⟩).state ≠ .disabled → c.mbx.val < 8 → (s.dev.ctx ⟨_, h⟩).desc.tenant ≠ c.tenant.val →
        ∀ i ∈ [Instr.intakeStart c, .intakeStop c, .intakeFlush c, .intakeRelease c],
          Completes i s fun d => Answered c .notOwner 0 [] d ∧ d.intake = s.dev.intake) ∧
      ((c.mbx = 8 ∨ (s.dev.ctx ⟨_, h⟩).desc.tenant = c.tenant.val) →
        let i : ContextId := ⟨_, h⟩
        let x := s.dev.ctx i
        (x.state = .enabled → Completes (.intakeStart c) s fun d =>
          Answered c .ok 0 (controlResult x) d ∧ (d.ctx i).state = .started ∧ (d.ctx i).frameSeq = 0 ∧ (d.ctx i).ring = x.ring) ∧
        (x.state = .started → Completes (.intakeStart c) s fun d => Answered c .ok 0 (controlResult x) d ∧ d.intake = s.dev.intake) ∧
        (x.state = .stopping → (Completes (.intakeStart c) s fun d => Answered c .busy 0 [] d ∧ d.intake = s.dev.intake) ∧
          (Completes (.intakeStop c) s fun d => Answered c .busy 0 [] d ∧ d.intake = s.dev.intake)) ∧
        (x.state = .started → unlanded x = true → Completes (.intakeStop c) s fun d =>
          Held c s.dev d ∧ (d.ctx i).state = .stopping ∧ (d.ctx i).ring = x.ring ∧ (d.ctx i).current = x.current) ∧
        (x.state = .started → unlanded x = false → Completes (.intakeStop c) s fun d =>
          Answered c .ok 0 (controlResult x) d ∧ (d.ctx i).state = .enabled ∧ (d.ctx i).ring = x.ring) ∧
        (x.state ≠ .disabled → Completes (.intakeFlush c) s fun d =>
          Answered c (if unlanded x then .flushed else .ok) 0 (controlResult x) d ∧ (d.ctx i).current = none ∧
          (d.ctx i).ring = x.ring.filter (fun f => f.bound.isSome) ∧ ∀ j : ContextId, j ≠ i → d.ctx j = s.dev.ctx j) ∧
        (x.state ≠ .disabled → Completes (.intakeRelease c) s fun d =>
          Answered c .ok 0 (controlResult x) d ∧ (d.ctx i).hostReleased = some (field (c.w 2) 0 32) ∧ d.tenants = s.dev.tenants)))

/-- CSI_FRAME_START of an accepting context begins a frame with the next number and the module time; one in progress is dropped as a
gap. CSI_LONG_PACKET adds its payload to the frame as far as FRAME_MAX, the ring and the FIFO allow; one with an error drops the
frame, and one of an unsupported type is counted. CSI_FRAME_END ends the frame. AVTP_PDU and UDP_DATAGRAM form frames of their
stream, and what matches none is counted, as ETH_FRAME_DISCARD is. FRAME_LANDED lands the oldest frame, whose bytes then stand
in the ring tensor; FRAME_TIMEOUT drops it as a gap. FRAME_RELEASE frees the frames that are done. (R565, R566, R567, R568,
R569, R571, R572, R573, R578) -/
def Obligations.FramesAreGatheredLandedAndReleased : Prop :=
  (∀ (p vc : Fin 16) (at_ : Nat) (s : State) (c : ContextId), ctxOf s.dev .csi p.val vc.val (fun _ => true) = some c →
      ((s.dev.ctx c).state = .started → Completes (.csiFrameStart p vc at_) s fun d =>
        (d.ctx c).current = some { seq := (s.dev.ctx c).frameSeq, stamp := moduleTimeAt s.dev at_, bytes := [], first := at_, off := (s.dev.ctx c).head } ∧
        (d.ctx c).frameSeq = ((s.dev.ctx c).frameSeq + 1) % 2 ^ 32 ∧ (d.ctx c).ring = (s.dev.ctx c).ring ∧
        ((s.dev.ctx c).current.isSome = true → (d.ctx c).gap = true) ∧ at_ ≤ d.now) ∧
      (∀ f : SensorFrame, (s.dev.ctx c).current = some f → Completes (.csiFrameEnd p vc at_) s fun d =>
        (d.ctx c).current = none ∧ (d.ctx c).ring = (s.dev.ctx c).ring ++ [f] ∧ d.tenants = s.dev.tenants)) ∧
    (∀ (p vc : Fin 16) (dt : Fin 64) (bs : List Byte) (fifo at_ : Nat) (s : State),
      (csiTypes.contains dt.val = false → Completes (.csiLongPacket p vc dt bs false fifo at_) s fun d =>
        Counted .csiUnsupported p.val s.dev d ∧ d.intake = s.dev.intake) ∧
      (∀ (c : ContextId) (f : SensorFrame), csiTypes.contains dt.val = true → ctxOf s.dev .csi p.val vc.val (fun m => bitAt m dt.val) = some c →
        (s.dev.ctx c).state = .started → (s.dev.ctx c).current = some f → f.bytes.length + bs.length ≤ (s.dev.ctx c).desc.frameMax →
        ringUsed (s.dev.ctx c) + bs.length ≤ (s.dev.ctx c).desc.ringBytes → fifo ≤ fifoLimit →
        Completes (.csiLongPacket p vc dt bs false fifo at_) s fun d =>
          (d.ctx c).current = some { f with bytes := f.bytes ++ bs } ∧ (d.ctx c).ring = (s.dev.ctx c).ring) ∧
      (∀ (c : ContextId) (f : SensorFrame), ctxOf s.dev .csi p.val vc.val (fun _ => true) = some c → (s.dev.ctx c).state = .started →
        (s.dev.ctx c).current = some f → Completes (.csiLongPacket p vc dt bs true fifo at_) s fun d =>
          (d.ctx c).current = none ∧ (d.ctx c).gap = true ∧ (d.ctx c).discarding = true ∧ Raised 23 c.val s.dev d)) ∧
    (∀ (p : Fin 4) (st : W64) (q : BitVec 8) (bs : List Byte) (fifo at_ : Nat) (s : State),
      (ctxOf s.dev .avtp p.val st.toNat (fun _ => true) = none → ∀ m : Bool, Completes (.avtpPdu p st q bs m fifo at_) s fun d =>
        Counted .ethDiscards p.val s.dev d ∧ d.intake = s.dev.intake) ∧
      (∀ c : ContextId, ctxOf s.dev .avtp p.val st.toNat (fun _ => true) = some c → (s.dev.ctx c).state = .started →
        (s.dev.ctx c).current = none → (s.dev.ctx c).discarding = false → seqMissing (s.dev.ctx c) q.toNat = false →
        bs.length ≤ (s.dev.ctx c).desc.frameMax → ((s.dev.ctx c).ring.map fun f => f.bytes.length).sum + bs.length ≤ (s.dev.ctx c).desc.ringBytes →
        fifo ≤ fifoLimit →
        (Completes (.avtpPdu p st q bs false fifo at_) s fun d => (∃ f, (d.ctx c).current = some f ∧ f.bytes = bs ∧ f.seq = (s.dev.ctx c).frameSeq) ∧
          (d.ctx c).expect = some ((q.toNat + 1) % 256)) ∧
        (Completes (.avtpPdu p st q bs true fifo at_) s fun d => (d.ctx c).current = none ∧
          ∃ f, (d.ctx c).ring = (s.dev.ctx c).ring ++ [f] ∧ f.bytes = bs ∧ f.seq = (s.dev.ctx c).frameSeq))) ∧
    (∀ (p : Fin 4) (v6 : Bool) (a : BitVec 128) (dp : BitVec 16) (bs : List Byte) (fifo at_ : Nat) (s : State) (c : ContextId),
      ctxOf s.dev .udp p.val a.toNat (fun m => decide (m = dp.toNat + b2n v6 * 65536)) = some c → (s.dev.ctx c).state = .started →
      (s.dev.ctx c).desc.frameLen = 0 → (s.dev.ctx c).desc.seqCheck = false → bs.length ≤ (s.dev.ctx c).desc.frameMax →
      ((s.dev.ctx c).ring.map fun f => f.bytes.length).sum + bs.length ≤ (s.dev.ctx c).desc.ringBytes → fifo ≤ fifoLimit →
      Completes (.udpDatagram p v6 a dp bs fifo at_) s fun d =>
        ∃ f, (d.ctx c).ring = (s.dev.ctx c).ring ++ [f] ∧ f.bytes = bs ∧ f.seq = (s.dev.ctx c).frameSeq ∧ f.landed = none) ∧
    (∀ (p : Fin 4) (s : State), Completes (.ethFrameDiscard p) s fun d => Counted .ethDiscards p.val s.dev d ∧ d.intake = s.dev.intake) ∧
    (∀ (c : ContextId) (at_ : Nat) (s : State) (f : SensorFrame), (s.dev.ctx c).ring.find? (fun f => f.landed.isNone) = some f →
      (Completes (.frameLanded c at_) s fun d => (d.ctx c).lastLanded = some f.seq ∧ (∃ g ∈ (d.ctx c).ring, g.seq = f.seq ∧ g.landed = some at_) ∧
        ∀ (id : Nat) (x : Tensor), (s.dev.ctx c).tensor = some id → findTensor s.dev (ctxTenant s.dev c) id = some x → x.lost = [] →
          x.bytes.wf = true → f.off + f.bytes.length ≤ (s.dev.ctx c).desc.ringBytes →
          ∃ y, findTensor d (ctxTenant s.dev c) id = some y ∧ y.bytes.readN f.off f.bytes.length = f.bytes) ∧
      (Completes (.frameTimeout c) s fun d => (∀ g ∈ (d.ctx c).ring, g.seq = f.seq → g.landed.isSome = true) ∧ (d.ctx c).gap = true ∧
        f.first + frameTimeout (s.dev.ctx c) ≤ d.now ∧ d.tenants.map (·.tensors) = s.dev.tenants.map (·.tensors))) ∧
    (∀ (c : ContextId) (s : State),
      ((∀ f ∈ (s.dev.ctx c).ring, frameDone s.dev (ctxTenant s.dev c) f = true ∧ hostDone (s.dev.ctx c) f = true) →
        Completes (.frameRelease c) s fun d => (d.ctx c).ring = [] ∧ d.tenants = s.dev.tenants) ∧
      (∀ (f : SensorFrame) (rest : List SensorFrame), (s.dev.ctx c).ring = f :: rest → f.released = false →
        (frameDone s.dev (ctxTenant s.dev c) f = false ∨ hostDone (s.dev.ctx c) f = false) →
        Completes (.frameRelease c) s fun d => (d.ctx c).ring.length = (s.dev.ctx c).ring.length ∧ (d.ctx c).ring.head? = some f))

/-- TIME_PPS_EDGE out of its window is counted as rejected; an accepted one, with the pulse as the source and an offset of 1 µs or
more, steps the module time to the second that it marks. GPTP_MESSAGE on another port or with another source leaves the time
base alone. TIME_LOCK_ACQUIRED after eight good seconds locks, TIME_LOCK ten seconds after the last reference unlocks and raises
its source, and RTC_UPDATE while locked sets the clock. FRAME_SYNC_EDGE without a paced SYNC_TENANT run is ignored and counted;
one near the next boundary moves it. The pulses start and end FRAME_SYNC_OUT. INTAKE_LINK and INTAKE_LINK_RESTORED set the state
of the port. (R574, R575, R581, R582, R586, R590, R754, R773) -/
def Obligations.TheTimeBaseFollowsItsReference : Prop :=
  (∀ (at_ : Nat) (s : State), s.dev.boot.inReset = false →
      (ppsAccepts s.dev at_ = false → Completes (.timePpsEdge at_) s fun d => Counted .ppsRejected 0 s.dev d ∧ d.time = s.dev.time) ∧
      (ppsAccepts s.dev at_ = true → timeSource s.dev ≠ .pps → Completes (.timePpsEdge at_) s fun d =>
        d.time = { s.dev.time with lastPps := some at_ } ∧ Counted .ppsAccepted 0 s.dev d) ∧
      (ppsAccepts s.dev at_ = true → timeSource s.dev = .pps → s.dev.now ≤ at_ → 0 < moduleTimeAt s.dev at_ →
        let sec_ := s.dev.time.timeSet.getD ((moduleTimeAt s.dev at_ + 500 * ms) / sec)
        (moduleTimeAt s.dev at_ + 1000 ≤ sec_ * sec ∨ sec_ * sec + 1000 ≤ moduleTimeAt s.dev at_) →
        Completes (.timePpsEdge at_) s fun d => moduleTime d = sec_ * sec ∧ d.now = at_ ∧ d.time.timeSet = none ∧ d.time.lastRef = some at_)) ∧
    (∀ (p : Fin 4) (o : Int) (at_ : Nat) (s : State), s.dev.boot.inReset = false →
      ((timeSource s.dev ≠ .gptp ∨ gptpPort s.dev ≠ p.val) → Completes (.gptpMessage p o at_) s fun d => d = { s.dev with now := max s.dev.now at_ }) ∧
      (timeSource s.dev = .gptp → gptpPort s.dev = p.val → Completes (.gptpMessage p o at_) s fun d =>
        d.time.offset = satInt32 o ∧ d.time.lastRef = some d.now ∧ d.backup.rtcLost = false ∧
        ((o ≤ -1000 ∨ 1000 ≤ o) → d.time.slew = (d.now, 0)) ∧ ((-1000 < o ∧ o < 1000) → d.time.slew = (d.now, -o)))) ∧
    (∀ (s : State) (t r : Nat), s.dev.time.goodSince = some t → s.dev.time.lastRef = some r →
      (s.dev.time.locked = false → t + 7 * sec ≤ r → Completes .timeLockAcquired s fun d =>
        d.time.locked = true ∧ d.time.holdover = false ∧ t + 8 * sec ≤ d.now) ∧
      (r < t + 7 * sec → exec .timeLockAcquired s = .next s) ∧
      (s.dev.time.locked = true → Completes .timeLock s fun d =>
        d.time.locked = false ∧ d.time.holdover = true ∧ r + 10 * sec ≤ d.now ∧ Raised 65 0 s.dev d)) ∧
    (∀ s : State, (s.dev.time.locked = true → Completes .rtcUpdate s fun d =>
        d.backup = { s.dev.backup with rtc := moduleTime s.dev / sec, rtcAt := s.dev.now } ∧ d.time = s.dev.time) ∧
      (s.dev.time.locked = false → exec .rtcUpdate s = .next s)) ∧
    (∀ (at_ : Nat) (s : State), (syncPaced s.dev = false → Completes (.frameSyncEdge at_) s fun d =>
        Counted .syncIgnored 0 s.dev d ∧ d.tenants = s.dev.tenants) ∧
      (∀ (t : TenantId) (r : Run), syncPaced s.dev = true → syncTenant s.dev = t.val → (s.dev.tenant t).run = some r → r.begun = true →
        spanBound s.dev t = false → nearestAhead r (at_ / 10 * 10 + syncOffset s.dev) = 0 → r.moved = none →
        absDiff (at_ / 10 * 10 + syncOffset s.dev) r.nominal ≤ min (r.period / 4) (5 * ms) →
        Completes (.frameSyncEdge at_) s fun d => ∃ r', (d.tenant t).run = some r' ∧
          r'.moved = some (max (at_ / 10 * 10 + syncOffset s.dev) (at_ / 10 * 10 + 200)) ∧ r'.anchor = at_ / 10 * 10 + syncOffset s.dev ∧ r'.nominal = r.nominal ∧
          Counted .syncAccepted 0 s.dev d)) ∧
    (∀ s : State, ((syncPaced s.dev && syncCadence s.dev) = false → exec .syncOutCadencePulse s = .next s) ∧
      (∀ (t : TenantId) (r : Run), syncPaced s.dev = true → syncCadence s.dev = true → syncTenant s.dev = t.val → (s.dev.tenant t).run = some r →
        r.begun = true → s.dev.time.pulseEnd = none →
        Completes .syncOutCadencePulse s fun d => d.pins.syncOut = true ∧ d.time.pulseEnd = some (d.now + syncWidth s.dev) ∧
          d.out = .syncOut true :: s.dev.out ∧ d.tenants = s.dev.tenants) ∧
      (s.dev.time.pulseEnd = none → exec .syncOutPulseEnd s = .next s) ∧
      (∀ e : Nat, s.dev.time.pulseEnd = some e → Completes .syncOutPulseEnd s fun d =>
        d.pins.syncOut = false ∧ d.time.pulseEnd = none ∧ e ≤ d.now ∧ d.out = .syncOut false :: s.dev.out)) ∧
    (∀ (p : Fin 16) (s : State), (Completes (.intakeLink true p) s fun d => d.intake.csiLock[p.val]'p.isLt = false ∧
        ((portUser s.dev true p.val).isSome = true → (22, p.val) ∈ d.gutter.cond)) ∧
      (Completes (.intakeLinkRestored true p) s fun d => d.intake.csiLock[p.val]'p.isLt = true ∧ (22, p.val) ∉ d.gutter.cond) ∧
      (∀ h : p.val < 4, (Completes (.intakeLink false p) s fun d => d.intake.ethLink[p.val]'h = false ∧
          ((portUser s.dev false p.val).isSome = true → (22, 16 + p.val) ∈ d.gutter.cond)) ∧
        (Completes (.intakeLinkRestored false p) s fun d => d.intake.ethLink[p.val]'h = true ∧ (22, 16 + p.val) ∉ d.gutter.cond)))

/-- POWER_ON of an unpowered module resets it with cause 1 and keeps what Table 17-1 keeps; it is held while RESET_L is low, and
boots otherwise. POWER_LOSS takes the pins and power down, and the backup domain with them where no cell holds it. RESET_L low
for 50 ns resets with cause 2, high for 50 ns boots; RECOVERY_L read 0 enters recovery mode. GUTTER_MODULE_RESET and
HOLDOVER_EXPIRY do nothing unless one is due; otherwise they reset with cause 3, not before their time, and boot while RESET_L
is high. (R667, R685, R687, R688, R727, R752, R769, R770) -/
def Obligations.ResetsClearTheModuleAndTheRomBootsIt : Prop :=
  (∀ (off : Nat) (rl : Bool) (rec_ : Readings) (s : State),
      (s.dev.pins.vin = true → exec (.powerOn off rl rec_) s = .next s) ∧
      (s.dev.pins.vin = false → rl = false → Completes (.powerOn off rl rec_) s fun d =>
        InReset 1 d ∧ ResetKeeps s.dev d ∧ d.now = s.dev.now + off ∧ d.pins.vin = true ∧ d.boot.tripHold = false) ∧
      (s.dev.pins.vin = false → rl = true → Completes (.powerOn off rl rec_) s fun d =>
        Booted 1 s.dev d ∧ ResetKeeps s.dev d ∧ d.now = s.dev.now + off ∧ d.pins.vin = true ∧
          (30 * day < off → d.tiers.t3.scanDue = true) ∧ (rec_ = 0 → d.boot.stage = .recovery))) ∧
    (∀ (torn : Bool) (s : State), (s.dev.pins.vin = false → exec (.powerLoss torn) s = .next s) ∧
      (s.dev.pins.vin = true → Completes (.powerLoss torn) s fun d =>
        InReset 1 d ∧ d.pins.vin = false ∧ d.pins.errP = false ∧ d.pins.errN = false ∧ d.host.linkUp = false ∧ d.power.state = .backup ∧
          (cellHolds s.dev = true → ResetKeeps s.dev d ∧ d.gutter.sticky = s.dev.gutter.sticky ∧ d.backup = s.dev.backup) ∧
          (cellHolds s.dev = false → d.gutter.sticky = 0 ∧ d.backup.lost = true ∧ d.backup.rtcLost = true))) ∧
    (∀ (low : Nat) (s : State), ((low < 50 ∨ s.dev.pins.resetL = false) → exec (.resetLAssert low) s = .next s) ∧
      (50 ≤ low → s.dev.pins.resetL = true → s.dev.pins.vin = true → Completes (.resetLAssert low) s fun d =>
        InReset 2 d ∧ ResetKeeps s.dev d ∧ d.pins.resetL = false ∧ d.host.linkUp = false ∧ d.gutter.sticky = s.dev.gutter.sticky)) ∧
    (∀ (high : Nat) (rec_ : Readings) (s : State), ((high < 50 ∨ s.dev.pins.resetL = true) → exec (.resetLRelease high rec_) s = .next s) ∧
      (50 ≤ high → s.dev.pins.resetL = false → (s.dev.pins.vin && s.dev.boot.inReset) = false →
        Completes (.resetLRelease high rec_) s fun d => d = { s.dev with pins := { s.dev.pins with resetL := true } }) ∧
      (50 ≤ high → s.dev.pins.resetL = false → s.dev.pins.vin = true → s.dev.boot.inReset = true →
        Completes (.resetLRelease high rec_) s fun d => d.pins.resetL = true ∧ d.boot.inReset = false ∧ d.boot.cause = s.dev.boot.cause ∧
          d.gutter.initDone = true ∧ d.boot.engineReady = true ∧ Counted .boots 0 s.dev d ∧ (rec_ = 0 → d.boot.stage = .recovery))) ∧
    (∀ s : State, (s.dev.gutter.resetDue = none → exec .gutterModuleReset s = .next s) ∧
      (∀ t, s.dev.gutter.resetDue = some t → s.dev.pins.resetL = true → Completes .gutterModuleReset s fun d =>
        Booted 3 s.dev d ∧ ResetKeeps s.dev d ∧ d.now = max s.dev.now t) ∧
      (∀ t, s.dev.gutter.resetDue = some t → s.dev.pins.resetL = false → Completes .gutterModuleReset s fun d => InReset 3 d)) ∧
    (∀ s : State, ((s.dev.clocks.holdover = none ∨ s.dev.clocks.refclk = true) → exec .holdoverExpiry s = .next s) ∧
      (∀ t, s.dev.clocks.holdover = some t → s.dev.clocks.refclk = false → s.dev.pins.resetL = true → Completes .holdoverExpiry s fun d =>
        Booted 3 s.dev d ∧ ResetKeeps s.dev d ∧ d.now = max s.dev.now (t + 100 * ms)))

/-- STAGE1_START has an effect only where the boot ROM is ready, no restart is in progress, the reference is valid, the PLL locked
and no trip holds; it then leaves the boot in stage 1 with crossings calibrated and the scan of tier 3 as due.
MAIN_FIRMWARE_START takes stage 1 to the main firmware with MBX_READY, and counts torn records. START_COMPLETE, 10 s later,
clears the slot's attempts. KETTLE_RESTART_COMPLETE attaches to the running grid: MBX_READY is 1, the queued traps and pending
releases are gone, and where no slot was eligible the module resets. (R671, R688, R691, R693, R694, R715, R728) -/
def Obligations.AStartRunsThroughStageOneToTheMainFirmware : Prop :=
  (∀ (f : StartupFindings) (s : State),
      ((s.dev.boot.romReady = false ∨ s.dev.boot.kettleRestarting = true ∨ s.dev.clocks.refclk = false ∨ s.dev.clocks.locked = false ∨
        s.dev.boot.tripHold = true) → exec (.stage1Start f) s = .next s) ∧
      (s.dev.boot.romReady = true → s.dev.boot.kettleRestarting = false → s.dev.clocks.refclk = true → s.dev.clocks.locked = true →
        s.dev.boot.tripHold = false → Completes (.stage1Start f) s fun d =>
          d.boot.stage = .stage1 ∧ d.boot.romReady = false ∧ d.fabric.calibrated = true ∧ d.tiers.t3.scanning = s.dev.tiers.t3.scanDue ∧
            (f.trng = true → d.entropy.stopped = true) ∧ (∀ x ∈ d.sites, x.planned = false ∧ x.bad ≠ some .testing))) ∧
    (∀ (torn bad : Nat) (s : State), ((s.dev.boot.stage ≠ .stage1 ∨ s.dev.boot.kettleRestarting = true) →
        exec (.mainFirmwareStart torn bad) s = .next s) ∧
      (s.dev.boot.stage = .stage1 → s.dev.boot.kettleRestarting = false → Completes (.mainFirmwareStart torn bad) s fun d =>
        d.boot.stage = .main ∧ d.boot.mbxReady = true ∧ d.boot.readySince = s.dev.now ∧ d.boot.phyRecords = true ∧
          d.count .caddyTorn = min (s.dev.count .caddyTorn + torn) (2 ^ Counter.caddyTorn.info.width - 1) ∧
          d.selftest.nextAt = some s.dev.now ∧ d.tenants = s.dev.tenants)) ∧
    (∀ s : State, ((s.dev.boot.stage ≠ .main ∨ s.dev.boot.mbxReady = false ∨ s.dev.boot.startComplete = true) → exec .startComplete s = .next s) ∧
      (s.dev.boot.stage = .main → s.dev.boot.mbxReady = true → s.dev.boot.startComplete = false → Completes .startComplete s fun d =>
        d.boot.startComplete = true ∧ (d.slot s.dev.boot.running).attemptsBkp = 0 ∧
          (s.dev.caddy.readOnly = false → (d.slot s.dev.boot.running).attempts = 0) ∧ d.now = max s.dev.now (s.dev.boot.readySince + 10 * sec))) ∧
    (∀ s : State, (s.dev.boot.kettleRestarting = false → exec .kettleRestartComplete s = .next s) ∧
      (s.dev.boot.kettleRestarting = true → s.dev.boot.noSlot = true → s.dev.pins.resetL = true →
        Completes .kettleRestartComplete s fun d => Booted 3 s.dev d) ∧
      (s.dev.boot.kettleRestarting = true → s.dev.boot.noSlot = false → s.dev.boot.stage = .rom → s.dev.boot.romReady = false →
        Completes .kettleRestartComplete s fun d => d.boot.kettleRestarting = false ∧ d.boot.stage = .main ∧ d.boot.mbxReady = true ∧
          d.boot.readySince = s.dev.now ∧ d.gutter.traps = 0 ∧ d.gutter.releases = [] ∧ (s.dev.gutter.releases = [] → d.scratch = s.dev.scratch)))

/-- BACKUP_ALARM_CHECK does nothing on main power or once the domain is lost; otherwise a second passes and each of the four
conditions of Table 18-4 counts its cause and sets the alarm latch. BACKUP_DOMAIN_POWER_LOSS without main power clears the
sticky bits, the Gutter's settings in effect, the kept attempt counts and the real-time clock. VBAT_LOW holds the condition of
source 113 exactly while the cell reads below 2.5 V on a part with a VBAT input and main power. (R669, R753, R754, R755, R756,
R757) -/
def Obligations.TheBackupDomainRunsOnItsCell : Prop :=
  (∀ (temp : Int) (cell stopped : Nat) (s : State),
      ((s.dev.pins.vin = true ∨ s.dev.backup.lost = true) → exec (.backupAlarmCheck temp cell stopped) s = .next s) ∧
      (s.dev.pins.vin = false → s.dev.backup.lost = false → Completes (.backupAlarmCheck temp cell stopped) s fun d =>
        d.now = s.dev.now + sec ∧ d.pins.vbat = cell ∧
        (d.backup.alarm = true ↔ s.dev.backup.alarm = true ∨ temp < -45 ∨ 90 < temp ∨ cell < 2500 ∨ sec < stopped) ∧
        (temp < -45 → Counted .bkpCold 0 s.dev d) ∧ (90 < temp → Counted .bkpHot 0 s.dev d) ∧
        (cell < 2500 → Counted .bkpCellDip 0 s.dev d) ∧ (sec < stopped → Counted .bkpOscStop 0 s.dev d ∧ d.backup.rtcAt = s.dev.backup.rtcAt + stopped) ∧
        (stopped ≤ sec → d.backup.rtcAt = s.dev.backup.rtcAt) ∧ d.gutter = s.dev.gutter)) ∧
    (∀ s : State, (s.dev.pins.vin = true → exec .backupDomainPowerLoss s = .next s) ∧
      (s.dev.pins.vin = false → Completes .backupDomainPowerLoss s fun d =>
        d.gutter.sticky = 0 ∧ d.gutter.latched = 0 ∧ d.backup = ⟨0, s.dev.now, true, false, true⟩ ∧ d.pins.vbat = 0 ∧
        (d.slot .a).attemptsBkp = 0 ∧ (d.slot .b).attemptsBkp = 0 ∧ (∀ x ∈ d.cfg, domainField x.1 = false) ∧ d.staged = s.dev.staged ∧
        d.boot.svnFuses = s.dev.boot.svnFuses ∧ SameFabric s.dev d)) ∧
    (∀ (cell : Nat) (s : State), ((s.dev.pins.vin = false ∨ s.dev.boot.part ≠ 0) → Completes (.vbatLow cell) s fun d =>
        d = { s.dev with pins := { s.dev.pins with vbat := cell } }) ∧
      (s.dev.pins.vin = true → s.dev.boot.part = 0 → Completes (.vbatLow cell) s fun d =>
        d.pins.vbat = cell ∧ ((113, 0) ∈ d.gutter.cond ↔ cell < 2500) ∧ d.tenants = s.dev.tenants ∧ SameControl s.dev d))

/-- PURLIN_ERR, MBX_ENGINE, KETTLE_WDT, KETTLE_LOCKSTEP and VRM_OVERCURRENT are each one event of sources 25, 54, 52, 53 and 72: the
sticky bit is set, EVENTS counts, the class is in the fault state, and level 5 sets the instant of the module reset, with the
tenants and the fabric untouched; a window makes it a SHADOWED count; a disabled source makes nothing. At level 3 the watchdog
and the lockstep take the Kettle down: MBX_READY is 0, KETTLE_RESTARTING is 1 and the restart is counted. (R639, R644, R645,
R650, R656, R662) -/
def Obligations.SingleReportsReachTheirClass : Prop :=
  (∀ (endpoint : Nat) (kind : Fin 3) (s : State), RaisesAlone (.purlinErr endpoint kind) 25 (endpoint * 4 + kind.val) s) ∧
    (∀ s : State, RaisesAlone .mbxEngine 54 0 s ∧ RaisesAlone .kettleWdt 52 0 s ∧ RaisesAlone .kettleLockstep 53 0 s) ∧
    (∀ (rail : Fin 6) (s : State), RaisesAlone (.vrmOvercurrent rail) 72 rail.val s) ∧
    (∀ (i : Instr) (src : SourceId) (s : State), (i = .kettleWdt ∧ src = 52 ∨ i = .kettleLockstep ∧ src = 53) →
      s.dev.gutter.initDone = true → srcEnabled s.dev src.val = true → shadowed s.dev src.val 0 = false → gutterEn s.dev = true →
      3 ≤ srcLevel s.dev src.val → Completes i s fun d =>
        d.boot.kettleRestarting = true ∧ d.boot.mbxReady = false ∧ d.boot.restarts = min (s.dev.boot.restarts + 1) 0xFFFFFFFF ∧
          (∃ w ∈ d.gutter.shadows, w.block = .kettle ∧ w.closeAt = s.dev.now + 50 * ms + 100 * us))

/-- REFCLK_LOSS starts holdover outside reset, holds the condition of source 67, and marks steps in progress THROTTLED.
REFCLK_RETURN ends holdover, counts its milliseconds and ends the conditions of 66 and 67. PLL_LOCK holds that of 66.
DIVISOR_CHANGE with nothing pending does nothing; otherwise the wanted divisor and the journalled profile are in effect, no
later than 10 ms after the decision if steps are in progress, and each step records the divisor. (R726, R727, R729, R730, R732) -/
def Obligations.TheClocksFollowTheReferenceAndTheDivisor : Prop :=
  (∀ (at_ : Nat) (s : State),
      (Completes (.refclkLoss at_) s fun d => d.clocks.refclk = false ∧ (67, 0) ∈ d.gutter.cond ∧ d.now = max s.dev.now at_ ∧
        (s.dev.boot.inReset = false → s.dev.clocks.holdover = none → d.clocks.holdover = some d.now ∧
          ∀ (t : TenantId) (x : Step), d.stepOf t = some x → x.started = true → x.flags.getLsbD 7 = true) ∧
        (∀ h, s.dev.clocks.holdover = some h → d.clocks.holdover = some h) ∧
        (condPresent s.dev 67 = false → Raised 67 0 s.dev d)) ∧
      (Completes (.refclkReturn at_) s fun d => d.clocks.refclk = true ∧ d.clocks.locked = true ∧ d.clocks.holdover = none ∧
        (66, 0) ∉ d.gutter.cond ∧ (67, 0) ∉ d.gutter.cond ∧ d.tenants = s.dev.tenants ∧
        (∀ h, s.dev.clocks.holdover = some h →
          d.count .holdoverMs = min (s.dev.count .holdoverMs + (max s.dev.now at_ - h) / ms) (2 ^ Counter.holdoverMs.info.width - 1)))) ∧
    (∀ s : State, Completes .pllLock s fun d => d.clocks.locked = false ∧ (66, 0) ∈ d.gutter.cond ∧ d.tenants = s.dev.tenants ∧
        (condPresent s.dev 66 = false → Raised 66 0 s.dev d)) ∧
    (∀ s : State, (s.dev.clocks.pending = none → exec .divisorChange s = .next s) ∧
      (∀ t, s.dev.clocks.pending = some t → Completes .divisorChange s fun d =>
        d.clocks.divisor = wantedDivisor s.dev ∧ d.clocks.profile = nextProfile s.dev ∧ d.clocks.newProfile = none ∧
        d.clocks.pending = none ∧ d.now = (if allTenants.any s.dev.inStep then max s.dev.now (t + 10 * ms) else s.dev.now) ∧
        (∀ (k : TenantId) (x : Step), d.stepOf k = some x → x.started = true →
          d.clocks.divisor ≤ x.maxDivisor ∧ (profileDivisor d.clocks.profile < d.clocks.divisor → x.flags.getLsbD 7 = true)) ∧
        SameFabric s.dev d))

/-- THERMAL_SAMPLE of a powered module stores the readings and holds warn, emergency and trip conditions with 5 °C of hysteresis; a
new emergency sets level 2 and a divisor of at least 16, a new trip holds the next boot. THERMAL_TRIP holds the condition of
source 70, fixed at level 5. THROTTLE_RISE and THROTTLE_FALL move the level by one at their time or do nothing. POWER_ESTIMATE
keeps 1,000 estimates and raises the level when the 10 ms average is above the ceiling. (R649, R733, R734, R735, R736, R737) -/
def Obligations.TemperatureAndPowerThrottleTheGrid : Prop :=
  (∀ (temps : Vector Int 88) (hot : Bool) (s : State), (s.dev.pins.vin = false → exec (.thermalSample temps hot) s = .next s) ∧
      (s.dev.pins.vin = true → Completes (.thermalSample temps hot) s fun d =>
        d.clocks.temp = temps ∧ d.clocks.sampled = true ∧ d.now = s.dev.now ∧
        (∀ k : Fin 88, ((68, k.val) ∈ d.gutter.cond ↔
          holdsAt (s.dev.gutter.cond.contains (68, k.val)) (warnAt s.dev k.val) (temps[k.val]'k.isLt) = true)) ∧
        (∀ (k : Fin 88) (l : Int), emergencyAt k.val = some l → ((69, k.val) ∈ d.gutter.cond ↔
          holdsAt (s.dev.gutter.cond.contains (69, k.val)) l (temps[k.val]'k.isLt) = true)) ∧
        (∀ (k : Fin 88) (l : Int), emergencyAt k.val = some l → l ≤ temps[k.val]'k.isLt → (69, k.val) ∉ s.dev.gutter.cond →
          d.clocks.throttle = 2 ∧ 16 ≤ d.clocks.divisor) ∧
        (∀ k : Fin 73, 115 ≤ temps[k.val]'(by omega) → (70, k.val) ∉ s.dev.gutter.cond → d.boot.tripHold = true))) ∧
    (∀ (k : Fin 73) (s : State), (s.dev.pins.vin = false → exec (.thermalTrip k) s = .next s) ∧
      (s.dev.pins.vin = true → Completes (.thermalTrip k) s fun d => d.boot.tripHold = true ∧ (70, k.val) ∈ d.gutter.cond ∧
        115 ≤ d.clocks.temp[k.val]'(by omega) ∧
        (s.dev.gutter.initDone = true → condPresent s.dev 70 = false → shadowed s.dev 70 k.val = false →
          d.gutter.resetDue.isSome = true ∧ d.gutter.sticky.getLsbD 70 = true))) ∧
    (∀ s : State, ((riseAt s.dev = none ∨ 2 ≤ s.dev.clocks.throttle) → exec .throttleRise s = .next s) ∧
      (∀ t, riseAt s.dev = some t → s.dev.clocks.throttle < 2 → Completes .throttleRise s fun d =>
        d.clocks.throttle = s.dev.clocks.throttle + 1 ∧ Counted .throttleUp 0 s.dev d ∧ d.now = max s.dev.now t ∧
        d.clocks.throttleSince = d.now ∧ (allTenants.any s.dev.inStep = false → d.clocks.divisor = wantedDivisor d))) ∧
    (∀ s : State, ((s.dev.clocks.coolSince = none ∨ s.dev.clocks.throttle = 0 ∨ limiterAllows s.dev = false) →
        exec .throttleFall s = .next s) ∧
      (∀ t, s.dev.clocks.coolSince = some t → 0 < s.dev.clocks.throttle → limiterAllows s.dev = true → Completes .throttleFall s fun d =>
        d.clocks.throttle + 1 = s.dev.clocks.throttle ∧ d.now = max s.dev.now (max t s.dev.clocks.throttleSince + sec) ∧
        (allTenants.any s.dev.inStep = false → d.clocks.divisor = wantedDivisor d))) ∧
    (∀ (mw : Nat) (s : State), Completes (.powerEstimate mw) s fun d =>
      let l := (mw :: s.dev.clocks.estimates).take 1000
      d.clocks.estimates = l ∧ d.now = s.dev.now ∧
      ((l.take 10).length = 10 → 10 * powerCeiling s.dev.clocks.profile < (l.take 10).sum → s.dev.clocks.throttle < 2 →
        d.clocks.throttle = s.dev.clocks.throttle + 1 ∧ d.clocks.limited = true ∧ Counted .powerLimitEvents 0 s.dev d) ∧
      ((l.take 10).sum ≤ 10 * powerCeiling s.dev.clocks.profile → d.clocks = { s.dev.clocks with estimates := l }))

/-- POWER_PLAN keeps the times ahead in ascending order, and refuses more than 16; POWER_PROFILE takes effect and answers at once
without a step in progress, and waits otherwise. IDLE_PERIOD_START enters the chosen state unless something holds the module in
RUN or a trigger wins; STATE_ENTRY_COMPLETE reaches it; triggers and planned events start the wake; WAKE_COMPLETE ends in RUN.
PLAN_TIME_PASSED takes the first time from the plan. A second failed phase on the grid core rail caps the divisor. (R730, R731,
R739, R740, R741, R744, R745, R746, R747, R748, R749) -/
def Obligations.PowerStatesAreEnteredAndLeft : Prop :=
  (∀ (c : Call) (s : State), Served c s.dev →
      let n := field (c.w 1) 0 5
      (16 < n → Completes (.powerPlan c) s fun d => Answered c .badParam 0 [] d ∧ d.power = s.dev.power) ∧
      (n = 0 → Completes (.powerPlan c) s fun d => Answered c .ok 0 [] d ∧ d.power.plan = []) ∧
      (∀ bs, 0 < n → n ≤ 16 → field (c.w 3) 0 16 ≤ 4096 → c.readBuf 3 (8 * n) = .ok bs → Completes (.powerPlan c) s fun d =>
        Answered c .ok 0 [] d ∧ d.power.plan.Pairwise (· < ·) ∧
        ∀ t, t ∈ d.power.plan ↔ (moduleTime s.dev < t ∧ ∃ i < n, leAt bs (8 * i) 8 = t))) ∧
    (∀ (c : Call) (s : State), Served c s.dev → c.opcode = 0xA1 → (∀ x ∈ (s.dev.mb c.mbx).started, x.call.opcode ≠ 0xA1) →
      (allTenants.any s.dev.inStep = false → Completes (.powerProfile c) s fun d =>
        d.clocks.profile = namedProfile c ∧ d.clocks.newProfile = none ∧
        Answered c .ok 0 [match namedProfile c with | .full => 0 | .vehicle => 1] d) ∧
      (allTenants.any s.dev.inStep = true → Completes (.powerProfile c) s fun d =>
        Held c s.dev d ∧ d.clocks.newProfile = some (namedProfile c) ∧ d.clocks.profile = s.dev.clocks.profile ∧ d.clocks.pending.isSome = true)) ∧
    (∀ (trigger_ : Bool) (s : State),
      let may := s.dev.boot.stage = .main ∧ awake s.dev = true ∧ s.dev.power.idleSince = none ∧ mustRun s.dev = false ∧ trigger_ = false
      (may → Completes (.idlePeriodStart trigger_) s fun d =>
        d = { s.dev with power := { s.dev.power with idleSince := some s.dev.now, entering := some (chooseState s.dev) } }) ∧
      (¬may → exec (.idlePeriodStart trigger_) s = .next s)) ∧
    (∀ s : State, ((s.dev.power.entering = none ∨ s.dev.power.idleSince = none) → exec .stateEntryComplete s = .next s) ∧
      (∀ p t, s.dev.power.entering = some p → s.dev.power.idleSince = some t → Completes .stateEntryComplete s fun d =>
        d.power.state = p ∧ d.power.entering = none ∧ d.now = max s.dev.now (t + entryTime p) ∧ Counted .stateEntries p.code s.dev d ∧
        (p = .park → d.boot.mbxReady = false) ∧ (savesScratch p = true → d.fabric.calibrated = false ∧ d.power.saved = true) ∧
        d.scratch = s.dev.scratch)) ∧
    (∀ s : State, (nextEvent s.dev = none → exec .plannedWakeStart s = .next s) ∧
      (∀ t, nextEvent s.dev = some t → s.dev.power.waking = none →
        let p := s.dev.power.entering.getD s.dev.power.state
        p ≠ .run → p ≠ .backup → Completes .plannedWakeStart s fun d =>
          d.power.waking = some (p, d.now + wakeTime p) ∧ d.power.entering = none ∧ d.power.idleSince = none ∧
          d.now = max s.dev.now (t - (wakeTime p * 11 / 10 + 50 * us)))) ∧
    (∀ (w : WakeCause) (s : State), (triggers s.dev w = false → exec (.wakeTrigger w) s = .next s) ∧
      (triggers s.dev w = true → Completes (.wakeTrigger w) s fun d => d.power.idleSince = none ∧ d.tenants = s.dev.tenants ∧
        (∀ p, s.dev.power.entering = some p → d.power.waking = some (p, s.dev.now + wakeTime p) ∧ d.power.entering = none ∧
          Counted .wakeAbandoned 0 s.dev d) ∧
        (s.dev.power.entering = none → s.dev.power.waking = none → s.dev.power.state ≠ .run → s.dev.power.state ≠ .backup →
          d.power.waking = some (s.dev.power.state, s.dev.now + wakeTime s.dev.power.state)))) ∧
    (∀ (cs : List (Fin 19200)) (s : State), (s.dev.power.waking = none → exec (.wakeComplete cs) s = .next s) ∧
      (∀ p t, s.dev.power.waking = some (p, t) → Completes (.wakeComplete cs) s fun d =>
        d.power.state = .run ∧ d.power.waking = none ∧ d.power.saved = false ∧ d.now = max s.dev.now t ∧
        (savesScratch p = true → d.fabric.calibrated = true) ∧ d.scratch = s.dev.scratch ∧
        (p = .park → d.boot.mbxReady = (decide (s.dev.boot.stage = .main) && !s.dev.boot.kettleRestarting)))) ∧
    (∀ s : State, (s.dev.power.plan = [] → exec .planTimePassed s = .next s) ∧
      (∀ t l, s.dev.power.plan = t :: l → Completes .planTimePassed s fun d => d.power.plan = l ∧ Counted .planEvents 0 s.dev d ∧
        d.now = max s.dev.now (rootTime s.dev t) ∧ d.tenants = s.dev.tenants)) ∧
    (∀ (rail : Fin 6) (s : State), Completes (.vrmPhase rail) s fun d =>
      d.clocks.phaseFails[rail.val]'rail.isLt = s.dev.clocks.phaseFails[rail.val]'rail.isLt + 1 ∧ Counted .phaseFails rail.val s.dev d ∧
      Raised 71 rail.val s.dev d ∧
      (rail = 0 → 1 ≤ s.dev.clocks.phaseFails[0] → d.clocks.capped = true ∧ (allTenants.any s.dev.inStep = false → 16 ≤ d.clocks.divisor)) ∧
      (rail ≠ 0 → d.clocks.capped = s.dev.clocks.capped ∧ d.clocks.divisor = s.dev.clocks.divisor))

/-- PERST_ASSERT takes the endpoint, its link and IDE streams down and flushes every mailbox; PERST_L_RELEASE readies the endpoint.
PCIE_LINK down and L2 hold the condition of source 24, an uncorrectable error is an event of it; PCIE_LINK_UP ends it. SPDM
answers each request, and IDE_KM sets or ends a stream. I3C answers whenever the input is present. A nonce leaves the debug
port; a valid signature over it unlocks the port, closes every tenant and clears the scratchpads, and any other one spends the
nonce. (R594, R637, R685, R720, R721, R722, R771, R772, R779) -/
def Obligations.LinksAttestationAndTheDebugPortAnswer : Prop :=
  (∀ s : State, Completes .perstAssert s fun d => d.host.endpointReady = false ∧ d.host.linkUp = false ∧ d.host.ide = Vector.replicate 5 false ∧
        d.pins.perstL = false ∧ d.tenants = s.dev.tenants ∧ SameFabric s.dev d ∧ SameControl s.dev d ∧
        ∀ m : MailboxId, (d.mb m).taken = [] ∧ (d.mb m).visible = [] ∧
          (d.mb m).overflow.length = (s.dev.mb m).overflow.length + (s.dev.mb m).taken.length) ∧
    (∀ s : State, Completes .perstLRelease s fun d =>
        d = { s.dev with pins := { s.dev.pins with perstL := s.dev.pins.vin }
                         host := { s.dev.host with endpointReady := s.dev.pins.vin && !s.dev.boot.inReset } }) ∧
    (∀ s : State, RaisesAlone (.pcieLink .uncorrectable) 24 0 s ∧
      (Completes (.pcieLink .down) s fun d => d.host.linkUp = false ∧ (24, 0) ∈ d.gutter.cond ∧ d.tenants = s.dev.tenants) ∧
      (Completes (.pcieLink .l2) s fun d => d.host.linkUp = false ∧ d.host.d3cold = true ∧ (24, 0) ∈ d.gutter.cond ∧ d.tenants = s.dev.tenants)) ∧
    (∀ s : State, (s.dev.host.endpointReady = false → exec .pcieLinkUp s = .next s) ∧
      (s.dev.host.endpointReady = true → Completes .pcieLinkUp s fun d => d.host.linkUp = true ∧ d.host.d3cold = false ∧
        d.pins.wakeL = false ∧ (24, 0) ∉ d.gutter.cond ∧ d.tenants = s.dev.tenants)) ∧
    (∀ (r : SpdmRequest) (s : State), ((s.dev.boot.inReset = true ∨ s.dev.host.endpointReady = false) → exec (.spdmRequest r) s = .next s) ∧
      (s.dev.boot.inReset = false → s.dev.host.endpointReady = true →
        (r = .digests → Completes (.spdmRequest r) s fun d => d.out = .spdm spdmDigests (sha384 (chain s.dev)) :: s.dev.out ∧ d.host = s.dev.host) ∧
        (∀ off len, r = .certificate off len → Completes (.spdmRequest r) s fun d =>
          d.out = .spdm spdmCertificate (((chain s.dev).drop off).take len) :: s.dev.out ∧ d.host = s.dev.host) ∧
        (∀ i bs, r = .measurement i → measurement s.dev i = some bs → Completes (.spdmRequest r) s fun d =>
          d.out = .spdm spdmMeasurements bs :: s.dev.out ∧ 1 ≤ i ∧ i ≤ 4) ∧
        (∀ n, r = .challenge n → Completes (.spdmRequest r) s fun d => ∃ sig, sig.length = 96 ∧ d.out = .spdm spdmChallenge sig :: s.dev.out) ∧
        (∀ fn, r = .ideKeySet fn → Completes (.spdmRequest r) s fun d => d.host.ide[fn.val]'fn.isLt = true ∧
          ∀ g : FunctionId, g ≠ fn → d.host.ide[g.val]'g.isLt = s.dev.host.ide[g.val]'g.isLt) ∧
        (∀ fn, r = .ideKeyStop fn → Completes (.spdmRequest r) s fun d => d.host.ide[fn.val]'fn.isLt = false) ∧
        (∀ c, r = .other c → Completes (.spdmRequest r) s fun d => d = { s.dev with out := .spdm spdmError [] :: s.dev.out }))) ∧
    (∀ (r : I3cRequest) (s : State), (s.dev.pins.vin = false → exec (.i3cMessage r) s = .next s) ∧
      (s.dev.pins.vin = true → Completes (.i3cMessage r) s fun d => Counted .i3cMessages 0 s.dev d ∧ SameFabric s.dev d ∧ SameControl s.dev d ∧
        (∀ k v, r = .sensor k → sensorReading s.dev k.val = some v → d.out = .i3c [1, k.val, 1, v] :: s.dev.out) ∧
        (∀ k, r = .sensor k → sensorReading s.dev k.val = none → d.out = .i3c [1, k.val, 0] :: s.dev.out) ∧
        (∀ c, r = .control c → ∃ v, d.out = .i3c [0, c.toNat, v] :: s.dev.out))) ∧
    (∀ s : State, (s.dev.boot.inReset = true → exec .debugNonceRequest s = .next s) ∧
      (s.dev.boot.inReset = false → Completes .debugNonceRequest s fun d => ∃ n, n.length = 32 ∧ d.boot.nonce = some n ∧
        d.out = .debug true n :: s.dev.out ∧ d.boot.debugUnlocked = s.dev.boot.debugUnlocked)) ∧
    (∀ (sig : List Byte) (s : State), (s.dev.boot.inReset = true → exec (.debugUnlock sig) s = .next s) ∧
      (∀ n, s.dev.boot.inReset = false → s.dev.boot.nonce = some n → Config.debugSignatureOk n s.dev.boot.serial sig = true →
        Completes (.debugUnlock sig) s fun d => d.boot.debugUnlocked = true ∧ d.boot.nonce = none ∧ d.scratch = [] ∧ d.vtiles = [] ∧
          d.out.head? = some (.debug true []) ∧ ∀ t : TenantId, (d.tenant t).isOpen = false ∧ (d.tenant t).run = none) ∧
      (s.dev.boot.inReset = false → (∀ n, s.dev.boot.nonce = some n → Config.debugSignatureOk n s.dev.boot.serial sig = false) →
        Completes (.debugUnlock sig) s fun d => d.boot.nonce = none ∧ d.boot.debugUnlocked = s.dev.boot.debugUnlocked ∧
          d.out.head? = some (.debug false []) ∧ Raised 84 0 s.dev d ∧ d.tenants = s.dev.tenants ∧ d.scratch = s.dev.scratch))

/-- UPDATE_BEGIN refuses a header with the status of its first failed check, and else starts reception, resumes the same one, or is
BUSY. UPDATE_CHUNK stores a chunk whose hash is right, and refuses any other. UPDATE_VERIFY writes the inactive slot VALID, or
drops damaged chunks, or discards the image. UPDATE_ACTIVATE starts a Kettle restart into the trial slot, or back to the
confirmed one. UPDATE_CONFIRM raises the fuses and the floor and confirms the running trial. UPDATE_FORWARD offers the image to
the ports named; IMAGE_CHUNK messages are handled as commands are. (R697, R698, R699, R700, R701, R703, R704, R705, R707) -/
def Obligations.UpdatesAreReceivedVerifiedTriedAndConfirmed : Prop :=
  (∀ (c : Call) (h : List Byte) (s : State), Served c s.dev → field (c.w 2) 0 16 ≤ 4096 → c.readBuf 2 headerBytes = .ok h →
      let u := s.dev.boot.update
      (∀ n st, headerRefusal h s.dev = some (n, st) → u.state ≠ .trial → Completes (.updateBegin c) s fun d =>
        Answered c st 0 [] d ∧ d.boot.update = u ∧ Counted .imagesRefused 0 s.dev d ∧ (n = 3 → Raised 85 0 s.dev d)) ∧
      (headerRefusal h s.dev = none → (u.state = .idle ∨ (u.state ≠ .trial ∧ u.header ≠ h ∧ (u.state = .receiving → u.fromPeer = none))) →
        Completes (.updateBegin c) s fun d =>
          Answered c .ok 0 (leBytes 4 (chunkCount h) ++ leBytes 4 0 ++ leBytes 1 (otherSlot s.dev.boot.confirmed).index) d ∧
          d.boot.update.state = .receiving ∧ d.boot.update.header = h ∧ d.boot.update.chunks = [] ∧
          (d.slot s.dev.boot.confirmed = s.dev.slot s.dev.boot.confirmed ∨ u.target = s.dev.boot.confirmed)) ∧
      (headerRefusal h s.dev = none → (u.state = .receiving ∨ u.state = .received) → u.header = h → Completes (.updateBegin c) s fun d =>
        Answered c .ok 0 (beginResult s.dev) d ∧ d.boot = s.dev.boot) ∧
      ((u.state = .trial ∨ (headerRefusal h s.dev = none ∧ u.state = .verified ∧ u.header = h)) → Completes (.updateBegin c) s fun d =>
        Answered c .busy 0 [] d ∧ d.boot = s.dev.boot)) ∧
    (∀ (c : Call) (s : State), Served c s.dev →
      let u := s.dev.boot.update
      let i := field (c.w 1) 0 32
      (u.state ≠ .receiving → Completes (.updateChunk c) s fun d => Answered c .busy 0 [] d ∧ d.boot = s.dev.boot) ∧
      (u.state = .receiving → (chunkCount u.header ≤ i ∨ (i ≠ 0 ∧ chunkHeld u 0 = false)) → Completes (.updateChunk c) s fun d =>
        Answered c .badParam 0 [] d ∧ d.boot = s.dev.boot) ∧
      (∀ bs, u.state = .receiving → i < chunkCount u.header → (i = 0 ∨ chunkHeld u 0 = true) → field (c.w 3) 0 16 ≤ 4096 →
        c.readBuf 3 (chunkLength u.header i) = .ok bs →
        (chunkHeld u i = true → Completes (.updateChunk c) s fun d => Answered c .ok 0 (leBytes 4 u.chunks.length) d ∧ d.boot = s.dev.boot) ∧
        (chunkHeld u i = false → sha384 bs = chunkHash u i → Completes (.updateChunk c) s fun d =>
          Answered c .ok 0 (leBytes 4 (u.chunks.length + 1)) d ∧ d.boot.update.chunks = (i, bs) :: u.chunks ∧
          d.boot.update.state = (if u.chunks.length + 1 = chunkCount u.header then .received else .receiving)) ∧
        (chunkHeld u i = false → sha384 bs ≠ chunkHash u i → Completes (.updateChunk c) s fun d =>
          Answered c .imageRefused 0 [] d ∧ d.boot = s.dev.boot ∧ Counted .chunksRefused 0 s.dev d))) ∧
    (∀ (c : Call) (damaged : List Nat) (s : State), Served c s.dev →
      let u := s.dev.boot.update
      (u.state = .verified → Completes (.updateVerify c damaged 7) s fun d => Answered c .ok 0 [] d ∧ d.boot = s.dev.boot) ∧
      (u.state ≠ .verified → u.state ≠ .received → Completes (.updateVerify c damaged 7) s fun d =>
        Answered c .busy 0 [] d ∧ d.boot = s.dev.boot) ∧
      (u.state = .received → badChunks damaged u ≠ [] → Completes (.updateVerify c damaged 7) s fun d =>
        Answered c .imageRefused 0 [] d ∧ d.boot.update.state = .receiving ∧
        d.boot.update.chunks = u.chunks.filter (fun x => !(badChunks damaged u).contains x.1) ∧ d.boot.slotA = s.dev.boot.slotA ∧
        d.boot.slotB = s.dev.boot.slotB) ∧
      (∀ p, u.state = .received → badChunks damaged u = [] → plaintext u = some p → digestsOk u.header p = true →
        (Completes (.updateVerify c damaged 7) s fun d => Answered c .ok 0 [] d ∧ d.boot.update.state = .verified ∧
          (d.slot u.target).mark = .valid ∧ (d.slot u.target).image = headerInfo u.header ∧ (d.slot u.target).attemptsBkp = 0 ∧
          d.slot (otherSlot u.target) = s.dev.slot (otherSlot u.target)) ∧
        (Completes (.updateVerify c damaged 4) s fun d => d.boot.update.state = .received ∧ (d.slot u.target).mark = .invalid)) ∧
      (u.state = .received → badChunks damaged u = [] → (∀ p, plaintext u = some p → digestsOk u.header p = false) →
        Completes (.updateVerify c damaged 7) s fun d => Answered c .imageRefused 0 [] d ∧ d.boot.update.state = .idle ∧
          Raised 85 0 s.dev d)) ∧
    (∀ (c : Call) (s : State), Served c s.dev →
      let u := s.dev.boot.update
      let i := (s.dev.slot u.target).image
      (u.state = .verified → (i.arith = (runningImage s.dev).arith ∨ anyPackage s.dev = false) → ifaceFar s.dev i.iface = false →
        Completes (.updateActivate c) s fun d => Held c s.dev d ∧ d.boot.trial = some u.target ∧ d.boot.running = u.target ∧
          d.boot.update.state = .trial ∧ d.boot.kettleRestarting = true ∧ d.boot.mbxReady = false ∧ d.boot.switching = some 5) ∧
      (u.state = .verified → i.arith ≠ (runningImage s.dev).arith → anyPackage s.dev = true → Completes (.updateActivate c) s fun d =>
        Answered c .busy 0 [] d ∧ d.boot = s.dev.boot) ∧
      (u.state = .trial → Completes (.updateActivate c) s fun d => Held c s.dev d ∧ d.boot.trial = none ∧
        d.boot.running = s.dev.boot.confirmed ∧ d.boot.update.state = .verified ∧ d.boot.switching = some 6 ∧ Counted .fallbacks 0 s.dev d) ∧
      (u.state ≠ .verified → u.state ≠ .trial → Completes (.updateActivate c) s fun d => Answered c .busy 0 [] d ∧ d.boot = s.dev.boot)) ∧
    (∀ (c : Call) (s : State), Served c s.dev →
      let b := s.dev.boot
      (∀ k, b.update.state = .trial → b.trial = some k → b.startComplete = true → b.running = k → Completes (.updateConfirm c 5) s fun d =>
        Answered c .ok 0 [] d ∧ d.boot.confirmed = k ∧ d.boot.trial = none ∧ d.boot.update.state = .idle ∧ d.boot.intent = none ∧
        d.boot.svnFuses = max b.svnFuses (min (s.dev.slot k).image.svn 128) ∧ d.boot.floor = b.floor.max (s.dev.slot k).image.floor) ∧
      ((b.update.state ≠ .trial ∨ b.startComplete = false ∨ b.trial ≠ some b.running) → Completes (.updateConfirm c 5) s fun d =>
        Answered c .busy 0 [] d ∧ d.boot = b)) ∧
    (∀ (c : Call) (s : State), Served c s.dev →
      let u := s.dev.boot.update
      let allowed := u.state = .verified ∨ u.state = .trial ∨ (u.state = .idle ∧ u.staged = true)
      let named := allPorts.filter fun p => bitAt (c.w 1) p.val && decide ((s.dev.port p).state = .active)
      ((¬allowed ∨ u.forward ≠ []) → Completes (.updateForward c) s fun d => Answered c .busy 0 [] d ∧ d.boot = s.dev.boot) ∧
      (allowed → u.forward = [] → named = [] → Completes (.updateForward c) s fun d => Answered c .ok 0 [0] d ∧ d.boot = s.dev.boot) ∧
      (allowed → u.forward = [] → named ≠ [] → Completes (.updateForward c) s fun d => Held c s.dev d ∧
        d.boot.update.forward = named.map (fun p => (p.val, [])) ∧ d.boot.update.forwarded = 0)) ∧
    (∀ (p : PortId) (m : ImageMsg) (s : State),
      let u := s.dev.boot.update
      (s.dev.boot.mbxReady = false → recovering s.dev = false → exec (.imageChunk p m) s = .next s) ∧
      (s.dev.boot.mbxReady = true →
        (∀ h, m = .header h → u.state = .idle → s.dev.caddy.readOnly = false → headerRefusal (fit headerBytes h) s.dev = none →
          Completes (.imageChunk p m) s fun d => d.boot.update.state = .receiving ∧ d.boot.update.fromPeer = some p.val ∧
            d.boot.update.header = fit headerBytes h ∧ d.boot.update.chunks = []) ∧
        (∀ h, m = .header h → u.state ≠ .idle → Completes (.imageChunk p m) s fun d => d.boot = s.dev.boot) ∧
        (∀ i bs dm, m = .chunk i bs dm → u.state = .receiving → i < chunkCount u.header → (i = 0 ∨ chunkHeld u 0 = true) → chunkHeld u i = false →
          s.dev.caddy.readOnly = false → bs.length = chunkLength u.header i → sha384 bs = chunkHash u i →
          u.chunks.length + 1 ≠ chunkCount u.header → Completes (.imageChunk p m) s fun d => d.boot.update.chunks = (i, bs) :: u.chunks) ∧
        ((m = .missing [] ∨ m = .refused) → Completes (.imageChunk p m) s fun d => ∀ q ∈ d.boot.update.forward, q.1 ≠ p.val)))

/-- SELFTEST_DUE makes the next unit due at equal intervals of the period, and starts its test when the unit is idle.
SELFTEST_COMPLETE counts a test that passes, repeats one that fails once, and after a second failure counts it and repairs:
failed cores are no longer good, the TRNG stops. SELFTEST_PREEMPTION hands the unit back unless a forced window holds the
request. SELFTEST_OVERDUE raises its source once. CADDY_COMPACTION erases the sector that it takes, and makes the Caddy
read-only below 8 usable sectors. (R675, R676, R677, R678, R714, R716, R717, R718) -/
def Obligations.UnitsAreTestedInTheFieldAndTheJournalCompacted : Prop :=
  (∀ (u : Fin 21) (s : State), (s.dev.boot.stage ≠ .main → exec (.selftestDue u) s = .next s) ∧
      (s.dev.boot.stage = .main → u.val ∈ s.dev.selftest.due →
        (testEnabled s.dev = true → s.dev.selftest.running = false → unitIdle s.dev u.val = true → Completes (.selftestDue u) s fun d =>
          d.selftest.running = true ∧ d.selftest.unit = u.val ∧ u.val ∉ d.selftest.due ∧ d.selftest.since = s.dev.now ∧
          d.selftest.forced = decide (16 ≤ s.dev.selftest.consec[u.val]'u.isLt) ∧ d.tenants = s.dev.tenants) ∧
        ((testEnabled s.dev = false ∨ s.dev.selftest.running = true ∨ unitIdle s.dev u.val = false) → exec (.selftestDue u) s = .next s)) ∧
      (∀ t, s.dev.boot.stage = .main → u.val ∉ s.dev.selftest.due → s.dev.selftest.nextAt = some t → testEnabled s.dev = true →
        s.dev.selftest.next = u.val → underTest s.dev u.val = false → Completes (.selftestDue u) s fun d =>
          d.selftest.next = (u.val + 1) % 21 ∧ d.selftest.nextAt = some (t + testPeriod s.dev / 21) ∧ d.now = max s.dev.now t ∧
          (u.val ∈ d.selftest.due ∨ (d.selftest.running = true ∧ d.selftest.unit = u.val)))) ∧
    (∀ (f : TestFindings) (s : State), (s.dev.selftest.running = false → exec (.selftestComplete f) s = .next s) ∧
      (s.dev.selftest.running = true → testFails s.dev s.dev.selftest.unit f = false → Completes (.selftestComplete f) s fun d =>
        d.selftest.running = false ∧ d.selftest.unit = 31 ∧ Counted .selftestRuns s.dev.selftest.unit s.dev d ∧
        (s.dev.selftest.unit < 16 → d.sites = s.dev.sites ∧ d.tenants = s.dev.tenants)) ∧
      (s.dev.selftest.running = true → s.dev.selftest.repeating = false → testFails s.dev s.dev.selftest.unit f = true →
        Completes (.selftestComplete f) s fun d => d = { s.dev with selftest := { s.dev.selftest with repeating := true, since := s.dev.now } }) ∧
      (s.dev.selftest.running = true → s.dev.selftest.repeating = true → testFails s.dev s.dev.selftest.unit f = true →
        Completes (.selftestComplete f) s fun d => d.selftest.running = false ∧ Counted .selftestFails s.dev.selftest.unit s.dev d ∧
          (s.dev.selftest.unit < 16 → ∀ x ∈ f.cores, testedSite s.dev s.dev.selftest.unit x.val = true → (d.site x.val).bad = some .fenced) ∧
          (s.dev.selftest.unit = 20 → d.entropy.stopped = true ∧ Raised 82 0 s.dev d))) ∧
    (∀ (q : TestRequest) (s : State),
      let may := s.dev.selftest.running = true ∧ requestMeets s.dev q = true ∧ requestHeld s.dev q = false
      (¬may → exec (.selftestPreemption q) s = .next s) ∧
      (may → Completes (.selftestPreemption q) s fun d => d.selftest.running = false ∧ d.selftest.unit = 31 ∧
        s.dev.selftest.unit ∈ d.selftest.due ∧ Counted .selftestPreempts s.dev.selftest.unit s.dev d)) ∧
    (∀ (u : Fin 21) (s : State), ((s.dev.boot.stage ≠ .main ∨ u.val ∈ s.dev.selftest.overdue) → exec (.selftestOverdue u) s = .next s) ∧
      (s.dev.boot.stage = .main → u.val ∉ s.dev.selftest.overdue → Completes (.selftestOverdue u) s fun d =>
        u.val ∈ d.selftest.overdue ∧ Raised 41 u.val s.dev d ∧ d.tenants = s.dev.tenants ∧
        d.now = max s.dev.now (s.dev.selftest.lastDone[u.val]'u.isLt + 4 * testPeriod s.dev))) ∧
    (∀ (fails : Bool) (s : State),
      ((s.dev.caddy.readOnly = true ∨ s.dev.caddy.due = false ∨ s.dev.caddy.victim = none) → exec (.caddyCompaction fails) s = .next s) ∧
      (∀ v, s.dev.caddy.readOnly = false → s.dev.caddy.due = true → s.dev.caddy.victim = some v →
        Completes (.caddyCompaction fails) s fun d => (d.caddy.sector v.num).recs = [] ∧ Counted .caddyCompactions 0 s.dev d ∧
          d.caddy.nextSeq = s.dev.caddy.nextSeq ∧ (fails = true → (d.caddy.sector v.num).retired = true) ∧
          (d.caddy.usable < 8 → d.caddy.readOnly = true ∧ (8, 0) ∈ d.gutter.cond) ∧ d.tenants = s.dev.tenants ∧ SameControl s.dev d))

/-- MIGRATION_SWITCH between steps, before the migration is four steps old, puts the unit in its new tier with no page marked and
counts the bytes and the direction; MIGRATION_ABANDON of one that is four steps old leaves the unit where it was and counts.
RETENTION_READ records when the page was read, counts retries, and retires a rebuilt or uncorrectable page's block.
TIER3_BLOCK_ERASE sets the average of cycles, and a failure retires the block. TIER3_SCAN_COMPLETE ends the scan. (R238, R240,
R263, R265, R266, R267) -/
def Obligations.UnitsMigrateBetweenStepsAndTierThreeIsKept : Prop :=
  (∀ (t : TenantId) (x i : Nat) (s : State),
      let found := (s.dev.tenant t).units.find? fun u => decide (u.tensor = x) && decide (u.index = i)
      (found = none → exec (.migrationSwitch t x i) s = .next s ∧ exec (.migrationAbandon t x i) s = .next s) ∧
      (∀ u, found = some u → u.migrating = none → exec (.migrationSwitch t x i) s = .next s ∧ exec (.migrationAbandon t x i) s = .next s) ∧
      (∀ u dst age, found = some u → u.migrating = some (dst, age) →
        ((betweenSteps s.dev t = false ∨ 4 ≤ age) → exec (.migrationSwitch t x i) s = .next s) ∧
        (betweenSteps s.dev t = true → age < 4 → Completes (.migrationSwitch t x i) s fun d =>
          ((d.tenant t).units.find? fun u => decide (u.tensor = x) && decide (u.index = i)) =
            some { u with tier := dst, migrating := none, marked := [] } ∧
          (∀ k : TenantId, k ≠ t → d.tenant k = s.dev.tenant k) ∧ (d.tenant t).tensors = (s.dev.tenant t).tensors ∧
          (dst < u.tier → Counted .promotions t.val s.dev d) ∧ (u.tier ≤ dst → Counted .demotions t.val s.dev d)) ∧
        (age < 4 → exec (.migrationAbandon t x i) s = .next s) ∧
        (4 ≤ age → Completes (.migrationAbandon t x i) s fun d =>
          ((d.tenant t).units.find? fun u => decide (u.tensor = x) && decide (u.index = i)) =
            some { u with migrating := none, marked := [] } ∧ Counted .migrationsAbandoned t.val s.dev d ∧
          ∀ k : TenantId, k ≠ t → d.tenant k = s.dev.tenant k))) ∧
    (∀ (page : Nat) (own : Option TensorAt) (s : State), checkInverted s.dev 3 = false →
      (Completes (.retentionRead page own .clean) s fun d => d.tiers.t3.lastRead.head? = some (page, s.dev.now) ∧ d.counters = s.dev.counters ∧
        d.tenants = s.dev.tenants) ∧
      (∀ n, Completes (.retentionRead page own (.retried n)) s fun d => d.tiers.t3.lastRead.head? = some (page, s.dev.now) ∧
        d.count .t3Retries = min (s.dev.count .t3Retries + n.val) (2 ^ Counter.t3Retries.info.width - 1) ∧ d.tenants = s.dev.tenants) ∧
      (∀ b spare, Completes (.retentionRead page own (.rebuilt b spare)) s fun d => b ∈ d.tiers.t3.retiredBlocks ∧
        Counted .t3Rebuilds 0 s.dev d ∧ d.tiers.t3.lost = s.dev.tiers.t3.lost ∧ d.tenants = s.dev.tenants) ∧
      (∀ b spare, own = none → Completes (.retentionRead page own (.uncorrectable b spare)) s fun d => b ∈ d.tiers.t3.retiredBlocks ∧
        page ∈ d.tiers.t3.lost ∧ Raised 3 0 s.dev d)) ∧
    (∀ (b avg : Nat) (s : State),
      (Completes (.tier3BlockErase b avg none) s fun d => d.count .peCycles = min avg (2 ^ Counter.peCycles.info.width - 1) ∧
        d.tiers = s.dev.tiers ∧ d.tenants = s.dev.tenants) ∧
      (∀ spare, Completes (.tier3BlockErase b avg (some spare)) s fun d => b ∈ d.tiers.t3.retiredBlocks ∧
        (b ∉ s.dev.tiers.t3.retiredBlocks → d.tiers.t3.spare = spare ∧ Counted .retiredBlocks 0 s.dev d ∧
          (spare < 1000 → (7, 0) ∈ d.gutter.cond)))) ∧
    (∀ s : State, (s.dev.tiers.t3.scanning = false → exec .tier3ScanComplete s = .next s) ∧
      (s.dev.tiers.t3.scanning = true → Completes .tier3ScanComplete s fun d =>
        d.tiers = { s.dev.tiers with t3 := { s.dev.tiers.t3 with scanning := false, scanDue := s.dev.backup.rtcLost } } ∧
          d.tenants = s.dev.tenants))

/-- A TIER_READ without a slot waits. A corrected line counts for its device; an uncorrectable line of a writable tensor poisons it,
loses its 64 bytes, raises the tier's source and invalidates the step that read it; a PATROL_SCRUB of a free line poisons
without a tenant. TIER_RECOVERED takes the poison of a read-only copy's line, raises TIER_RECOVERED and retires its row;
RETIREMENT_COPY and RETIREMENT_LOCK_TIMEOUT retire the row. TIER_STACK_LOST removes the device once and loses what it held of
writable tensors. (R254, R256, R258, R273, R274, R275, R277, R279) -/
def Obligations.TierLinesAreCorrectedPoisonedRecoveredAndRetired : Prop :=
  (∀ (o : TensorAt) (others : List TenantId) (dev : TierDev) (addr row : Nat) (s : State), (tierDev s.dev dev).health ≠ .lost →
      (∀ r, lineSlot dev o.tenant others s.dev = none → exec (.tierRead o others (.line dev addr row r)) s = .next s) ∧
      (∀ d0 x, lineSlot dev o.tenant others s.dev = some d0 → checkInverted s.dev (devSource dev).1 = false →
        findTensor s.dev o.tenant o.id = some x → x.rangeLost (o.off / 64 * 64) 64 = false →
        (Completes (.tierRead o others (.line dev addr row .clean)) s fun d => d = d0) ∧
        (∀ k, Completes (.tierRead o others (.line dev addr row (.corrected k))) s fun d =>
          (∀ t : TenantId, (d.tenant t).tensors = (s.dev.tenant t).tensors) ∧
          Counted (match dev with | .stack _ => .t1Corrected | .package _ => .t2Corrected) (devInst dev) s.dev d) ∧
        (x.mode ≠ .readOnly → Completes (.tierRead o others (.line dev addr row .uncorrectable)) s fun d =>
          Counted .poisonedLines (devInst dev) s.dev d ∧ Raised (devSource dev).1.val (devSource dev).2 s.dev d ∧
          (∃ y, findTensor d o.tenant o.id = some y ∧ y.rangeLost (o.off / 64 * 64) 64 = true ∧ y.bytes = x.bytes) ∧
          (∀ st, d.stepOf o.tenant = some st → st.reason.isSome = true) ∧ (∃ p ∈ (tierDev d dev).poison, p.addr = addr)))) ∧
    (∀ (dev : TierDev) (addr row : Nat) (s : State),
      ((tierDev s.dev dev).health = .lost → ∀ own r, exec (.patrolScrub dev addr row own r) s = .next s) ∧
      ((tierDev s.dev dev).health ≠ .lost → checkInverted s.dev (devSource dev).1 = false →
        exec (.patrolScrub dev addr row none .clean) s = .next s ∧
        (Completes (.patrolScrub dev addr row none .uncorrectable) s fun d => Counted .poisonedLines (devInst dev) s.dev d ∧
          (∃ p ∈ (tierDev d dev).poison, p.addr = addr) ∧ d.tenants = s.dev.tenants))) ∧
    (∀ (dev : TierDev) (addr : Nat) (s : State),
      let found := (tierDev s.dev dev).poison.find? fun r => decide (r.addr = addr) && decide (r.len = 64)
      (found = none → exec (.tierRecovered dev addr) s = .next s) ∧
      (∀ r (t : TenantId) x, found = some r → r.tenant = t.val → findTensor s.dev t r.tensor = some x →
        (x.mode ≠ .readOnly → exec (.tierRecovered dev addr) s = .next s) ∧
        (x.mode = .readOnly → Completes (.tierRecovered dev addr) s fun d => (∀ p ∈ (tierDev d dev).poison, p.addr ≠ addr) ∧
          Raised 4 (devInst dev) s.dev d ∧
          (r.row ∈ (tierDev d dev).retired ∨ ∃ c ∈ (tierDev d dev).copying, c.1 = r.row)))) ∧
    (∀ (dev : TierDev) (row : Nat) (pages : List Nat) (s : State),
      ((∀ c ∈ (tierDev s.dev dev).copying, c.1 ≠ row) → exec (.retirementCopy dev row pages) s = .next s ∧
        ∀ lines, exec (.retirementLockTimeout dev row pages lines) s = .next s) ∧
      (∀ c, (tierDev s.dev dev).copying.find? (fun c => decide (c.1 = row)) = some c →
        (Completes (.retirementCopy dev row pages) s fun d => row ∈ (tierDev d dev).retired ∧ (∀ c ∈ (tierDev d dev).copying, c.1 ≠ row) ∧
          Counted (match dev with | .stack _ => .retiredPages | .package _ => .retiredRows) (devInst dev) s.dev d ∧ d.tenants = s.dev.tenants) ∧
        (∀ lines, Completes (.retirementLockTimeout dev row pages lines) s fun d => row ∈ (tierDev d dev).retired ∧
          (∀ c ∈ (tierDev d dev).copying, c.1 ≠ row) ∧ Counted .forcedReleases 0 s.dev d ∧ Raised 56 5 s.dev d ∧
          d.now = max s.dev.now (c.2 + ms)))) ∧
    (∀ (dev : TierDev) (held : List TensorAt) (mirrors : List (TenantId × Nat)) (s : State),
      Completes (.tierStackLost dev held mirrors) s fun d => (tierDev d dev).health = .lost ∧
        ((tierDev s.dev dev).health ≠ .lost → Raised 6 (devInst dev) s.dev d) ∧
        (∀ q ∈ mirrors, ∀ m ∈ (d.tenant q.1).mirrors, m.next ≠ q.2) ∧
        (∀ u ∈ held, ∀ x, findTensor s.dev u.tenant u.id = some x → x.mode ≠ .readOnly →
          ∃ y, findTensor d u.tenant u.id = some y ∧ y.rangeLost (u.off / unitBytes * unitBytes) unitBytes = true))

/-- Ten present lanes take a detecting port to EQUALISE. TRAINING_COMPLETE makes a training port ACTIVE on 20 good lanes, or on 10
when fewer are good or half width was asked for, and fences it below 10. A warm timeout trains cold; a cold one fences a
retraining port and takes any other down. A failing active lane becomes an erasure and a swap onto the lowest spare begins;
without a spare the port retrains at half width or is fenced. The messages of a swap have their effects, and a takeover retires
the failing lane. (R464, R470, R471, R472, R473, R474, R475, R476) -/
def Obligations.RidgePortsTrainRetrainAndSwapLanes : Prop :=
  (∀ (p : PortId) (lanes : Fin 23) (s : State),
      (((s.dev.port p).state ≠ .detect ∨ lanes.val < 10) → exec (.presenceDetect p lanes) s = .next s) ∧
      ((s.dev.port p).state = .detect → 10 ≤ lanes.val → Completes (.presenceDetect p lanes) s fun d =>
        (d.port p).state = .equalise ∧ (d.port p).since = s.dev.now ∧ ∀ q : PortId, q ≠ p → d.port q = s.dev.port q)) ∧
    (∀ (p : PortId) (serial : BitVec 128) (pp : Fin 8) (iface : Nat) (bad : List (Fin 22)) (sb : Bool) (s : State),
      let left := goodLanes ((bad.map (·.val)).foldl (fun r l => retireLane l r) (s.dev.port p))
      let half := left.length < 20 ∨ ∃ c, (s.dev.port p).retrainReq = some (c, 10)
      ((s.dev.port p).training = false → exec (.trainingComplete p serial pp iface bad sb) s = .next s) ∧
      ((s.dev.port p).training = true → left.length < 10 → Completes (.trainingComplete p serial pp iface bad sb) s fun d =>
        (d.port p).state = .fenced ∧ (d.port p).activeLanes = 0 ∧ Raised 19 p.val s.dev d ∧ d.tenants = s.dev.tenants) ∧
      ((s.dev.port p).training = true → 10 ≤ left.length → Completes (.trainingComplete p serial pp iface bad sb) s fun d =>
        (d.port p).state = .active ∧ (d.port p).peerSerial = serial ∧ (d.port p).peerPort = pp.val ∧ (d.port p).peerIface = iface ∧
        (d.port p).sideband = sb ∧ (half → (d.port p).activeLanes = 10 ∧ (d.port p).lanes = left.take 10) ∧
        (¬half → (d.port p).activeLanes = 20 ∧ (d.port p).lanes = left.take 20) ∧
        (∃ x ∈ d.coeffs, x.port = p.val ∧ x.serial = serial ∧ x.peerPort = pp.val) ∧ (sb = false → Raised 21 p.val s.dev d))) ∧
    (∀ (p : PortId) (s : State),
      let r := s.dev.port p
      ((r.training = false ∨ r.warmTry = false) → exec (.warmTrainingTimeout p) s = .next s) ∧
      (r.training = true → r.warmTry = true → Completes (.warmTrainingTimeout p) s fun d => (d.port p).warmTry = false ∧
        (d.port p).state = r.state ∧ d.now = max s.dev.now (r.since + 20 * ms) ∧ (d.port p).since = d.now) ∧
      ((r.training = false ∨ r.warmTry = true) → exec (.coldTrainingTimeout p) s = .next s) ∧
      (r.training = true → r.warmTry = false → Completes (.coldTrainingTimeout p) s fun d =>
        (d.port p).state = (if r.state = .retrain then .fenced else .down) ∧ (d.port p).activeLanes = 0 ∧
        d.now = max s.dev.now (r.since + 500 * ms) ∧ Raised 19 p.val s.dev d)) ∧
    (∀ (p : PortId) (l : Fin 22) (s : State),
      let r := s.dev.port p
      ((r.state ≠ .active ∨ l.val ∈ r.erasures ∨ r.badLanes.getLsbD l.val = true) → exec (.laneFailure p l) s = .next s) ∧
      (r.state = .active → l.val ∉ r.erasures → r.badLanes.getLsbD l.val = false →
        (∀ q rest, l.val ∈ r.lanes → spareLanes r = q :: rest → Completes (.laneFailure p l) s fun d =>
          (d.port p).erasures = r.erasures ++ [l.val] ∧ (d.port p).swaps = r.swaps ++ [{ failing := l.val, spare := q }] ∧
          (d.port p).state = .active) ∧
        (l.val ∈ r.lanes → spareLanes r = [] → 10 ≤ (goodLanes (retireLane l.val r)).length → Completes (.laneFailure p l) s fun d =>
          (d.port p).state = .retrain ∧ (d.port p).retrainReq = some (1, 10) ∧ (d.port p).badLanes.getLsbD l.val = true ∧
          Counted .ridgeRetrains p.val s.dev d) ∧
        (l.val ∈ r.lanes → spareLanes r = [] → (goodLanes (retireLane l.val r)).length < 10 → Completes (.laneFailure p l) s fun d =>
          (d.port p).state = .fenced ∧ Raised 19 p.val s.dev d) ∧
        (l.val ∉ r.lanes → (∀ x ∈ r.swaps, x.spare ≠ l.val ∨ x.taken = true) → Completes (.laneFailure p l) s fun d =>
          d.port p = retireLane l.val r))) ∧
    (∀ (p : PortId) (f sp : Fin 22) (s : State),
      ((s.dev.port p).state ≠ .active → exec (.laneSwapReq p f sp) s = .next s ∧ exec (.laneSwapDone p f sp) s = .next s) ∧
      ((s.dev.port p).state = .active →
        (Completes (.laneSwapReq p f sp) s fun d => (f.val, sp.val) ∈ (d.port p).copies ∧ d.out.length = s.dev.out.length + 1 ∧
          (d.port p).badLanes = (s.dev.port p).badLanes) ∧
        (Completes (.laneSwapDone p f sp) s fun d => (f.val, sp.val) ∉ (d.port p).copies ∧ f.val ∈ (d.port p).undriven ∧
          (d.port p).badLanes.getLsbD f.val = true ∧ d.out.length = s.dev.out.length + 1))) ∧
    (∀ (p : PortId) (k : BitVec 8) (f sp : Fin 22) (s : State), Completes (.laneAck p k f sp) s fun d =>
      (k = 2 → ∀ x ∈ (d.port p).swaps, x.failing = f.val → x.spare = sp.val → x.acked = true) ∧
      (k = 3 → ∀ x ∈ (d.port p).swaps, ¬(x.failing = f.val ∧ x.spare = sp.val ∧ x.taken = true)) ∧
      (k ≠ 2 → k ≠ 3 → d.port p = s.dev.port p) ∧ (d.port p).lanes = (s.dev.port p).lanes) ∧
    (∀ (p : PortId) (s : State),
      (Completes (.spareDeskew p) s fun d => (∀ x ∈ (d.port p).swaps, x.acked = true → x.deskewed = true) ∧
        (d.port p).lanes = (s.dev.port p).lanes) ∧
      let ready := (s.dev.port p).swaps.filter fun x => x.deskewed && !x.taken
      (((s.dev.port p).state ≠ .active ∨ ready = []) → exec (.laneSwapTakeover p) s = .next s) ∧
      ((s.dev.port p).state = .active → ready ≠ [] → Completes (.laneSwapTakeover p) s fun d =>
        (∀ x ∈ ready, (d.port p).badLanes.getLsbD x.failing = decide (x.failing < 22)) ∧
        (∀ x ∈ ready, x.failing ∉ (d.port p).erasures) ∧ (d.port p).lanes.length = (s.dev.port p).lanes.length ∧
        d.out.length = s.dev.out.length + ready.length) ∧
      ((s.dev.port p).state ≠ .active → exec (.linkMessageRepeat p) s = .next s) ∧
      ((s.dev.port p).state = .active → Completes (.linkMessageRepeat p) s fun d => d.ridge = s.dev.ridge ∧
        d.out.length = s.dev.out.length + ((s.dev.port p).swaps.filter fun x => x.taken || !x.acked).length)) ∧
    (∀ (p : PortId) (cause w : BitVec 8) (s : State),
      (w.toNat ≠ 10 → w.toNat ≠ 20 → Completes (.retrainReq p cause w) s fun d => Counted .protoErrors p.val s.dev d ∧ d.ridge = s.dev.ridge) ∧
      ((w.toNat = 10 ∨ w.toNat = 20) → ((s.dev.port p).state ≠ .active → exec (.retrainReq p cause w) s = .next s) ∧
        ((s.dev.port p).state = .active → Completes (.retrainReq p cause w) s fun d => (d.port p).state = .retrain ∧
          (d.port p).retrainReq = some (cause.toNat, w.toNat) ∧ Counted .ridgeRetrains p.val s.dev d ∧
          (d.port p).replay = (s.dev.port p).replay)))

/-- FLIT_RECEIVED on an ACTIVE port with an uncorrectable codeword or a wrong CRC counts and accepts nothing; a sequenced flit with
the expected SEQ advances it, another leaves it with a NAK outstanding. NAK sends the replay buffer again, and the sixteenth on
one SEQ retrains; NAK_REPEAT repeats, and the sixteenth retrains. SLOT_DATA lands unchanged and completes its slots; an operand
waits for its partner or is added to it; a result and moved state land at their destination. (R452, R461, R462, R463, R464,
R487, R489, R501) -/
def Obligations.FlitsAreCheckedRetriedAndTheirMessagesLand : Prop :=
  (∀ (p : PortId) (bytes : List Byte) (errors : List Nat) (credit : Fin 10) (s : State),
      let r := s.dev.port p
      let fails := (∃ t ∈ errors, 30 < 2 * t + erasedSymbols r) ∨ crc32 (fit 252 bytes) ≠ leAt bytes 252 4
      let type := field (leAt bytes 0 4) 30 2
      let seq := field (leAt bytes 0 4) 15 12
      (r.state ≠ .active → exec (.flitReceived p bytes errors credit) s = .next s) ∧
      (r.state = .active → fails → Completes (.flitReceived p bytes errors credit) s fun d => Counted .ridgeCrcFails p.val s.dev d ∧
        (d.port p).rxSeq = r.rxSeq ∧ (d.port p).nak.isSome = true ∧ (d.port p).rxMsg = r.rxMsg ∧
        (r.nak = none → (d.port p).nak = some (r.rxSeq, 1) ∧ Counted .ridgeNaks p.val s.dev d)) ∧
      (r.state = .active → ¬fails → (type = flitData ∨ type = flitMgmt) → seq = r.rxSeq →
        Completes (.flitReceived p bytes errors credit) s fun d => (d.port p).rxSeq = (r.rxSeq + 1) % 4096 ∧ (d.port p).nak = none ∧
          (d.port p).state = .active) ∧
      (r.state = .active → ¬fails → (type = flitData ∨ type = flitMgmt) → seq ≠ r.rxSeq →
        Completes (.flitReceived p bytes errors credit) s fun d => (d.port p).rxSeq = r.rxSeq ∧ (d.port p).nak.isSome = true ∧
          (d.port p).rxMsg = r.rxMsg) ∧
      (r.state = .active → ¬fails → type = flitIdle → Completes (.flitReceived p bytes errors credit) s fun d =>
        (d.port p).rxSeq = r.rxSeq ∧ (d.port p).nak = r.nak ∧ d.tenants = s.dev.tenants)) ∧
    (∀ (p : PortId) (seq : BitVec 12) (s : State),
      let r := s.dev.port p
      let n := if r.nakSeen.1 = seq.toNat then r.nakSeen.2 + 1 else 1
      (r.state ≠ .active → exec (.nak p seq) s = .next s) ∧
      (r.state = .active → 16 ≤ n → Completes (.nak p seq) s fun d => (d.port p).state = .retrain ∧ Counted .ridgeRetrains p.val s.dev d) ∧
      (r.state = .active → n < 16 → r.txq = [] → Completes (.nak p seq) s fun d => (d.port p).state = .active ∧
        (d.port p).nakSeen = (seq.toNat, n) ∧ (d.port p).replay = (takeAck seq.toNat r).replay ∧
        d.out.length = s.dev.out.length + (takeAck seq.toNat r).replay.length)) ∧
    (∀ (p : PortId) (s : State),
      let r := s.dev.port p
      ((r.nak = none ∨ r.state ≠ .active) → exec (.nakRepeat p) s = .next s) ∧
      (∀ seq n, r.nak = some (seq, n) → r.state = .active → Completes (.nakRepeat p) s fun d => (d.port p).nak = some (seq, n + 1) ∧
        Counted .ridgeNaks p.val s.dev d ∧ (d.port p).state = (if 15 ≤ n then .retrain else .active))) ∧
    (∀ (t : TenantId) (v : VtileRef) (a : Nat) (bytes : List Byte) (done_ : List (VtileRef × Nat)) (s : State),
      s.dev.scratch.wf = true → ownsVtile s.dev t v = true → a + bytes.length ≤ 2 ^ 19 → Completes (.slotData t (.spad v a) bytes done_ 0 none) s fun d =>
        spadRead d v a bytes.length = bytes ∧ ScratchOutside (spadCell v a) bytes.length s.dev d ∧
        ∀ q ∈ done_, vtNum q.1 * 65536 + q.2 ∈ (d.tenant t).landed) ∧
    (∀ (p : PortId) (t : TenantId) (red node : Nat) (right : Bool) (k : ReduceKind) (mark : Bool) (vs : List Int)
        (up : Option (SpanIndex × Nat × Bool)) (dest : Fin 17) (s : State),
      let r := s.dev.port p
      let found := r.operands.find? fun o => decide (o.vc = 2 * t.val) && decide (o.red = red) && decide (o.node = node) && !decide (o.right = right)
      (found = none → Completes (.reduceOperand p t red node right k mark vs up dest) s fun d =>
        (∃ o, (d.port p).operands = r.operands ++ [o] ∧ o.values = vs ∧ o.mark = mark ∧ o.node = node) ∧ d.out = s.dev.out ∧
        (d.port p).freed = r.freed) ∧
      (∀ o, found = some o → Completes (.reduceOperand p t red node right k mark vs up dest) s fun d =>
        (d.port p).operands = r.operands.erase o)) ∧
    (∀ (t : TenantId) (red : Nat) (k : ReduceKind) (mark : Bool) (vs : List Int) (v : VtileRef) (a : Nat) (s : State),
      let bs := vs.flatMap fun x => leBytes (reduceBytes k) (resultElement k mark x)
      s.dev.scratch.wf = true → ownsVtile s.dev t v = true → a + bs.length ≤ 2 ^ 19 → Completes (.reduceResult t red none k mark vs v a) s fun d =>
        spadRead d v a bs.length = bs ∧ ScratchOutside (spadCell v a) bs.length s.dev d ∧ (mark = true → Counted .reduceOverflow t.val s.dev d)) ∧
    (∀ (t : TenantId) (i : SpanIndex) (v : VtileRef) (a : Nat) (bytes : List Byte) (last : Bool) (s : State),
      s.dev.scratch.wf = true → Completes (.stateMove t i (.spad v a) bytes last) s fun d => spadRead d v a bytes.length = bytes ∧
        ScratchOutside (spadCell v a) bytes.length s.dev d ∧
        (last = true → s.dev.span.formed = true → d.span.carried.getLsbD i.val = true ∧ ∀ m ∈ d.span.peers, bitAt m.indices i.val = false) ∧
        (last = false → d.span = s.dev.span))

/-- SPAN_FORM with a bad record or none of this module's indices is BAD_PARAM, on a formed or forming span BUSY; otherwise it takes
the record, and its cabled ports that are DOWN start to train. SPAN_HELLO of another span marks the cabling wrong; a commit that
names this module forms the span and completes SPAN_FORM, one that refuses it completes with SPAN_MISMATCH. FORM_TIMEOUT with
too few modules ends with TIMEOUT. A heartbeat is noted or a wrong digest removes its member; a lost member, an expulsion and
SPAN_LEAVE have their effects; TIME_SYNC follows the leader. (R485, R492, R493, R494, R495, R496, R497, R498, R499, R500, R575) -/
def Obligations.SpansFormLiveAndEnd : Prop :=
  (∀ (c : Call) (b : List Byte) (s : State), Served c s.dev → field (c.w 2) 0 16 ≤ 4096 → c.readBuf 2 544 = .ok b →
      let e := modSpan (fun x => { x with record := b, digest := sha384First16 b, topology := leAt b 8 1 }) s.dev
      let own := recordIndices e s.dev.boot.serial
      ((recordOk b = false ∨ own = [] ∨ 2 < own.length) → Completes (.spanForm c) s fun d => Answered c .badParam 0 [] d ∧ d.span = s.dev.span) ∧
      (recordOk b = true → own ≠ [] → own.length ≤ 2 → (s.dev.span.formed = true ∨ s.dev.span.forming.isSome = true) →
        Completes (.spanForm c) s fun d => Answered c .busy 0 [] d ∧ d.span = s.dev.span) ∧
      (recordOk b = true → own ≠ [] → own.length ≤ 2 → s.dev.span.formed = false → s.dev.span.forming = none →
        (own.length = 2 → 9216 ≤ goodCount s.dev) → Completes (.spanForm c) s fun d =>
          d.span.record = b ∧ d.span.digest = sha384First16 b ∧ (d.span.forming = some (c, s.dev.now) ∨ d.span.formed = true) ∧
          ∀ p : PortId, bitAt (ownPorts e) p.val = true → (s.dev.port p).state = .down → (d.port p).state = .detect)) ∧
    (∀ (p : PortId) (h : Hello) (s : State),
      ((s.dev.span.formed = false ∧ s.dev.span.forming = none) → exec (.spanHello p h) s = .next s) ∧
      ((s.dev.span.formed = true ∨ s.dev.span.forming.isSome = true) → h.spanId.toNat ≠ spanId s.dev → Completes (.spanHello p h) s fun d =>
        (d.port p).cablingOk = false ∧ Counted .protoErrors p.val s.dev d ∧ d.span = s.dev.span) ∧
      (s.dev.span.formed = true → s.dev.span.forming = none → h.spanId.toNat = spanId s.dev → h.serial ≠ s.dev.boot.serial →
        (∀ m ∈ s.dev.span.peers, m.serial ≠ h.serial) → Completes (.spanHello p h) s fun d =>
          (∃ m ∈ d.span.arrivals, m.serial = h.serial ∧ m.indices = h.indices.toNat ∧ m.heard = s.dev.now) ∧ d.span.peers = s.dev.span.peers)) ∧
    (∀ (k : SpanCommit) (s : State),
      ((s.dev.span.formed = false ∧ s.dev.span.forming = none) → exec (.spanCommit k) s = .next s) ∧
      (∀ c since, s.dev.span.formed = false → s.dev.span.forming = some (c, since) →
        (s.dev.boot.serial ∈ k.members.map (·.1) → Completes (.spanCommit k) s fun d => Finished c .ok d ∧ d.span.formed = true ∧
          d.span.leader = k.leader.val ∧ d.span.lMax = k.lMax ∧ d.span.iface = k.iface ∧ d.span.arithMixed = k.arithMixed ∧
          d.span.forming = none) ∧
        (s.dev.boot.serial ∉ k.members.map (·.1) → k.digest ≠ s.dev.span.digest → Completes (.spanCommit k) s fun d =>
          Answered c .spanMismatch 0x30 [] d ∧ d.span.formed = false ∧ d.span.forming = none ∧ Raised 96 0 s.dev d))) ∧
    (∀ s : State, (s.dev.span.forming = none → exec .formTimeout s = .next s) ∧
      (∀ c since, s.dev.span.forming = some (c, since) →
        ((admitted (present s.dev)).length < minMembers s.dev → Completes .formTimeout s fun d => Answered c .timeout 0 [] d ∧
          d.span.forming = none ∧ d.span.peers = [] ∧ d.now = max s.dev.now (since + formTimeout s.dev)) ∧
        (minMembers s.dev ≤ (admitted (present s.dev)).length → leadsPresent s.dev = true → Completes .formTimeout s fun d =>
          Finished c .ok d ∧ d.span.formed = true ∧ d.span.forming = none))) ∧
    (∀ (serial dg : BitVec 128) (ix : BitVec 16) (lat lm : Nat) (s : State),
      let found := s.dev.span.peers.find? fun m => decide (m.serial = serial)
      ((found = none ∨ s.dev.span.formed = false) → exec (.spanHeartbeat serial dg ix lat lm) s = .next s) ∧
      (∀ m, found = some m → s.dev.span.formed = true →
        (dg = s.dev.span.digest → Completes (.spanHeartbeat serial dg ix lat lm) s fun d =>
          (∀ x ∈ d.span.peers, x.serial = serial → x.heard = s.dev.now ∧ x.latency = lat) ∧
          (isLeader s.dev = false → bitAt m.indices s.dev.span.leader = true → d.span.lMax = lm)) ∧
        (dg ≠ s.dev.span.digest → bitAt m.indices s.dev.span.leader = false → Completes (.spanHeartbeat serial dg ix lat lm) s fun d =>
          (∀ x ∈ d.span.peers, x.serial ≠ serial) ∧ d.span.members = s.dev.span.members &&& ~~~(BitVec.ofNat 16 m.indices)))) ∧
    (∀ s : State, (s.dev.span.formed = false → exec .heartbeatSend s = .next s ∧ exec .spanExpel s = .next s) ∧
      (s.dev.span.formed = true →
        (Completes .heartbeatSend s fun d => d.span.heartbeat = s.dev.span.heartbeat + 1 ∧
          (isLeader s.dev = true → d.span.arrivals = []) ∧ d.span.formed = true) ∧
        (Completes .spanExpel s fun d => d.span.formed = false ∧ d.span.carried = 0 ∧ d.span.peers = [] ∧ Raised 96 0 s.dev d))) ∧
    (∀ (i : SpanIndex) (s : State), ((memberAt s.dev i.val = none ∨ s.dev.span.formed = false) → exec (.spanMemberLost i) s = .next s) ∧
      (∀ m, memberAt s.dev i.val = some m → s.dev.span.formed = true → Completes (.spanMemberLost i) s fun d =>
        (∀ x ∈ d.span.peers, x.serial ≠ m.serial) ∧ d.now = max s.dev.now (m.heard + 10 * ms) ∧ Raised 97 m.lowest s.dev d ∧
        (d.span.formed = false → d.span.partitioned = true ∧ d.span.carried = 0))) ∧
    (∀ (c : Call) (able : Bool) (s : State), Served c s.dev →
      let w := c.w 1
      let pairs := (if bitAt w 8 then [(field w 0 4, field w 4 4)] else []) ++ (if bitAt w 24 then [(field w 16 4, field w 20 4)] else [])
      ((s.dev.span.formed = false ∨ maskOf (pairs.map (·.1)) ≠ s.dev.span.carried ∨ ¬(pairs.map (·.1)).Nodup) →
        Completes (.spanLeave c able) s fun d => Answered c .badParam 0 [] d ∧ d.span = s.dev.span) ∧
      (s.dev.span.formed = true → maskOf (pairs.map (·.1)) = s.dev.span.carried → (pairs.map (·.1)).Nodup →
        (s.dev.span.leaving.isSome = true → Completes (.spanLeave c able) s fun d => Answered c .busy 0 [] d ∧ d.span = s.dev.span) ∧
        (s.dev.span.leaving = none → able = false → Completes (.spanLeave c able) s fun d =>
          Answered c .noResource 0 [] d ∧ d.span = s.dev.span) ∧
        (s.dev.span.leaving = none → able = true → pairs ≠ [] → s.dev.span.moves = [] →
          (∀ q ∈ pairs, ∃ m, s.dev.span.peers.find? (fun m => decide (m.lowest = q.2)) = some m ∧
            (indicesOf m.indices).length + (pairs.filter fun x => decide (x.2 = q.2)).length ≤ 2) →
          (∀ t : TenantId, running s.dev t = false) → Completes (.spanLeave c able) s fun d =>
            Answered c .ok 0 (leBytes 2 s.dev.span.carried.toNat) d ∧ d.span.formed = false ∧ d.span.carried = 0 ∧ d.span.leaving = none))) ∧
    (∀ (time : Nat) (s : State), ((s.dev.span.formed = false ∨ isLeader s.dev = true) → exec (.timeSync time) s = .next s) ∧
      (s.dev.span.formed = true → isLeader s.dev = false → Completes (.timeSync time) s fun d =>
        d.span.syncOffset = Int.ofNat time - Int.ofNat (moduleTime s.dev) ∧ d.time.lastRef = some s.dev.now ∧ d.backup.rtcLost = false ∧
        (0 < moduleTime s.dev → (moduleTime s.dev + 1000 ≤ time ∨ time + 1000 ≤ moduleTime s.dev) → moduleTime d = time)))

/-- A sideband message with a wrong CRC is counted and has no other effect. ARRIVE notes its sender; RELEASE and RELEASE_COPY set
the instant of the local release of a barrier that this module has reached, the copy 20 ns earlier; ABORT and BARRIER_TIMEOUT
end the barrier, the latter at the leader with its source and a forced release. BARRIER_LOCAL_RELEASE ends it at its instant and
counts it. ECHO is answered on its port; ECHO_REPLY gives half the round trip as the latency; ECHO_MEASUREMENT sends a probe,
and one without an answer fails the sideband. (R481, R482, R483, R484, R485, R663) -/
def Obligations.BarriersReleaseAbortAndMeasure : Prop :=
  (∀ (p : PortId) (n : BitVec 16) (src : SpanIndex) (crc : BitVec 8) (s : State),
      let good := fun kind : LinkMsg => crc.toNat = crc8 (sidebandBody kind n.toNat src.val) 24 0
      let counted := Host.Outcome.next (φ := Fault) (ρ := Refusal) { s with dev := bump .sidebandCrc p.val s.dev }
      (¬good .arrive → exec (.arrive p n src (some crc)) s = counted) ∧ (¬good .release → exec (.release p n src (some crc)) s = counted) ∧
      (¬good .releaseCopy → exec (.releaseCopy p n src (some crc)) s = counted) ∧ (¬good .abort → exec (.abort p n src (some crc)) s = counted) ∧
      (¬good .echo → exec (.echo p n src (some crc)) s = counted) ∧
      (∀ above, ¬good .echoReply → exec (.echoReply p n src (some crc) above) s = counted) ∧
      (good .arrive → s.dev.span.formed = false → exec (.arrive p n src (some crc)) s = .next s) ∧
      (good .arrive → s.dev.span.formed = true → barrierOver s.dev n.toNat = false → Completes (.arrive p n src (some crc)) s fun d =>
        ∃ b, barrierOf d n.toNat = some b ∧ src.val ∈ b.arrived) ∧
      (∀ b, barrierOf s.dev n.toNat = some b → b.reached.isSome = true → b.releaseAt = none →
        (good .release → Completes (.release p n src (some crc)) s fun d =>
          ∃ x, barrierOf d n.toNat = some x ∧ x.releaseAt = some (s.dev.now + (s.dev.span.lMax - s.dev.span.lSelf))) ∧
        (good .releaseCopy → Completes (.releaseCopy p n src (some crc)) s fun d =>
          ∃ x, barrierOf d n.toNat = some x ∧ x.releaseAt = some (s.dev.now + (s.dev.span.lMax - s.dev.span.lSelf) - 20))) ∧
      (good .abort → Completes (.abort p n src (some crc)) s fun d => barrierOf d n.toNat = none) ∧
      (good .echo → Completes (.echo p n src (some crc)) s fun d => d.ridge = s.dev.ridge ∧
        d.out = .ridge p.val .echoReply [sidebandWord .echoReply n.toNat (selfIndex s.dev)] [] :: s.dev.out) ∧
      (∀ above, good .echoReply → ((s.dev.port p).echoSent = none → exec (.echoReply p n src (some crc) above) s = .next s) ∧
        (∀ t, (s.dev.port p).echoSent = some t → Completes (.echoReply p n src (some crc) above) s fun d =>
          (d.port p).echo = some ((s.dev.now - t) / 2) ∧ (d.port p).echoSent = none ∧ (d.port p).sideband = true ∧
          (parentPort s.dev = some p → d.span.lSelf = (s.dev.now - t) / 2 + above)))) ∧
    (∀ (n : BitVec 16) (s : State), barrierOf s.dev n.toNat = none →
      exec (.arriveRepeat n) s = .next s ∧ (∀ x, exec (.barrierLocalRelease n x) s = .next s) ∧ exec (.barrierTimeout n) s = .next s) ∧
    (∀ (n : BitVec 16) (b : Barrier) (s : State), barrierOf s.dev n.toNat = some b →
      (Completes (.arriveRepeat n) s fun d => d.tenants = s.dev.tenants ∧ d.now = s.dev.now ∧
        ∃ x, barrierOf d n.toNat = some x ∧ x.arrived = b.arrived ∧ x.releaseAt = b.releaseAt) ∧
      (∀ x, (b.releaseAt = none → exec (.barrierLocalRelease n x) s = .next s) ∧
        (∀ at_, b.releaseAt = some at_ → Completes (.barrierLocalRelease n x) s fun d => barrierOf d n.toNat = none ∧
          d.now = max s.dev.now at_ ∧ Counted .barriers 0 s.dev d)) ∧
      ((b.reached = none ∨ isLeader s.dev = false ∨ b.releaseAt.isSome = true) → exec (.barrierTimeout n) s = .next s) ∧
      (∀ at_, b.reached = some at_ → isLeader s.dev = true → b.releaseAt = none → Completes (.barrierTimeout n) s fun d =>
        barrierOf d n.toNat = none ∧ d.now = max s.dev.now (at_ + barrierTimeout s.dev) ∧ Counted .forcedReleases 0 s.dev d ∧
        ∀ c ∈ children s.dev, c ∉ b.arrived → Raised 98 c s.dev d)) ∧
    (∀ s : State, (parentPort s.dev = none → exec .echoMeasurement s = .next s) ∧
      (∀ p, parentPort s.dev = some p → Completes .echoMeasurement s fun d => (d.port p).echoSent = some s.dev.now ∧
        d.out.head? = some (.ridge p.val .echo [sidebandWord .echo 0 (selfIndex s.dev)] []) ∧
        ((s.dev.port p).echoSent.isSome = true → (s.dev.port p).sideband = true → (d.port p).sideband = false ∧ Raised 21 p.val s.dev d)))

/-- PAIR_COMPARE_SET with run id 0 ends the pair; with a bad key, interval or run it is BAD_PARAM; with differing arithmetic levels
in the span it is SPAN_MISMATCH; else the pair waits for its partner. The partner's matching announcement forms it. Equal values
move the equal phase on; different ones raise PAIR_DIVERGE with STATE 1. A probe at the midpoint halves the range until one
phase is left. PAIR_WAIT passed with a value of its own waiting is STATE 2. (R504, R505, R507, R508, R509, R510) -/
def Obligations.LockStepPairsCompareAndBisect : Prop :=
  (∀ (c : Call) (s : State), Served c s.dev →
      let every := field (c.w 6) 0 9
      (c.w 1 = 0 → Completes (.pairCompareSet c) s fun d => Answered c .ok 0 [] d ∧ (d.tenant c.tenant).pair = none) ∧
      (c.w 1 ≠ 0 → (c.w 4 + c.w 5 * 2 ^ 64 = 0 ∨ every = 0 ∨ 256 < every ∨ (s.dev.tenant c.tenant).runId ≠ some (c.w 1)) →
        Completes (.pairCompareSet c) s fun d => Answered c .badParam 0 [] d ∧ d.tenants = s.dev.tenants) ∧
      (∀ m, c.w 1 ≠ 0 → c.w 4 + c.w 5 * 2 ^ 64 ≠ 0 → 1 ≤ every → every ≤ 256 → (s.dev.tenant c.tenant).runId = some (c.w 1) →
        s.dev.span.peers.find? (fun m => decide (m.serial = BitVec.ofNat 128 (c.w 2 + c.w 3 * 2 ^ 64))) = some m →
        routeTo s.dev m.lowest ≠ [] →
        (s.dev.span.arithMixed = true → Completes (.pairCompareSet c) s fun d => Answered c .spanMismatch 0x31 [] d ∧ d.tenants = s.dev.tenants) ∧
        (s.dev.span.arithMixed = false → (s.dev.tenant c.tenant).pair = none → s.dev.span.pairOffers = [] →
          Completes (.pairCompareSet c) s fun d => Held c s.dev d ∧ ∃ p, (d.tenant c.tenant).pair = some p ∧ p.runId = c.w 1 ∧
            p.every = every ∧ p.formed = false ∧ p.state = 0 ∧ p.timing = bitAt (c.w 6) 16))) ∧
    (∀ (partner : BitVec 128) (run : W32) (pk : BitVec 384) (ar : Nat) (s : State),
      (pairTenant s.dev partner run.toNat = none → Completes (.pairDigest partner run (.set pk ar)) s fun d =>
        (partner, run.toNat, pk, ar) ∈ d.span.pairOffers ∧ d.tenants = s.dev.tenants) ∧
      (∀ t p, pairTenant s.dev partner run.toNat = some t → (s.dev.tenant t).pair = some p → p.formed = false → pk = pairPackage s.dev t →
        ar = (runningImage s.dev).arith → s.dev.span.pairOffers = [] → Completes (.pairDigest partner run (.set pk ar)) s fun d =>
          (d.tenant t).pair = some { p with formed := true })) ∧
    (∀ (partner : BitVec 128) (run : W32) (f : Nat) (ch own : BitVec 128) (cy : Nat) (s : State),
      (pairTenant s.dev partner run.toNat = none → exec (.pairDigest partner run (.digest f ch own cy)) s = .next s) ∧
      (∀ t p since dp c k, pairTenant s.dev partner run.toNat = some t → (s.dev.tenant t).pair = some p → p.formed = true → p.state = 0 →
        p.own = [(f, since)] → p.theirs = [] → p.at f = some (dp, c, k) → Completes (.pairDigest partner run (.digest f ch own cy)) s fun d =>
          Counted .pairCompares t.val s.dev d ∧
          (c = ch → ∃ q, (d.tenant t).pair = some q ∧ q.state = 0 ∧ q.equalTo = max p.equalTo (f + 1) ∧ q.own = []) ∧
          (c ≠ ch → (∃ q, (d.tenant t).pair = some q ∧ q.state = 1 ∧ q.found = some (f, dp, own) ∧
            (p.equalTo ≠ f → q.bisect = some (p.equalTo, f))) ∧ Raised 99 t.val s.dev d))) ∧
    (∀ (partner : BitVec 128) (run : W32) (mid : Nat) (ch own : BitVec 128) (s : State),
      (pairTenant s.dev partner run.toNat = none → exec (.pairProbe partner run mid ch own) s = .next s) ∧
      (∀ t p lo hi dp c k, pairTenant s.dev partner run.toNat = some t → (s.dev.tenant t).pair = some p → p.bisect = some (lo, hi) →
        p.at mid = some (dp, c, k) →
        (mid ≠ (lo + hi) / 2 → exec (.pairProbe partner run mid ch own) s = .next s) ∧
        (mid = (lo + hi) / 2 → c = ch → Completes (.pairProbe partner run mid ch own) s fun d =>
          ∃ q, (d.tenant t).pair = some q ∧ q.found = p.found ∧ q.bisect = (if mid + 1 = hi then none else some (mid + 1, hi))) ∧
        (mid = (lo + hi) / 2 → c ≠ ch → Completes (.pairProbe partner run mid ch own) s fun d =>
          ∃ q, (d.tenant t).pair = some q ∧ q.found = some (mid, dp, own) ∧ q.bisect = (if lo = mid then none else some (lo, mid))))) ∧
    (∀ (t : TenantId) (s : State),
      ((s.dev.tenant t).pair = none → exec (.pairWaitTimeout t) s = .next s) ∧
      (∀ p, (s.dev.tenant t).pair = some p → p.own = [] → exec (.pairWaitTimeout t) s = .next s) ∧
      (∀ p f since rest, (s.dev.tenant t).pair = some p → p.own = (f, since) :: rest → Completes (.pairWaitTimeout t) s fun d =>
        (∃ q, (d.tenant t).pair = some q ∧ q.state = 2 ∧ q.own = [] ∧ q.theirs = []) ∧ d.now = max s.dev.now (since + pairWait s.dev) ∧
        Raised 99 t.val s.dev d))

/-- Whatever the front command, or the tick of an empty queue: where the scratchpads, the rings of the mailboxes and the bytes of
every tensor are in canonical form, each of strictly rising addresses with no zero byte, they are so after the step. The
canonical form is the model's own, by which equal contents are equal data; that what is not written reads as zero is log entry
9. (R39, R280, R600) -/
def Obligations.EveryStepKeepsTheMemoriesCanonical : Prop :=
  ∀ s t : State, MemoriesCanonical s.dev → step s = .next t → MemoriesCanonical t.dev

/-- Whatever the front command, the number of blown SVN fuses after a step is at least what it was, is at most 128 where it was, and
the part, the stepping and the serial number, which are fused, are as they were. An image whose SVN is 128 passes the SVN check
of a header with any such number of fuses. (R597, R705, R706) -/
def Obligations.FusesAreNeverUnblownAndTheIdentityStays : Prop :=
  (∀ s t : State, step s = .next t → s.dev.boot.svnFuses ≤ t.dev.boot.svnFuses ∧
      (s.dev.boot.svnFuses ≤ 128 → t.dev.boot.svnFuses ≤ 128) ∧ t.dev.boot.part = s.dev.boot.part ∧ t.dev.boot.serial = s.dev.boot.serial ∧
      t.dev.boot.stepLetter = s.dev.boot.stepLetter ∧ t.dev.boot.stepDigit = s.dev.boot.stepDigit) ∧
    (∀ (h : List Byte) (d : Device), d.boot.svnFuses ≤ 128 → leAt h 38 1 = 128 → ∀ st, headerRefusal h d ≠ some (5, st))

/-- In State.reset the reset is in force with cause POWER_ON, the Gutter is not initialised and shows fault, ENGINE_READY and
MBX_READY are 0, no tenant is open and none holds a seed, no unit is under test (UNIT 31), the throttle level is 0, the module
is in RUN, no port is up, the SVN fuses are within 0 to 128, the queue is empty and every memory is canonical. The fused
identity and the count of fuses as shipped are the model's choice, log entry 4. (R667, R685, R783) -/
def Obligations.ResetIsHeldWithTheErrorPairAtFault : Prop :=
  State.reset.pending = [] ∧ InReset 1 State.reset.dev ∧ MemoriesCanonical State.reset.dev ∧ State.reset.dev.boot.svnFuses ≤ 128 ∧
    State.reset.dev.boot.engineReady = false ∧ State.reset.dev.boot.mbxReady = false ∧ State.reset.dev.boot.stage = .rom ∧
    State.reset.dev.selftest.unit = 31 ∧ State.reset.dev.clocks.throttle = 0 ∧ State.reset.dev.power.state = .run ∧
    (∀ t : TenantId, (State.reset.dev.tenant t).isOpen = false ∧ (State.reset.dev.tenant t).seed = none) ∧
    (∀ p : PortId, (State.reset.dev.port p).state = .down)
end

