-- ==== Sys2Proof/Laws/State.lean ====
section
/-! SUPPORT. What each shared update of the device leaves alone, one lemma per field, and what the accessors of the register files
read after an update. -/

namespace Sys2Proof.Machine

open Sys2Proof

/-! ### Register files -/

theorem vmod_get {α : Type} {n : Nat} (v : Vector α n) (i j : Fin n) (f : α → α) :
    (vmod v i f)[j.val] = if i = j then f v[j.val] else v[j.val] := by
  unfold vmod
  rw [Vector.getElem_set]
  by_cases h : i = j
  · subst h; simp
  · simp [h, Fin.val_inj]

theorem vset_get {α : Type} {n : Nat} (v : Vector α n) (i j : Fin n) (a : α) :
    (vset v i a)[j.val] = if i = j then a else v[j.val] := by
  unfold vset
  rw [Vector.getElem_set]
  by_cases h : i = j
  · subst h; simp
  · simp [h, Fin.val_inj]

theorem modTenant_tenant (t u : TenantId) (f : Tenant → Tenant) (d : Device) :
    (modTenant t f d).tenant u = if t = u then f (d.tenant u) else d.tenant u := vmod_get d.tenants t u f
@[simp] theorem modTenant_tenant_same (t : TenantId) (f : Tenant → Tenant) (d : Device) : (modTenant t f d).tenant t = f (d.tenant t) := by
  simp [modTenant_tenant]
theorem modMbx_mb (m n : MailboxId) (f : Mailbox → Mailbox) (d : Device) :
    (modMbx m f d).mb n = if m = n then f (d.mb n) else d.mb n := vmod_get d.host.mbx m n f
@[simp] theorem modMbx_mb_same (m : MailboxId) (f : Mailbox → Mailbox) (d : Device) : (modMbx m f d).mb m = f (d.mb m) := by
  simp [modMbx_mb]
theorem modPort_port (p q : PortId) (f : Ridge → Ridge) (d : Device) :
    (modPort p f d).port q = if p = q then f (d.port q) else d.port q := vmod_get d.ridge p q f
@[simp] theorem modPort_port_same (p : PortId) (f : Ridge → Ridge) (d : Device) : (modPort p f d).port p = f (d.port p) := by
  simp [modPort_port]
theorem modCtx_ctx (c e : ContextId) (f : Context → Context) (d : Device) :
    (modCtx c f d).ctx e = if c = e then f (d.ctx e) else d.ctx e := vmod_get d.intake.ctx c e f
@[simp] theorem modCtx_ctx_same (c : ContextId) (f : Context → Context) (d : Device) : (modCtx c f d).ctx c = f (d.ctx c) := by
  simp [modCtx_ctx]
theorem modStrainer_strainer (k l : StrainerId) (f : Strainer → Strainer) (d : Device) :
    (modStrainer k f d).strainer l = if k = l then f (d.strainer l) else d.strainer l := vmod_get d.strainers k l f
@[simp] theorem modStrainer_strainer_same (k : StrainerId) (f : Strainer → Strainer) (d : Device) :
    (modStrainer k f d).strainer k = f (d.strainer k) := by
  simp [modStrainer_strainer]
theorem modClass_classRec (k l : ClassId) (f : GClass → GClass) (d : Device) :
    classRec (modClass k f d) l = if k = l then f (classRec d l) else classRec d l := vmod_get d.gutter.cls k l f
theorem modWindow_window (k l : FunctionId) (f : Window → Window) (d : Device) :
    window (modWindow k f d) l = if k = l then f (window d l) else window d l := vmod_get d.windows k l f

/-! ### Field by field -/

@[simp] theorem emit_fresh (o : Output) (d : Device) : (emit o d).fresh = d.fresh := rfl
@[simp] theorem emit_now (o : Output) (d : Device) : (emit o d).now = d.now := rfl
@[simp] theorem emit_out (o : Output) (d : Device) : (emit o d).out = o :: d.out := rfl
@[simp] theorem emit_counters (o : Output) (d : Device) : (emit o d).counters = d.counters := rfl
@[simp] theorem emit_cfg (o : Output) (d : Device) : (emit o d).cfg = d.cfg := rfl
@[simp] theorem emit_staged (o : Output) (d : Device) : (emit o d).staged = d.staged := rfl
@[simp] theorem emit_stagedShares (o : Output) (d : Device) : (emit o d).stagedShares = d.stagedShares := rfl
@[simp] theorem emit_cfgLater (o : Output) (d : Device) : (emit o d).cfgLater = d.cfgLater := rfl
@[simp] theorem emit_commits (o : Output) (d : Device) : (emit o d).commits = d.commits := rfl
@[simp] theorem emit_loads (o : Output) (d : Device) : (emit o d).loads = d.loads := rfl
@[simp] theorem emit_host (o : Output) (d : Device) : (emit o d).host = d.host := rfl
@[simp] theorem emit_gutter (o : Output) (d : Device) : (emit o d).gutter = d.gutter := rfl
@[simp] theorem emit_selftest (o : Output) (d : Device) : (emit o d).selftest = d.selftest := rfl
@[simp] theorem emit_boot (o : Output) (d : Device) : (emit o d).boot = d.boot := rfl
@[simp] theorem emit_caddy (o : Output) (d : Device) : (emit o d).caddy = d.caddy := rfl
@[simp] theorem emit_backup (o : Output) (d : Device) : (emit o d).backup = d.backup := rfl
@[simp] theorem emit_clocks (o : Output) (d : Device) : (emit o d).clocks = d.clocks := rfl
@[simp] theorem emit_power (o : Output) (d : Device) : (emit o d).power = d.power := rfl
@[simp] theorem emit_pins (o : Output) (d : Device) : (emit o d).pins = d.pins := rfl
@[simp] theorem emit_time (o : Output) (d : Device) : (emit o d).time = d.time := rfl
@[simp] theorem emit_sites (o : Output) (d : Device) : (emit o d).sites = d.sites := rfl
@[simp] theorem emit_fabric (o : Output) (d : Device) : (emit o d).fabric = d.fabric := rfl
@[simp] theorem emit_vtiles (o : Output) (d : Device) : (emit o d).vtiles = d.vtiles := rfl
@[simp] theorem emit_scratch (o : Output) (d : Device) : (emit o d).scratch = d.scratch := rfl
@[simp] theorem emit_halo (o : Output) (d : Device) : (emit o d).halo = d.halo := rfl
@[simp] theorem emit_tenants (o : Output) (d : Device) : (emit o d).tenants = d.tenants := rfl
@[simp] theorem emit_tiers (o : Output) (d : Device) : (emit o d).tiers = d.tiers := rfl
@[simp] theorem emit_windows (o : Output) (d : Device) : (emit o d).windows = d.windows := rfl
@[simp] theorem emit_entropy (o : Output) (d : Device) : (emit o d).entropy = d.entropy := rfl
@[simp] theorem emit_strainers (o : Output) (d : Device) : (emit o d).strainers = d.strainers := rfl
@[simp] theorem emit_ridge (o : Output) (d : Device) : (emit o d).ridge = d.ridge := rfl
@[simp] theorem emit_coeffs (o : Output) (d : Device) : (emit o d).coeffs = d.coeffs := rfl
@[simp] theorem emit_span (o : Output) (d : Device) : (emit o d).span = d.span := rfl
@[simp] theorem emit_slate (o : Output) (d : Device) : (emit o d).slate = d.slate := rfl
@[simp] theorem emit_intake (o : Output) (d : Device) : (emit o d).intake = d.intake := rfl

@[simp] theorem advanceTo_fresh (t : Nat) (d : Device) : (advanceTo t d).fresh = d.fresh := rfl
@[simp] theorem advanceTo_now (t : Nat) (d : Device) : (advanceTo t d).now = max d.now t := rfl
@[simp] theorem advanceTo_out (t : Nat) (d : Device) : (advanceTo t d).out = d.out := rfl
@[simp] theorem advanceTo_counters (t : Nat) (d : Device) : (advanceTo t d).counters = d.counters := rfl
@[simp] theorem advanceTo_cfg (t : Nat) (d : Device) : (advanceTo t d).cfg = d.cfg := rfl
@[simp] theorem advanceTo_staged (t : Nat) (d : Device) : (advanceTo t d).staged = d.staged := rfl
@[simp] theorem advanceTo_stagedShares (t : Nat) (d : Device) : (advanceTo t d).stagedShares = d.stagedShares := rfl
@[simp] theorem advanceTo_cfgLater (t : Nat) (d : Device) : (advanceTo t d).cfgLater = d.cfgLater := rfl
@[simp] theorem advanceTo_commits (t : Nat) (d : Device) : (advanceTo t d).commits = d.commits := rfl
@[simp] theorem advanceTo_loads (t : Nat) (d : Device) : (advanceTo t d).loads = d.loads := rfl
@[simp] theorem advanceTo_host (t : Nat) (d : Device) : (advanceTo t d).host = d.host := rfl
@[simp] theorem advanceTo_gutter (t : Nat) (d : Device) : (advanceTo t d).gutter = d.gutter := rfl
@[simp] theorem advanceTo_selftest (t : Nat) (d : Device) : (advanceTo t d).selftest = d.selftest := rfl
@[simp] theorem advanceTo_boot (t : Nat) (d : Device) : (advanceTo t d).boot = d.boot := rfl
@[simp] theorem advanceTo_caddy (t : Nat) (d : Device) : (advanceTo t d).caddy = d.caddy := rfl
@[simp] theorem advanceTo_backup (t : Nat) (d : Device) : (advanceTo t d).backup = d.backup := rfl
@[simp] theorem advanceTo_clocks (t : Nat) (d : Device) : (advanceTo t d).clocks = d.clocks := rfl
@[simp] theorem advanceTo_power (t : Nat) (d : Device) : (advanceTo t d).power = d.power := rfl
@[simp] theorem advanceTo_pins (t : Nat) (d : Device) : (advanceTo t d).pins = d.pins := rfl
@[simp] theorem advanceTo_time (t : Nat) (d : Device) : (advanceTo t d).time = d.time := rfl
@[simp] theorem advanceTo_sites (t : Nat) (d : Device) : (advanceTo t d).sites = d.sites := rfl
@[simp] theorem advanceTo_fabric (t : Nat) (d : Device) : (advanceTo t d).fabric = d.fabric := rfl
@[simp] theorem advanceTo_vtiles (t : Nat) (d : Device) : (advanceTo t d).vtiles = d.vtiles := rfl
@[simp] theorem advanceTo_scratch (t : Nat) (d : Device) : (advanceTo t d).scratch = d.scratch := rfl
@[simp] theorem advanceTo_halo (t : Nat) (d : Device) : (advanceTo t d).halo = d.halo := rfl
@[simp] theorem advanceTo_tenants (t : Nat) (d : Device) : (advanceTo t d).tenants = d.tenants := rfl
@[simp] theorem advanceTo_tiers (t : Nat) (d : Device) : (advanceTo t d).tiers = d.tiers := rfl
@[simp] theorem advanceTo_windows (t : Nat) (d : Device) : (advanceTo t d).windows = d.windows := rfl
@[simp] theorem advanceTo_entropy (t : Nat) (d : Device) : (advanceTo t d).entropy = d.entropy := rfl
@[simp] theorem advanceTo_strainers (t : Nat) (d : Device) : (advanceTo t d).strainers = d.strainers := rfl
@[simp] theorem advanceTo_ridge (t : Nat) (d : Device) : (advanceTo t d).ridge = d.ridge := rfl
@[simp] theorem advanceTo_coeffs (t : Nat) (d : Device) : (advanceTo t d).coeffs = d.coeffs := rfl
@[simp] theorem advanceTo_span (t : Nat) (d : Device) : (advanceTo t d).span = d.span := rfl
@[simp] theorem advanceTo_slate (t : Nat) (d : Device) : (advanceTo t d).slate = d.slate := rfl
@[simp] theorem advanceTo_intake (t : Nat) (d : Device) : (advanceTo t d).intake = d.intake := rfl

@[simp] theorem idleTick_fresh (d : Device) : (idleTick d).fresh = d.fresh := rfl
@[simp] theorem idleTick_now (d : Device) : (idleTick d).now = d.now + 10 := rfl
@[simp] theorem idleTick_out (d : Device) : (idleTick d).out = d.out := rfl
@[simp] theorem idleTick_counters (d : Device) : (idleTick d).counters = d.counters := rfl
@[simp] theorem idleTick_cfg (d : Device) : (idleTick d).cfg = d.cfg := rfl
@[simp] theorem idleTick_staged (d : Device) : (idleTick d).staged = d.staged := rfl
@[simp] theorem idleTick_stagedShares (d : Device) : (idleTick d).stagedShares = d.stagedShares := rfl
@[simp] theorem idleTick_cfgLater (d : Device) : (idleTick d).cfgLater = d.cfgLater := rfl
@[simp] theorem idleTick_commits (d : Device) : (idleTick d).commits = d.commits := rfl
@[simp] theorem idleTick_loads (d : Device) : (idleTick d).loads = d.loads := rfl
@[simp] theorem idleTick_host (d : Device) : (idleTick d).host = d.host := rfl
@[simp] theorem idleTick_gutter (d : Device) : (idleTick d).gutter = d.gutter := rfl
@[simp] theorem idleTick_selftest (d : Device) : (idleTick d).selftest = d.selftest := rfl
@[simp] theorem idleTick_boot (d : Device) : (idleTick d).boot = d.boot := rfl
@[simp] theorem idleTick_caddy (d : Device) : (idleTick d).caddy = d.caddy := rfl
@[simp] theorem idleTick_backup (d : Device) : (idleTick d).backup = d.backup := rfl
@[simp] theorem idleTick_clocks (d : Device) : (idleTick d).clocks = d.clocks := rfl
@[simp] theorem idleTick_power (d : Device) : (idleTick d).power = d.power := rfl
@[simp] theorem idleTick_pins (d : Device) : (idleTick d).pins = d.pins := rfl
@[simp] theorem idleTick_time (d : Device) : (idleTick d).time = d.time := rfl
@[simp] theorem idleTick_sites (d : Device) : (idleTick d).sites = d.sites := rfl
@[simp] theorem idleTick_fabric (d : Device) : (idleTick d).fabric = d.fabric := rfl
@[simp] theorem idleTick_vtiles (d : Device) : (idleTick d).vtiles = d.vtiles := rfl
@[simp] theorem idleTick_scratch (d : Device) : (idleTick d).scratch = d.scratch := rfl
@[simp] theorem idleTick_halo (d : Device) : (idleTick d).halo = d.halo := rfl
@[simp] theorem idleTick_tenants (d : Device) : (idleTick d).tenants = d.tenants := rfl
@[simp] theorem idleTick_tiers (d : Device) : (idleTick d).tiers = d.tiers := rfl
@[simp] theorem idleTick_windows (d : Device) : (idleTick d).windows = d.windows := rfl
@[simp] theorem idleTick_entropy (d : Device) : (idleTick d).entropy = d.entropy := rfl
@[simp] theorem idleTick_strainers (d : Device) : (idleTick d).strainers = d.strainers := rfl
@[simp] theorem idleTick_ridge (d : Device) : (idleTick d).ridge = d.ridge := rfl
@[simp] theorem idleTick_coeffs (d : Device) : (idleTick d).coeffs = d.coeffs := rfl
@[simp] theorem idleTick_span (d : Device) : (idleTick d).span = d.span := rfl
@[simp] theorem idleTick_slate (d : Device) : (idleTick d).slate = d.slate := rfl
@[simp] theorem idleTick_intake (d : Device) : (idleTick d).intake = d.intake := rfl

@[simp] theorem stepTime_fresh (k : Int) (d : Device) : (stepTime k d).fresh = d.fresh := rfl
@[simp] theorem stepTime_now (k : Int) (d : Device) : (stepTime k d).now = d.now := rfl
@[simp] theorem stepTime_out (k : Int) (d : Device) : (stepTime k d).out = d.out := rfl
@[simp] theorem stepTime_counters (k : Int) (d : Device) : (stepTime k d).counters = d.counters := rfl
@[simp] theorem stepTime_cfg (k : Int) (d : Device) : (stepTime k d).cfg = d.cfg := rfl
@[simp] theorem stepTime_staged (k : Int) (d : Device) : (stepTime k d).staged = d.staged := rfl
@[simp] theorem stepTime_stagedShares (k : Int) (d : Device) : (stepTime k d).stagedShares = d.stagedShares := rfl
@[simp] theorem stepTime_cfgLater (k : Int) (d : Device) : (stepTime k d).cfgLater = d.cfgLater := rfl
@[simp] theorem stepTime_commits (k : Int) (d : Device) : (stepTime k d).commits = d.commits := rfl
@[simp] theorem stepTime_loads (k : Int) (d : Device) : (stepTime k d).loads = d.loads := rfl
@[simp] theorem stepTime_host (k : Int) (d : Device) : (stepTime k d).host = d.host := rfl
@[simp] theorem stepTime_gutter (k : Int) (d : Device) : (stepTime k d).gutter = d.gutter := rfl
@[simp] theorem stepTime_selftest (k : Int) (d : Device) : (stepTime k d).selftest = d.selftest := rfl
@[simp] theorem stepTime_boot (k : Int) (d : Device) : (stepTime k d).boot = d.boot := rfl
@[simp] theorem stepTime_caddy (k : Int) (d : Device) : (stepTime k d).caddy = d.caddy := rfl
@[simp] theorem stepTime_backup (k : Int) (d : Device) : (stepTime k d).backup = d.backup := rfl
@[simp] theorem stepTime_clocks (k : Int) (d : Device) : (stepTime k d).clocks = d.clocks := rfl
@[simp] theorem stepTime_power (k : Int) (d : Device) : (stepTime k d).power = d.power := rfl
@[simp] theorem stepTime_pins (k : Int) (d : Device) : (stepTime k d).pins = d.pins := rfl
@[simp] theorem stepTime_sites (k : Int) (d : Device) : (stepTime k d).sites = d.sites := rfl
@[simp] theorem stepTime_fabric (k : Int) (d : Device) : (stepTime k d).fabric = d.fabric := rfl
@[simp] theorem stepTime_vtiles (k : Int) (d : Device) : (stepTime k d).vtiles = d.vtiles := rfl
@[simp] theorem stepTime_scratch (k : Int) (d : Device) : (stepTime k d).scratch = d.scratch := rfl
@[simp] theorem stepTime_halo (k : Int) (d : Device) : (stepTime k d).halo = d.halo := rfl
@[simp] theorem stepTime_tenants (k : Int) (d : Device) : (stepTime k d).tenants = d.tenants := rfl
@[simp] theorem stepTime_tiers (k : Int) (d : Device) : (stepTime k d).tiers = d.tiers := rfl
@[simp] theorem stepTime_windows (k : Int) (d : Device) : (stepTime k d).windows = d.windows := rfl
@[simp] theorem stepTime_entropy (k : Int) (d : Device) : (stepTime k d).entropy = d.entropy := rfl
@[simp] theorem stepTime_strainers (k : Int) (d : Device) : (stepTime k d).strainers = d.strainers := rfl
@[simp] theorem stepTime_ridge (k : Int) (d : Device) : (stepTime k d).ridge = d.ridge := rfl
@[simp] theorem stepTime_coeffs (k : Int) (d : Device) : (stepTime k d).coeffs = d.coeffs := rfl
@[simp] theorem stepTime_span (k : Int) (d : Device) : (stepTime k d).span = d.span := rfl
@[simp] theorem stepTime_slate (k : Int) (d : Device) : (stepTime k d).slate = d.slate := rfl
@[simp] theorem stepTime_intake (k : Int) (d : Device) : (stepTime k d).intake = d.intake := rfl

@[simp] theorem setCount_fresh (c : Counter) (i v : Nat) (d : Device) : (setCount c i v d).fresh = d.fresh := rfl
@[simp] theorem setCount_now (c : Counter) (i v : Nat) (d : Device) : (setCount c i v d).now = d.now := rfl
@[simp] theorem setCount_out (c : Counter) (i v : Nat) (d : Device) : (setCount c i v d).out = d.out := rfl
@[simp] theorem setCount_cfg (c : Counter) (i v : Nat) (d : Device) : (setCount c i v d).cfg = d.cfg := rfl
@[simp] theorem setCount_staged (c : Counter) (i v : Nat) (d : Device) : (setCount c i v d).staged = d.staged := rfl
@[simp] theorem setCount_stagedShares (c : Counter) (i v : Nat) (d : Device) : (setCount c i v d).stagedShares = d.stagedShares := rfl
@[simp] theorem setCount_cfgLater (c : Counter) (i v : Nat) (d : Device) : (setCount c i v d).cfgLater = d.cfgLater := rfl
@[simp] theorem setCount_commits (c : Counter) (i v : Nat) (d : Device) : (setCount c i v d).commits = d.commits := rfl
@[simp] theorem setCount_loads (c : Counter) (i v : Nat) (d : Device) : (setCount c i v d).loads = d.loads := rfl
@[simp] theorem setCount_host (c : Counter) (i v : Nat) (d : Device) : (setCount c i v d).host = d.host := rfl
@[simp] theorem setCount_gutter (c : Counter) (i v : Nat) (d : Device) : (setCount c i v d).gutter = d.gutter := rfl
@[simp] theorem setCount_selftest (c : Counter) (i v : Nat) (d : Device) : (setCount c i v d).selftest = d.selftest := rfl
@[simp] theorem setCount_boot (c : Counter) (i v : Nat) (d : Device) : (setCount c i v d).boot = d.boot := rfl
@[simp] theorem setCount_caddy (c : Counter) (i v : Nat) (d : Device) : (setCount c i v d).caddy = d.caddy := rfl
@[simp] theorem setCount_backup (c : Counter) (i v : Nat) (d : Device) : (setCount c i v d).backup = d.backup := rfl
@[simp] theorem setCount_clocks (c : Counter) (i v : Nat) (d : Device) : (setCount c i v d).clocks = d.clocks := rfl
@[simp] theorem setCount_power (c : Counter) (i v : Nat) (d : Device) : (setCount c i v d).power = d.power := rfl
@[simp] theorem setCount_pins (c : Counter) (i v : Nat) (d : Device) : (setCount c i v d).pins = d.pins := rfl
@[simp] theorem setCount_time (c : Counter) (i v : Nat) (d : Device) : (setCount c i v d).time = d.time := rfl
@[simp] theorem setCount_sites (c : Counter) (i v : Nat) (d : Device) : (setCount c i v d).sites = d.sites := rfl
@[simp] theorem setCount_fabric (c : Counter) (i v : Nat) (d : Device) : (setCount c i v d).fabric = d.fabric := rfl
@[simp] theorem setCount_vtiles (c : Counter) (i v : Nat) (d : Device) : (setCount c i v d).vtiles = d.vtiles := rfl
@[simp] theorem setCount_scratch (c : Counter) (i v : Nat) (d : Device) : (setCount c i v d).scratch = d.scratch := rfl
@[simp] theorem setCount_halo (c : Counter) (i v : Nat) (d : Device) : (setCount c i v d).halo = d.halo := rfl
@[simp] theorem setCount_tenants (c : Counter) (i v : Nat) (d : Device) : (setCount c i v d).tenants = d.tenants := rfl
@[simp] theorem setCount_tiers (c : Counter) (i v : Nat) (d : Device) : (setCount c i v d).tiers = d.tiers := rfl
@[simp] theorem setCount_windows (c : Counter) (i v : Nat) (d : Device) : (setCount c i v d).windows = d.windows := rfl
@[simp] theorem setCount_entropy (c : Counter) (i v : Nat) (d : Device) : (setCount c i v d).entropy = d.entropy := rfl
@[simp] theorem setCount_strainers (c : Counter) (i v : Nat) (d : Device) : (setCount c i v d).strainers = d.strainers := rfl
@[simp] theorem setCount_ridge (c : Counter) (i v : Nat) (d : Device) : (setCount c i v d).ridge = d.ridge := rfl
@[simp] theorem setCount_coeffs (c : Counter) (i v : Nat) (d : Device) : (setCount c i v d).coeffs = d.coeffs := rfl
@[simp] theorem setCount_span (c : Counter) (i v : Nat) (d : Device) : (setCount c i v d).span = d.span := rfl
@[simp] theorem setCount_slate (c : Counter) (i v : Nat) (d : Device) : (setCount c i v d).slate = d.slate := rfl
@[simp] theorem setCount_intake (c : Counter) (i v : Nat) (d : Device) : (setCount c i v d).intake = d.intake := rfl

@[simp] theorem bumpBy_fresh (c : Counter) (i k : Nat) (d : Device) : (bumpBy c i k d).fresh = d.fresh := rfl
@[simp] theorem bumpBy_now (c : Counter) (i k : Nat) (d : Device) : (bumpBy c i k d).now = d.now := rfl
@[simp] theorem bumpBy_out (c : Counter) (i k : Nat) (d : Device) : (bumpBy c i k d).out = d.out := rfl
@[simp] theorem bumpBy_cfg (c : Counter) (i k : Nat) (d : Device) : (bumpBy c i k d).cfg = d.cfg := rfl
@[simp] theorem bumpBy_staged (c : Counter) (i k : Nat) (d : Device) : (bumpBy c i k d).staged = d.staged := rfl
@[simp] theorem bumpBy_stagedShares (c : Counter) (i k : Nat) (d : Device) : (bumpBy c i k d).stagedShares = d.stagedShares := rfl
@[simp] theorem bumpBy_cfgLater (c : Counter) (i k : Nat) (d : Device) : (bumpBy c i k d).cfgLater = d.cfgLater := rfl
@[simp] theorem bumpBy_commits (c : Counter) (i k : Nat) (d : Device) : (bumpBy c i k d).commits = d.commits := rfl
@[simp] theorem bumpBy_loads (c : Counter) (i k : Nat) (d : Device) : (bumpBy c i k d).loads = d.loads := rfl
@[simp] theorem bumpBy_host (c : Counter) (i k : Nat) (d : Device) : (bumpBy c i k d).host = d.host := rfl
@[simp] theorem bumpBy_gutter (c : Counter) (i k : Nat) (d : Device) : (bumpBy c i k d).gutter = d.gutter := rfl
@[simp] theorem bumpBy_selftest (c : Counter) (i k : Nat) (d : Device) : (bumpBy c i k d).selftest = d.selftest := rfl
@[simp] theorem bumpBy_boot (c : Counter) (i k : Nat) (d : Device) : (bumpBy c i k d).boot = d.boot := rfl
@[simp] theorem bumpBy_caddy (c : Counter) (i k : Nat) (d : Device) : (bumpBy c i k d).caddy = d.caddy := rfl
@[simp] theorem bumpBy_backup (c : Counter) (i k : Nat) (d : Device) : (bumpBy c i k d).backup = d.backup := rfl
@[simp] theorem bumpBy_clocks (c : Counter) (i k : Nat) (d : Device) : (bumpBy c i k d).clocks = d.clocks := rfl
@[simp] theorem bumpBy_power (c : Counter) (i k : Nat) (d : Device) : (bumpBy c i k d).power = d.power := rfl
@[simp] theorem bumpBy_pins (c : Counter) (i k : Nat) (d : Device) : (bumpBy c i k d).pins = d.pins := rfl
@[simp] theorem bumpBy_time (c : Counter) (i k : Nat) (d : Device) : (bumpBy c i k d).time = d.time := rfl
@[simp] theorem bumpBy_sites (c : Counter) (i k : Nat) (d : Device) : (bumpBy c i k d).sites = d.sites := rfl
@[simp] theorem bumpBy_fabric (c : Counter) (i k : Nat) (d : Device) : (bumpBy c i k d).fabric = d.fabric := rfl
@[simp] theorem bumpBy_vtiles (c : Counter) (i k : Nat) (d : Device) : (bumpBy c i k d).vtiles = d.vtiles := rfl
@[simp] theorem bumpBy_scratch (c : Counter) (i k : Nat) (d : Device) : (bumpBy c i k d).scratch = d.scratch := rfl
@[simp] theorem bumpBy_halo (c : Counter) (i k : Nat) (d : Device) : (bumpBy c i k d).halo = d.halo := rfl
@[simp] theorem bumpBy_tenants (c : Counter) (i k : Nat) (d : Device) : (bumpBy c i k d).tenants = d.tenants := rfl
@[simp] theorem bumpBy_tiers (c : Counter) (i k : Nat) (d : Device) : (bumpBy c i k d).tiers = d.tiers := rfl
@[simp] theorem bumpBy_windows (c : Counter) (i k : Nat) (d : Device) : (bumpBy c i k d).windows = d.windows := rfl
@[simp] theorem bumpBy_entropy (c : Counter) (i k : Nat) (d : Device) : (bumpBy c i k d).entropy = d.entropy := rfl
@[simp] theorem bumpBy_strainers (c : Counter) (i k : Nat) (d : Device) : (bumpBy c i k d).strainers = d.strainers := rfl
@[simp] theorem bumpBy_ridge (c : Counter) (i k : Nat) (d : Device) : (bumpBy c i k d).ridge = d.ridge := rfl
@[simp] theorem bumpBy_coeffs (c : Counter) (i k : Nat) (d : Device) : (bumpBy c i k d).coeffs = d.coeffs := rfl
@[simp] theorem bumpBy_span (c : Counter) (i k : Nat) (d : Device) : (bumpBy c i k d).span = d.span := rfl
@[simp] theorem bumpBy_slate (c : Counter) (i k : Nat) (d : Device) : (bumpBy c i k d).slate = d.slate := rfl
@[simp] theorem bumpBy_intake (c : Counter) (i k : Nat) (d : Device) : (bumpBy c i k d).intake = d.intake := rfl

@[simp] theorem bump_fresh (c : Counter) (i : Nat) (d : Device) : (bump c i d).fresh = d.fresh := rfl
@[simp] theorem bump_now (c : Counter) (i : Nat) (d : Device) : (bump c i d).now = d.now := rfl
@[simp] theorem bump_out (c : Counter) (i : Nat) (d : Device) : (bump c i d).out = d.out := rfl
@[simp] theorem bump_cfg (c : Counter) (i : Nat) (d : Device) : (bump c i d).cfg = d.cfg := rfl
@[simp] theorem bump_staged (c : Counter) (i : Nat) (d : Device) : (bump c i d).staged = d.staged := rfl
@[simp] theorem bump_stagedShares (c : Counter) (i : Nat) (d : Device) : (bump c i d).stagedShares = d.stagedShares := rfl
@[simp] theorem bump_cfgLater (c : Counter) (i : Nat) (d : Device) : (bump c i d).cfgLater = d.cfgLater := rfl
@[simp] theorem bump_commits (c : Counter) (i : Nat) (d : Device) : (bump c i d).commits = d.commits := rfl
@[simp] theorem bump_loads (c : Counter) (i : Nat) (d : Device) : (bump c i d).loads = d.loads := rfl
@[simp] theorem bump_host (c : Counter) (i : Nat) (d : Device) : (bump c i d).host = d.host := rfl
@[simp] theorem bump_gutter (c : Counter) (i : Nat) (d : Device) : (bump c i d).gutter = d.gutter := rfl
@[simp] theorem bump_selftest (c : Counter) (i : Nat) (d : Device) : (bump c i d).selftest = d.selftest := rfl
@[simp] theorem bump_boot (c : Counter) (i : Nat) (d : Device) : (bump c i d).boot = d.boot := rfl
@[simp] theorem bump_caddy (c : Counter) (i : Nat) (d : Device) : (bump c i d).caddy = d.caddy := rfl
@[simp] theorem bump_backup (c : Counter) (i : Nat) (d : Device) : (bump c i d).backup = d.backup := rfl
@[simp] theorem bump_clocks (c : Counter) (i : Nat) (d : Device) : (bump c i d).clocks = d.clocks := rfl
@[simp] theorem bump_power (c : Counter) (i : Nat) (d : Device) : (bump c i d).power = d.power := rfl
@[simp] theorem bump_pins (c : Counter) (i : Nat) (d : Device) : (bump c i d).pins = d.pins := rfl
@[simp] theorem bump_time (c : Counter) (i : Nat) (d : Device) : (bump c i d).time = d.time := rfl
@[simp] theorem bump_sites (c : Counter) (i : Nat) (d : Device) : (bump c i d).sites = d.sites := rfl
@[simp] theorem bump_fabric (c : Counter) (i : Nat) (d : Device) : (bump c i d).fabric = d.fabric := rfl
@[simp] theorem bump_vtiles (c : Counter) (i : Nat) (d : Device) : (bump c i d).vtiles = d.vtiles := rfl
@[simp] theorem bump_scratch (c : Counter) (i : Nat) (d : Device) : (bump c i d).scratch = d.scratch := rfl
@[simp] theorem bump_halo (c : Counter) (i : Nat) (d : Device) : (bump c i d).halo = d.halo := rfl
@[simp] theorem bump_tenants (c : Counter) (i : Nat) (d : Device) : (bump c i d).tenants = d.tenants := rfl
@[simp] theorem bump_tiers (c : Counter) (i : Nat) (d : Device) : (bump c i d).tiers = d.tiers := rfl
@[simp] theorem bump_windows (c : Counter) (i : Nat) (d : Device) : (bump c i d).windows = d.windows := rfl
@[simp] theorem bump_entropy (c : Counter) (i : Nat) (d : Device) : (bump c i d).entropy = d.entropy := rfl
@[simp] theorem bump_strainers (c : Counter) (i : Nat) (d : Device) : (bump c i d).strainers = d.strainers := rfl
@[simp] theorem bump_ridge (c : Counter) (i : Nat) (d : Device) : (bump c i d).ridge = d.ridge := rfl
@[simp] theorem bump_coeffs (c : Counter) (i : Nat) (d : Device) : (bump c i d).coeffs = d.coeffs := rfl
@[simp] theorem bump_span (c : Counter) (i : Nat) (d : Device) : (bump c i d).span = d.span := rfl
@[simp] theorem bump_slate (c : Counter) (i : Nat) (d : Device) : (bump c i d).slate = d.slate := rfl
@[simp] theorem bump_intake (c : Counter) (i : Nat) (d : Device) : (bump c i d).intake = d.intake := rfl

@[simp] theorem modTenant_fresh (t : TenantId) (f : Tenant → Tenant) (d : Device) : (modTenant t f d).fresh = d.fresh := rfl
@[simp] theorem modTenant_now (t : TenantId) (f : Tenant → Tenant) (d : Device) : (modTenant t f d).now = d.now := rfl
@[simp] theorem modTenant_out (t : TenantId) (f : Tenant → Tenant) (d : Device) : (modTenant t f d).out = d.out := rfl
@[simp] theorem modTenant_counters (t : TenantId) (f : Tenant → Tenant) (d : Device) : (modTenant t f d).counters = d.counters := rfl
@[simp] theorem modTenant_cfg (t : TenantId) (f : Tenant → Tenant) (d : Device) : (modTenant t f d).cfg = d.cfg := rfl
@[simp] theorem modTenant_staged (t : TenantId) (f : Tenant → Tenant) (d : Device) : (modTenant t f d).staged = d.staged := rfl
@[simp] theorem modTenant_stagedShares (t : TenantId) (f : Tenant → Tenant) (d : Device) : (modTenant t f d).stagedShares = d.stagedShares := rfl
@[simp] theorem modTenant_cfgLater (t : TenantId) (f : Tenant → Tenant) (d : Device) : (modTenant t f d).cfgLater = d.cfgLater := rfl
@[simp] theorem modTenant_commits (t : TenantId) (f : Tenant → Tenant) (d : Device) : (modTenant t f d).commits = d.commits := rfl
@[simp] theorem modTenant_loads (t : TenantId) (f : Tenant → Tenant) (d : Device) : (modTenant t f d).loads = d.loads := rfl
@[simp] theorem modTenant_host (t : TenantId) (f : Tenant → Tenant) (d : Device) : (modTenant t f d).host = d.host := rfl
@[simp] theorem modTenant_gutter (t : TenantId) (f : Tenant → Tenant) (d : Device) : (modTenant t f d).gutter = d.gutter := rfl
@[simp] theorem modTenant_selftest (t : TenantId) (f : Tenant → Tenant) (d : Device) : (modTenant t f d).selftest = d.selftest := rfl
@[simp] theorem modTenant_boot (t : TenantId) (f : Tenant → Tenant) (d : Device) : (modTenant t f d).boot = d.boot := rfl
@[simp] theorem modTenant_caddy (t : TenantId) (f : Tenant → Tenant) (d : Device) : (modTenant t f d).caddy = d.caddy := rfl
@[simp] theorem modTenant_backup (t : TenantId) (f : Tenant → Tenant) (d : Device) : (modTenant t f d).backup = d.backup := rfl
@[simp] theorem modTenant_clocks (t : TenantId) (f : Tenant → Tenant) (d : Device) : (modTenant t f d).clocks = d.clocks := rfl
@[simp] theorem modTenant_power (t : TenantId) (f : Tenant → Tenant) (d : Device) : (modTenant t f d).power = d.power := rfl
@[simp] theorem modTenant_pins (t : TenantId) (f : Tenant → Tenant) (d : Device) : (modTenant t f d).pins = d.pins := rfl
@[simp] theorem modTenant_time (t : TenantId) (f : Tenant → Tenant) (d : Device) : (modTenant t f d).time = d.time := rfl
@[simp] theorem modTenant_sites (t : TenantId) (f : Tenant → Tenant) (d : Device) : (modTenant t f d).sites = d.sites := rfl
@[simp] theorem modTenant_fabric (t : TenantId) (f : Tenant → Tenant) (d : Device) : (modTenant t f d).fabric = d.fabric := rfl
@[simp] theorem modTenant_vtiles (t : TenantId) (f : Tenant → Tenant) (d : Device) : (modTenant t f d).vtiles = d.vtiles := rfl
@[simp] theorem modTenant_scratch (t : TenantId) (f : Tenant → Tenant) (d : Device) : (modTenant t f d).scratch = d.scratch := rfl
@[simp] theorem modTenant_halo (t : TenantId) (f : Tenant → Tenant) (d : Device) : (modTenant t f d).halo = d.halo := rfl
@[simp] theorem modTenant_tiers (t : TenantId) (f : Tenant → Tenant) (d : Device) : (modTenant t f d).tiers = d.tiers := rfl
@[simp] theorem modTenant_windows (t : TenantId) (f : Tenant → Tenant) (d : Device) : (modTenant t f d).windows = d.windows := rfl
@[simp] theorem modTenant_entropy (t : TenantId) (f : Tenant → Tenant) (d : Device) : (modTenant t f d).entropy = d.entropy := rfl
@[simp] theorem modTenant_strainers (t : TenantId) (f : Tenant → Tenant) (d : Device) : (modTenant t f d).strainers = d.strainers := rfl
@[simp] theorem modTenant_ridge (t : TenantId) (f : Tenant → Tenant) (d : Device) : (modTenant t f d).ridge = d.ridge := rfl
@[simp] theorem modTenant_coeffs (t : TenantId) (f : Tenant → Tenant) (d : Device) : (modTenant t f d).coeffs = d.coeffs := rfl
@[simp] theorem modTenant_span (t : TenantId) (f : Tenant → Tenant) (d : Device) : (modTenant t f d).span = d.span := rfl
@[simp] theorem modTenant_slate (t : TenantId) (f : Tenant → Tenant) (d : Device) : (modTenant t f d).slate = d.slate := rfl
@[simp] theorem modTenant_intake (t : TenantId) (f : Tenant → Tenant) (d : Device) : (modTenant t f d).intake = d.intake := rfl

@[simp] theorem modRun_fresh (t : TenantId) (f : Run → Run) (d : Device) : (modRun t f d).fresh = d.fresh := rfl
@[simp] theorem modRun_now (t : TenantId) (f : Run → Run) (d : Device) : (modRun t f d).now = d.now := rfl
@[simp] theorem modRun_out (t : TenantId) (f : Run → Run) (d : Device) : (modRun t f d).out = d.out := rfl
@[simp] theorem modRun_counters (t : TenantId) (f : Run → Run) (d : Device) : (modRun t f d).counters = d.counters := rfl
@[simp] theorem modRun_cfg (t : TenantId) (f : Run → Run) (d : Device) : (modRun t f d).cfg = d.cfg := rfl
@[simp] theorem modRun_staged (t : TenantId) (f : Run → Run) (d : Device) : (modRun t f d).staged = d.staged := rfl
@[simp] theorem modRun_stagedShares (t : TenantId) (f : Run → Run) (d : Device) : (modRun t f d).stagedShares = d.stagedShares := rfl
@[simp] theorem modRun_cfgLater (t : TenantId) (f : Run → Run) (d : Device) : (modRun t f d).cfgLater = d.cfgLater := rfl
@[simp] theorem modRun_commits (t : TenantId) (f : Run → Run) (d : Device) : (modRun t f d).commits = d.commits := rfl
@[simp] theorem modRun_loads (t : TenantId) (f : Run → Run) (d : Device) : (modRun t f d).loads = d.loads := rfl
@[simp] theorem modRun_host (t : TenantId) (f : Run → Run) (d : Device) : (modRun t f d).host = d.host := rfl
@[simp] theorem modRun_gutter (t : TenantId) (f : Run → Run) (d : Device) : (modRun t f d).gutter = d.gutter := rfl
@[simp] theorem modRun_selftest (t : TenantId) (f : Run → Run) (d : Device) : (modRun t f d).selftest = d.selftest := rfl
@[simp] theorem modRun_boot (t : TenantId) (f : Run → Run) (d : Device) : (modRun t f d).boot = d.boot := rfl
@[simp] theorem modRun_caddy (t : TenantId) (f : Run → Run) (d : Device) : (modRun t f d).caddy = d.caddy := rfl
@[simp] theorem modRun_backup (t : TenantId) (f : Run → Run) (d : Device) : (modRun t f d).backup = d.backup := rfl
@[simp] theorem modRun_clocks (t : TenantId) (f : Run → Run) (d : Device) : (modRun t f d).clocks = d.clocks := rfl
@[simp] theorem modRun_power (t : TenantId) (f : Run → Run) (d : Device) : (modRun t f d).power = d.power := rfl
@[simp] theorem modRun_pins (t : TenantId) (f : Run → Run) (d : Device) : (modRun t f d).pins = d.pins := rfl
@[simp] theorem modRun_time (t : TenantId) (f : Run → Run) (d : Device) : (modRun t f d).time = d.time := rfl
@[simp] theorem modRun_sites (t : TenantId) (f : Run → Run) (d : Device) : (modRun t f d).sites = d.sites := rfl
@[simp] theorem modRun_fabric (t : TenantId) (f : Run → Run) (d : Device) : (modRun t f d).fabric = d.fabric := rfl
@[simp] theorem modRun_vtiles (t : TenantId) (f : Run → Run) (d : Device) : (modRun t f d).vtiles = d.vtiles := rfl
@[simp] theorem modRun_scratch (t : TenantId) (f : Run → Run) (d : Device) : (modRun t f d).scratch = d.scratch := rfl
@[simp] theorem modRun_halo (t : TenantId) (f : Run → Run) (d : Device) : (modRun t f d).halo = d.halo := rfl
@[simp] theorem modRun_tiers (t : TenantId) (f : Run → Run) (d : Device) : (modRun t f d).tiers = d.tiers := rfl
@[simp] theorem modRun_windows (t : TenantId) (f : Run → Run) (d : Device) : (modRun t f d).windows = d.windows := rfl
@[simp] theorem modRun_entropy (t : TenantId) (f : Run → Run) (d : Device) : (modRun t f d).entropy = d.entropy := rfl
@[simp] theorem modRun_strainers (t : TenantId) (f : Run → Run) (d : Device) : (modRun t f d).strainers = d.strainers := rfl
@[simp] theorem modRun_ridge (t : TenantId) (f : Run → Run) (d : Device) : (modRun t f d).ridge = d.ridge := rfl
@[simp] theorem modRun_coeffs (t : TenantId) (f : Run → Run) (d : Device) : (modRun t f d).coeffs = d.coeffs := rfl
@[simp] theorem modRun_span (t : TenantId) (f : Run → Run) (d : Device) : (modRun t f d).span = d.span := rfl
@[simp] theorem modRun_slate (t : TenantId) (f : Run → Run) (d : Device) : (modRun t f d).slate = d.slate := rfl
@[simp] theorem modRun_intake (t : TenantId) (f : Run → Run) (d : Device) : (modRun t f d).intake = d.intake := rfl

@[simp] theorem modStep_fresh (t : TenantId) (f : Step → Step) (d : Device) : (modStep t f d).fresh = d.fresh := rfl
@[simp] theorem modStep_now (t : TenantId) (f : Step → Step) (d : Device) : (modStep t f d).now = d.now := rfl
@[simp] theorem modStep_out (t : TenantId) (f : Step → Step) (d : Device) : (modStep t f d).out = d.out := rfl
@[simp] theorem modStep_counters (t : TenantId) (f : Step → Step) (d : Device) : (modStep t f d).counters = d.counters := rfl
@[simp] theorem modStep_cfg (t : TenantId) (f : Step → Step) (d : Device) : (modStep t f d).cfg = d.cfg := rfl
@[simp] theorem modStep_staged (t : TenantId) (f : Step → Step) (d : Device) : (modStep t f d).staged = d.staged := rfl
@[simp] theorem modStep_stagedShares (t : TenantId) (f : Step → Step) (d : Device) : (modStep t f d).stagedShares = d.stagedShares := rfl
@[simp] theorem modStep_cfgLater (t : TenantId) (f : Step → Step) (d : Device) : (modStep t f d).cfgLater = d.cfgLater := rfl
@[simp] theorem modStep_commits (t : TenantId) (f : Step → Step) (d : Device) : (modStep t f d).commits = d.commits := rfl
@[simp] theorem modStep_loads (t : TenantId) (f : Step → Step) (d : Device) : (modStep t f d).loads = d.loads := rfl
@[simp] theorem modStep_host (t : TenantId) (f : Step → Step) (d : Device) : (modStep t f d).host = d.host := rfl
@[simp] theorem modStep_gutter (t : TenantId) (f : Step → Step) (d : Device) : (modStep t f d).gutter = d.gutter := rfl
@[simp] theorem modStep_selftest (t : TenantId) (f : Step → Step) (d : Device) : (modStep t f d).selftest = d.selftest := rfl
@[simp] theorem modStep_boot (t : TenantId) (f : Step → Step) (d : Device) : (modStep t f d).boot = d.boot := rfl
@[simp] theorem modStep_caddy (t : TenantId) (f : Step → Step) (d : Device) : (modStep t f d).caddy = d.caddy := rfl
@[simp] theorem modStep_backup (t : TenantId) (f : Step → Step) (d : Device) : (modStep t f d).backup = d.backup := rfl
@[simp] theorem modStep_clocks (t : TenantId) (f : Step → Step) (d : Device) : (modStep t f d).clocks = d.clocks := rfl
@[simp] theorem modStep_power (t : TenantId) (f : Step → Step) (d : Device) : (modStep t f d).power = d.power := rfl
@[simp] theorem modStep_pins (t : TenantId) (f : Step → Step) (d : Device) : (modStep t f d).pins = d.pins := rfl
@[simp] theorem modStep_time (t : TenantId) (f : Step → Step) (d : Device) : (modStep t f d).time = d.time := rfl
@[simp] theorem modStep_sites (t : TenantId) (f : Step → Step) (d : Device) : (modStep t f d).sites = d.sites := rfl
@[simp] theorem modStep_fabric (t : TenantId) (f : Step → Step) (d : Device) : (modStep t f d).fabric = d.fabric := rfl
@[simp] theorem modStep_vtiles (t : TenantId) (f : Step → Step) (d : Device) : (modStep t f d).vtiles = d.vtiles := rfl
@[simp] theorem modStep_scratch (t : TenantId) (f : Step → Step) (d : Device) : (modStep t f d).scratch = d.scratch := rfl
@[simp] theorem modStep_halo (t : TenantId) (f : Step → Step) (d : Device) : (modStep t f d).halo = d.halo := rfl
@[simp] theorem modStep_tiers (t : TenantId) (f : Step → Step) (d : Device) : (modStep t f d).tiers = d.tiers := rfl
@[simp] theorem modStep_windows (t : TenantId) (f : Step → Step) (d : Device) : (modStep t f d).windows = d.windows := rfl
@[simp] theorem modStep_entropy (t : TenantId) (f : Step → Step) (d : Device) : (modStep t f d).entropy = d.entropy := rfl
@[simp] theorem modStep_strainers (t : TenantId) (f : Step → Step) (d : Device) : (modStep t f d).strainers = d.strainers := rfl
@[simp] theorem modStep_ridge (t : TenantId) (f : Step → Step) (d : Device) : (modStep t f d).ridge = d.ridge := rfl
@[simp] theorem modStep_coeffs (t : TenantId) (f : Step → Step) (d : Device) : (modStep t f d).coeffs = d.coeffs := rfl
@[simp] theorem modStep_span (t : TenantId) (f : Step → Step) (d : Device) : (modStep t f d).span = d.span := rfl
@[simp] theorem modStep_slate (t : TenantId) (f : Step → Step) (d : Device) : (modStep t f d).slate = d.slate := rfl
@[simp] theorem modStep_intake (t : TenantId) (f : Step → Step) (d : Device) : (modStep t f d).intake = d.intake := rfl

@[simp] theorem modTensor_fresh (t : TenantId) (id : Nat) (f : Tensor → Tensor) (d : Device) : (modTensor t id f d).fresh = d.fresh := rfl
@[simp] theorem modTensor_now (t : TenantId) (id : Nat) (f : Tensor → Tensor) (d : Device) : (modTensor t id f d).now = d.now := rfl
@[simp] theorem modTensor_out (t : TenantId) (id : Nat) (f : Tensor → Tensor) (d : Device) : (modTensor t id f d).out = d.out := rfl
@[simp] theorem modTensor_counters (t : TenantId) (id : Nat) (f : Tensor → Tensor) (d : Device) : (modTensor t id f d).counters = d.counters := rfl
@[simp] theorem modTensor_cfg (t : TenantId) (id : Nat) (f : Tensor → Tensor) (d : Device) : (modTensor t id f d).cfg = d.cfg := rfl
@[simp] theorem modTensor_staged (t : TenantId) (id : Nat) (f : Tensor → Tensor) (d : Device) : (modTensor t id f d).staged = d.staged := rfl
@[simp] theorem modTensor_stagedShares (t : TenantId) (id : Nat) (f : Tensor → Tensor) (d : Device) : (modTensor t id f d).stagedShares = d.stagedShares := rfl
@[simp] theorem modTensor_cfgLater (t : TenantId) (id : Nat) (f : Tensor → Tensor) (d : Device) : (modTensor t id f d).cfgLater = d.cfgLater := rfl
@[simp] theorem modTensor_commits (t : TenantId) (id : Nat) (f : Tensor → Tensor) (d : Device) : (modTensor t id f d).commits = d.commits := rfl
@[simp] theorem modTensor_loads (t : TenantId) (id : Nat) (f : Tensor → Tensor) (d : Device) : (modTensor t id f d).loads = d.loads := rfl
@[simp] theorem modTensor_host (t : TenantId) (id : Nat) (f : Tensor → Tensor) (d : Device) : (modTensor t id f d).host = d.host := rfl
@[simp] theorem modTensor_gutter (t : TenantId) (id : Nat) (f : Tensor → Tensor) (d : Device) : (modTensor t id f d).gutter = d.gutter := rfl
@[simp] theorem modTensor_selftest (t : TenantId) (id : Nat) (f : Tensor → Tensor) (d : Device) : (modTensor t id f d).selftest = d.selftest := rfl
@[simp] theorem modTensor_boot (t : TenantId) (id : Nat) (f : Tensor → Tensor) (d : Device) : (modTensor t id f d).boot = d.boot := rfl
@[simp] theorem modTensor_caddy (t : TenantId) (id : Nat) (f : Tensor → Tensor) (d : Device) : (modTensor t id f d).caddy = d.caddy := rfl
@[simp] theorem modTensor_backup (t : TenantId) (id : Nat) (f : Tensor → Tensor) (d : Device) : (modTensor t id f d).backup = d.backup := rfl
@[simp] theorem modTensor_clocks (t : TenantId) (id : Nat) (f : Tensor → Tensor) (d : Device) : (modTensor t id f d).clocks = d.clocks := rfl
@[simp] theorem modTensor_power (t : TenantId) (id : Nat) (f : Tensor → Tensor) (d : Device) : (modTensor t id f d).power = d.power := rfl
@[simp] theorem modTensor_pins (t : TenantId) (id : Nat) (f : Tensor → Tensor) (d : Device) : (modTensor t id f d).pins = d.pins := rfl
@[simp] theorem modTensor_time (t : TenantId) (id : Nat) (f : Tensor → Tensor) (d : Device) : (modTensor t id f d).time = d.time := rfl
@[simp] theorem modTensor_sites (t : TenantId) (id : Nat) (f : Tensor → Tensor) (d : Device) : (modTensor t id f d).sites = d.sites := rfl
@[simp] theorem modTensor_fabric (t : TenantId) (id : Nat) (f : Tensor → Tensor) (d : Device) : (modTensor t id f d).fabric = d.fabric := rfl
@[simp] theorem modTensor_vtiles (t : TenantId) (id : Nat) (f : Tensor → Tensor) (d : Device) : (modTensor t id f d).vtiles = d.vtiles := rfl
@[simp] theorem modTensor_scratch (t : TenantId) (id : Nat) (f : Tensor → Tensor) (d : Device) : (modTensor t id f d).scratch = d.scratch := rfl
@[simp] theorem modTensor_halo (t : TenantId) (id : Nat) (f : Tensor → Tensor) (d : Device) : (modTensor t id f d).halo = d.halo := rfl
@[simp] theorem modTensor_tiers (t : TenantId) (id : Nat) (f : Tensor → Tensor) (d : Device) : (modTensor t id f d).tiers = d.tiers := rfl
@[simp] theorem modTensor_windows (t : TenantId) (id : Nat) (f : Tensor → Tensor) (d : Device) : (modTensor t id f d).windows = d.windows := rfl
@[simp] theorem modTensor_entropy (t : TenantId) (id : Nat) (f : Tensor → Tensor) (d : Device) : (modTensor t id f d).entropy = d.entropy := rfl
@[simp] theorem modTensor_strainers (t : TenantId) (id : Nat) (f : Tensor → Tensor) (d : Device) : (modTensor t id f d).strainers = d.strainers := rfl
@[simp] theorem modTensor_ridge (t : TenantId) (id : Nat) (f : Tensor → Tensor) (d : Device) : (modTensor t id f d).ridge = d.ridge := rfl
@[simp] theorem modTensor_coeffs (t : TenantId) (id : Nat) (f : Tensor → Tensor) (d : Device) : (modTensor t id f d).coeffs = d.coeffs := rfl
@[simp] theorem modTensor_span (t : TenantId) (id : Nat) (f : Tensor → Tensor) (d : Device) : (modTensor t id f d).span = d.span := rfl
@[simp] theorem modTensor_slate (t : TenantId) (id : Nat) (f : Tensor → Tensor) (d : Device) : (modTensor t id f d).slate = d.slate := rfl
@[simp] theorem modTensor_intake (t : TenantId) (id : Nat) (f : Tensor → Tensor) (d : Device) : (modTensor t id f d).intake = d.intake := rfl

@[simp] theorem setFlag_fresh (t : TenantId) (bit : Nat) (d : Device) : (setFlag t bit d).fresh = d.fresh := rfl
@[simp] theorem setFlag_now (t : TenantId) (bit : Nat) (d : Device) : (setFlag t bit d).now = d.now := rfl
@[simp] theorem setFlag_out (t : TenantId) (bit : Nat) (d : Device) : (setFlag t bit d).out = d.out := rfl
@[simp] theorem setFlag_counters (t : TenantId) (bit : Nat) (d : Device) : (setFlag t bit d).counters = d.counters := rfl
@[simp] theorem setFlag_cfg (t : TenantId) (bit : Nat) (d : Device) : (setFlag t bit d).cfg = d.cfg := rfl
@[simp] theorem setFlag_staged (t : TenantId) (bit : Nat) (d : Device) : (setFlag t bit d).staged = d.staged := rfl
@[simp] theorem setFlag_stagedShares (t : TenantId) (bit : Nat) (d : Device) : (setFlag t bit d).stagedShares = d.stagedShares := rfl
@[simp] theorem setFlag_cfgLater (t : TenantId) (bit : Nat) (d : Device) : (setFlag t bit d).cfgLater = d.cfgLater := rfl
@[simp] theorem setFlag_commits (t : TenantId) (bit : Nat) (d : Device) : (setFlag t bit d).commits = d.commits := rfl
@[simp] theorem setFlag_loads (t : TenantId) (bit : Nat) (d : Device) : (setFlag t bit d).loads = d.loads := rfl
@[simp] theorem setFlag_host (t : TenantId) (bit : Nat) (d : Device) : (setFlag t bit d).host = d.host := rfl
@[simp] theorem setFlag_gutter (t : TenantId) (bit : Nat) (d : Device) : (setFlag t bit d).gutter = d.gutter := rfl
@[simp] theorem setFlag_selftest (t : TenantId) (bit : Nat) (d : Device) : (setFlag t bit d).selftest = d.selftest := rfl
@[simp] theorem setFlag_boot (t : TenantId) (bit : Nat) (d : Device) : (setFlag t bit d).boot = d.boot := rfl
@[simp] theorem setFlag_caddy (t : TenantId) (bit : Nat) (d : Device) : (setFlag t bit d).caddy = d.caddy := rfl
@[simp] theorem setFlag_backup (t : TenantId) (bit : Nat) (d : Device) : (setFlag t bit d).backup = d.backup := rfl
@[simp] theorem setFlag_clocks (t : TenantId) (bit : Nat) (d : Device) : (setFlag t bit d).clocks = d.clocks := rfl
@[simp] theorem setFlag_power (t : TenantId) (bit : Nat) (d : Device) : (setFlag t bit d).power = d.power := rfl
@[simp] theorem setFlag_pins (t : TenantId) (bit : Nat) (d : Device) : (setFlag t bit d).pins = d.pins := rfl
@[simp] theorem setFlag_time (t : TenantId) (bit : Nat) (d : Device) : (setFlag t bit d).time = d.time := rfl
@[simp] theorem setFlag_sites (t : TenantId) (bit : Nat) (d : Device) : (setFlag t bit d).sites = d.sites := rfl
@[simp] theorem setFlag_fabric (t : TenantId) (bit : Nat) (d : Device) : (setFlag t bit d).fabric = d.fabric := rfl
@[simp] theorem setFlag_vtiles (t : TenantId) (bit : Nat) (d : Device) : (setFlag t bit d).vtiles = d.vtiles := rfl
@[simp] theorem setFlag_scratch (t : TenantId) (bit : Nat) (d : Device) : (setFlag t bit d).scratch = d.scratch := rfl
@[simp] theorem setFlag_halo (t : TenantId) (bit : Nat) (d : Device) : (setFlag t bit d).halo = d.halo := rfl
@[simp] theorem setFlag_tiers (t : TenantId) (bit : Nat) (d : Device) : (setFlag t bit d).tiers = d.tiers := rfl
@[simp] theorem setFlag_windows (t : TenantId) (bit : Nat) (d : Device) : (setFlag t bit d).windows = d.windows := rfl
@[simp] theorem setFlag_entropy (t : TenantId) (bit : Nat) (d : Device) : (setFlag t bit d).entropy = d.entropy := rfl
@[simp] theorem setFlag_strainers (t : TenantId) (bit : Nat) (d : Device) : (setFlag t bit d).strainers = d.strainers := rfl
@[simp] theorem setFlag_ridge (t : TenantId) (bit : Nat) (d : Device) : (setFlag t bit d).ridge = d.ridge := rfl
@[simp] theorem setFlag_coeffs (t : TenantId) (bit : Nat) (d : Device) : (setFlag t bit d).coeffs = d.coeffs := rfl
@[simp] theorem setFlag_span (t : TenantId) (bit : Nat) (d : Device) : (setFlag t bit d).span = d.span := rfl
@[simp] theorem setFlag_slate (t : TenantId) (bit : Nat) (d : Device) : (setFlag t bit d).slate = d.slate := rfl
@[simp] theorem setFlag_intake (t : TenantId) (bit : Nat) (d : Device) : (setFlag t bit d).intake = d.intake := rfl

@[simp] theorem modPair_fresh (t : TenantId) (f : Pair → Pair) (d : Device) : (modPair t f d).fresh = d.fresh := rfl
@[simp] theorem modPair_now (t : TenantId) (f : Pair → Pair) (d : Device) : (modPair t f d).now = d.now := rfl
@[simp] theorem modPair_out (t : TenantId) (f : Pair → Pair) (d : Device) : (modPair t f d).out = d.out := rfl
@[simp] theorem modPair_counters (t : TenantId) (f : Pair → Pair) (d : Device) : (modPair t f d).counters = d.counters := rfl
@[simp] theorem modPair_cfg (t : TenantId) (f : Pair → Pair) (d : Device) : (modPair t f d).cfg = d.cfg := rfl
@[simp] theorem modPair_staged (t : TenantId) (f : Pair → Pair) (d : Device) : (modPair t f d).staged = d.staged := rfl
@[simp] theorem modPair_stagedShares (t : TenantId) (f : Pair → Pair) (d : Device) : (modPair t f d).stagedShares = d.stagedShares := rfl
@[simp] theorem modPair_cfgLater (t : TenantId) (f : Pair → Pair) (d : Device) : (modPair t f d).cfgLater = d.cfgLater := rfl
@[simp] theorem modPair_commits (t : TenantId) (f : Pair → Pair) (d : Device) : (modPair t f d).commits = d.commits := rfl
@[simp] theorem modPair_loads (t : TenantId) (f : Pair → Pair) (d : Device) : (modPair t f d).loads = d.loads := rfl
@[simp] theorem modPair_host (t : TenantId) (f : Pair → Pair) (d : Device) : (modPair t f d).host = d.host := rfl
@[simp] theorem modPair_gutter (t : TenantId) (f : Pair → Pair) (d : Device) : (modPair t f d).gutter = d.gutter := rfl
@[simp] theorem modPair_selftest (t : TenantId) (f : Pair → Pair) (d : Device) : (modPair t f d).selftest = d.selftest := rfl
@[simp] theorem modPair_boot (t : TenantId) (f : Pair → Pair) (d : Device) : (modPair t f d).boot = d.boot := rfl
@[simp] theorem modPair_caddy (t : TenantId) (f : Pair → Pair) (d : Device) : (modPair t f d).caddy = d.caddy := rfl
@[simp] theorem modPair_backup (t : TenantId) (f : Pair → Pair) (d : Device) : (modPair t f d).backup = d.backup := rfl
@[simp] theorem modPair_clocks (t : TenantId) (f : Pair → Pair) (d : Device) : (modPair t f d).clocks = d.clocks := rfl
@[simp] theorem modPair_power (t : TenantId) (f : Pair → Pair) (d : Device) : (modPair t f d).power = d.power := rfl
@[simp] theorem modPair_pins (t : TenantId) (f : Pair → Pair) (d : Device) : (modPair t f d).pins = d.pins := rfl
@[simp] theorem modPair_time (t : TenantId) (f : Pair → Pair) (d : Device) : (modPair t f d).time = d.time := rfl
@[simp] theorem modPair_sites (t : TenantId) (f : Pair → Pair) (d : Device) : (modPair t f d).sites = d.sites := rfl
@[simp] theorem modPair_fabric (t : TenantId) (f : Pair → Pair) (d : Device) : (modPair t f d).fabric = d.fabric := rfl
@[simp] theorem modPair_vtiles (t : TenantId) (f : Pair → Pair) (d : Device) : (modPair t f d).vtiles = d.vtiles := rfl
@[simp] theorem modPair_scratch (t : TenantId) (f : Pair → Pair) (d : Device) : (modPair t f d).scratch = d.scratch := rfl
@[simp] theorem modPair_halo (t : TenantId) (f : Pair → Pair) (d : Device) : (modPair t f d).halo = d.halo := rfl
@[simp] theorem modPair_tiers (t : TenantId) (f : Pair → Pair) (d : Device) : (modPair t f d).tiers = d.tiers := rfl
@[simp] theorem modPair_windows (t : TenantId) (f : Pair → Pair) (d : Device) : (modPair t f d).windows = d.windows := rfl
@[simp] theorem modPair_entropy (t : TenantId) (f : Pair → Pair) (d : Device) : (modPair t f d).entropy = d.entropy := rfl
@[simp] theorem modPair_strainers (t : TenantId) (f : Pair → Pair) (d : Device) : (modPair t f d).strainers = d.strainers := rfl
@[simp] theorem modPair_ridge (t : TenantId) (f : Pair → Pair) (d : Device) : (modPair t f d).ridge = d.ridge := rfl
@[simp] theorem modPair_coeffs (t : TenantId) (f : Pair → Pair) (d : Device) : (modPair t f d).coeffs = d.coeffs := rfl
@[simp] theorem modPair_span (t : TenantId) (f : Pair → Pair) (d : Device) : (modPair t f d).span = d.span := rfl
@[simp] theorem modPair_slate (t : TenantId) (f : Pair → Pair) (d : Device) : (modPair t f d).slate = d.slate := rfl
@[simp] theorem modPair_intake (t : TenantId) (f : Pair → Pair) (d : Device) : (modPair t f d).intake = d.intake := rfl

@[simp] theorem modMbx_fresh (m : MailboxId) (f : Mailbox → Mailbox) (d : Device) : (modMbx m f d).fresh = d.fresh := rfl
@[simp] theorem modMbx_now (m : MailboxId) (f : Mailbox → Mailbox) (d : Device) : (modMbx m f d).now = d.now := rfl
@[simp] theorem modMbx_out (m : MailboxId) (f : Mailbox → Mailbox) (d : Device) : (modMbx m f d).out = d.out := rfl
@[simp] theorem modMbx_counters (m : MailboxId) (f : Mailbox → Mailbox) (d : Device) : (modMbx m f d).counters = d.counters := rfl
@[simp] theorem modMbx_cfg (m : MailboxId) (f : Mailbox → Mailbox) (d : Device) : (modMbx m f d).cfg = d.cfg := rfl
@[simp] theorem modMbx_staged (m : MailboxId) (f : Mailbox → Mailbox) (d : Device) : (modMbx m f d).staged = d.staged := rfl
@[simp] theorem modMbx_stagedShares (m : MailboxId) (f : Mailbox → Mailbox) (d : Device) : (modMbx m f d).stagedShares = d.stagedShares := rfl
@[simp] theorem modMbx_cfgLater (m : MailboxId) (f : Mailbox → Mailbox) (d : Device) : (modMbx m f d).cfgLater = d.cfgLater := rfl
@[simp] theorem modMbx_commits (m : MailboxId) (f : Mailbox → Mailbox) (d : Device) : (modMbx m f d).commits = d.commits := rfl
@[simp] theorem modMbx_loads (m : MailboxId) (f : Mailbox → Mailbox) (d : Device) : (modMbx m f d).loads = d.loads := rfl
@[simp] theorem modMbx_gutter (m : MailboxId) (f : Mailbox → Mailbox) (d : Device) : (modMbx m f d).gutter = d.gutter := rfl
@[simp] theorem modMbx_selftest (m : MailboxId) (f : Mailbox → Mailbox) (d : Device) : (modMbx m f d).selftest = d.selftest := rfl
@[simp] theorem modMbx_boot (m : MailboxId) (f : Mailbox → Mailbox) (d : Device) : (modMbx m f d).boot = d.boot := rfl
@[simp] theorem modMbx_caddy (m : MailboxId) (f : Mailbox → Mailbox) (d : Device) : (modMbx m f d).caddy = d.caddy := rfl
@[simp] theorem modMbx_backup (m : MailboxId) (f : Mailbox → Mailbox) (d : Device) : (modMbx m f d).backup = d.backup := rfl
@[simp] theorem modMbx_clocks (m : MailboxId) (f : Mailbox → Mailbox) (d : Device) : (modMbx m f d).clocks = d.clocks := rfl
@[simp] theorem modMbx_power (m : MailboxId) (f : Mailbox → Mailbox) (d : Device) : (modMbx m f d).power = d.power := rfl
@[simp] theorem modMbx_pins (m : MailboxId) (f : Mailbox → Mailbox) (d : Device) : (modMbx m f d).pins = d.pins := rfl
@[simp] theorem modMbx_time (m : MailboxId) (f : Mailbox → Mailbox) (d : Device) : (modMbx m f d).time = d.time := rfl
@[simp] theorem modMbx_sites (m : MailboxId) (f : Mailbox → Mailbox) (d : Device) : (modMbx m f d).sites = d.sites := rfl
@[simp] theorem modMbx_fabric (m : MailboxId) (f : Mailbox → Mailbox) (d : Device) : (modMbx m f d).fabric = d.fabric := rfl
@[simp] theorem modMbx_vtiles (m : MailboxId) (f : Mailbox → Mailbox) (d : Device) : (modMbx m f d).vtiles = d.vtiles := rfl
@[simp] theorem modMbx_scratch (m : MailboxId) (f : Mailbox → Mailbox) (d : Device) : (modMbx m f d).scratch = d.scratch := rfl
@[simp] theorem modMbx_halo (m : MailboxId) (f : Mailbox → Mailbox) (d : Device) : (modMbx m f d).halo = d.halo := rfl
@[simp] theorem modMbx_tenants (m : MailboxId) (f : Mailbox → Mailbox) (d : Device) : (modMbx m f d).tenants = d.tenants := rfl
@[simp] theorem modMbx_tiers (m : MailboxId) (f : Mailbox → Mailbox) (d : Device) : (modMbx m f d).tiers = d.tiers := rfl
@[simp] theorem modMbx_windows (m : MailboxId) (f : Mailbox → Mailbox) (d : Device) : (modMbx m f d).windows = d.windows := rfl
@[simp] theorem modMbx_entropy (m : MailboxId) (f : Mailbox → Mailbox) (d : Device) : (modMbx m f d).entropy = d.entropy := rfl
@[simp] theorem modMbx_strainers (m : MailboxId) (f : Mailbox → Mailbox) (d : Device) : (modMbx m f d).strainers = d.strainers := rfl
@[simp] theorem modMbx_ridge (m : MailboxId) (f : Mailbox → Mailbox) (d : Device) : (modMbx m f d).ridge = d.ridge := rfl
@[simp] theorem modMbx_coeffs (m : MailboxId) (f : Mailbox → Mailbox) (d : Device) : (modMbx m f d).coeffs = d.coeffs := rfl
@[simp] theorem modMbx_span (m : MailboxId) (f : Mailbox → Mailbox) (d : Device) : (modMbx m f d).span = d.span := rfl
@[simp] theorem modMbx_slate (m : MailboxId) (f : Mailbox → Mailbox) (d : Device) : (modMbx m f d).slate = d.slate := rfl
@[simp] theorem modMbx_intake (m : MailboxId) (f : Mailbox → Mailbox) (d : Device) : (modMbx m f d).intake = d.intake := rfl

@[simp] theorem queueCompletion_fresh (m : MailboxId) (k : Completion) (d : Device) : (queueCompletion m k d).fresh = d.fresh := rfl
@[simp] theorem queueCompletion_now (m : MailboxId) (k : Completion) (d : Device) : (queueCompletion m k d).now = d.now := rfl
@[simp] theorem queueCompletion_out (m : MailboxId) (k : Completion) (d : Device) : (queueCompletion m k d).out = d.out := rfl
@[simp] theorem queueCompletion_counters (m : MailboxId) (k : Completion) (d : Device) : (queueCompletion m k d).counters = d.counters := rfl
@[simp] theorem queueCompletion_cfg (m : MailboxId) (k : Completion) (d : Device) : (queueCompletion m k d).cfg = d.cfg := rfl
@[simp] theorem queueCompletion_staged (m : MailboxId) (k : Completion) (d : Device) : (queueCompletion m k d).staged = d.staged := rfl
@[simp] theorem queueCompletion_stagedShares (m : MailboxId) (k : Completion) (d : Device) : (queueCompletion m k d).stagedShares = d.stagedShares := rfl
@[simp] theorem queueCompletion_cfgLater (m : MailboxId) (k : Completion) (d : Device) : (queueCompletion m k d).cfgLater = d.cfgLater := rfl
@[simp] theorem queueCompletion_commits (m : MailboxId) (k : Completion) (d : Device) : (queueCompletion m k d).commits = d.commits := rfl
@[simp] theorem queueCompletion_loads (m : MailboxId) (k : Completion) (d : Device) : (queueCompletion m k d).loads = d.loads := rfl
@[simp] theorem queueCompletion_gutter (m : MailboxId) (k : Completion) (d : Device) : (queueCompletion m k d).gutter = d.gutter := rfl
@[simp] theorem queueCompletion_selftest (m : MailboxId) (k : Completion) (d : Device) : (queueCompletion m k d).selftest = d.selftest := rfl
@[simp] theorem queueCompletion_boot (m : MailboxId) (k : Completion) (d : Device) : (queueCompletion m k d).boot = d.boot := rfl
@[simp] theorem queueCompletion_caddy (m : MailboxId) (k : Completion) (d : Device) : (queueCompletion m k d).caddy = d.caddy := rfl
@[simp] theorem queueCompletion_backup (m : MailboxId) (k : Completion) (d : Device) : (queueCompletion m k d).backup = d.backup := rfl
@[simp] theorem queueCompletion_clocks (m : MailboxId) (k : Completion) (d : Device) : (queueCompletion m k d).clocks = d.clocks := rfl
@[simp] theorem queueCompletion_power (m : MailboxId) (k : Completion) (d : Device) : (queueCompletion m k d).power = d.power := rfl
@[simp] theorem queueCompletion_pins (m : MailboxId) (k : Completion) (d : Device) : (queueCompletion m k d).pins = d.pins := rfl
@[simp] theorem queueCompletion_time (m : MailboxId) (k : Completion) (d : Device) : (queueCompletion m k d).time = d.time := rfl
@[simp] theorem queueCompletion_sites (m : MailboxId) (k : Completion) (d : Device) : (queueCompletion m k d).sites = d.sites := rfl
@[simp] theorem queueCompletion_fabric (m : MailboxId) (k : Completion) (d : Device) : (queueCompletion m k d).fabric = d.fabric := rfl
@[simp] theorem queueCompletion_vtiles (m : MailboxId) (k : Completion) (d : Device) : (queueCompletion m k d).vtiles = d.vtiles := rfl
@[simp] theorem queueCompletion_scratch (m : MailboxId) (k : Completion) (d : Device) : (queueCompletion m k d).scratch = d.scratch := rfl
@[simp] theorem queueCompletion_halo (m : MailboxId) (k : Completion) (d : Device) : (queueCompletion m k d).halo = d.halo := rfl
@[simp] theorem queueCompletion_tenants (m : MailboxId) (k : Completion) (d : Device) : (queueCompletion m k d).tenants = d.tenants := rfl
@[simp] theorem queueCompletion_tiers (m : MailboxId) (k : Completion) (d : Device) : (queueCompletion m k d).tiers = d.tiers := rfl
@[simp] theorem queueCompletion_windows (m : MailboxId) (k : Completion) (d : Device) : (queueCompletion m k d).windows = d.windows := rfl
@[simp] theorem queueCompletion_entropy (m : MailboxId) (k : Completion) (d : Device) : (queueCompletion m k d).entropy = d.entropy := rfl
@[simp] theorem queueCompletion_strainers (m : MailboxId) (k : Completion) (d : Device) : (queueCompletion m k d).strainers = d.strainers := rfl
@[simp] theorem queueCompletion_ridge (m : MailboxId) (k : Completion) (d : Device) : (queueCompletion m k d).ridge = d.ridge := rfl
@[simp] theorem queueCompletion_coeffs (m : MailboxId) (k : Completion) (d : Device) : (queueCompletion m k d).coeffs = d.coeffs := rfl
@[simp] theorem queueCompletion_span (m : MailboxId) (k : Completion) (d : Device) : (queueCompletion m k d).span = d.span := rfl
@[simp] theorem queueCompletion_slate (m : MailboxId) (k : Completion) (d : Device) : (queueCompletion m k d).slate = d.slate := rfl
@[simp] theorem queueCompletion_intake (m : MailboxId) (k : Completion) (d : Device) : (queueCompletion m k d).intake = d.intake := rfl

@[simp] theorem acceptCall_fresh (c : Call) (d : Device) : (acceptCall c d).fresh = d.fresh := rfl
@[simp] theorem acceptCall_now (c : Call) (d : Device) : (acceptCall c d).now = d.now := rfl
@[simp] theorem acceptCall_out (c : Call) (d : Device) : (acceptCall c d).out = d.out := rfl
@[simp] theorem acceptCall_counters (c : Call) (d : Device) : (acceptCall c d).counters = d.counters := rfl
@[simp] theorem acceptCall_cfg (c : Call) (d : Device) : (acceptCall c d).cfg = d.cfg := rfl
@[simp] theorem acceptCall_staged (c : Call) (d : Device) : (acceptCall c d).staged = d.staged := rfl
@[simp] theorem acceptCall_stagedShares (c : Call) (d : Device) : (acceptCall c d).stagedShares = d.stagedShares := rfl
@[simp] theorem acceptCall_cfgLater (c : Call) (d : Device) : (acceptCall c d).cfgLater = d.cfgLater := rfl
@[simp] theorem acceptCall_commits (c : Call) (d : Device) : (acceptCall c d).commits = d.commits := rfl
@[simp] theorem acceptCall_loads (c : Call) (d : Device) : (acceptCall c d).loads = d.loads := rfl
@[simp] theorem acceptCall_gutter (c : Call) (d : Device) : (acceptCall c d).gutter = d.gutter := rfl
@[simp] theorem acceptCall_selftest (c : Call) (d : Device) : (acceptCall c d).selftest = d.selftest := rfl
@[simp] theorem acceptCall_boot (c : Call) (d : Device) : (acceptCall c d).boot = d.boot := rfl
@[simp] theorem acceptCall_caddy (c : Call) (d : Device) : (acceptCall c d).caddy = d.caddy := rfl
@[simp] theorem acceptCall_backup (c : Call) (d : Device) : (acceptCall c d).backup = d.backup := rfl
@[simp] theorem acceptCall_clocks (c : Call) (d : Device) : (acceptCall c d).clocks = d.clocks := rfl
@[simp] theorem acceptCall_power (c : Call) (d : Device) : (acceptCall c d).power = d.power := rfl
@[simp] theorem acceptCall_pins (c : Call) (d : Device) : (acceptCall c d).pins = d.pins := rfl
@[simp] theorem acceptCall_time (c : Call) (d : Device) : (acceptCall c d).time = d.time := rfl
@[simp] theorem acceptCall_sites (c : Call) (d : Device) : (acceptCall c d).sites = d.sites := rfl
@[simp] theorem acceptCall_fabric (c : Call) (d : Device) : (acceptCall c d).fabric = d.fabric := rfl
@[simp] theorem acceptCall_vtiles (c : Call) (d : Device) : (acceptCall c d).vtiles = d.vtiles := rfl
@[simp] theorem acceptCall_scratch (c : Call) (d : Device) : (acceptCall c d).scratch = d.scratch := rfl
@[simp] theorem acceptCall_halo (c : Call) (d : Device) : (acceptCall c d).halo = d.halo := rfl
@[simp] theorem acceptCall_tenants (c : Call) (d : Device) : (acceptCall c d).tenants = d.tenants := rfl
@[simp] theorem acceptCall_tiers (c : Call) (d : Device) : (acceptCall c d).tiers = d.tiers := rfl
@[simp] theorem acceptCall_windows (c : Call) (d : Device) : (acceptCall c d).windows = d.windows := rfl
@[simp] theorem acceptCall_entropy (c : Call) (d : Device) : (acceptCall c d).entropy = d.entropy := rfl
@[simp] theorem acceptCall_strainers (c : Call) (d : Device) : (acceptCall c d).strainers = d.strainers := rfl
@[simp] theorem acceptCall_ridge (c : Call) (d : Device) : (acceptCall c d).ridge = d.ridge := rfl
@[simp] theorem acceptCall_coeffs (c : Call) (d : Device) : (acceptCall c d).coeffs = d.coeffs := rfl
@[simp] theorem acceptCall_span (c : Call) (d : Device) : (acceptCall c d).span = d.span := rfl
@[simp] theorem acceptCall_slate (c : Call) (d : Device) : (acceptCall c d).slate = d.slate := rfl
@[simp] theorem acceptCall_intake (c : Call) (d : Device) : (acceptCall c d).intake = d.intake := rfl

@[simp] theorem setMsixVec_fresh (fn : FunctionId) (v : Fin 16) (m : MsixVec) (d : Device) : (setMsixVec fn v m d).fresh = d.fresh := rfl
@[simp] theorem setMsixVec_now (fn : FunctionId) (v : Fin 16) (m : MsixVec) (d : Device) : (setMsixVec fn v m d).now = d.now := rfl
@[simp] theorem setMsixVec_out (fn : FunctionId) (v : Fin 16) (m : MsixVec) (d : Device) : (setMsixVec fn v m d).out = d.out := rfl
@[simp] theorem setMsixVec_counters (fn : FunctionId) (v : Fin 16) (m : MsixVec) (d : Device) : (setMsixVec fn v m d).counters = d.counters := rfl
@[simp] theorem setMsixVec_cfg (fn : FunctionId) (v : Fin 16) (m : MsixVec) (d : Device) : (setMsixVec fn v m d).cfg = d.cfg := rfl
@[simp] theorem setMsixVec_staged (fn : FunctionId) (v : Fin 16) (m : MsixVec) (d : Device) : (setMsixVec fn v m d).staged = d.staged := rfl
@[simp] theorem setMsixVec_stagedShares (fn : FunctionId) (v : Fin 16) (m : MsixVec) (d : Device) : (setMsixVec fn v m d).stagedShares = d.stagedShares := rfl
@[simp] theorem setMsixVec_cfgLater (fn : FunctionId) (v : Fin 16) (m : MsixVec) (d : Device) : (setMsixVec fn v m d).cfgLater = d.cfgLater := rfl
@[simp] theorem setMsixVec_commits (fn : FunctionId) (v : Fin 16) (m : MsixVec) (d : Device) : (setMsixVec fn v m d).commits = d.commits := rfl
@[simp] theorem setMsixVec_loads (fn : FunctionId) (v : Fin 16) (m : MsixVec) (d : Device) : (setMsixVec fn v m d).loads = d.loads := rfl
@[simp] theorem setMsixVec_gutter (fn : FunctionId) (v : Fin 16) (m : MsixVec) (d : Device) : (setMsixVec fn v m d).gutter = d.gutter := rfl
@[simp] theorem setMsixVec_selftest (fn : FunctionId) (v : Fin 16) (m : MsixVec) (d : Device) : (setMsixVec fn v m d).selftest = d.selftest := rfl
@[simp] theorem setMsixVec_boot (fn : FunctionId) (v : Fin 16) (m : MsixVec) (d : Device) : (setMsixVec fn v m d).boot = d.boot := rfl
@[simp] theorem setMsixVec_caddy (fn : FunctionId) (v : Fin 16) (m : MsixVec) (d : Device) : (setMsixVec fn v m d).caddy = d.caddy := rfl
@[simp] theorem setMsixVec_backup (fn : FunctionId) (v : Fin 16) (m : MsixVec) (d : Device) : (setMsixVec fn v m d).backup = d.backup := rfl
@[simp] theorem setMsixVec_clocks (fn : FunctionId) (v : Fin 16) (m : MsixVec) (d : Device) : (setMsixVec fn v m d).clocks = d.clocks := rfl
@[simp] theorem setMsixVec_power (fn : FunctionId) (v : Fin 16) (m : MsixVec) (d : Device) : (setMsixVec fn v m d).power = d.power := rfl
@[simp] theorem setMsixVec_pins (fn : FunctionId) (v : Fin 16) (m : MsixVec) (d : Device) : (setMsixVec fn v m d).pins = d.pins := rfl
@[simp] theorem setMsixVec_time (fn : FunctionId) (v : Fin 16) (m : MsixVec) (d : Device) : (setMsixVec fn v m d).time = d.time := rfl
@[simp] theorem setMsixVec_sites (fn : FunctionId) (v : Fin 16) (m : MsixVec) (d : Device) : (setMsixVec fn v m d).sites = d.sites := rfl
@[simp] theorem setMsixVec_fabric (fn : FunctionId) (v : Fin 16) (m : MsixVec) (d : Device) : (setMsixVec fn v m d).fabric = d.fabric := rfl
@[simp] theorem setMsixVec_vtiles (fn : FunctionId) (v : Fin 16) (m : MsixVec) (d : Device) : (setMsixVec fn v m d).vtiles = d.vtiles := rfl
@[simp] theorem setMsixVec_scratch (fn : FunctionId) (v : Fin 16) (m : MsixVec) (d : Device) : (setMsixVec fn v m d).scratch = d.scratch := rfl
@[simp] theorem setMsixVec_halo (fn : FunctionId) (v : Fin 16) (m : MsixVec) (d : Device) : (setMsixVec fn v m d).halo = d.halo := rfl
@[simp] theorem setMsixVec_tenants (fn : FunctionId) (v : Fin 16) (m : MsixVec) (d : Device) : (setMsixVec fn v m d).tenants = d.tenants := rfl
@[simp] theorem setMsixVec_tiers (fn : FunctionId) (v : Fin 16) (m : MsixVec) (d : Device) : (setMsixVec fn v m d).tiers = d.tiers := rfl
@[simp] theorem setMsixVec_windows (fn : FunctionId) (v : Fin 16) (m : MsixVec) (d : Device) : (setMsixVec fn v m d).windows = d.windows := rfl
@[simp] theorem setMsixVec_entropy (fn : FunctionId) (v : Fin 16) (m : MsixVec) (d : Device) : (setMsixVec fn v m d).entropy = d.entropy := rfl
@[simp] theorem setMsixVec_strainers (fn : FunctionId) (v : Fin 16) (m : MsixVec) (d : Device) : (setMsixVec fn v m d).strainers = d.strainers := rfl
@[simp] theorem setMsixVec_ridge (fn : FunctionId) (v : Fin 16) (m : MsixVec) (d : Device) : (setMsixVec fn v m d).ridge = d.ridge := rfl
@[simp] theorem setMsixVec_coeffs (fn : FunctionId) (v : Fin 16) (m : MsixVec) (d : Device) : (setMsixVec fn v m d).coeffs = d.coeffs := rfl
@[simp] theorem setMsixVec_span (fn : FunctionId) (v : Fin 16) (m : MsixVec) (d : Device) : (setMsixVec fn v m d).span = d.span := rfl
@[simp] theorem setMsixVec_slate (fn : FunctionId) (v : Fin 16) (m : MsixVec) (d : Device) : (setMsixVec fn v m d).slate = d.slate := rfl
@[simp] theorem setMsixVec_intake (fn : FunctionId) (v : Fin 16) (m : MsixVec) (d : Device) : (setMsixVec fn v m d).intake = d.intake := rfl

@[simp] theorem modWindow_fresh (fn : FunctionId) (f : Window → Window) (d : Device) : (modWindow fn f d).fresh = d.fresh := rfl
@[simp] theorem modWindow_now (fn : FunctionId) (f : Window → Window) (d : Device) : (modWindow fn f d).now = d.now := rfl
@[simp] theorem modWindow_out (fn : FunctionId) (f : Window → Window) (d : Device) : (modWindow fn f d).out = d.out := rfl
@[simp] theorem modWindow_counters (fn : FunctionId) (f : Window → Window) (d : Device) : (modWindow fn f d).counters = d.counters := rfl
@[simp] theorem modWindow_cfg (fn : FunctionId) (f : Window → Window) (d : Device) : (modWindow fn f d).cfg = d.cfg := rfl
@[simp] theorem modWindow_staged (fn : FunctionId) (f : Window → Window) (d : Device) : (modWindow fn f d).staged = d.staged := rfl
@[simp] theorem modWindow_stagedShares (fn : FunctionId) (f : Window → Window) (d : Device) : (modWindow fn f d).stagedShares = d.stagedShares := rfl
@[simp] theorem modWindow_cfgLater (fn : FunctionId) (f : Window → Window) (d : Device) : (modWindow fn f d).cfgLater = d.cfgLater := rfl
@[simp] theorem modWindow_commits (fn : FunctionId) (f : Window → Window) (d : Device) : (modWindow fn f d).commits = d.commits := rfl
@[simp] theorem modWindow_loads (fn : FunctionId) (f : Window → Window) (d : Device) : (modWindow fn f d).loads = d.loads := rfl
@[simp] theorem modWindow_host (fn : FunctionId) (f : Window → Window) (d : Device) : (modWindow fn f d).host = d.host := rfl
@[simp] theorem modWindow_gutter (fn : FunctionId) (f : Window → Window) (d : Device) : (modWindow fn f d).gutter = d.gutter := rfl
@[simp] theorem modWindow_selftest (fn : FunctionId) (f : Window → Window) (d : Device) : (modWindow fn f d).selftest = d.selftest := rfl
@[simp] theorem modWindow_boot (fn : FunctionId) (f : Window → Window) (d : Device) : (modWindow fn f d).boot = d.boot := rfl
@[simp] theorem modWindow_caddy (fn : FunctionId) (f : Window → Window) (d : Device) : (modWindow fn f d).caddy = d.caddy := rfl
@[simp] theorem modWindow_backup (fn : FunctionId) (f : Window → Window) (d : Device) : (modWindow fn f d).backup = d.backup := rfl
@[simp] theorem modWindow_clocks (fn : FunctionId) (f : Window → Window) (d : Device) : (modWindow fn f d).clocks = d.clocks := rfl
@[simp] theorem modWindow_power (fn : FunctionId) (f : Window → Window) (d : Device) : (modWindow fn f d).power = d.power := rfl
@[simp] theorem modWindow_pins (fn : FunctionId) (f : Window → Window) (d : Device) : (modWindow fn f d).pins = d.pins := rfl
@[simp] theorem modWindow_time (fn : FunctionId) (f : Window → Window) (d : Device) : (modWindow fn f d).time = d.time := rfl
@[simp] theorem modWindow_sites (fn : FunctionId) (f : Window → Window) (d : Device) : (modWindow fn f d).sites = d.sites := rfl
@[simp] theorem modWindow_fabric (fn : FunctionId) (f : Window → Window) (d : Device) : (modWindow fn f d).fabric = d.fabric := rfl
@[simp] theorem modWindow_vtiles (fn : FunctionId) (f : Window → Window) (d : Device) : (modWindow fn f d).vtiles = d.vtiles := rfl
@[simp] theorem modWindow_scratch (fn : FunctionId) (f : Window → Window) (d : Device) : (modWindow fn f d).scratch = d.scratch := rfl
@[simp] theorem modWindow_halo (fn : FunctionId) (f : Window → Window) (d : Device) : (modWindow fn f d).halo = d.halo := rfl
@[simp] theorem modWindow_tenants (fn : FunctionId) (f : Window → Window) (d : Device) : (modWindow fn f d).tenants = d.tenants := rfl
@[simp] theorem modWindow_tiers (fn : FunctionId) (f : Window → Window) (d : Device) : (modWindow fn f d).tiers = d.tiers := rfl
@[simp] theorem modWindow_entropy (fn : FunctionId) (f : Window → Window) (d : Device) : (modWindow fn f d).entropy = d.entropy := rfl
@[simp] theorem modWindow_strainers (fn : FunctionId) (f : Window → Window) (d : Device) : (modWindow fn f d).strainers = d.strainers := rfl
@[simp] theorem modWindow_ridge (fn : FunctionId) (f : Window → Window) (d : Device) : (modWindow fn f d).ridge = d.ridge := rfl
@[simp] theorem modWindow_coeffs (fn : FunctionId) (f : Window → Window) (d : Device) : (modWindow fn f d).coeffs = d.coeffs := rfl
@[simp] theorem modWindow_span (fn : FunctionId) (f : Window → Window) (d : Device) : (modWindow fn f d).span = d.span := rfl
@[simp] theorem modWindow_slate (fn : FunctionId) (f : Window → Window) (d : Device) : (modWindow fn f d).slate = d.slate := rfl
@[simp] theorem modWindow_intake (fn : FunctionId) (f : Window → Window) (d : Device) : (modWindow fn f d).intake = d.intake := rfl

@[simp] theorem modClass_fresh (k : ClassId) (f : GClass → GClass) (d : Device) : (modClass k f d).fresh = d.fresh := rfl
@[simp] theorem modClass_now (k : ClassId) (f : GClass → GClass) (d : Device) : (modClass k f d).now = d.now := rfl
@[simp] theorem modClass_out (k : ClassId) (f : GClass → GClass) (d : Device) : (modClass k f d).out = d.out := rfl
@[simp] theorem modClass_counters (k : ClassId) (f : GClass → GClass) (d : Device) : (modClass k f d).counters = d.counters := rfl
@[simp] theorem modClass_cfg (k : ClassId) (f : GClass → GClass) (d : Device) : (modClass k f d).cfg = d.cfg := rfl
@[simp] theorem modClass_staged (k : ClassId) (f : GClass → GClass) (d : Device) : (modClass k f d).staged = d.staged := rfl
@[simp] theorem modClass_stagedShares (k : ClassId) (f : GClass → GClass) (d : Device) : (modClass k f d).stagedShares = d.stagedShares := rfl
@[simp] theorem modClass_cfgLater (k : ClassId) (f : GClass → GClass) (d : Device) : (modClass k f d).cfgLater = d.cfgLater := rfl
@[simp] theorem modClass_commits (k : ClassId) (f : GClass → GClass) (d : Device) : (modClass k f d).commits = d.commits := rfl
@[simp] theorem modClass_loads (k : ClassId) (f : GClass → GClass) (d : Device) : (modClass k f d).loads = d.loads := rfl
@[simp] theorem modClass_host (k : ClassId) (f : GClass → GClass) (d : Device) : (modClass k f d).host = d.host := rfl
@[simp] theorem modClass_selftest (k : ClassId) (f : GClass → GClass) (d : Device) : (modClass k f d).selftest = d.selftest := rfl
@[simp] theorem modClass_boot (k : ClassId) (f : GClass → GClass) (d : Device) : (modClass k f d).boot = d.boot := rfl
@[simp] theorem modClass_caddy (k : ClassId) (f : GClass → GClass) (d : Device) : (modClass k f d).caddy = d.caddy := rfl
@[simp] theorem modClass_backup (k : ClassId) (f : GClass → GClass) (d : Device) : (modClass k f d).backup = d.backup := rfl
@[simp] theorem modClass_clocks (k : ClassId) (f : GClass → GClass) (d : Device) : (modClass k f d).clocks = d.clocks := rfl
@[simp] theorem modClass_power (k : ClassId) (f : GClass → GClass) (d : Device) : (modClass k f d).power = d.power := rfl
@[simp] theorem modClass_pins (k : ClassId) (f : GClass → GClass) (d : Device) : (modClass k f d).pins = d.pins := rfl
@[simp] theorem modClass_time (k : ClassId) (f : GClass → GClass) (d : Device) : (modClass k f d).time = d.time := rfl
@[simp] theorem modClass_sites (k : ClassId) (f : GClass → GClass) (d : Device) : (modClass k f d).sites = d.sites := rfl
@[simp] theorem modClass_fabric (k : ClassId) (f : GClass → GClass) (d : Device) : (modClass k f d).fabric = d.fabric := rfl
@[simp] theorem modClass_vtiles (k : ClassId) (f : GClass → GClass) (d : Device) : (modClass k f d).vtiles = d.vtiles := rfl
@[simp] theorem modClass_scratch (k : ClassId) (f : GClass → GClass) (d : Device) : (modClass k f d).scratch = d.scratch := rfl
@[simp] theorem modClass_halo (k : ClassId) (f : GClass → GClass) (d : Device) : (modClass k f d).halo = d.halo := rfl
@[simp] theorem modClass_tenants (k : ClassId) (f : GClass → GClass) (d : Device) : (modClass k f d).tenants = d.tenants := rfl
@[simp] theorem modClass_tiers (k : ClassId) (f : GClass → GClass) (d : Device) : (modClass k f d).tiers = d.tiers := rfl
@[simp] theorem modClass_windows (k : ClassId) (f : GClass → GClass) (d : Device) : (modClass k f d).windows = d.windows := rfl
@[simp] theorem modClass_entropy (k : ClassId) (f : GClass → GClass) (d : Device) : (modClass k f d).entropy = d.entropy := rfl
@[simp] theorem modClass_strainers (k : ClassId) (f : GClass → GClass) (d : Device) : (modClass k f d).strainers = d.strainers := rfl
@[simp] theorem modClass_ridge (k : ClassId) (f : GClass → GClass) (d : Device) : (modClass k f d).ridge = d.ridge := rfl
@[simp] theorem modClass_coeffs (k : ClassId) (f : GClass → GClass) (d : Device) : (modClass k f d).coeffs = d.coeffs := rfl
@[simp] theorem modClass_span (k : ClassId) (f : GClass → GClass) (d : Device) : (modClass k f d).span = d.span := rfl
@[simp] theorem modClass_slate (k : ClassId) (f : GClass → GClass) (d : Device) : (modClass k f d).slate = d.slate := rfl
@[simp] theorem modClass_intake (k : ClassId) (f : GClass → GClass) (d : Device) : (modClass k f d).intake = d.intake := rfl

@[simp] theorem modVt_fresh (v : VtileRef) (f : VtileState → VtileState) (d : Device) : (modVt v f d).fresh = d.fresh := rfl
@[simp] theorem modVt_now (v : VtileRef) (f : VtileState → VtileState) (d : Device) : (modVt v f d).now = d.now := rfl
@[simp] theorem modVt_out (v : VtileRef) (f : VtileState → VtileState) (d : Device) : (modVt v f d).out = d.out := rfl
@[simp] theorem modVt_counters (v : VtileRef) (f : VtileState → VtileState) (d : Device) : (modVt v f d).counters = d.counters := rfl
@[simp] theorem modVt_cfg (v : VtileRef) (f : VtileState → VtileState) (d : Device) : (modVt v f d).cfg = d.cfg := rfl
@[simp] theorem modVt_staged (v : VtileRef) (f : VtileState → VtileState) (d : Device) : (modVt v f d).staged = d.staged := rfl
@[simp] theorem modVt_stagedShares (v : VtileRef) (f : VtileState → VtileState) (d : Device) : (modVt v f d).stagedShares = d.stagedShares := rfl
@[simp] theorem modVt_cfgLater (v : VtileRef) (f : VtileState → VtileState) (d : Device) : (modVt v f d).cfgLater = d.cfgLater := rfl
@[simp] theorem modVt_commits (v : VtileRef) (f : VtileState → VtileState) (d : Device) : (modVt v f d).commits = d.commits := rfl
@[simp] theorem modVt_loads (v : VtileRef) (f : VtileState → VtileState) (d : Device) : (modVt v f d).loads = d.loads := rfl
@[simp] theorem modVt_host (v : VtileRef) (f : VtileState → VtileState) (d : Device) : (modVt v f d).host = d.host := rfl
@[simp] theorem modVt_gutter (v : VtileRef) (f : VtileState → VtileState) (d : Device) : (modVt v f d).gutter = d.gutter := rfl
@[simp] theorem modVt_selftest (v : VtileRef) (f : VtileState → VtileState) (d : Device) : (modVt v f d).selftest = d.selftest := rfl
@[simp] theorem modVt_boot (v : VtileRef) (f : VtileState → VtileState) (d : Device) : (modVt v f d).boot = d.boot := rfl
@[simp] theorem modVt_caddy (v : VtileRef) (f : VtileState → VtileState) (d : Device) : (modVt v f d).caddy = d.caddy := rfl
@[simp] theorem modVt_backup (v : VtileRef) (f : VtileState → VtileState) (d : Device) : (modVt v f d).backup = d.backup := rfl
@[simp] theorem modVt_clocks (v : VtileRef) (f : VtileState → VtileState) (d : Device) : (modVt v f d).clocks = d.clocks := rfl
@[simp] theorem modVt_power (v : VtileRef) (f : VtileState → VtileState) (d : Device) : (modVt v f d).power = d.power := rfl
@[simp] theorem modVt_pins (v : VtileRef) (f : VtileState → VtileState) (d : Device) : (modVt v f d).pins = d.pins := rfl
@[simp] theorem modVt_time (v : VtileRef) (f : VtileState → VtileState) (d : Device) : (modVt v f d).time = d.time := rfl
@[simp] theorem modVt_sites (v : VtileRef) (f : VtileState → VtileState) (d : Device) : (modVt v f d).sites = d.sites := rfl
@[simp] theorem modVt_fabric (v : VtileRef) (f : VtileState → VtileState) (d : Device) : (modVt v f d).fabric = d.fabric := rfl
@[simp] theorem modVt_scratch (v : VtileRef) (f : VtileState → VtileState) (d : Device) : (modVt v f d).scratch = d.scratch := rfl
@[simp] theorem modVt_halo (v : VtileRef) (f : VtileState → VtileState) (d : Device) : (modVt v f d).halo = d.halo := rfl
@[simp] theorem modVt_tenants (v : VtileRef) (f : VtileState → VtileState) (d : Device) : (modVt v f d).tenants = d.tenants := rfl
@[simp] theorem modVt_tiers (v : VtileRef) (f : VtileState → VtileState) (d : Device) : (modVt v f d).tiers = d.tiers := rfl
@[simp] theorem modVt_windows (v : VtileRef) (f : VtileState → VtileState) (d : Device) : (modVt v f d).windows = d.windows := rfl
@[simp] theorem modVt_entropy (v : VtileRef) (f : VtileState → VtileState) (d : Device) : (modVt v f d).entropy = d.entropy := rfl
@[simp] theorem modVt_strainers (v : VtileRef) (f : VtileState → VtileState) (d : Device) : (modVt v f d).strainers = d.strainers := rfl
@[simp] theorem modVt_ridge (v : VtileRef) (f : VtileState → VtileState) (d : Device) : (modVt v f d).ridge = d.ridge := rfl
@[simp] theorem modVt_coeffs (v : VtileRef) (f : VtileState → VtileState) (d : Device) : (modVt v f d).coeffs = d.coeffs := rfl
@[simp] theorem modVt_span (v : VtileRef) (f : VtileState → VtileState) (d : Device) : (modVt v f d).span = d.span := rfl
@[simp] theorem modVt_slate (v : VtileRef) (f : VtileState → VtileState) (d : Device) : (modVt v f d).slate = d.slate := rfl
@[simp] theorem modVt_intake (v : VtileRef) (f : VtileState → VtileState) (d : Device) : (modVt v f d).intake = d.intake := rfl

@[simp] theorem setResult_fresh (v : VtileRef) (ws : List W32) (d : Device) : (setResult v ws d).fresh = d.fresh := rfl
@[simp] theorem setResult_now (v : VtileRef) (ws : List W32) (d : Device) : (setResult v ws d).now = d.now := rfl
@[simp] theorem setResult_out (v : VtileRef) (ws : List W32) (d : Device) : (setResult v ws d).out = d.out := rfl
@[simp] theorem setResult_counters (v : VtileRef) (ws : List W32) (d : Device) : (setResult v ws d).counters = d.counters := rfl
@[simp] theorem setResult_cfg (v : VtileRef) (ws : List W32) (d : Device) : (setResult v ws d).cfg = d.cfg := rfl
@[simp] theorem setResult_staged (v : VtileRef) (ws : List W32) (d : Device) : (setResult v ws d).staged = d.staged := rfl
@[simp] theorem setResult_stagedShares (v : VtileRef) (ws : List W32) (d : Device) : (setResult v ws d).stagedShares = d.stagedShares := rfl
@[simp] theorem setResult_cfgLater (v : VtileRef) (ws : List W32) (d : Device) : (setResult v ws d).cfgLater = d.cfgLater := rfl
@[simp] theorem setResult_commits (v : VtileRef) (ws : List W32) (d : Device) : (setResult v ws d).commits = d.commits := rfl
@[simp] theorem setResult_loads (v : VtileRef) (ws : List W32) (d : Device) : (setResult v ws d).loads = d.loads := rfl
@[simp] theorem setResult_host (v : VtileRef) (ws : List W32) (d : Device) : (setResult v ws d).host = d.host := rfl
@[simp] theorem setResult_gutter (v : VtileRef) (ws : List W32) (d : Device) : (setResult v ws d).gutter = d.gutter := rfl
@[simp] theorem setResult_selftest (v : VtileRef) (ws : List W32) (d : Device) : (setResult v ws d).selftest = d.selftest := rfl
@[simp] theorem setResult_boot (v : VtileRef) (ws : List W32) (d : Device) : (setResult v ws d).boot = d.boot := rfl
@[simp] theorem setResult_caddy (v : VtileRef) (ws : List W32) (d : Device) : (setResult v ws d).caddy = d.caddy := rfl
@[simp] theorem setResult_backup (v : VtileRef) (ws : List W32) (d : Device) : (setResult v ws d).backup = d.backup := rfl
@[simp] theorem setResult_clocks (v : VtileRef) (ws : List W32) (d : Device) : (setResult v ws d).clocks = d.clocks := rfl
@[simp] theorem setResult_power (v : VtileRef) (ws : List W32) (d : Device) : (setResult v ws d).power = d.power := rfl
@[simp] theorem setResult_pins (v : VtileRef) (ws : List W32) (d : Device) : (setResult v ws d).pins = d.pins := rfl
@[simp] theorem setResult_time (v : VtileRef) (ws : List W32) (d : Device) : (setResult v ws d).time = d.time := rfl
@[simp] theorem setResult_sites (v : VtileRef) (ws : List W32) (d : Device) : (setResult v ws d).sites = d.sites := rfl
@[simp] theorem setResult_fabric (v : VtileRef) (ws : List W32) (d : Device) : (setResult v ws d).fabric = d.fabric := rfl
@[simp] theorem setResult_scratch (v : VtileRef) (ws : List W32) (d : Device) : (setResult v ws d).scratch = d.scratch := rfl
@[simp] theorem setResult_halo (v : VtileRef) (ws : List W32) (d : Device) : (setResult v ws d).halo = d.halo := rfl
@[simp] theorem setResult_tenants (v : VtileRef) (ws : List W32) (d : Device) : (setResult v ws d).tenants = d.tenants := rfl
@[simp] theorem setResult_tiers (v : VtileRef) (ws : List W32) (d : Device) : (setResult v ws d).tiers = d.tiers := rfl
@[simp] theorem setResult_windows (v : VtileRef) (ws : List W32) (d : Device) : (setResult v ws d).windows = d.windows := rfl
@[simp] theorem setResult_entropy (v : VtileRef) (ws : List W32) (d : Device) : (setResult v ws d).entropy = d.entropy := rfl
@[simp] theorem setResult_strainers (v : VtileRef) (ws : List W32) (d : Device) : (setResult v ws d).strainers = d.strainers := rfl
@[simp] theorem setResult_ridge (v : VtileRef) (ws : List W32) (d : Device) : (setResult v ws d).ridge = d.ridge := rfl
@[simp] theorem setResult_coeffs (v : VtileRef) (ws : List W32) (d : Device) : (setResult v ws d).coeffs = d.coeffs := rfl
@[simp] theorem setResult_span (v : VtileRef) (ws : List W32) (d : Device) : (setResult v ws d).span = d.span := rfl
@[simp] theorem setResult_slate (v : VtileRef) (ws : List W32) (d : Device) : (setResult v ws d).slate = d.slate := rfl
@[simp] theorem setResult_intake (v : VtileRef) (ws : List W32) (d : Device) : (setResult v ws d).intake = d.intake := rfl

@[simp] theorem modSite_fresh (s : Nat) (f : SiteRec → SiteRec) (d : Device) : (modSite s f d).fresh = d.fresh := rfl
@[simp] theorem modSite_now (s : Nat) (f : SiteRec → SiteRec) (d : Device) : (modSite s f d).now = d.now := rfl
@[simp] theorem modSite_out (s : Nat) (f : SiteRec → SiteRec) (d : Device) : (modSite s f d).out = d.out := rfl
@[simp] theorem modSite_counters (s : Nat) (f : SiteRec → SiteRec) (d : Device) : (modSite s f d).counters = d.counters := rfl
@[simp] theorem modSite_cfg (s : Nat) (f : SiteRec → SiteRec) (d : Device) : (modSite s f d).cfg = d.cfg := rfl
@[simp] theorem modSite_staged (s : Nat) (f : SiteRec → SiteRec) (d : Device) : (modSite s f d).staged = d.staged := rfl
@[simp] theorem modSite_stagedShares (s : Nat) (f : SiteRec → SiteRec) (d : Device) : (modSite s f d).stagedShares = d.stagedShares := rfl
@[simp] theorem modSite_cfgLater (s : Nat) (f : SiteRec → SiteRec) (d : Device) : (modSite s f d).cfgLater = d.cfgLater := rfl
@[simp] theorem modSite_commits (s : Nat) (f : SiteRec → SiteRec) (d : Device) : (modSite s f d).commits = d.commits := rfl
@[simp] theorem modSite_loads (s : Nat) (f : SiteRec → SiteRec) (d : Device) : (modSite s f d).loads = d.loads := rfl
@[simp] theorem modSite_host (s : Nat) (f : SiteRec → SiteRec) (d : Device) : (modSite s f d).host = d.host := rfl
@[simp] theorem modSite_gutter (s : Nat) (f : SiteRec → SiteRec) (d : Device) : (modSite s f d).gutter = d.gutter := rfl
@[simp] theorem modSite_selftest (s : Nat) (f : SiteRec → SiteRec) (d : Device) : (modSite s f d).selftest = d.selftest := rfl
@[simp] theorem modSite_boot (s : Nat) (f : SiteRec → SiteRec) (d : Device) : (modSite s f d).boot = d.boot := rfl
@[simp] theorem modSite_caddy (s : Nat) (f : SiteRec → SiteRec) (d : Device) : (modSite s f d).caddy = d.caddy := rfl
@[simp] theorem modSite_backup (s : Nat) (f : SiteRec → SiteRec) (d : Device) : (modSite s f d).backup = d.backup := rfl
@[simp] theorem modSite_clocks (s : Nat) (f : SiteRec → SiteRec) (d : Device) : (modSite s f d).clocks = d.clocks := rfl
@[simp] theorem modSite_power (s : Nat) (f : SiteRec → SiteRec) (d : Device) : (modSite s f d).power = d.power := rfl
@[simp] theorem modSite_pins (s : Nat) (f : SiteRec → SiteRec) (d : Device) : (modSite s f d).pins = d.pins := rfl
@[simp] theorem modSite_time (s : Nat) (f : SiteRec → SiteRec) (d : Device) : (modSite s f d).time = d.time := rfl
@[simp] theorem modSite_fabric (s : Nat) (f : SiteRec → SiteRec) (d : Device) : (modSite s f d).fabric = d.fabric := rfl
@[simp] theorem modSite_vtiles (s : Nat) (f : SiteRec → SiteRec) (d : Device) : (modSite s f d).vtiles = d.vtiles := rfl
@[simp] theorem modSite_scratch (s : Nat) (f : SiteRec → SiteRec) (d : Device) : (modSite s f d).scratch = d.scratch := rfl
@[simp] theorem modSite_halo (s : Nat) (f : SiteRec → SiteRec) (d : Device) : (modSite s f d).halo = d.halo := rfl
@[simp] theorem modSite_tenants (s : Nat) (f : SiteRec → SiteRec) (d : Device) : (modSite s f d).tenants = d.tenants := rfl
@[simp] theorem modSite_tiers (s : Nat) (f : SiteRec → SiteRec) (d : Device) : (modSite s f d).tiers = d.tiers := rfl
@[simp] theorem modSite_windows (s : Nat) (f : SiteRec → SiteRec) (d : Device) : (modSite s f d).windows = d.windows := rfl
@[simp] theorem modSite_entropy (s : Nat) (f : SiteRec → SiteRec) (d : Device) : (modSite s f d).entropy = d.entropy := rfl
@[simp] theorem modSite_strainers (s : Nat) (f : SiteRec → SiteRec) (d : Device) : (modSite s f d).strainers = d.strainers := rfl
@[simp] theorem modSite_ridge (s : Nat) (f : SiteRec → SiteRec) (d : Device) : (modSite s f d).ridge = d.ridge := rfl
@[simp] theorem modSite_coeffs (s : Nat) (f : SiteRec → SiteRec) (d : Device) : (modSite s f d).coeffs = d.coeffs := rfl
@[simp] theorem modSite_span (s : Nat) (f : SiteRec → SiteRec) (d : Device) : (modSite s f d).span = d.span := rfl
@[simp] theorem modSite_slate (s : Nat) (f : SiteRec → SiteRec) (d : Device) : (modSite s f d).slate = d.slate := rfl
@[simp] theorem modSite_intake (s : Nat) (f : SiteRec → SiteRec) (d : Device) : (modSite s f d).intake = d.intake := rfl

@[simp] theorem modLink_fresh (l : Nat) (f : MeshLink → MeshLink) (d : Device) : (modLink l f d).fresh = d.fresh := rfl
@[simp] theorem modLink_now (l : Nat) (f : MeshLink → MeshLink) (d : Device) : (modLink l f d).now = d.now := rfl
@[simp] theorem modLink_out (l : Nat) (f : MeshLink → MeshLink) (d : Device) : (modLink l f d).out = d.out := rfl
@[simp] theorem modLink_counters (l : Nat) (f : MeshLink → MeshLink) (d : Device) : (modLink l f d).counters = d.counters := rfl
@[simp] theorem modLink_cfg (l : Nat) (f : MeshLink → MeshLink) (d : Device) : (modLink l f d).cfg = d.cfg := rfl
@[simp] theorem modLink_staged (l : Nat) (f : MeshLink → MeshLink) (d : Device) : (modLink l f d).staged = d.staged := rfl
@[simp] theorem modLink_stagedShares (l : Nat) (f : MeshLink → MeshLink) (d : Device) : (modLink l f d).stagedShares = d.stagedShares := rfl
@[simp] theorem modLink_cfgLater (l : Nat) (f : MeshLink → MeshLink) (d : Device) : (modLink l f d).cfgLater = d.cfgLater := rfl
@[simp] theorem modLink_commits (l : Nat) (f : MeshLink → MeshLink) (d : Device) : (modLink l f d).commits = d.commits := rfl
@[simp] theorem modLink_loads (l : Nat) (f : MeshLink → MeshLink) (d : Device) : (modLink l f d).loads = d.loads := rfl
@[simp] theorem modLink_host (l : Nat) (f : MeshLink → MeshLink) (d : Device) : (modLink l f d).host = d.host := rfl
@[simp] theorem modLink_gutter (l : Nat) (f : MeshLink → MeshLink) (d : Device) : (modLink l f d).gutter = d.gutter := rfl
@[simp] theorem modLink_selftest (l : Nat) (f : MeshLink → MeshLink) (d : Device) : (modLink l f d).selftest = d.selftest := rfl
@[simp] theorem modLink_boot (l : Nat) (f : MeshLink → MeshLink) (d : Device) : (modLink l f d).boot = d.boot := rfl
@[simp] theorem modLink_caddy (l : Nat) (f : MeshLink → MeshLink) (d : Device) : (modLink l f d).caddy = d.caddy := rfl
@[simp] theorem modLink_backup (l : Nat) (f : MeshLink → MeshLink) (d : Device) : (modLink l f d).backup = d.backup := rfl
@[simp] theorem modLink_clocks (l : Nat) (f : MeshLink → MeshLink) (d : Device) : (modLink l f d).clocks = d.clocks := rfl
@[simp] theorem modLink_power (l : Nat) (f : MeshLink → MeshLink) (d : Device) : (modLink l f d).power = d.power := rfl
@[simp] theorem modLink_pins (l : Nat) (f : MeshLink → MeshLink) (d : Device) : (modLink l f d).pins = d.pins := rfl
@[simp] theorem modLink_time (l : Nat) (f : MeshLink → MeshLink) (d : Device) : (modLink l f d).time = d.time := rfl
@[simp] theorem modLink_sites (l : Nat) (f : MeshLink → MeshLink) (d : Device) : (modLink l f d).sites = d.sites := rfl
@[simp] theorem modLink_vtiles (l : Nat) (f : MeshLink → MeshLink) (d : Device) : (modLink l f d).vtiles = d.vtiles := rfl
@[simp] theorem modLink_scratch (l : Nat) (f : MeshLink → MeshLink) (d : Device) : (modLink l f d).scratch = d.scratch := rfl
@[simp] theorem modLink_halo (l : Nat) (f : MeshLink → MeshLink) (d : Device) : (modLink l f d).halo = d.halo := rfl
@[simp] theorem modLink_tenants (l : Nat) (f : MeshLink → MeshLink) (d : Device) : (modLink l f d).tenants = d.tenants := rfl
@[simp] theorem modLink_tiers (l : Nat) (f : MeshLink → MeshLink) (d : Device) : (modLink l f d).tiers = d.tiers := rfl
@[simp] theorem modLink_windows (l : Nat) (f : MeshLink → MeshLink) (d : Device) : (modLink l f d).windows = d.windows := rfl
@[simp] theorem modLink_entropy (l : Nat) (f : MeshLink → MeshLink) (d : Device) : (modLink l f d).entropy = d.entropy := rfl
@[simp] theorem modLink_strainers (l : Nat) (f : MeshLink → MeshLink) (d : Device) : (modLink l f d).strainers = d.strainers := rfl
@[simp] theorem modLink_ridge (l : Nat) (f : MeshLink → MeshLink) (d : Device) : (modLink l f d).ridge = d.ridge := rfl
@[simp] theorem modLink_coeffs (l : Nat) (f : MeshLink → MeshLink) (d : Device) : (modLink l f d).coeffs = d.coeffs := rfl
@[simp] theorem modLink_span (l : Nat) (f : MeshLink → MeshLink) (d : Device) : (modLink l f d).span = d.span := rfl
@[simp] theorem modLink_slate (l : Nat) (f : MeshLink → MeshLink) (d : Device) : (modLink l f d).slate = d.slate := rfl
@[simp] theorem modLink_intake (l : Nat) (f : MeshLink → MeshLink) (d : Device) : (modLink l f d).intake = d.intake := rfl

@[simp] theorem modStrainer_fresh (k : StrainerId) (f : Strainer → Strainer) (d : Device) : (modStrainer k f d).fresh = d.fresh := rfl
@[simp] theorem modStrainer_now (k : StrainerId) (f : Strainer → Strainer) (d : Device) : (modStrainer k f d).now = d.now := rfl
@[simp] theorem modStrainer_out (k : StrainerId) (f : Strainer → Strainer) (d : Device) : (modStrainer k f d).out = d.out := rfl
@[simp] theorem modStrainer_counters (k : StrainerId) (f : Strainer → Strainer) (d : Device) : (modStrainer k f d).counters = d.counters := rfl
@[simp] theorem modStrainer_cfg (k : StrainerId) (f : Strainer → Strainer) (d : Device) : (modStrainer k f d).cfg = d.cfg := rfl
@[simp] theorem modStrainer_staged (k : StrainerId) (f : Strainer → Strainer) (d : Device) : (modStrainer k f d).staged = d.staged := rfl
@[simp] theorem modStrainer_stagedShares (k : StrainerId) (f : Strainer → Strainer) (d : Device) : (modStrainer k f d).stagedShares = d.stagedShares := rfl
@[simp] theorem modStrainer_cfgLater (k : StrainerId) (f : Strainer → Strainer) (d : Device) : (modStrainer k f d).cfgLater = d.cfgLater := rfl
@[simp] theorem modStrainer_commits (k : StrainerId) (f : Strainer → Strainer) (d : Device) : (modStrainer k f d).commits = d.commits := rfl
@[simp] theorem modStrainer_loads (k : StrainerId) (f : Strainer → Strainer) (d : Device) : (modStrainer k f d).loads = d.loads := rfl
@[simp] theorem modStrainer_host (k : StrainerId) (f : Strainer → Strainer) (d : Device) : (modStrainer k f d).host = d.host := rfl
@[simp] theorem modStrainer_gutter (k : StrainerId) (f : Strainer → Strainer) (d : Device) : (modStrainer k f d).gutter = d.gutter := rfl
@[simp] theorem modStrainer_selftest (k : StrainerId) (f : Strainer → Strainer) (d : Device) : (modStrainer k f d).selftest = d.selftest := rfl
@[simp] theorem modStrainer_boot (k : StrainerId) (f : Strainer → Strainer) (d : Device) : (modStrainer k f d).boot = d.boot := rfl
@[simp] theorem modStrainer_caddy (k : StrainerId) (f : Strainer → Strainer) (d : Device) : (modStrainer k f d).caddy = d.caddy := rfl
@[simp] theorem modStrainer_backup (k : StrainerId) (f : Strainer → Strainer) (d : Device) : (modStrainer k f d).backup = d.backup := rfl
@[simp] theorem modStrainer_clocks (k : StrainerId) (f : Strainer → Strainer) (d : Device) : (modStrainer k f d).clocks = d.clocks := rfl
@[simp] theorem modStrainer_power (k : StrainerId) (f : Strainer → Strainer) (d : Device) : (modStrainer k f d).power = d.power := rfl
@[simp] theorem modStrainer_pins (k : StrainerId) (f : Strainer → Strainer) (d : Device) : (modStrainer k f d).pins = d.pins := rfl
@[simp] theorem modStrainer_time (k : StrainerId) (f : Strainer → Strainer) (d : Device) : (modStrainer k f d).time = d.time := rfl
@[simp] theorem modStrainer_sites (k : StrainerId) (f : Strainer → Strainer) (d : Device) : (modStrainer k f d).sites = d.sites := rfl
@[simp] theorem modStrainer_fabric (k : StrainerId) (f : Strainer → Strainer) (d : Device) : (modStrainer k f d).fabric = d.fabric := rfl
@[simp] theorem modStrainer_vtiles (k : StrainerId) (f : Strainer → Strainer) (d : Device) : (modStrainer k f d).vtiles = d.vtiles := rfl
@[simp] theorem modStrainer_scratch (k : StrainerId) (f : Strainer → Strainer) (d : Device) : (modStrainer k f d).scratch = d.scratch := rfl
@[simp] theorem modStrainer_halo (k : StrainerId) (f : Strainer → Strainer) (d : Device) : (modStrainer k f d).halo = d.halo := rfl
@[simp] theorem modStrainer_tenants (k : StrainerId) (f : Strainer → Strainer) (d : Device) : (modStrainer k f d).tenants = d.tenants := rfl
@[simp] theorem modStrainer_tiers (k : StrainerId) (f : Strainer → Strainer) (d : Device) : (modStrainer k f d).tiers = d.tiers := rfl
@[simp] theorem modStrainer_windows (k : StrainerId) (f : Strainer → Strainer) (d : Device) : (modStrainer k f d).windows = d.windows := rfl
@[simp] theorem modStrainer_entropy (k : StrainerId) (f : Strainer → Strainer) (d : Device) : (modStrainer k f d).entropy = d.entropy := rfl
@[simp] theorem modStrainer_ridge (k : StrainerId) (f : Strainer → Strainer) (d : Device) : (modStrainer k f d).ridge = d.ridge := rfl
@[simp] theorem modStrainer_coeffs (k : StrainerId) (f : Strainer → Strainer) (d : Device) : (modStrainer k f d).coeffs = d.coeffs := rfl
@[simp] theorem modStrainer_span (k : StrainerId) (f : Strainer → Strainer) (d : Device) : (modStrainer k f d).span = d.span := rfl
@[simp] theorem modStrainer_slate (k : StrainerId) (f : Strainer → Strainer) (d : Device) : (modStrainer k f d).slate = d.slate := rfl
@[simp] theorem modStrainer_intake (k : StrainerId) (f : Strainer → Strainer) (d : Device) : (modStrainer k f d).intake = d.intake := rfl

@[simp] theorem modPort_fresh (p : PortId) (f : Ridge → Ridge) (d : Device) : (modPort p f d).fresh = d.fresh := rfl
@[simp] theorem modPort_now (p : PortId) (f : Ridge → Ridge) (d : Device) : (modPort p f d).now = d.now := rfl
@[simp] theorem modPort_out (p : PortId) (f : Ridge → Ridge) (d : Device) : (modPort p f d).out = d.out := rfl
@[simp] theorem modPort_counters (p : PortId) (f : Ridge → Ridge) (d : Device) : (modPort p f d).counters = d.counters := rfl
@[simp] theorem modPort_cfg (p : PortId) (f : Ridge → Ridge) (d : Device) : (modPort p f d).cfg = d.cfg := rfl
@[simp] theorem modPort_staged (p : PortId) (f : Ridge → Ridge) (d : Device) : (modPort p f d).staged = d.staged := rfl
@[simp] theorem modPort_stagedShares (p : PortId) (f : Ridge → Ridge) (d : Device) : (modPort p f d).stagedShares = d.stagedShares := rfl
@[simp] theorem modPort_cfgLater (p : PortId) (f : Ridge → Ridge) (d : Device) : (modPort p f d).cfgLater = d.cfgLater := rfl
@[simp] theorem modPort_commits (p : PortId) (f : Ridge → Ridge) (d : Device) : (modPort p f d).commits = d.commits := rfl
@[simp] theorem modPort_loads (p : PortId) (f : Ridge → Ridge) (d : Device) : (modPort p f d).loads = d.loads := rfl
@[simp] theorem modPort_host (p : PortId) (f : Ridge → Ridge) (d : Device) : (modPort p f d).host = d.host := rfl
@[simp] theorem modPort_gutter (p : PortId) (f : Ridge → Ridge) (d : Device) : (modPort p f d).gutter = d.gutter := rfl
@[simp] theorem modPort_selftest (p : PortId) (f : Ridge → Ridge) (d : Device) : (modPort p f d).selftest = d.selftest := rfl
@[simp] theorem modPort_boot (p : PortId) (f : Ridge → Ridge) (d : Device) : (modPort p f d).boot = d.boot := rfl
@[simp] theorem modPort_caddy (p : PortId) (f : Ridge → Ridge) (d : Device) : (modPort p f d).caddy = d.caddy := rfl
@[simp] theorem modPort_backup (p : PortId) (f : Ridge → Ridge) (d : Device) : (modPort p f d).backup = d.backup := rfl
@[simp] theorem modPort_clocks (p : PortId) (f : Ridge → Ridge) (d : Device) : (modPort p f d).clocks = d.clocks := rfl
@[simp] theorem modPort_power (p : PortId) (f : Ridge → Ridge) (d : Device) : (modPort p f d).power = d.power := rfl
@[simp] theorem modPort_pins (p : PortId) (f : Ridge → Ridge) (d : Device) : (modPort p f d).pins = d.pins := rfl
@[simp] theorem modPort_time (p : PortId) (f : Ridge → Ridge) (d : Device) : (modPort p f d).time = d.time := rfl
@[simp] theorem modPort_sites (p : PortId) (f : Ridge → Ridge) (d : Device) : (modPort p f d).sites = d.sites := rfl
@[simp] theorem modPort_fabric (p : PortId) (f : Ridge → Ridge) (d : Device) : (modPort p f d).fabric = d.fabric := rfl
@[simp] theorem modPort_vtiles (p : PortId) (f : Ridge → Ridge) (d : Device) : (modPort p f d).vtiles = d.vtiles := rfl
@[simp] theorem modPort_scratch (p : PortId) (f : Ridge → Ridge) (d : Device) : (modPort p f d).scratch = d.scratch := rfl
@[simp] theorem modPort_halo (p : PortId) (f : Ridge → Ridge) (d : Device) : (modPort p f d).halo = d.halo := rfl
@[simp] theorem modPort_tenants (p : PortId) (f : Ridge → Ridge) (d : Device) : (modPort p f d).tenants = d.tenants := rfl
@[simp] theorem modPort_tiers (p : PortId) (f : Ridge → Ridge) (d : Device) : (modPort p f d).tiers = d.tiers := rfl
@[simp] theorem modPort_windows (p : PortId) (f : Ridge → Ridge) (d : Device) : (modPort p f d).windows = d.windows := rfl
@[simp] theorem modPort_entropy (p : PortId) (f : Ridge → Ridge) (d : Device) : (modPort p f d).entropy = d.entropy := rfl
@[simp] theorem modPort_strainers (p : PortId) (f : Ridge → Ridge) (d : Device) : (modPort p f d).strainers = d.strainers := rfl
@[simp] theorem modPort_coeffs (p : PortId) (f : Ridge → Ridge) (d : Device) : (modPort p f d).coeffs = d.coeffs := rfl
@[simp] theorem modPort_span (p : PortId) (f : Ridge → Ridge) (d : Device) : (modPort p f d).span = d.span := rfl
@[simp] theorem modPort_slate (p : PortId) (f : Ridge → Ridge) (d : Device) : (modPort p f d).slate = d.slate := rfl
@[simp] theorem modPort_intake (p : PortId) (f : Ridge → Ridge) (d : Device) : (modPort p f d).intake = d.intake := rfl

@[simp] theorem modSpan_fresh (f : Span → Span) (d : Device) : (modSpan f d).fresh = d.fresh := rfl
@[simp] theorem modSpan_now (f : Span → Span) (d : Device) : (modSpan f d).now = d.now := rfl
@[simp] theorem modSpan_out (f : Span → Span) (d : Device) : (modSpan f d).out = d.out := rfl
@[simp] theorem modSpan_counters (f : Span → Span) (d : Device) : (modSpan f d).counters = d.counters := rfl
@[simp] theorem modSpan_cfg (f : Span → Span) (d : Device) : (modSpan f d).cfg = d.cfg := rfl
@[simp] theorem modSpan_staged (f : Span → Span) (d : Device) : (modSpan f d).staged = d.staged := rfl
@[simp] theorem modSpan_stagedShares (f : Span → Span) (d : Device) : (modSpan f d).stagedShares = d.stagedShares := rfl
@[simp] theorem modSpan_cfgLater (f : Span → Span) (d : Device) : (modSpan f d).cfgLater = d.cfgLater := rfl
@[simp] theorem modSpan_commits (f : Span → Span) (d : Device) : (modSpan f d).commits = d.commits := rfl
@[simp] theorem modSpan_loads (f : Span → Span) (d : Device) : (modSpan f d).loads = d.loads := rfl
@[simp] theorem modSpan_host (f : Span → Span) (d : Device) : (modSpan f d).host = d.host := rfl
@[simp] theorem modSpan_gutter (f : Span → Span) (d : Device) : (modSpan f d).gutter = d.gutter := rfl
@[simp] theorem modSpan_selftest (f : Span → Span) (d : Device) : (modSpan f d).selftest = d.selftest := rfl
@[simp] theorem modSpan_boot (f : Span → Span) (d : Device) : (modSpan f d).boot = d.boot := rfl
@[simp] theorem modSpan_caddy (f : Span → Span) (d : Device) : (modSpan f d).caddy = d.caddy := rfl
@[simp] theorem modSpan_backup (f : Span → Span) (d : Device) : (modSpan f d).backup = d.backup := rfl
@[simp] theorem modSpan_clocks (f : Span → Span) (d : Device) : (modSpan f d).clocks = d.clocks := rfl
@[simp] theorem modSpan_power (f : Span → Span) (d : Device) : (modSpan f d).power = d.power := rfl
@[simp] theorem modSpan_pins (f : Span → Span) (d : Device) : (modSpan f d).pins = d.pins := rfl
@[simp] theorem modSpan_time (f : Span → Span) (d : Device) : (modSpan f d).time = d.time := rfl
@[simp] theorem modSpan_sites (f : Span → Span) (d : Device) : (modSpan f d).sites = d.sites := rfl
@[simp] theorem modSpan_fabric (f : Span → Span) (d : Device) : (modSpan f d).fabric = d.fabric := rfl
@[simp] theorem modSpan_vtiles (f : Span → Span) (d : Device) : (modSpan f d).vtiles = d.vtiles := rfl
@[simp] theorem modSpan_scratch (f : Span → Span) (d : Device) : (modSpan f d).scratch = d.scratch := rfl
@[simp] theorem modSpan_halo (f : Span → Span) (d : Device) : (modSpan f d).halo = d.halo := rfl
@[simp] theorem modSpan_tenants (f : Span → Span) (d : Device) : (modSpan f d).tenants = d.tenants := rfl
@[simp] theorem modSpan_tiers (f : Span → Span) (d : Device) : (modSpan f d).tiers = d.tiers := rfl
@[simp] theorem modSpan_windows (f : Span → Span) (d : Device) : (modSpan f d).windows = d.windows := rfl
@[simp] theorem modSpan_entropy (f : Span → Span) (d : Device) : (modSpan f d).entropy = d.entropy := rfl
@[simp] theorem modSpan_strainers (f : Span → Span) (d : Device) : (modSpan f d).strainers = d.strainers := rfl
@[simp] theorem modSpan_ridge (f : Span → Span) (d : Device) : (modSpan f d).ridge = d.ridge := rfl
@[simp] theorem modSpan_coeffs (f : Span → Span) (d : Device) : (modSpan f d).coeffs = d.coeffs := rfl
@[simp] theorem modSpan_span (f : Span → Span) (d : Device) : (modSpan f d).span = f d.span := rfl
@[simp] theorem modSpan_slate (f : Span → Span) (d : Device) : (modSpan f d).slate = d.slate := rfl
@[simp] theorem modSpan_intake (f : Span → Span) (d : Device) : (modSpan f d).intake = d.intake := rfl

@[simp] theorem modBarrier_fresh (n : Nat) (f : Barrier → Barrier) (d : Device) : (modBarrier n f d).fresh = d.fresh := rfl
@[simp] theorem modBarrier_now (n : Nat) (f : Barrier → Barrier) (d : Device) : (modBarrier n f d).now = d.now := rfl
@[simp] theorem modBarrier_out (n : Nat) (f : Barrier → Barrier) (d : Device) : (modBarrier n f d).out = d.out := rfl
@[simp] theorem modBarrier_counters (n : Nat) (f : Barrier → Barrier) (d : Device) : (modBarrier n f d).counters = d.counters := rfl
@[simp] theorem modBarrier_cfg (n : Nat) (f : Barrier → Barrier) (d : Device) : (modBarrier n f d).cfg = d.cfg := rfl
@[simp] theorem modBarrier_staged (n : Nat) (f : Barrier → Barrier) (d : Device) : (modBarrier n f d).staged = d.staged := rfl
@[simp] theorem modBarrier_stagedShares (n : Nat) (f : Barrier → Barrier) (d : Device) : (modBarrier n f d).stagedShares = d.stagedShares := rfl
@[simp] theorem modBarrier_cfgLater (n : Nat) (f : Barrier → Barrier) (d : Device) : (modBarrier n f d).cfgLater = d.cfgLater := rfl
@[simp] theorem modBarrier_commits (n : Nat) (f : Barrier → Barrier) (d : Device) : (modBarrier n f d).commits = d.commits := rfl
@[simp] theorem modBarrier_loads (n : Nat) (f : Barrier → Barrier) (d : Device) : (modBarrier n f d).loads = d.loads := rfl
@[simp] theorem modBarrier_host (n : Nat) (f : Barrier → Barrier) (d : Device) : (modBarrier n f d).host = d.host := rfl
@[simp] theorem modBarrier_gutter (n : Nat) (f : Barrier → Barrier) (d : Device) : (modBarrier n f d).gutter = d.gutter := rfl
@[simp] theorem modBarrier_selftest (n : Nat) (f : Barrier → Barrier) (d : Device) : (modBarrier n f d).selftest = d.selftest := rfl
@[simp] theorem modBarrier_boot (n : Nat) (f : Barrier → Barrier) (d : Device) : (modBarrier n f d).boot = d.boot := rfl
@[simp] theorem modBarrier_caddy (n : Nat) (f : Barrier → Barrier) (d : Device) : (modBarrier n f d).caddy = d.caddy := rfl
@[simp] theorem modBarrier_backup (n : Nat) (f : Barrier → Barrier) (d : Device) : (modBarrier n f d).backup = d.backup := rfl
@[simp] theorem modBarrier_clocks (n : Nat) (f : Barrier → Barrier) (d : Device) : (modBarrier n f d).clocks = d.clocks := rfl
@[simp] theorem modBarrier_power (n : Nat) (f : Barrier → Barrier) (d : Device) : (modBarrier n f d).power = d.power := rfl
@[simp] theorem modBarrier_pins (n : Nat) (f : Barrier → Barrier) (d : Device) : (modBarrier n f d).pins = d.pins := rfl
@[simp] theorem modBarrier_time (n : Nat) (f : Barrier → Barrier) (d : Device) : (modBarrier n f d).time = d.time := rfl
@[simp] theorem modBarrier_sites (n : Nat) (f : Barrier → Barrier) (d : Device) : (modBarrier n f d).sites = d.sites := rfl
@[simp] theorem modBarrier_fabric (n : Nat) (f : Barrier → Barrier) (d : Device) : (modBarrier n f d).fabric = d.fabric := rfl
@[simp] theorem modBarrier_vtiles (n : Nat) (f : Barrier → Barrier) (d : Device) : (modBarrier n f d).vtiles = d.vtiles := rfl
@[simp] theorem modBarrier_scratch (n : Nat) (f : Barrier → Barrier) (d : Device) : (modBarrier n f d).scratch = d.scratch := rfl
@[simp] theorem modBarrier_halo (n : Nat) (f : Barrier → Barrier) (d : Device) : (modBarrier n f d).halo = d.halo := rfl
@[simp] theorem modBarrier_tenants (n : Nat) (f : Barrier → Barrier) (d : Device) : (modBarrier n f d).tenants = d.tenants := rfl
@[simp] theorem modBarrier_tiers (n : Nat) (f : Barrier → Barrier) (d : Device) : (modBarrier n f d).tiers = d.tiers := rfl
@[simp] theorem modBarrier_windows (n : Nat) (f : Barrier → Barrier) (d : Device) : (modBarrier n f d).windows = d.windows := rfl
@[simp] theorem modBarrier_entropy (n : Nat) (f : Barrier → Barrier) (d : Device) : (modBarrier n f d).entropy = d.entropy := rfl
@[simp] theorem modBarrier_strainers (n : Nat) (f : Barrier → Barrier) (d : Device) : (modBarrier n f d).strainers = d.strainers := rfl
@[simp] theorem modBarrier_ridge (n : Nat) (f : Barrier → Barrier) (d : Device) : (modBarrier n f d).ridge = d.ridge := rfl
@[simp] theorem modBarrier_coeffs (n : Nat) (f : Barrier → Barrier) (d : Device) : (modBarrier n f d).coeffs = d.coeffs := rfl
@[simp] theorem modBarrier_slate (n : Nat) (f : Barrier → Barrier) (d : Device) : (modBarrier n f d).slate = d.slate := rfl
@[simp] theorem modBarrier_intake (n : Nat) (f : Barrier → Barrier) (d : Device) : (modBarrier n f d).intake = d.intake := rfl

@[simp] theorem modCtx_fresh (c : ContextId) (f : Context → Context) (d : Device) : (modCtx c f d).fresh = d.fresh := rfl
@[simp] theorem modCtx_now (c : ContextId) (f : Context → Context) (d : Device) : (modCtx c f d).now = d.now := rfl
@[simp] theorem modCtx_out (c : ContextId) (f : Context → Context) (d : Device) : (modCtx c f d).out = d.out := rfl
@[simp] theorem modCtx_counters (c : ContextId) (f : Context → Context) (d : Device) : (modCtx c f d).counters = d.counters := rfl
@[simp] theorem modCtx_cfg (c : ContextId) (f : Context → Context) (d : Device) : (modCtx c f d).cfg = d.cfg := rfl
@[simp] theorem modCtx_staged (c : ContextId) (f : Context → Context) (d : Device) : (modCtx c f d).staged = d.staged := rfl
@[simp] theorem modCtx_stagedShares (c : ContextId) (f : Context → Context) (d : Device) : (modCtx c f d).stagedShares = d.stagedShares := rfl
@[simp] theorem modCtx_cfgLater (c : ContextId) (f : Context → Context) (d : Device) : (modCtx c f d).cfgLater = d.cfgLater := rfl
@[simp] theorem modCtx_commits (c : ContextId) (f : Context → Context) (d : Device) : (modCtx c f d).commits = d.commits := rfl
@[simp] theorem modCtx_loads (c : ContextId) (f : Context → Context) (d : Device) : (modCtx c f d).loads = d.loads := rfl
@[simp] theorem modCtx_host (c : ContextId) (f : Context → Context) (d : Device) : (modCtx c f d).host = d.host := rfl
@[simp] theorem modCtx_gutter (c : ContextId) (f : Context → Context) (d : Device) : (modCtx c f d).gutter = d.gutter := rfl
@[simp] theorem modCtx_selftest (c : ContextId) (f : Context → Context) (d : Device) : (modCtx c f d).selftest = d.selftest := rfl
@[simp] theorem modCtx_boot (c : ContextId) (f : Context → Context) (d : Device) : (modCtx c f d).boot = d.boot := rfl
@[simp] theorem modCtx_caddy (c : ContextId) (f : Context → Context) (d : Device) : (modCtx c f d).caddy = d.caddy := rfl
@[simp] theorem modCtx_backup (c : ContextId) (f : Context → Context) (d : Device) : (modCtx c f d).backup = d.backup := rfl
@[simp] theorem modCtx_clocks (c : ContextId) (f : Context → Context) (d : Device) : (modCtx c f d).clocks = d.clocks := rfl
@[simp] theorem modCtx_power (c : ContextId) (f : Context → Context) (d : Device) : (modCtx c f d).power = d.power := rfl
@[simp] theorem modCtx_pins (c : ContextId) (f : Context → Context) (d : Device) : (modCtx c f d).pins = d.pins := rfl
@[simp] theorem modCtx_time (c : ContextId) (f : Context → Context) (d : Device) : (modCtx c f d).time = d.time := rfl
@[simp] theorem modCtx_sites (c : ContextId) (f : Context → Context) (d : Device) : (modCtx c f d).sites = d.sites := rfl
@[simp] theorem modCtx_fabric (c : ContextId) (f : Context → Context) (d : Device) : (modCtx c f d).fabric = d.fabric := rfl
@[simp] theorem modCtx_vtiles (c : ContextId) (f : Context → Context) (d : Device) : (modCtx c f d).vtiles = d.vtiles := rfl
@[simp] theorem modCtx_scratch (c : ContextId) (f : Context → Context) (d : Device) : (modCtx c f d).scratch = d.scratch := rfl
@[simp] theorem modCtx_halo (c : ContextId) (f : Context → Context) (d : Device) : (modCtx c f d).halo = d.halo := rfl
@[simp] theorem modCtx_tenants (c : ContextId) (f : Context → Context) (d : Device) : (modCtx c f d).tenants = d.tenants := rfl
@[simp] theorem modCtx_tiers (c : ContextId) (f : Context → Context) (d : Device) : (modCtx c f d).tiers = d.tiers := rfl
@[simp] theorem modCtx_windows (c : ContextId) (f : Context → Context) (d : Device) : (modCtx c f d).windows = d.windows := rfl
@[simp] theorem modCtx_entropy (c : ContextId) (f : Context → Context) (d : Device) : (modCtx c f d).entropy = d.entropy := rfl
@[simp] theorem modCtx_strainers (c : ContextId) (f : Context → Context) (d : Device) : (modCtx c f d).strainers = d.strainers := rfl
@[simp] theorem modCtx_ridge (c : ContextId) (f : Context → Context) (d : Device) : (modCtx c f d).ridge = d.ridge := rfl
@[simp] theorem modCtx_coeffs (c : ContextId) (f : Context → Context) (d : Device) : (modCtx c f d).coeffs = d.coeffs := rfl
@[simp] theorem modCtx_span (c : ContextId) (f : Context → Context) (d : Device) : (modCtx c f d).span = d.span := rfl
@[simp] theorem modCtx_slate (c : ContextId) (f : Context → Context) (d : Device) : (modCtx c f d).slate = d.slate := rfl

@[simp] theorem modSlot_fresh (k : Slot) (f : SlotRec → SlotRec) (d : Device) : (modSlot k f d).fresh = d.fresh := by cases k <;> rfl
@[simp] theorem modSlot_now (k : Slot) (f : SlotRec → SlotRec) (d : Device) : (modSlot k f d).now = d.now := by cases k <;> rfl
@[simp] theorem modSlot_out (k : Slot) (f : SlotRec → SlotRec) (d : Device) : (modSlot k f d).out = d.out := by cases k <;> rfl
@[simp] theorem modSlot_counters (k : Slot) (f : SlotRec → SlotRec) (d : Device) : (modSlot k f d).counters = d.counters := by cases k <;> rfl
@[simp] theorem modSlot_cfg (k : Slot) (f : SlotRec → SlotRec) (d : Device) : (modSlot k f d).cfg = d.cfg := by cases k <;> rfl
@[simp] theorem modSlot_staged (k : Slot) (f : SlotRec → SlotRec) (d : Device) : (modSlot k f d).staged = d.staged := by cases k <;> rfl
@[simp] theorem modSlot_stagedShares (k : Slot) (f : SlotRec → SlotRec) (d : Device) : (modSlot k f d).stagedShares = d.stagedShares := by cases k <;> rfl
@[simp] theorem modSlot_cfgLater (k : Slot) (f : SlotRec → SlotRec) (d : Device) : (modSlot k f d).cfgLater = d.cfgLater := by cases k <;> rfl
@[simp] theorem modSlot_commits (k : Slot) (f : SlotRec → SlotRec) (d : Device) : (modSlot k f d).commits = d.commits := by cases k <;> rfl
@[simp] theorem modSlot_loads (k : Slot) (f : SlotRec → SlotRec) (d : Device) : (modSlot k f d).loads = d.loads := by cases k <;> rfl
@[simp] theorem modSlot_host (k : Slot) (f : SlotRec → SlotRec) (d : Device) : (modSlot k f d).host = d.host := by cases k <;> rfl
@[simp] theorem modSlot_gutter (k : Slot) (f : SlotRec → SlotRec) (d : Device) : (modSlot k f d).gutter = d.gutter := by cases k <;> rfl
@[simp] theorem modSlot_selftest (k : Slot) (f : SlotRec → SlotRec) (d : Device) : (modSlot k f d).selftest = d.selftest := by cases k <;> rfl
@[simp] theorem modSlot_caddy (k : Slot) (f : SlotRec → SlotRec) (d : Device) : (modSlot k f d).caddy = d.caddy := by cases k <;> rfl
@[simp] theorem modSlot_backup (k : Slot) (f : SlotRec → SlotRec) (d : Device) : (modSlot k f d).backup = d.backup := by cases k <;> rfl
@[simp] theorem modSlot_clocks (k : Slot) (f : SlotRec → SlotRec) (d : Device) : (modSlot k f d).clocks = d.clocks := by cases k <;> rfl
@[simp] theorem modSlot_power (k : Slot) (f : SlotRec → SlotRec) (d : Device) : (modSlot k f d).power = d.power := by cases k <;> rfl
@[simp] theorem modSlot_pins (k : Slot) (f : SlotRec → SlotRec) (d : Device) : (modSlot k f d).pins = d.pins := by cases k <;> rfl
@[simp] theorem modSlot_time (k : Slot) (f : SlotRec → SlotRec) (d : Device) : (modSlot k f d).time = d.time := by cases k <;> rfl
@[simp] theorem modSlot_sites (k : Slot) (f : SlotRec → SlotRec) (d : Device) : (modSlot k f d).sites = d.sites := by cases k <;> rfl
@[simp] theorem modSlot_fabric (k : Slot) (f : SlotRec → SlotRec) (d : Device) : (modSlot k f d).fabric = d.fabric := by cases k <;> rfl
@[simp] theorem modSlot_vtiles (k : Slot) (f : SlotRec → SlotRec) (d : Device) : (modSlot k f d).vtiles = d.vtiles := by cases k <;> rfl
@[simp] theorem modSlot_scratch (k : Slot) (f : SlotRec → SlotRec) (d : Device) : (modSlot k f d).scratch = d.scratch := by cases k <;> rfl
@[simp] theorem modSlot_halo (k : Slot) (f : SlotRec → SlotRec) (d : Device) : (modSlot k f d).halo = d.halo := by cases k <;> rfl
@[simp] theorem modSlot_tenants (k : Slot) (f : SlotRec → SlotRec) (d : Device) : (modSlot k f d).tenants = d.tenants := by cases k <;> rfl
@[simp] theorem modSlot_tiers (k : Slot) (f : SlotRec → SlotRec) (d : Device) : (modSlot k f d).tiers = d.tiers := by cases k <;> rfl
@[simp] theorem modSlot_windows (k : Slot) (f : SlotRec → SlotRec) (d : Device) : (modSlot k f d).windows = d.windows := by cases k <;> rfl
@[simp] theorem modSlot_entropy (k : Slot) (f : SlotRec → SlotRec) (d : Device) : (modSlot k f d).entropy = d.entropy := by cases k <;> rfl
@[simp] theorem modSlot_strainers (k : Slot) (f : SlotRec → SlotRec) (d : Device) : (modSlot k f d).strainers = d.strainers := by cases k <;> rfl
@[simp] theorem modSlot_ridge (k : Slot) (f : SlotRec → SlotRec) (d : Device) : (modSlot k f d).ridge = d.ridge := by cases k <;> rfl
@[simp] theorem modSlot_coeffs (k : Slot) (f : SlotRec → SlotRec) (d : Device) : (modSlot k f d).coeffs = d.coeffs := by cases k <;> rfl
@[simp] theorem modSlot_span (k : Slot) (f : SlotRec → SlotRec) (d : Device) : (modSlot k f d).span = d.span := by cases k <;> rfl
@[simp] theorem modSlot_slate (k : Slot) (f : SlotRec → SlotRec) (d : Device) : (modSlot k f d).slate = d.slate := by cases k <;> rfl
@[simp] theorem modSlot_intake (k : Slot) (f : SlotRec → SlotRec) (d : Device) : (modSlot k f d).intake = d.intake := by cases k <;> rfl

@[simp] theorem modDev_fresh (x : TierDev) (f : MemDevice → MemDevice) (d : Device) : (modDev x f d).fresh = d.fresh := by cases x <;> rfl
@[simp] theorem modDev_now (x : TierDev) (f : MemDevice → MemDevice) (d : Device) : (modDev x f d).now = d.now := by cases x <;> rfl
@[simp] theorem modDev_out (x : TierDev) (f : MemDevice → MemDevice) (d : Device) : (modDev x f d).out = d.out := by cases x <;> rfl
@[simp] theorem modDev_counters (x : TierDev) (f : MemDevice → MemDevice) (d : Device) : (modDev x f d).counters = d.counters := by cases x <;> rfl
@[simp] theorem modDev_cfg (x : TierDev) (f : MemDevice → MemDevice) (d : Device) : (modDev x f d).cfg = d.cfg := by cases x <;> rfl
@[simp] theorem modDev_staged (x : TierDev) (f : MemDevice → MemDevice) (d : Device) : (modDev x f d).staged = d.staged := by cases x <;> rfl
@[simp] theorem modDev_stagedShares (x : TierDev) (f : MemDevice → MemDevice) (d : Device) : (modDev x f d).stagedShares = d.stagedShares := by cases x <;> rfl
@[simp] theorem modDev_cfgLater (x : TierDev) (f : MemDevice → MemDevice) (d : Device) : (modDev x f d).cfgLater = d.cfgLater := by cases x <;> rfl
@[simp] theorem modDev_commits (x : TierDev) (f : MemDevice → MemDevice) (d : Device) : (modDev x f d).commits = d.commits := by cases x <;> rfl
@[simp] theorem modDev_loads (x : TierDev) (f : MemDevice → MemDevice) (d : Device) : (modDev x f d).loads = d.loads := by cases x <;> rfl
@[simp] theorem modDev_host (x : TierDev) (f : MemDevice → MemDevice) (d : Device) : (modDev x f d).host = d.host := by cases x <;> rfl
@[simp] theorem modDev_gutter (x : TierDev) (f : MemDevice → MemDevice) (d : Device) : (modDev x f d).gutter = d.gutter := by cases x <;> rfl
@[simp] theorem modDev_selftest (x : TierDev) (f : MemDevice → MemDevice) (d : Device) : (modDev x f d).selftest = d.selftest := by cases x <;> rfl
@[simp] theorem modDev_boot (x : TierDev) (f : MemDevice → MemDevice) (d : Device) : (modDev x f d).boot = d.boot := by cases x <;> rfl
@[simp] theorem modDev_caddy (x : TierDev) (f : MemDevice → MemDevice) (d : Device) : (modDev x f d).caddy = d.caddy := by cases x <;> rfl
@[simp] theorem modDev_backup (x : TierDev) (f : MemDevice → MemDevice) (d : Device) : (modDev x f d).backup = d.backup := by cases x <;> rfl
@[simp] theorem modDev_clocks (x : TierDev) (f : MemDevice → MemDevice) (d : Device) : (modDev x f d).clocks = d.clocks := by cases x <;> rfl
@[simp] theorem modDev_power (x : TierDev) (f : MemDevice → MemDevice) (d : Device) : (modDev x f d).power = d.power := by cases x <;> rfl
@[simp] theorem modDev_pins (x : TierDev) (f : MemDevice → MemDevice) (d : Device) : (modDev x f d).pins = d.pins := by cases x <;> rfl
@[simp] theorem modDev_time (x : TierDev) (f : MemDevice → MemDevice) (d : Device) : (modDev x f d).time = d.time := by cases x <;> rfl
@[simp] theorem modDev_sites (x : TierDev) (f : MemDevice → MemDevice) (d : Device) : (modDev x f d).sites = d.sites := by cases x <;> rfl
@[simp] theorem modDev_fabric (x : TierDev) (f : MemDevice → MemDevice) (d : Device) : (modDev x f d).fabric = d.fabric := by cases x <;> rfl
@[simp] theorem modDev_vtiles (x : TierDev) (f : MemDevice → MemDevice) (d : Device) : (modDev x f d).vtiles = d.vtiles := by cases x <;> rfl
@[simp] theorem modDev_scratch (x : TierDev) (f : MemDevice → MemDevice) (d : Device) : (modDev x f d).scratch = d.scratch := by cases x <;> rfl
@[simp] theorem modDev_halo (x : TierDev) (f : MemDevice → MemDevice) (d : Device) : (modDev x f d).halo = d.halo := by cases x <;> rfl
@[simp] theorem modDev_tenants (x : TierDev) (f : MemDevice → MemDevice) (d : Device) : (modDev x f d).tenants = d.tenants := by cases x <;> rfl
@[simp] theorem modDev_windows (x : TierDev) (f : MemDevice → MemDevice) (d : Device) : (modDev x f d).windows = d.windows := by cases x <;> rfl
@[simp] theorem modDev_entropy (x : TierDev) (f : MemDevice → MemDevice) (d : Device) : (modDev x f d).entropy = d.entropy := by cases x <;> rfl
@[simp] theorem modDev_strainers (x : TierDev) (f : MemDevice → MemDevice) (d : Device) : (modDev x f d).strainers = d.strainers := by cases x <;> rfl
@[simp] theorem modDev_ridge (x : TierDev) (f : MemDevice → MemDevice) (d : Device) : (modDev x f d).ridge = d.ridge := by cases x <;> rfl
@[simp] theorem modDev_coeffs (x : TierDev) (f : MemDevice → MemDevice) (d : Device) : (modDev x f d).coeffs = d.coeffs := by cases x <;> rfl
@[simp] theorem modDev_span (x : TierDev) (f : MemDevice → MemDevice) (d : Device) : (modDev x f d).span = d.span := by cases x <;> rfl
@[simp] theorem modDev_slate (x : TierDev) (f : MemDevice → MemDevice) (d : Device) : (modDev x f d).slate = d.slate := by cases x <;> rfl
@[simp] theorem modDev_intake (x : TierDev) (f : MemDevice → MemDevice) (d : Device) : (modDev x f d).intake = d.intake := by cases x <;> rfl

end Sys2Proof.Machine
end

