-- ==== Sys2Proof/Laws/Frames.lean ====
section
/-! SUPPORT. What counting, messages, journal records, wakes, Kettle restarts and the reactions of the Gutter leave alone: the contents
that commands move, the configuration, the links and the fused values. -/

namespace Sys2Proof.Machine

open Sys2Proof

/-- The second device has everything of the first but its counters, outputs, journal, power sequence, pins, boot progress, Gutter
records, message state and step bookkeeping. -/
structure Aside (a b : Device) : Prop where
  now : b.now = a.now
  fresh : b.fresh = a.fresh
  cfg : b.cfg = a.cfg
  staged : b.staged = a.staged
  commits : b.commits = a.commits
  time : b.time = a.time
  sites : b.sites = a.sites
  fabric : b.fabric = a.fabric
  vtiles : b.vtiles = a.vtiles
  scratch : b.scratch = a.scratch
  halo : b.halo = a.halo
  tiers : b.tiers = a.tiers
  windows : b.windows = a.windows
  entropy : b.entropy = a.entropy
  strainers : b.strainers = a.strainers
  ridge : b.ridge = a.ridge
  span : b.span = a.span
  slate : b.slate = a.slate
  intake : b.intake = a.intake
  fuses : b.boot.svnFuses = a.boot.svnFuses
  identity : b.boot.part = a.boot.part ∧ b.boot.serial = a.boot.serial ∧ b.boot.stepLetter = a.boot.stepLetter ∧
    b.boot.stepDigit = a.boot.stepDigit
  rings : ∀ m : MailboxId, (b.mb m).ring = (a.mb m).ring
  tensors : ∀ t : TenantId, (b.tenant t).tensors = (a.tenant t).tensors

theorem Aside.refl (a : Device) : Aside a a := by constructor <;> simp

theorem Aside.trans {a b c : Device} (h : Aside a b) (k : Aside b c) : Aside a c where
  now := k.now.trans h.now
  fresh := k.fresh.trans h.fresh
  cfg := k.cfg.trans h.cfg
  staged := k.staged.trans h.staged
  commits := k.commits.trans h.commits
  time := k.time.trans h.time
  sites := k.sites.trans h.sites
  fabric := k.fabric.trans h.fabric
  vtiles := k.vtiles.trans h.vtiles
  scratch := k.scratch.trans h.scratch
  halo := k.halo.trans h.halo
  tiers := k.tiers.trans h.tiers
  windows := k.windows.trans h.windows
  entropy := k.entropy.trans h.entropy
  strainers := k.strainers.trans h.strainers
  ridge := k.ridge.trans h.ridge
  span := k.span.trans h.span
  slate := k.slate.trans h.slate
  intake := k.intake.trans h.intake
  fuses := k.fuses.trans h.fuses
  identity := ⟨k.identity.1.trans h.identity.1, k.identity.2.1.trans h.identity.2.1, k.identity.2.2.1.trans h.identity.2.2.1,
    k.identity.2.2.2.trans h.identity.2.2.2⟩
  rings := fun m => (k.rings m).trans (h.rings m)
  tensors := fun t => (k.tensors t).trans (h.tensors t)

/-- A list of updates, each of which leaves all this alone, leaves it alone. -/
theorem Aside.foldl {α : Type} (f : Device → α → Device) (h : ∀ d x, Aside d (f d x)) (l : List α) (d : Device) : Aside d (l.foldl f d) := by
  induction l generalizing d with
  | nil => exact Aside.refl d
  | cons x l ih => exact (h d x).trans (ih (f d x))

/-- A condition chooses between two updates that leave all this alone. -/
theorem Aside.ite {a b c : Device} {p : Prop} [Decidable p] (h : Aside a b) (k : Aside a c) : Aside a (if p then b else c) := by
  split
  · exact h
  · exact k

/-! ### The shared operations -/

theorem bumpBy_aside (c : Counter) (i k : Nat) (d : Device) : Aside d (bumpBy c i k d) := by constructor <;> intros <;> first | rfl | simp
theorem bump_aside (c : Counter) (i : Nat) (d : Device) : Aside d (bump c i d) := bumpBy_aside c i 1 d
theorem emit_aside (o : Output) (d : Device) : Aside d (emit o d) := by constructor <;> intros <;> first | rfl | simp

theorem setMsixVec_aside (fn : FunctionId) (v : Fin 16) (m : MsixVec) (d : Device) : Aside d (setMsixVec fn v m d) := by
  constructor <;> intros <;> first | rfl | simp

/-- A change of a mailbox that keeps its ring. -/
theorem modMbx_aside (m : MailboxId) (f : Mailbox → Mailbox) (h : ∀ x, (f x).ring = x.ring) (d : Device) : Aside d (modMbx m f d) := by
  constructor <;> intros <;> first | rfl | (simp; done) | (simp only [modMbx_mb]; split <;> simp_all)

/-- A change of a tenant that keeps its tensors. -/
theorem modTenant_aside (t : TenantId) (f : Tenant → Tenant) (h : ∀ x, (f x).tensors = x.tensors) (d : Device) : Aside d (modTenant t f d) := by
  constructor <;> intros <;> first | rfl | (simp; done) | (simp only [modTenant_tenant]; split <;> simp_all)

theorem modRun_aside (t : TenantId) (f : Run → Run) (d : Device) : Aside d (modRun t f d) := modTenant_aside t (fun x => { x with run := x.run.map f }) (fun _ => rfl) d
theorem modStep_aside (t : TenantId) (f : Step → Step) (d : Device) : Aside d (modStep t f d) := modRun_aside t _ d
theorem modClass_aside (k : ClassId) (f : GClass → GClass) (d : Device) : Aside d (modClass k f d) := by
  constructor <;> intros <;> first | rfl | simp

theorem gutter_aside (g : Gutter) (d : Device) : Aside d { d with gutter := g } := by constructor <;> intros <;> first | rfl | simp
theorem pins_aside (p : Pins) (d : Device) : Aside d { d with pins := p } := by constructor <;> intros <;> first | rfl | simp
theorem power_aside (p : Power) (d : Device) : Aside d { d with power := p } := by constructor <;> intros <;> first | rfl | simp
theorem caddy_aside (c : Caddy) (d : Device) : Aside d { d with caddy := c } := by constructor <;> intros <;> first | rfl | simp

/-- A change of the boot's record that keeps the fused values. -/
theorem boot_aside (b : Boot) (d : Device) (h : b.svnFuses = d.boot.svnFuses)
    (k : b.part = d.boot.part ∧ b.serial = d.boot.serial ∧ b.stepLetter = d.boot.stepLetter ∧ b.stepDigit = d.boot.stepDigit) :
    Aside d { d with boot := b } := by
  constructor <;> intros <;> first | rfl | exact h | exact k

theorem modSlot_aside (k : Slot) (f : SlotRec → SlotRec) (d : Device) : Aside d (modSlot k f d) := by
  constructor <;> intros <;> first | rfl | (simp; done) | (cases k <;> simp [modSlot] <;> rfl)

/-- A journal record changes the Caddy alone. -/
theorem journal_aside (kind inst : Nat) (d : Device) : Aside d (journal kind inst d) := by
  unfold journal
  split
  · exact Aside.refl d
  · exact caddy_aside _ d

/-! ### Completions -/

/-- A completion changes the mailbox, apart from its ring, and counters. -/
theorem post_aside (c : Call) (st : Status) (reason : Nat) (result : List Byte) (more : Bool) (d : Device) :
    Aside d (post c st reason result more d) := by
  unfold post
  extract_lets r kr late d1 d2 d3
  have h1 : Aside d d1 := Aside.ite (bump_aside _ _ _) (Aside.refl _)
  have h2 : Aside d1 d2 := Aside.ite (bump_aside _ _ _) (Aside.ite (bump_aside _ _ _) (Aside.refl _))
  have h3 : Aside d2 d3 := modMbx_aside _ _ (fun x => by rfl) _
  exact ((h1.trans h2).trans h3).trans (modMbx_aside _ _ (fun x => by rfl) _)

theorem finish_aside (c : Call) (st : Status) (reason : Nat) (d : Device) : Aside d (finish c st reason d) := post_aside c st reason [] false d
theorem badParam_aside (c : Call) (reason : Nat) (d : Device) : Aside d (badParam c reason d) := finish_aside c .badParam reason d
theorem bufferFault_aside (c : Call) (d : Device) : Aside d (bufferFault c d) := badParam_aside c _ d
theorem bufferShort_aside (c : Call) (n : Nat) (d : Device) : Aside d (bufferShort c n d) := post_aside c _ _ _ _ d
theorem acceptCall_aside (c : Call) (d : Device) : Aside d (acceptCall c d) := by
  refine modMbx_aside _ _ (fun x => ?_) d
  split <;> rfl

/-! ### Messages to the host -/

theorem wakeHost_aside (d : Device) : Aside d (wakeHost d) :=
  Aside.ite ((pins_aside _ d).trans (bump_aside _ _ _)) (Aside.refl d)

theorem msixSent_aside (fn : FunctionId) (v : Fin 16) (d : Device) : Aside d (msixSent fn v d) :=
  ((setMsixVec_aside fn v _ d).trans (bump_aside _ _ _)).trans (emit_aside _ _)

theorem sendMsix_aside (fn : FunctionId) (v : Fin 16) (d : Device) : Aside d (sendMsix fn v d) := by
  unfold sendMsix
  refine Aside.ite ((setMsixVec_aside _ _ _ d).trans (wakeHost_aside _)) ?_
  split
  · exact Aside.ite (setMsixVec_aside _ _ _ d) (msixSent_aside _ _ d)
  · exact msixSent_aside _ _ d

theorem announceState_aside (d : Device) : Aside d (announceState d) :=
  (sendMsix_aside _ _ d).trans (Aside.foldl _ (fun d _ => sendMsix_aside _ _ d) _ _)

/-! ### Slots and Kettle restarts -/

theorem failStart_aside (d : Device) : Aside d (failStart d) := by
  unfold failStart
  exact Aside.ite (bump_aside _ _ _) (Aside.refl d)

theorem startAttempt_aside (k : Slot) (d : Device) : Aside d (startAttempt k d) := by
  unfold startAttempt
  exact (journal_aside _ _ d).trans (modSlot_aside k _ _)

theorem passOver_aside (k : Slot) (d : Device) : Aside d (passOver k d) := by
  unfold passOver
  refine Aside.trans (Aside.trans (Aside.trans ?_ (bump_aside .fallbacks 0 _)) (journal_aside kSlots 0 _)) (journal_aside kUpdate 0 _)
  exact (modSlot_aside k _ d).trans (boot_aside _ _ (by rfl) (by exact ⟨rfl, rfl, rfl, rfl⟩))

theorem chooseSlot_aside (d : Device) : Aside d (chooseSlot d).2 := by
  unfold chooseSlot
  split
  · exact Aside.refl d
  · split
    · exact Aside.refl d
    · exact passOver_aside _ d

theorem kettleDown_aside (d : Device) : Aside d (kettleDown d) := by
  unfold kettleDown
  refine ((failStart_aside d).trans (b := failStart d) ?_).trans (announceState_aside _)
  constructor <;> intros <;> first | rfl | (simp; done) | (simp [Device.mb])

theorem restartSlot_aside (d : Device) : Aside d (restartSlot d) := by
  unfold restartSlot
  refine Aside.ite (Aside.refl d) (Aside.ite (startAttempt_aside _ d) ?_)
  have h := chooseSlot_aside d
  split
  · rename_i k e hk
    rw [hk] at h
    refine Aside.trans ?_ (startAttempt_aside k _)
    exact h.trans (boot_aside _ _ (by rfl) (by exact ⟨rfl, rfl, rfl, rfl⟩))
  · rename_i e hk
    rw [hk] at h
    exact h.trans (boot_aside _ _ (by rfl) (by exact ⟨rfl, rfl, rfl, rfl⟩))

theorem beginKettleRestart_aside (d : Device) : Aside d (beginKettleRestart d) := (kettleDown_aside d).trans (restartSlot_aside _)

theorem restartInto_aside (k : Slot) (cause : Nat) (d : Device) : Aside d (restartInto k cause d) := by
  unfold restartInto
  refine Aside.trans ?_ (startAttempt_aside k _)
  exact (kettleDown_aside d).trans (boot_aside _ _ (by rfl) (by exact ⟨rfl, rfl, rfl, rfl⟩))

/-! ### Wakes -/

theorem endIdle_aside (t : Nat) (d : Device) : Aside d (endIdle t d) := by
  unfold endIdle
  split
  · exact Aside.refl d
  · exact power_aside _ d

theorem startWake_aside (p : PState) (d : Device) : Aside d (startWake p d) := power_aside _ d

theorem wakeUp_aside (d : Device) : Aside d (wakeUp d) := by
  unfold wakeUp
  refine (endIdle_aside d.now d).trans ?_
  dsimp only
  split
  · exact (bump_aside _ _ _).trans (startWake_aside _ _)
  · exact Aside.ite (Aside.refl _) (startWake_aside _ _)

/-! ### The Gutter (R643 to R665) -/

theorem drivePair_aside (fault : Bool) (d : Device) : Aside d (drivePair fault d) := by constructor <;> intros <;> first | rfl | simp [drivePair]
theorem assertPair_aside (d : Device) : Aside d (assertPair d) :=
  Aside.ite (Aside.refl d) (((bump_aside _ _ d).trans (drivePair_aside _ _)).trans (gutter_aside _ _))
theorem releasePair_aside (d : Device) : Aside d (releasePair d) :=
  Aside.ite ((bumpBy_aside _ _ _ d).trans (drivePair_aside _ _)) (Aside.refl d)
theorem evalPair_aside (d : Device) : Aside d (evalPair d) :=
  Aside.ite (assertPair_aside d) (Aside.ite (releasePair_aside d) (Aside.refl d))
theorem requiet_aside (k : ClassId) (d : Device) : Aside d (requiet k d) :=
  Aside.ite (Aside.ite (modClass_aside _ _ d) (Aside.refl d)) (modClass_aside _ _ d)
theorem endCycle_aside (d : Device) : Aside d (endCycle d) :=
  (Aside.foldl _ (fun d k => requiet_aside k d) _ d).trans (evalPair_aside _)
theorem restartQuiet_aside (k : ClassId) (d : Device) : Aside d (restartQuiet k d) := (modClass_aside _ _ d).trans (requiet_aside _ _)

theorem beginBlockReset_aside (b : Block) (k : ClassId) (d : Device) : Aside d (beginBlockReset b k d) := by
  unfold beginBlockReset
  extract_lets w d1
  exact (gutter_aside _ d).trans (Aside.ite (beginKettleRestart_aside _) (Aside.refl _))

theorem reactMessage_aside (k : ClassId) (charge : Option TenantId) (d : Device) : Aside d (reactMessage k charge d) := by
  unfold reactMessage
  refine (sendMsix_aside 0 9 d).trans ?_
  dsimp only
  split
  · exact Aside.refl _
  · exact (gutter_aside _ _).trans (sendMsix_aside _ _ _)

theorem reactTrap_aside (s : SourceId) (d : Device) : Aside d (reactTrap s d) :=
  Aside.ite (Aside.ite (Aside.refl d) ((gutter_aside _ d).trans (bump_aside _ _ _))) (emit_aside _ d)

theorem react_aside (s : SourceId) (n inst : Nat) (charge : Option TenantId) (d : Device) : Aside d (react s n inst charge d) := by
  unfold react
  extract_lets k d1 d2 d3
  have h1 : Aside d d1 := reactMessage_aside _ _ d
  have h2 : Aside d1 d2 := by
    refine Aside.ite ?_ (Aside.refl _)
    split
    · exact beginBlockReset_aside _ _ _
    · exact Aside.refl _
  have h3 : Aside d2 d3 := Aside.ite ((reactTrap_aside _ _).trans (wakeUp_aside _)) (Aside.refl _)
  exact ((h1.trans h2).trans h3).trans (Aside.ite (gutter_aside _ _) (Aside.refl _))

theorem chargeStep_aside (s : SourceId) (charge : Option TenantId) (d : Device) : Aside d (chargeStep s charge d) := by
  unfold chargeStep
  split
  · exact Aside.refl d
  · exact modStep_aside _ _ d

theorem reactingEvent_aside (s : SourceId) (insts : List Nat) (charge : Option TenantId) (d : Device) :
    Aside d (reactingEvent s insts charge d) := by
  unfold reactingEvent
  dsimp only
  refine Aside.trans ?_ (chargeStep_aside s charge _)
  refine Aside.trans (Aside.trans ?_ (modClass_aside (classOf s) _ _)) (Aside.ite (react_aside s _ _ charge _) (Aside.refl _))
  refine Aside.trans ?_ (gutter_aside _ _)
  exact (bumpBy_aside _ _ _ d).trans (Aside.ite (bump_aside _ _ _) (Aside.refl _))

/-- The events of a source change none of the contents that commands move. -/
theorem sourceEvent_aside (s : SourceId) (insts : List Nat) (charge : Option TenantId) (d : Device) :
    Aside d (sourceEvent s insts charge d) := by
  unfold sourceEvent
  refine Aside.ite ?_ (Aside.refl d)
  extract_lets cov open_ d1 d2
  have h1 : Aside d d1 := bumpBy_aside _ _ _ d
  have h2 : Aside d1 d2 := by
    unfold d2
    split
    · exact modStep_aside _ _ _
    · exact Aside.refl _
  exact (h1.trans h2).trans (Aside.ite (Aside.refl _) (reactingEvent_aside _ _ _ _))

theorem occur_aside (s : SourceId) (inst : Nat) (charge : Option TenantId) (d : Device) : Aside d (occur s inst charge d) :=
  (sourceEvent_aside _ _ _ d).trans (endCycle_aside _)

theorem condBegin_aside (s : SourceId) (inst : Nat) (charge : Option TenantId) (d : Device) : Aside d (condBegin s inst charge d) := by
  unfold condBegin
  refine Aside.ite (Aside.refl d) ?_
  exact Aside.ite ((gutter_aside _ d).trans (endCycle_aside _))
    (((gutter_aside _ d).trans (sourceEvent_aside _ _ _ _)).trans (endCycle_aside _))

theorem condEnd_aside (s : SourceId) (inst : Nat) (d : Device) : Aside d (condEnd s inst d) := (gutter_aside _ d).trans (endCycle_aside _)

end Sys2Proof.Machine
end

