-- ==== Sys2Proof/Laws/Memory.lean ====
section
/-! SUPPORT. Memories in canonical form: what a write leaves to be read, that every write keeps the form, and that equal contents are
equal data. Bytes and association lists beside them. -/

namespace Sys2Proof.Machine

open Sys2Proof

/-! ### Canonical form -/

/-- The canonical form of a memory with a first cell. -/
theorem Mem.wfFrom_cons (lo a : Nat) (b : Byte) (t : Mem) :
    Mem.wfFrom lo ((a, b) :: t) = true ↔ lo ≤ a ∧ b ≠ 0#8 ∧ Mem.wfFrom (a + 1) t = true := by
  simp only [Mem.wfFrom, Bool.and_eq_true, decide_eq_true_eq, Bool.not_eq_true', decide_eq_false_iff_not, and_assoc]
  exact Iff.rfl

theorem Mem.write_nil (x : Nat) (v : Byte) : Mem.write [] x v = if v = 0#8 then [] else [(x, v)] := rfl
theorem Mem.write_cons (a x : Nat) (b v : Byte) (t : Mem) : Mem.write ((a, b) :: t) x v =
    if x < a then (if v = 0#8 then (a, b) :: t else (x, v) :: (a, b) :: t)
    else if x = a then (if v = 0#8 then t else (a, v) :: t)
    else (a, b) :: Mem.write t x v := rfl

theorem Mem.wfFrom_mono (m : Mem) (lo hi : Nat) (h : lo ≤ hi) (w : Mem.wfFrom hi m = true) : Mem.wfFrom lo m = true := by
  cases m with
  | nil => rfl
  | cons c t =>
    rw [Mem.wfFrom_cons] at w ⊢
    exact ⟨by omega, w.2⟩

theorem Mem.write_wfFrom (m : Mem) (lo x : Nat) (v : Byte) (h : lo ≤ x) (w : Mem.wfFrom lo m = true) :
    Mem.wfFrom lo (m.write x v) = true := by
  induction m generalizing lo with
  | nil =>
    by_cases k : v = 0#8
    · simp [Mem.write_nil, Mem.write_cons, k, Mem.wfFrom]
    · simp only [Mem.write_nil, Mem.write_cons, k, if_false, Mem.wfFrom_cons]
      exact ⟨h, k, rfl⟩
  | cons c t ih =>
    obtain ⟨a, b⟩ := c
    rw [Mem.wfFrom_cons] at w
    obtain ⟨w1, w2, w3⟩ := w
    by_cases k : v = 0#8
    · by_cases h1 : x < a
      · simp only [Mem.write_nil, Mem.write_cons, h1, k, if_true, Mem.wfFrom_cons]
        exact ⟨w1, w2, w3⟩
      · by_cases h2 : x = a
        · simp only [Mem.write_nil, Mem.write_cons, h1, h2, k, if_true, if_false, Nat.lt_irrefl]
          exact Mem.wfFrom_mono t lo (a + 1) (by omega) w3
        · simp only [Mem.write_nil, Mem.write_cons, h1, h2, if_false, Mem.wfFrom_cons]
          exact ⟨w1, w2, ih (a + 1) (by omega) w3⟩
    · by_cases h1 : x < a
      · simp only [Mem.write_nil, Mem.write_cons, h1, k, if_true, if_false, Mem.wfFrom_cons]
        exact ⟨h, k, by omega, w2, w3⟩
      · by_cases h2 : x = a
        · simp only [Mem.write_nil, Mem.write_cons, h1, h2, k, if_true, if_false, Nat.lt_irrefl, Mem.wfFrom_cons]
          exact ⟨w1, k, w3⟩
        · simp only [Mem.write_nil, Mem.write_cons, h1, h2, if_false, Mem.wfFrom_cons]
          exact ⟨w1, w2, ih (a + 1) (by omega) w3⟩

/-- A write keeps the canonical form. -/
theorem Mem.write_wf (m : Mem) (x : Nat) (v : Byte) (w : m.wf = true) : (m.write x v).wf = true :=
  Mem.write_wfFrom m 0 x v (Nat.zero_le x) w

/-- A write of several bytes keeps it. -/
theorem Mem.writeN_wf (bs : List Byte) (m : Mem) (a : Nat) (w : m.wf = true) : (m.writeN a bs).wf = true := by
  induction bs generalizing m a with
  | nil => exact w
  | cons b bs ih => exact ih _ _ (Mem.write_wf m a b w)

theorem Mem.writeLe_wf (m : Mem) (a n v : Nat) (w : m.wf = true) : (m.writeLe a n v).wf = true := Mem.writeN_wf _ m a w
@[simp] theorem Mem.nil_wf : Mem.wf [] = true := rfl

/-! ### Reading after writing -/

theorem Mem.read_below (m : Mem) (lo x : Nat) (h : x < lo) (w : Mem.wfFrom lo m = true) : m.read x = 0 := by
  induction m generalizing lo with
  | nil => rfl
  | cons c t ih =>
    obtain ⟨a, b⟩ := c
    rw [Mem.wfFrom_cons] at w
    simp only [Mem.read]
    rw [if_neg (by omega)]
    exact ih (a + 1) (by omega) w.2.2

theorem Mem.read_write_from (m : Mem) (lo x y : Nat) (v : Byte) (w : Mem.wfFrom lo m = true) :
    (m.write x v).read y = if y = x then v else m.read y := by
  induction m generalizing lo with
  | nil =>
    by_cases k : v = 0#8
    · by_cases e : y = x <;> simp [Mem.write_nil, Mem.write_cons, Mem.read, k, e]
    · by_cases e : y = x
      · simp [Mem.write_nil, Mem.write_cons, Mem.read, k, e]
      · simp [Mem.write_nil, Mem.write_cons, Mem.read, k, e, Ne.symm e]
  | cons c t ih =>
    obtain ⟨a, b⟩ := c
    rw [Mem.wfFrom_cons] at w
    obtain ⟨w1, w2, w3⟩ := w
    have below := Mem.read_below t (a + 1)
    simp only [Mem.write_cons]
    by_cases h1 : x < a
    · have hx : Mem.read t x = 0 := below x (by omega) w3
      by_cases k : v = 0#8
      · by_cases e : y = x
        · subst e; simp [Mem.read, h1, k, hx, show ¬ a = y by omega]
        · simp [Mem.read, h1, k, e]
      · by_cases e : y = x
        · simp [Mem.read, h1, k, e]
        · simp [Mem.read, h1, k, e, Ne.symm e]
    · by_cases h2 : x = a
      · subst h2
        have hx : Mem.read t x = 0 := below x (by omega) w3
        by_cases k : v = 0#8
        · by_cases e : y = x
          · subst e; simp [k, hx]
          · simp [Mem.read, k, e, Ne.symm e]
        · by_cases e : y = x
          · simp [Mem.read, k, e]
          · simp [Mem.read, k, e, Ne.symm e]
      · have hi := ih (a + 1) w3
        simp only [h1, h2, if_false, Mem.read, hi]
        by_cases e : a = y
        · subst e; simp [Ne.symm h2]
        · simp [e]

/-- A byte written is read back, and every other byte reads as before. -/
theorem Mem.read_write (m : Mem) (x y : Nat) (v : Byte) (w : m.wf = true) :
    (m.write x v).read y = if y = x then v else m.read y := Mem.read_write_from m 0 x y v w

/-- Bytes outside a written range read as before. -/
theorem Mem.read_writeN_outside (bs : List Byte) (m : Mem) (a y : Nat) (w : m.wf = true) (h : y < a ∨ a + bs.length ≤ y) :
    (m.writeN a bs).read y = m.read y := by
  induction bs generalizing m a with
  | nil => rfl
  | cons b bs ih =>
    simp only [List.length_cons] at h
    have := ih (m.write a b) (a + 1) (Mem.write_wf m a b w) (by omega)
    rw [Mem.writeN, this, Mem.read_write m a y b w, if_neg (by omega)]

/-- Bytes of a written range read as they were written. -/
theorem Mem.read_writeN_inside (bs : List Byte) (m : Mem) (a i : Nat) (w : m.wf = true) (h : i < bs.length) :
    (m.writeN a bs).read (a + i) = bs[i] := by
  induction bs generalizing m a i with
  | nil => simp at h
  | cons b bs ih =>
    rw [Mem.writeN]
    cases i with
    | zero =>
      rw [Mem.read_writeN_outside bs (m.write a b) (a + 1) (a + 0) (Mem.write_wf m a b w) (by omega), Mem.read_write m a _ b w]
      simp
    | succ i =>
      have := ih (m.write a b) (a + 1) i (Mem.write_wf m a b w) (by simpa using h)
      rw [show a + (i + 1) = a + 1 + i by omega, this]
      rfl

/-- What was written to a range is read back whole. -/
theorem Mem.readN_writeN (bs : List Byte) (m : Mem) (a : Nat) (w : m.wf = true) : (m.writeN a bs).readN a bs.length = bs := by
  apply List.ext_getElem
  · simp [Mem.readN]
  · intro i h1 h2
    simp only [Mem.readN, List.getElem_map, List.getElem_range]
    exact Mem.read_writeN_inside bs m a i w h2

@[simp] theorem Mem.readN_length (m : Mem) (a n : Nat) : (m.readN a n).length = n := by simp [Mem.readN]

/-- Canonical memories that read alike everywhere are equal data. -/
theorem Mem.ext_from (m k : Mem) (lo : Nat) (w : Mem.wfFrom lo m = true) (u : Mem.wfFrom lo k = true) (h : ∀ y, m.read y = k.read y) :
    m = k := by
  induction m generalizing k lo with
  | nil =>
    cases k with
    | nil => rfl
    | cons c t =>
      obtain ⟨a, b⟩ := c
      rw [Mem.wfFrom_cons] at u
      have := h a
      simp [Mem.read] at this
      exact absurd this.symm u.2.1
  | cons c t ih =>
    obtain ⟨a, b⟩ := c
    have w0 := w
    rw [Mem.wfFrom_cons] at w
    cases k with
    | nil =>
      have := h a
      simp [Mem.read] at this
      exact absurd this w.2.1
    | cons e t' =>
      obtain ⟨a', b'⟩ := e
      have u0 := u
      rw [Mem.wfFrom_cons] at u
      have ha : a = a' := by
        rcases Nat.lt_trichotomy a a' with q | q | q
        · have := h a
          rw [Mem.read_below ((a', b') :: t') a' a q ((Mem.wfFrom_cons _ _ _ _).mpr ⟨by omega, u.2⟩)] at this
          simp [Mem.read] at this
          exact absurd this w.2.1
        · exact q
        · have := h a'
          rw [Mem.read_below ((a, b) :: t) a a' q ((Mem.wfFrom_cons _ _ _ _).mpr ⟨by omega, w.2⟩)] at this
          simp [Mem.read] at this
          exact absurd this.symm u.2.1
      subst ha
      have hb : b = b' := by simpa [Mem.read] using h a
      subst hb
      have ht : t = t' := by
        refine ih t' (a + 1) w.2.2 u.2.2 fun y => ?_
        by_cases q : a = y
        · subst q
          rw [Mem.read_below t (a + 1) a (by omega) w.2.2, Mem.read_below t' (a + 1) a (by omega) u.2.2]
        · simpa [Mem.read, q] using h y
      rw [ht]

theorem Mem.ext (m k : Mem) (w : m.wf = true) (u : k.wf = true) (h : ∀ y, m.read y = k.read y) : m = k := Mem.ext_from m k 0 w u h

/-! ### The memories of the device -/

/-- What leaves the contents alone leaves the memories canonical. -/
theorem Aside.memories {a b : Device} (h : Aside a b) (m : MemoriesCanonical a) : MemoriesCanonical b := by
  refine ⟨by rw [h.scratch]; exact m.1, fun i => by rw [h.rings i]; exact m.2.1 i, fun t x hx => ?_⟩
  rw [h.tensors t] at hx
  exact m.2.2 t x hx

/-- The scratchpads of the state after reset list nothing. -/
theorem reset_scratch_wf : State.reset.dev.scratch.wf = true := rfl

/-- A write to a scratchpad leaves the memories canonical. -/
theorem spadPut_memories (v : VtileRef) (a : Nat) (bs : List Byte) (d : Device) (m : MemoriesCanonical d) :
    MemoriesCanonical (spadPut v a bs d) := ⟨Mem.writeN_wf bs _ _ m.1, m.2.1, m.2.2⟩

/-- A change of a tensor that keeps its bytes canonical leaves the memories canonical. -/
theorem modTenant_memories (t : TenantId) (f : Tenant → Tenant) (d : Device)
    (h : ∀ x : Tenant, (∀ y ∈ x.tensors, y.bytes.wf = true) → ∀ y ∈ (f x).tensors, y.bytes.wf = true) (m : MemoriesCanonical d) :
    MemoriesCanonical (modTenant t f d) := by
  refine ⟨m.1, m.2.1, fun u x hx => ?_⟩
  rw [modTenant_tenant] at hx
  split at hx
  · exact h _ (m.2.2 u) x hx
  · exact m.2.2 u x hx

/-- A change of a mailbox that keeps its ring canonical leaves the memories canonical. -/
theorem modMbx_memories (n : MailboxId) (f : Mailbox → Mailbox) (d : Device) (h : ∀ x : Mailbox, x.ring.wf = true → (f x).ring.wf = true)
    (m : MemoriesCanonical d) : MemoriesCanonical (modMbx n f d) := by
  refine ⟨m.1, fun i => ?_, m.2.2⟩
  rw [modMbx_mb]
  split
  · exact h _ (m.2.1 i)
  · exact m.2.1 i

/-- The bytes of a host entry written to a ring keep it canonical. -/
theorem writeEntries_wf (k : Completion) (n : Nat) (i : BitVec 9) (m : Mem) (w : m.wf = true) : (writeEntries k i n m).wf = true := by
  induction n generalizing m with
  | zero => exact w
  | succ n ih => exact Mem.writeN_wf _ _ _ (Mem.writeLe_wf _ _ _ _ (ih m w))

/-! ### Bytes -/

@[simp] theorem leBytes_length (n v : Nat) : (leBytes n v).length = n := by
  induction n generalizing v with
  | zero => rfl
  | succ n ih => simp [leBytes, ih]

/-- Bytes written least significant first are read back, modulo their width. -/
theorem ofLe_leBytes (n v : Nat) : ofLe (leBytes n v) = v % 256 ^ n := by
  induction n generalizing v with
  | zero => simp [leBytes, ofLe, Nat.mod_one]
  | succ n ih =>
    have h : v % 256 ^ (n + 1) = v % 256 + 256 * (v / 256 % 256 ^ n) := by
      rw [Nat.pow_succ, Nat.mul_comm (256 ^ n), Nat.mod_mul]
    rw [h]
    simp [leBytes, ofLe, ih]

@[simp] theorem slice_length (bs : List Byte) (i n : Nat) : (slice bs i n).length = n := by
  simp [slice, List.length_append, List.length_take, List.length_drop] <;> omega

@[simp] theorem fit_length (n : Nat) (bs : List Byte) : (fit n bs).length = n := slice_length bs 0 n

/-! ### Association lists -/

theorem assoc_set {α β : Type} [DecidableEq α] (l : List (α × β)) (k j : α) (b : β) :
    assoc (assocSet l k b) j = if k = j then some b else assoc l j := by
  induction l with
  | nil => simp [assocSet, assoc]
  | cons p t ih =>
    obtain ⟨a, c⟩ := p
    simp only [assocSet]
    by_cases h : a = k
    · subst h; by_cases q : a = j <;> simp [assoc, q]
    · by_cases q : a = j
      · subst q; simp [assoc, h, Ne.symm h]
      · simp [assoc, h, q, ih]

/-- A counter that is set reads as the value, cut at its width; every other counter reads as before. -/
theorem setCount_count (c e : Counter) (i j v : Nat) (d : Device) :
    (setCount c i v d).count e j = if (c, i) = (e, j) then min v (2 ^ c.info.width - 1) else d.count e j := by
  simp only [Device.count, setCount, assoc_set]
  split <;> rfl

theorem bumpBy_count (c : Counter) (i k : Nat) (d : Device) :
    (bumpBy c i k d).count c i = min (d.count c i + k) (2 ^ c.info.width - 1) := by simp [bumpBy, setCount_count]

theorem bump_count_other (c e : Counter) (i j : Nat) (d : Device) (h : (c, i) ≠ (e, j)) : (bump c i d).count e j = d.count e j := by
  simp [bump, bumpBy, setCount_count, h]

end Sys2Proof.Machine
end

