-- ==== Sys2Proof/Laws/Mailbox.lean ====
section
/-! SUPPORT. The shared operations of the mailboxes: what completing, serving, reading a buffer list and reaching a register do, once each. -/

namespace Sys2Proof.Machine

open Sys2Proof

/-! ### Meanings that complete -/

/-- A meaning that is a function of the device completes with a property exactly when the function's value has it. -/
theorem completes_of_done {i : Instr} {s : State} {d : Device} {P : Device → Prop} (e : exec i s = done s d) (h : P d) : Completes i s P :=
  ⟨{ s with dev := d }, e, rfl, h⟩

theorem completes_mono {i : Instr} {s : State} {P Q : Device → Prop} (h : Completes i s P) (k : ∀ d, P d → Q d) : Completes i s Q := by
  obtain ⟨t, e, p, q⟩ := h
  exact ⟨t, e, p, k _ q⟩

@[simp] theorem done_eq (s : State) (d : Device) : done s d = .next { s with dev := d } := rfl

/-! ### The common checks -/

@[simp] theorem preCheck_acceptCall (c : Call) (d : Device) : preCheck c (acceptCall c d) = preCheck c d := rfl
@[simp] theorem awake_acceptCall (c : Call) (d : Device) : awake (acceptCall c d) = awake d := rfl

/-- A served command is recorded as started and its body runs. -/
theorem runFw_served {c : Call} {d : Device} (h : Served c d) (body : Device → Device) : runFw c body d = body (acceptCall c d) := by
  obtain ⟨h1, h2, h3, h4, h5⟩ := h
  have h6 : (needsGrid c.opcode && !awake d) = false := by
    cases hg : needsGrid c.opcode
    · rfl
    · simp [h5 hg]
  simp [runFw, recovering, h1, h2, h3, h4, h6]

/-- A command that one of the common checks refuses completes with that check's status. -/
theorem runFw_refused {c : Call} {d : Device} {st : Status} {r : Nat} (h1 : d.boot.inReset = false) (h2 : d.boot.stage = .main)
    (h3 : d.boot.mbxReady = true) (h4 : preCheck c d = some (st, r)) (body : Device → Device) :
    runFw c body d = finish c st r (acceptCall c d) := by
  simp [runFw, recovering, h1, h2, h3, h4]

theorem runEngine_served {c : Call} {d : Device} (h : EngineServed c d) (body : Device → Device) :
    runEngine c body d = body (acceptCall c d) := by
  obtain ⟨h1, h2, h3⟩ := h
  simp [runEngine, recovering, h1, h2, h3]

/-! ### Buffer lists -/

/-- A list that holds enough goes on with its bytes. -/
theorem withBuf_ok {c : Call} {w : Fin 8} {n : Nat} {bs : List Byte} (h : field (c.w w) 0 16 ≤ 4096) (k : c.readBuf w n = .ok bs)
    (f : List Byte → Device → Device) (d : Device) : withBuf c w n f d = f bs d := by
  simp [withBuf, k, Nat.not_lt.mpr h]

theorem withBuf_long {c : Call} {w : Fin 8} {n : Nat} (h : 4096 < field (c.w w) 0 16) (f : List Byte → Device → Device) (d : Device) :
    withBuf c w n f d = badParam c 0 d := by simp [withBuf, h]

theorem withBuf_short {c : Call} {w : Fin 8} {n : Nat} (h : field (c.w w) 0 16 ≤ 4096) (k : c.readBuf w n = .short)
    (f : List Byte → Device → Device) (d : Device) : withBuf c w n f d = bufferShort c n d := by
  simp [withBuf, k, Nat.not_lt.mpr h]

theorem withBuf_fault {c : Call} {w : Fin 8} {n : Nat} (h : field (c.w w) 0 16 ≤ 4096) (k : c.readBuf w n = .fault)
    (f : List Byte → Device → Device) (d : Device) : withBuf c w n f d = bufferFault c d := by
  simp [withBuf, k, Nat.not_lt.mpr h]

/-- A list with room takes the bytes, which leave the block when there are any. -/
theorem withOut_ok {c : Call} {w : Fin 8} {bytes bs : List Byte} (h : field (c.w w) 0 16 ≤ 4096) (k : c.readBuf w bytes.length = .ok bs)
    (f : Device → Device) (d : Device) :
    withOut c w bytes f d = f (if bytes.isEmpty then d else emit (.hostBuffer c.mbx.val c.tag bytes) d) := by
  simp [withOut, k, Nat.not_lt.mpr h]

/-! ### Completions -/

@[simp] theorem queueCompletion_overflow (m : MailboxId) (k : Completion) (d : Device) :
    ((queueCompletion m k d).mb m).overflow = (d.mb m).overflow ++ [k] := by simp [queueCompletion]

@[simp] theorem bump_mb (c : Counter) (i : Nat) (d : Device) (m : MailboxId) : (bump c i d).mb m = d.mb m := rfl
@[simp] theorem bumpBy_mb (c : Counter) (i k : Nat) (d : Device) (m : MailboxId) : (bumpBy c i k d).mb m = d.mb m := rfl
@[simp] theorem modTenant_mb (t : TenantId) (f : Tenant → Tenant) (d : Device) (m : MailboxId) : (modTenant t f d).mb m = d.mb m := rfl
@[simp] theorem emit_mb (o : Output) (d : Device) (m : MailboxId) : (emit o d).mb m = d.mb m := rfl
@[simp] theorem bump_tenant (c : Counter) (i : Nat) (d : Device) (t : TenantId) : (bump c i d).tenant t = d.tenant t := rfl
@[simp] theorem emit_tenant (o : Output) (d : Device) (t : TenantId) : (emit o d).tenant t = d.tenant t := rfl
@[simp] theorem modMbx_tenant (m : MailboxId) (f : Mailbox → Mailbox) (d : Device) (t : TenantId) : (modMbx m f d).tenant t = d.tenant t := rfl

/-- A completion goes to the end of the overflow queue of its command's mailbox. -/
theorem post_overflow (c : Call) (st : Status) (reason : Nat) (result : List Byte) (more : Bool) (d : Device) :
    ∃ k : Completion, ((post c st reason result more d).mb c.mbx).overflow = (d.mb c.mbx).overflow ++ [k] ∧ k.tag = c.tag ∧
      k.status = st ∧ k.reason = reason ∧ k.result = result ∧ k.more = more := by
  unfold post
  extract_lets r kr late d1 d2
  refine ⟨{ tag := c.tag, status := st, reason := reason, more := more, kr := kr, ext := extOf result.length, result := result,
             noInt := c.noInt, w0 := c.words[0] }, ?_, rfl, rfl, rfl, rfl, rfl⟩
  have h1 : d1.mb c.mbx = d.mb c.mbx := by unfold d1; split <;> simp
  have h2 : d2.mb c.mbx = d1.mb c.mbx := by unfold d2; split <;> [skip; split] <;> simp
  first
    | (simp [h2, h1]; done)
    | (rename_i d3; unfold d3; simp [h2, h1])

/-- A final completion answers its command. -/
theorem post_answered (c : Call) (st : Status) (reason : Nat) (result : List Byte) (d : Device) :
    Answered c st reason result (post c st reason result false d) := by
  obtain ⟨k, h, p⟩ := post_overflow c st reason result false d
  exact ⟨k, by rw [h]; simp, p⟩

theorem finish_answered (c : Call) (st : Status) (reason : Nat) (d : Device) : Answered c st reason [] (finish c st reason d) :=
  post_answered c st reason [] d

theorem badParam_answered (c : Call) (reason : Nat) (d : Device) : Answered c .badParam reason [] (badParam c reason d) :=
  finish_answered c .badParam reason d

/-! ### Registers -/

/-- A host access that reaches a register has its effect. -/
theorem hostAccess_reaches {fn : FunctionId} {ide : Bool} {d : Device} (h : Reaches fn ide d) (k : Device → Device) :
    hostAccess fn ide k d = k d := by
  obtain ⟨h1, h2⟩ := h
  rcases h2 with h2 | ⟨h2, h3⟩
  · simp [hostAccess, h1, h2]
  · simp only [hostAccess, h1, h2]
    simp [h3]

end Sys2Proof.Machine
end

