-- ==== Sys2Proof/WellFormed.lean ====
section
/-! DEFINITION. Well-formed commands: an entry that a mailbox carries spells the OPCODE of its row (Table 15-9) and the flag or ACTION
that tells rows of one OPCODE apart, came through a function that shows its mailbox (R592, R598), and its buffer list delivers no more
bytes than it is long (R610); the operands of the other commands have the lengths and ranges that the manual gives them. -/

namespace Sys2Proof

/-- How the entry of a row is told from those of the other rows: its OPCODE, the value of flag bit 8 of W0 where two rows share the
OPCODE, and the value of ACTION, bits 9 and 8 of W1, where four do. -/
structure PostedRow where
  code : Nat
  flag : Option Bool := none
  action : Option Nat := none
  deriving DecidableEq, Repr

/-- The entry spells a row. -/
def Call.spells (c : Call) (r : PostedRow) : Bool :=
  decide ((c.words[0]).toNat % 256 = r.code) && (match r.flag with
    | none => true
    | some b => decide ((c.words[0]).getLsbD 8 = b)) && (match r.action with
    | none => true
    | some a => decide ((c.words[1]).toNat / 256 % 4 = a))

/-- The entry came through a function that shows its mailbox: the physical function shows all nine, the function of tenant t the two of
that tenant (R592, R598). -/
def Call.shown (c : Call) : Bool := decide (c.fn.val = 0 ∨ (c.mbx.val < 8 ∧ c.fn.val = 1 + c.mbx.val / 2))

/-- The bytes that its list delivers fit in it (R610). -/
def Call.fits (c : Call) : Bool := decide (c.data.length ≤ c.room)

/-- A nonce of a challenge has 32 bytes (R721). -/
def SpdmRequest.wf : SpdmRequest → Bool
  | .challenge nonce => decide (nonce.length = 32)
  | .digests | .certificate _ _ | .measurement _ | .ideKeySet _ | .ideKeyStop _ | .other _ => true

/-- A write of mailbox-ring bytes has bytes and stays within BAR2 (R600). -/
def HostWrite.wf : HostWrite → Bool
  | .bar0 _ _ _ => true
  | .bar2 off bytes => decide (bytes ≠ [] ∧ off.val + bytes.length ≤ 262144)

/-- An image header has 4,096 bytes, and a chunk at least one and at most 1 MiB (R695). -/
def ImageMsg.wf : ImageMsg → Bool
  | .header bytes => decide (bytes.length = 4096)
  | .chunk _ bytes _ => decide (bytes ≠ [] ∧ bytes.length ≤ 1048576)
  | .missing _ | .refused => true

/-- The row of a mailbox command and its entry; none for a command that no mailbox carries. -/
def Instr.posted : Instr → Option (PostedRow × Call)
  | .queryIdentity c => some (⟨0x01, none, none⟩, c)
  | .queryStatus c => some (⟨0x02, none, none⟩, c)
  | .readCounters c => some (⟨0x03, none, none⟩, c)
  | .tenantOpen c => some (⟨0x10, none, none⟩, c)
  | .tenantClose c => some (⟨0x11, none, none⟩, c)
  | .tenantShares c => some (⟨0x12, none, none⟩, c)
  | .packageLoad c _ => some (⟨0x20, none, none⟩, c)
  | .packageUnload c => some (⟨0x21, none, none⟩, c)
  | .tensorBind c => some (⟨0x22, some false, none⟩, c)
  | .tensorCreate c => some (⟨0x22, some true, none⟩, c)
  | .tensorRead c => some (⟨0x23, none, none⟩, c)
  | .residencyHint c => some (⟨0x24, none, none⟩, c)
  | .stepRun c => some (⟨0x30, none, none⟩, c)
  | .stepAbort c => some (⟨0x31, none, none⟩, c)
  | .seedSet c => some (⟨0x32, none, none⟩, c)
  | .seedFresh c => some (⟨0x33, none, none⟩, c)
  | .checkpoint c => some (⟨0x34, none, none⟩, c)
  | .restore c => some (⟨0x35, some false, none⟩, c)
  | .restoreDiscard c => some (⟨0x35, some true, none⟩, c)
  | .sampleRow c => some (⟨0x40, none, none⟩, c)
  | .decodeRun c => some (⟨0x41, none, none⟩, c)
  | .specVerify c => some (⟨0x42, none, none⟩, c)
  | .annealLoadModel c => some (⟨0x50, none, none⟩, c)
  | .annealRun c => some (⟨0x51, none, none⟩, c)
  | .annealReadPool c => some (⟨0x52, none, none⟩, c)
  | .spanForm c => some (⟨0x60, none, none⟩, c)
  | .spanLeave c _ => some (⟨0x61, none, none⟩, c)
  | .pairCompareSet c => some (⟨0x62, none, none⟩, c)
  | .configStage c => some (⟨0x70, some false, none⟩, c)
  | .configDiscard c => some (⟨0x70, some true, none⟩, c)
  | .configCommit c => some (⟨0x71, none, none⟩, c)
  | .configRead c => some (⟨0x72, none, none⟩, c)
  | .faultRead c => some (⟨0x80, none, none⟩, c)
  | .faultAck c => some (⟨0x81, none, none⟩, c)
  | .faultForceSet c => some (⟨0x82, none, some 0⟩, c)
  | .faultForceClear c => some (⟨0x82, none, some 1⟩, c)
  | .checkInvertOn c => some (⟨0x82, none, some 2⟩, c)
  | .checkInvertOff c => some (⟨0x82, none, some 3⟩, c)
  | .fenceSite c => some (⟨0x83, none, none⟩, c)
  | .updateBegin c => some (⟨0x90, none, none⟩, c)
  | .updateChunk c => some (⟨0x91, none, none⟩, c)
  | .updateVerify c _ _ => some (⟨0x92, none, none⟩, c)
  | .updateActivate c => some (⟨0x93, none, none⟩, c)
  | .updateConfirm c _ => some (⟨0x94, none, none⟩, c)
  | .updateForward c => some (⟨0x95, none, none⟩, c)
  | .powerPlan c => some (⟨0xA0, none, none⟩, c)
  | .powerProfile c => some (⟨0xA1, none, none⟩, c)
  | .intakeConfigure c => some (⟨0xB0, none, none⟩, c)
  | .intakeStart c => some (⟨0xB1, none, some 0⟩, c)
  | .intakeStop c => some (⟨0xB1, none, some 1⟩, c)
  | .intakeFlush c => some (⟨0xB1, none, some 2⟩, c)
  | .intakeRelease c => some (⟨0xB1, none, some 3⟩, c)
  | .slateRead c => some (⟨0xC0, none, none⟩, c)
  | .replayBegin c => some (⟨0xC1, some false, none⟩, c)
  | .replayContinue c => some (⟨0xC1, some true, none⟩, c)
  | .commandDoorbell _ _ _ _ => none
  | .commandTake _ => none
  | .commandStart _ => none
  | .commandDeadline _ _ => none
  | .completionPost _ => none
  | .msixHoldoffExpiry _ _ => none
  | .cplHeadWrite _ _ _ _ => none
  | .mailboxEnable _ _ _ => none
  | .mailboxDisable _ _ _ => none
  | .mailboxFlush _ _ _ => none
  | .windowSelect _ _ _ _ => none
  | .windowReady _ => none
  | .bar4Read _ _ _ _ => none
  | .bar4Write _ _ _ _ => none
  | .timeNowRead _ _ _ => none
  | .stickyAckWrite _ _ _ _ _ => none
  | .recovClr _ _ _ => none
  | .rwsFieldWrite _ _ _ _ _ => none
  | .registerWrite _ _ _ => none
  | .functionLevelReset _ => none
  | .perstAssert => none
  | .spdmRequest _ => none
  | .i3cMessage _ => none
  | .debugNonceRequest => none
  | .debugUnlock _ => none
  | .powerOn _ _ _ => none
  | .powerLoss _ => none
  | .resetLAssert _ => none
  | .resetLRelease _ _ => none
  | .stage1Start _ => none
  | .mainFirmwareStart _ _ => none
  | .startComplete => none
  | .kettleRestartComplete => none
  | .refclkLoss _ => none
  | .refclkReturn _ => none
  | .holdoverExpiry => none
  | .pllLock => none
  | .frameSyncEdge _ => none
  | .timePpsEdge _ => none
  | .timeLockAcquired => none
  | .timeLock => none
  | .rtcUpdate => none
  | .errpinReadback _ _ => none
  | .pairMinAssertExpiry => none
  | .backupAlarmCheck _ _ _ => none
  | .csiFrameStart _ _ _ => none
  | .csiLongPacket _ _ _ _ _ _ _ => none
  | .csiFrameEnd _ _ _ => none
  | .avtpPdu _ _ _ _ _ _ _ => none
  | .udpDatagram _ _ _ _ _ _ _ => none
  | .gptpMessage _ _ _ => none
  | .frameLanded _ _ => none
  | .frameTimeout _ => none
  | .frameRelease _ => none
  | .intakeLink _ _ => none
  | .stepBoundary _ => none
  | .syncOutCadencePulse => none
  | .syncOutPulseEnd => none
  | .stepStart _ => none
  | .scalarInstruction _ _ _ => none
  | .tensorPass _ _ => none
  | .vectorConversion _ _ => none
  | .vectorFp32Arithmetic _ _ _ => none
  | .vectorMinMax _ _ _ => none
  | .horizontalSum _ _ => none
  | .dotProduct _ _ => none
  | .exp2 _ _ => none
  | .naturalExponential _ _ => none
  | .moments _ _ _ _ _ _ => none
  | .randBits64 _ _ _ => none
  | .randBits32 _ _ _ => none
  | .randUniform _ _ _ => none
  | .randBernoulli _ _ _ _ => none
  | .drawUnitRow _ _ _ => none
  | .steepColour _ _ _ _ _ _ => none
  | .steepEnergy _ _ => none
  | .steepExchange _ _ _ _ _ _ => none
  | .slotPost _ _ => none
  | .slotWait _ _ => none
  | .unitCompletionWait _ _ => none
  | .endStep _ => none
  | .phaseEnd _ _ _ => none
  | .endOfStepSequence _ _ _ _ => none
  | .slateRecordCommit => none
  | .signRecord => none
  | .slateDrain => none
  | .mirrorCopy _ => none
  | .stepRerun _ => none
  | .unplannedLossRecovery _ _ _ => none
  | .plannedMove => none
  | .epochBuildComplete _ _ _ _ _ => none
  | .epochLoaded => none
  | .commitTimeout _ _ => none
  | .migrationSwitch _ _ _ => none
  | .migrationAbandon _ _ _ => none
  | .readmissionTest _ => none
  | .readmissionTestDone _ _ _ _ => none
  | .scrubAccess _ _ => none
  | .spadUncorr _ => none
  | .tileCoreFault _ => none
  | .collarFault _ => none
  | .meshUncorr _ _ _ => none
  | .reductionOperandArrival _ _ _ _ _ _ _ => none
  | .frameGateOpen _ _ _ _ _ _ _ _ => none
  | .frameHold _ _ => none
  | .ringTransfer _ _ _ _ _ _ _ _ => none
  | .eaveSegment _ _ => none
  | .tierRead _ _ _ => none
  | .tierRecovered _ _ => none
  | .patrolScrub _ _ _ _ _ => none
  | .retentionRead _ _ _ => none
  | .retirementCopy _ _ _ => none
  | .retirementLockTimeout _ _ _ _ => none
  | .tierStackLost _ _ _ => none
  | .trngBlock _ _ _ => none
  | .drbgReseed => none
  | .drbgKat _ => none
  | .seedFreshStartupTimeout => none
  | .seedFreshTimeout _ _ => none
  | .rowAdmission _ _ _ _ _ _ _ _ _ => none
  | .candidateBlock _ _ _ _ _ => none
  | .strainerTimeout _ _ _ _ => none
  | .strainerFault _ => none
  | .annealSweep _ _ _ _ _ _ => none
  | .presenceDetect _ _ => none
  | .trainingComplete _ _ _ _ _ _ => none
  | .warmTrainingTimeout _ => none
  | .coldTrainingTimeout _ => none
  | .flitReceived _ _ _ _ => none
  | .nak _ _ => none
  | .nakRepeat _ => none
  | .laneSwapReq _ _ _ => none
  | .laneSwapDone _ _ _ => none
  | .laneAck _ _ _ _ => none
  | .retrainReq _ _ _ => none
  | .linkMessageRepeat _ => none
  | .laneFailure _ _ => none
  | .laneSwapTakeover _ => none
  | .slotData _ _ _ _ _ _ => none
  | .reduceOperand _ _ _ _ _ _ _ _ _ _ => none
  | .reduceResult _ _ _ _ _ _ _ _ => none
  | .poolCandidate _ _ _ _ => none
  | .stateMove _ _ _ _ _ => none
  | .spanHello _ _ => none
  | .spanCommit _ => none
  | .spanHeartbeat _ _ _ _ _ => none
  | .heartbeatSend => none
  | .spanExpel => none
  | .formTimeout => none
  | .spanMemberLost _ => none
  | .pairDigest _ _ _ => none
  | .pairProbe _ _ _ _ _ => none
  | .pairWaitTimeout _ => none
  | .imageChunk _ _ => none
  | .timeSync _ => none
  | .arrive _ _ _ _ => none
  | .arriveRepeat _ => none
  | .release _ _ _ _ => none
  | .releaseCopy _ _ _ _ => none
  | .barrierLocalRelease _ _ => none
  | .abort _ _ _ _ => none
  | .barrierTimeout _ => none
  | .echo _ _ _ _ => none
  | .echoReply _ _ _ _ _ => none
  | .echoMeasurement => none
  | .faultEvent _ _ => none
  | .blockResetComplete _ => none
  | .gutterModuleReset => none
  | .shadowWindowClose => none
  | .quietPeriodExpiry _ => none
  | .forcedRelease _ _ => none
  | .kettleWdt => none
  | .kettleLockstep => none
  | .selftestDue _ => none
  | .selftestComplete _ => none
  | .selftestPreemption _ => none
  | .selftestOverdue _ => none
  | .caddyCompaction _ => none
  | .idlePeriodStart _ => none
  | .plannedWakeStart => none
  | .wakeTrigger _ => none
  | .wakeComplete _ => none
  | .planTimePassed => none
  | .thermalSample _ _ => none
  | .throttleRise => none
  | .throttleFall => none
  | .powerEstimate _ => none
  | .divisorChange => none
  | .vrmPhase _ => none
  | .vrmOvercurrent _ => none
  | .thermalTrip _ => none
  | .perstLRelease => none
  | .pcieLink _ => none
  | .pcieLinkUp => none
  | .kettleSramUncorr => none
  | .purlinErr _ _ => none
  | .mbxEngine => none
  | .vbatLow _ => none
  | .backupDomainPowerLoss => none
  | .intakeLinkRestored _ _ => none
  | .spareDeskew _ => none
  | .stateEntryComplete => none
  | .tier3BlockErase _ _ _ => none
  | .tier3ScanComplete => none
  | .ethFrameDiscard _ => none

/-- The operands of a command that no mailbox carries have the lengths and ranges that the manual gives them. -/
def Instr.operandsOk : Instr → Bool
  | .queryIdentity _ => true
  | .queryStatus _ => true
  | .readCounters _ => true
  | .tenantOpen _ => true
  | .tenantClose _ => true
  | .tenantShares _ => true
  | .packageLoad _ _ => true
  | .packageUnload _ => true
  | .tensorBind _ => true
  | .tensorCreate _ => true
  | .tensorRead _ => true
  | .residencyHint _ => true
  | .stepRun _ => true
  | .stepAbort _ => true
  | .seedSet _ => true
  | .seedFresh _ => true
  | .checkpoint _ => true
  | .restore _ => true
  | .restoreDiscard _ => true
  | .sampleRow _ => true
  | .decodeRun _ => true
  | .specVerify _ => true
  | .annealLoadModel _ => true
  | .annealRun _ => true
  | .annealReadPool _ => true
  | .spanForm _ => true
  | .spanLeave _ _ => true
  | .pairCompareSet _ => true
  | .configStage _ => true
  | .configDiscard _ => true
  | .configCommit _ => true
  | .configRead _ => true
  | .faultRead _ => true
  | .faultAck _ => true
  | .faultForceSet _ => true
  | .faultForceClear _ => true
  | .checkInvertOn _ => true
  | .checkInvertOff _ => true
  | .fenceSite _ => true
  | .updateBegin _ => true
  | .updateChunk _ => true
  | .updateVerify _ _ _ => true
  | .updateActivate _ => true
  | .updateConfirm _ _ => true
  | .updateForward _ => true
  | .powerPlan _ => true
  | .powerProfile _ => true
  | .intakeConfigure _ => true
  | .intakeStart _ => true
  | .intakeStop _ => true
  | .intakeFlush _ => true
  | .intakeRelease _ => true
  | .slateRead _ => true
  | .replayBegin _ => true
  | .replayContinue _ => true
  | .commandDoorbell _ _ _ _ => true
  | .commandTake _ => true
  | .commandStart _ => true
  | .commandDeadline _ _ => true
  | .completionPost _ => true
  | .msixHoldoffExpiry _ _ => true
  | .cplHeadWrite _ _ _ _ => true
  | .mailboxEnable _ _ _ => true
  | .mailboxDisable _ _ _ => true
  | .mailboxFlush _ _ _ => true
  | .windowSelect _ _ _ _ => true
  | .windowReady _ => true
  | .bar4Read _ _ n _ => decide (1 ≤ n)
  | .bar4Write _ _ bs _ => decide (bs ≠ [])
  | .timeNowRead _ _ _ => true
  | .stickyAckWrite _ _ _ _ _ => true
  | .recovClr _ _ _ => true
  | .rwsFieldWrite _ _ _ _ _ => true
  | .registerWrite _ w _ => w.wf
  | .functionLevelReset _ => true
  | .perstAssert => true
  | .spdmRequest r => r.wf
  | .i3cMessage _ => true
  | .debugNonceRequest => true
  | .debugUnlock signature => decide (signature.length = 96)
  | .powerOn _ _ _ => true
  | .powerLoss _ => true
  | .resetLAssert _ => true
  | .resetLRelease _ _ => true
  | .stage1Start _ => true
  | .mainFirmwareStart _ _ => true
  | .startComplete => true
  | .kettleRestartComplete => true
  | .refclkLoss _ => true
  | .refclkReturn _ => true
  | .holdoverExpiry => true
  | .pllLock => true
  | .frameSyncEdge _ => true
  | .timePpsEdge _ => true
  | .timeLockAcquired => true
  | .timeLock => true
  | .rtcUpdate => true
  | .errpinReadback _ _ => true
  | .pairMinAssertExpiry => true
  | .backupAlarmCheck _ _ _ => true
  | .csiFrameStart _ _ _ => true
  | .csiLongPacket _ _ _ payload _ _ _ => decide (payload.length ≤ 65535)
  | .csiFrameEnd _ _ _ => true
  | .avtpPdu _ _ _ _ _ _ _ => true
  | .udpDatagram _ v6 addr _ payload _ _ => decide (payload.length ≤ 65527) && (v6 || decide (addr.toNat < 2 ^ 32))
  | .gptpMessage _ _ _ => true
  | .frameLanded _ _ => true
  | .frameTimeout _ => true
  | .frameRelease _ => true
  | .intakeLink _ _ => true
  | .stepBoundary _ => true
  | .syncOutCadencePulse => true
  | .syncOutPulseEnd => true
  | .stepStart _ => true
  | .scalarInstruction _ _ _ => true
  | .tensorPass _ _ => true
  | .vectorConversion _ _ => true
  | .vectorFp32Arithmetic _ _ _ => true
  | .vectorMinMax _ _ _ => true
  | .horizontalSum _ _ => true
  | .dotProduct _ _ => true
  | .exp2 _ _ => true
  | .naturalExponential _ _ => true
  | .moments _ _ _ _ _ _ => true
  | .randBits64 _ _ _ => true
  | .randBits32 _ _ _ => true
  | .randUniform _ _ _ => true
  | .randBernoulli _ _ _ _ => true
  | .drawUnitRow _ _ _ => true
  | .steepColour _ _ _ _ _ _ => true
  | .steepEnergy _ _ => true
  | .steepExchange _ _ _ _ _ _ => true
  | .slotPost _ _ => true
  | .slotWait _ _ => true
  | .unitCompletionWait _ _ => true
  | .endStep _ => true
  | .phaseEnd _ _ _ => true
  | .endOfStepSequence _ _ _ _ => true
  | .slateRecordCommit => true
  | .signRecord => true
  | .slateDrain => true
  | .mirrorCopy _ => true
  | .stepRerun _ => true
  | .unplannedLossRecovery _ _ _ => true
  | .plannedMove => true
  | .epochBuildComplete collars segments links _ _ => decide ((∀ x ∈ collars, x < 9600) ∧ (∀ x ∈ segments, x < 16) ∧ ∀ x ∈ links, x < 19200)
  | .epochLoaded => true
  | .commitTimeout _ _ => true
  | .migrationSwitch _ _ _ => true
  | .migrationAbandon _ _ _ => true
  | .readmissionTest _ => true
  | .readmissionTestDone _ _ _ _ => true
  | .scrubAccess _ _ => true
  | .spadUncorr _ => true
  | .tileCoreFault _ => true
  | .collarFault _ => true
  | .meshUncorr _ _ _ => true
  | .reductionOperandArrival _ _ _ _ _ _ _ => true
  | .frameGateOpen _ _ _ _ _ _ _ _ => true
  | .frameHold _ _ => true
  | .ringTransfer _ _ _ _ _ _ _ _ => true
  | .eaveSegment _ _ => true
  | .tierRead _ _ _ => true
  | .tierRecovered _ _ => true
  | .patrolScrub _ _ _ _ _ => true
  | .retentionRead _ _ _ => true
  | .retirementCopy _ _ _ => true
  | .retirementLockTimeout _ _ _ _ => true
  | .tierStackLost _ _ _ => true
  | .trngBlock _ _ _ => true
  | .drbgReseed => true
  | .drbgKat _ => true
  | .seedFreshStartupTimeout => true
  | .seedFreshTimeout _ _ => true
  | .rowAdmission _ _ _ _ _ _ _ _ _ => true
  | .candidateBlock _ _ _ _ _ => true
  | .strainerTimeout _ _ _ _ => true
  | .strainerFault _ => true
  | .annealSweep _ _ _ _ _ _ => true
  | .presenceDetect _ _ => true
  | .trainingComplete _ _ _ _ _ _ => true
  | .warmTrainingTimeout _ => true
  | .coldTrainingTimeout _ => true
  | .flitReceived _ bytes _ _ => decide (bytes.length = 256)
  | .nak _ _ => true
  | .nakRepeat _ => true
  | .laneSwapReq _ _ _ => true
  | .laneSwapDone _ _ _ => true
  | .laneAck _ kind _ _ => decide (kind = 2 ∨ kind = 3)
  | .retrainReq _ _ _ => true
  | .linkMessageRepeat _ => true
  | .laneFailure _ _ => true
  | .laneSwapTakeover _ => true
  | .slotData _ _ _ _ _ _ => true
  | .reduceOperand _ _ _ _ _ _ _ _ _ _ => true
  | .reduceResult _ _ _ _ _ _ _ _ => true
  | .poolCandidate _ _ _ _ => true
  | .stateMove _ _ _ _ _ => true
  | .spanHello _ h => decide (h.indices ≠ 0)
  | .spanCommit _ => true
  | .spanHeartbeat _ _ _ _ _ => true
  | .heartbeatSend => true
  | .spanExpel => true
  | .formTimeout => true
  | .spanMemberLost _ => true
  | .pairDigest _ _ _ => true
  | .pairProbe _ _ _ _ _ => true
  | .pairWaitTimeout _ => true
  | .imageChunk _ m => m.wf
  | .timeSync _ => true
  | .arrive _ _ _ _ => true
  | .arriveRepeat _ => true
  | .release _ _ _ _ => true
  | .releaseCopy _ _ _ _ => true
  | .barrierLocalRelease _ _ => true
  | .abort _ _ _ _ => true
  | .barrierTimeout _ => true
  | .echo _ _ _ _ => true
  | .echoReply _ _ _ _ _ => true
  | .echoMeasurement => true
  | .faultEvent reports _ => decide (∀ r ∈ reports, r.insts ≠ [])
  | .blockResetComplete _ => true
  | .gutterModuleReset => true
  | .shadowWindowClose => true
  | .quietPeriodExpiry _ => true
  | .forcedRelease _ _ => true
  | .kettleWdt => true
  | .kettleLockstep => true
  | .selftestDue _ => true
  | .selftestComplete _ => true
  | .selftestPreemption _ => true
  | .selftestOverdue _ => true
  | .caddyCompaction _ => true
  | .idlePeriodStart _ => true
  | .plannedWakeStart => true
  | .wakeTrigger _ => true
  | .wakeComplete _ => true
  | .planTimePassed => true
  | .thermalSample _ _ => true
  | .throttleRise => true
  | .throttleFall => true
  | .powerEstimate _ => true
  | .divisorChange => true
  | .vrmPhase _ => true
  | .vrmOvercurrent _ => true
  | .thermalTrip _ => true
  | .perstLRelease => true
  | .pcieLink _ => true
  | .pcieLinkUp => true
  | .kettleSramUncorr => true
  | .purlinErr _ _ => true
  | .mbxEngine => true
  | .vbatLow _ => true
  | .backupDomainPowerLoss => true
  | .intakeLinkRestored _ _ => true
  | .spareDeskew _ => true
  | .stateEntryComplete => true
  | .tier3BlockErase _ _ _ => true
  | .tier3ScanComplete => true
  | .ethFrameDiscard _ => true

/-- A well-formed command. -/
def Instr.wf (i : Instr) : Bool :=
  (match i.posted with
    | none => true
    | some (r, c) => c.spells r && c.shown && c.fits) && i.operandsOk

end Sys2Proof
end

