-- ==== Sys2Proof/Laws/PerInstr.lean ====
section
/-! SUPPORT. What well-formedness says of every command, row by row: a mailbox command spells its row, on a mailbox that its function
shows. -/

namespace Sys2Proof.Laws.Posted

/-- A well-formed command that a mailbox carries spells the OPCODE of its row, with its flag or ACTION, came through a function that
shows its mailbox, and its list delivers no more bytes than it is long. -/
def Statement (i : Instr) : Prop :=
  i.wf = true → ∀ r c, i.posted = some (r, c) → c.spells r = true ∧ c.shown = true ∧ c.fits = true

theorem of_any (i : Instr) : Statement i := by
  intro h r c hp
  simp only [Instr.wf, hp, Bool.and_eq_true] at h
  exact ⟨h.1.1.1, h.1.1.2, h.1.2⟩

theorem queryIdentity (c : Call) : Statement (.queryIdentity c) := of_any _
theorem queryStatus (c : Call) : Statement (.queryStatus c) := of_any _
theorem readCounters (c : Call) : Statement (.readCounters c) := of_any _
theorem tenantOpen (c : Call) : Statement (.tenantOpen c) := of_any _
theorem tenantClose (c : Call) : Statement (.tenantClose c) := of_any _
theorem tenantShares (c : Call) : Statement (.tenantShares c) := of_any _
theorem packageLoad (c : Call) (p : PackageDecl) : Statement (.packageLoad c p) := of_any _
theorem packageUnload (c : Call) : Statement (.packageUnload c) := of_any _
theorem tensorBind (c : Call) : Statement (.tensorBind c) := of_any _
theorem tensorCreate (c : Call) : Statement (.tensorCreate c) := of_any _
theorem tensorRead (c : Call) : Statement (.tensorRead c) := of_any _
theorem residencyHint (c : Call) : Statement (.residencyHint c) := of_any _
theorem stepRun (c : Call) : Statement (.stepRun c) := of_any _
theorem stepAbort (c : Call) : Statement (.stepAbort c) := of_any _
theorem seedSet (c : Call) : Statement (.seedSet c) := of_any _
theorem seedFresh (c : Call) : Statement (.seedFresh c) := of_any _
theorem checkpoint (c : Call) : Statement (.checkpoint c) := of_any _
theorem restore (c : Call) : Statement (.restore c) := of_any _
theorem restoreDiscard (c : Call) : Statement (.restoreDiscard c) := of_any _
theorem sampleRow (c : Call) : Statement (.sampleRow c) := of_any _
theorem decodeRun (c : Call) : Statement (.decodeRun c) := of_any _
theorem specVerify (c : Call) : Statement (.specVerify c) := of_any _
theorem annealLoadModel (c : Call) : Statement (.annealLoadModel c) := of_any _
theorem annealRun (c : Call) : Statement (.annealRun c) := of_any _
theorem annealReadPool (c : Call) : Statement (.annealReadPool c) := of_any _
theorem spanForm (c : Call) : Statement (.spanForm c) := of_any _
theorem spanLeave (c : Call) (able : Bool) : Statement (.spanLeave c able) := of_any _
theorem pairCompareSet (c : Call) : Statement (.pairCompareSet c) := of_any _
theorem configStage (c : Call) : Statement (.configStage c) := of_any _
theorem configDiscard (c : Call) : Statement (.configDiscard c) := of_any _
theorem configCommit (c : Call) : Statement (.configCommit c) := of_any _
theorem configRead (c : Call) : Statement (.configRead c) := of_any _
theorem faultRead (c : Call) : Statement (.faultRead c) := of_any _
theorem faultAck (c : Call) : Statement (.faultAck c) := of_any _
theorem faultForceSet (c : Call) : Statement (.faultForceSet c) := of_any _
theorem faultForceClear (c : Call) : Statement (.faultForceClear c) := of_any _
theorem checkInvertOn (c : Call) : Statement (.checkInvertOn c) := of_any _
theorem checkInvertOff (c : Call) : Statement (.checkInvertOff c) := of_any _
theorem fenceSite (c : Call) : Statement (.fenceSite c) := of_any _
theorem updateBegin (c : Call) : Statement (.updateBegin c) := of_any _
theorem updateChunk (c : Call) : Statement (.updateChunk c) := of_any _
theorem updateVerify (c : Call) (damaged : List Nat) (steps : Fin 8) : Statement (.updateVerify c damaged steps) := of_any _
theorem updateActivate (c : Call) : Statement (.updateActivate c) := of_any _
theorem updateConfirm (c : Call) (steps : Fin 6) : Statement (.updateConfirm c steps) := of_any _
theorem updateForward (c : Call) : Statement (.updateForward c) := of_any _
theorem powerPlan (c : Call) : Statement (.powerPlan c) := of_any _
theorem powerProfile (c : Call) : Statement (.powerProfile c) := of_any _
theorem intakeConfigure (c : Call) : Statement (.intakeConfigure c) := of_any _
theorem intakeStart (c : Call) : Statement (.intakeStart c) := of_any _
theorem intakeStop (c : Call) : Statement (.intakeStop c) := of_any _
theorem intakeFlush (c : Call) : Statement (.intakeFlush c) := of_any _
theorem intakeRelease (c : Call) : Statement (.intakeRelease c) := of_any _
theorem slateRead (c : Call) : Statement (.slateRead c) := of_any _
theorem replayBegin (c : Call) : Statement (.replayBegin c) := of_any _
theorem replayContinue (c : Call) : Statement (.replayContinue c) := of_any _
theorem commandDoorbell (m : MailboxId) (fn : FunctionId) (value : W64) (ide : Bool) : Statement (.commandDoorbell m fn value ide) := of_any _
theorem commandTake (m : MailboxId) : Statement (.commandTake m) := of_any _
theorem commandStart (m : MailboxId) : Statement (.commandStart m) := of_any _
theorem commandDeadline (m : MailboxId) (tag : W32) : Statement (.commandDeadline m tag) := of_any _
theorem completionPost (m : MailboxId) : Statement (.completionPost m) := of_any _
theorem msixHoldoffExpiry (fn : FunctionId) (vec : Fin 16) : Statement (.msixHoldoffExpiry fn vec) := of_any _
theorem cplHeadWrite (m : MailboxId) (fn : FunctionId) (value : W64) (ide : Bool) : Statement (.cplHeadWrite m fn value ide) := of_any _
theorem mailboxEnable (m : MailboxId) (fn : FunctionId) (ide : Bool) : Statement (.mailboxEnable m fn ide) := of_any _
theorem mailboxDisable (m : MailboxId) (fn : FunctionId) (ide : Bool) : Statement (.mailboxDisable m fn ide) := of_any _
theorem mailboxFlush (m : MailboxId) (fn : FunctionId) (ide : Bool) : Statement (.mailboxFlush m fn ide) := of_any _
theorem windowSelect (fn : FunctionId) (reg : Fin 3) (value : W64) (ide : Bool) : Statement (.windowSelect fn reg value ide) := of_any _
theorem windowReady (fn : FunctionId) : Statement (.windowReady fn) := of_any _
theorem bar4Read (fn : FunctionId) (off : BitVec 32) (n : Nat) (ide : Bool) : Statement (.bar4Read fn off n ide) := of_any _
theorem bar4Write (fn : FunctionId) (off : BitVec 32) (bs : List Byte) (ide : Bool) : Statement (.bar4Write fn off bs ide) := of_any _
theorem timeNowRead (fn : FunctionId) (part : RegPart) (ide : Bool) : Statement (.timeNowRead fn part ide) := of_any _
theorem stickyAckWrite (fn : FunctionId) (hi : Bool) (part : RegPart) (value : W64) (ide : Bool) : Statement (.stickyAckWrite fn hi part value ide) := of_any _
theorem recovClr (fn : FunctionId) (cls : ClassId) (ide : Bool) : Statement (.recovClr fn cls ide) := of_any _
theorem rwsFieldWrite (fn : FunctionId) (reg : Fin 8192) (part : RegPart) (value : W64) (ide : Bool) : Statement (.rwsFieldWrite fn reg part value ide) := of_any _
theorem registerWrite (fn : FunctionId) (w : HostWrite) (ide : Bool) : Statement (.registerWrite fn w ide) := of_any _
theorem functionLevelReset (fn : FunctionId) : Statement (.functionLevelReset fn) := of_any _
theorem perstAssert : Statement (.perstAssert) := of_any _
theorem spdmRequest (r : SpdmRequest) : Statement (.spdmRequest r) := of_any _
theorem i3cMessage (r : I3cRequest) : Statement (.i3cMessage r) := of_any _
theorem debugNonceRequest : Statement (.debugNonceRequest) := of_any _
theorem debugUnlock (signature : List Byte) : Statement (.debugUnlock signature) := of_any _
theorem powerOn (off : Nat) (resetL : Bool) (recovery : Readings) : Statement (.powerOn off resetL recovery) := of_any _
theorem powerLoss (slateTorn : Bool) : Statement (.powerLoss slateTorn) := of_any _
theorem resetLAssert (lowNs : Nat) : Statement (.resetLAssert lowNs) := of_any _
theorem resetLRelease (highNs : Nat) (recovery : Readings) : Statement (.resetLRelease highNs recovery) := of_any _
theorem stage1Start (f : StartupFindings) : Statement (.stage1Start f) := of_any _
theorem mainFirmwareStart (torn : Nat) (authFails : Nat) : Statement (.mainFirmwareStart torn authFails) := of_any _
theorem startComplete : Statement (.startComplete) := of_any _
theorem kettleRestartComplete : Statement (.kettleRestartComplete) := of_any _
theorem refclkLoss (at_ : Nat) : Statement (.refclkLoss at_) := of_any _
theorem refclkReturn (at_ : Nat) : Statement (.refclkReturn at_) := of_any _
theorem holdoverExpiry : Statement (.holdoverExpiry) := of_any _
theorem pllLock : Statement (.pllLock) := of_any _
theorem frameSyncEdge (at_ : Nat) : Statement (.frameSyncEdge at_) := of_any _
theorem timePpsEdge (at_ : Nat) : Statement (.timePpsEdge at_) := of_any _
theorem timeLockAcquired : Statement (.timeLockAcquired) := of_any _
theorem timeLock : Statement (.timeLock) := of_any _
theorem rtcUpdate : Statement (.rtcUpdate) := of_any _
theorem errpinReadback (p : Option Bool) (n : Option Bool) : Statement (.errpinReadback p n) := of_any _
theorem pairMinAssertExpiry : Statement (.pairMinAssertExpiry) := of_any _
theorem backupAlarmCheck (temp : Int) (cell : Nat) (stopped : Nat) : Statement (.backupAlarmCheck temp cell stopped) := of_any _
theorem csiFrameStart (port : Fin 16) (vc : Fin 16) (at_ : Nat) : Statement (.csiFrameStart port vc at_) := of_any _
theorem csiLongPacket (port : Fin 16) (vc : Fin 16) (dt : Fin 64) (payload : List Byte) (err : Bool) (fifo : Nat) (at_ : Nat) : Statement (.csiLongPacket port vc dt payload err fifo at_) := of_any _
theorem csiFrameEnd (port : Fin 16) (vc : Fin 16) (at_ : Nat) : Statement (.csiFrameEnd port vc at_) := of_any _
theorem avtpPdu (port : Fin 4) (stream : W64) (seq : BitVec 8) (payload : List Byte) (m : Bool) (fifo : Nat) (at_ : Nat) : Statement (.avtpPdu port stream seq payload m fifo at_) := of_any _
theorem udpDatagram (port : Fin 4) (v6 : Bool) (addr : BitVec 128) (dport : BitVec 16) (payload : List Byte) (fifo : Nat) (at_ : Nat) : Statement (.udpDatagram port v6 addr dport payload fifo at_) := of_any _
theorem gptpMessage (port : Fin 4) (offset : Int) (at_ : Nat) : Statement (.gptpMessage port offset at_) := of_any _
theorem frameLanded (c : ContextId) (at_ : Nat) : Statement (.frameLanded c at_) := of_any _
theorem frameTimeout (c : ContextId) : Statement (.frameTimeout c) := of_any _
theorem frameRelease (c : ContextId) : Statement (.frameRelease c) := of_any _
theorem intakeLink (csi : Bool) (port : Fin 16) : Statement (.intakeLink csi port) := of_any _
theorem stepBoundary (t : TenantId) : Statement (.stepBoundary t) := of_any _
theorem syncOutCadencePulse : Statement (.syncOutCadencePulse) := of_any _
theorem syncOutPulseEnd : Statement (.syncOutPulseEnd) := of_any _
theorem stepStart (t : TenantId) : Statement (.stepStart t) := of_any _
theorem scalarInstruction (v : VtileRef) (len : Nat) (op : ScalarOp) : Statement (.scalarInstruction v len op) := of_any _
theorem tensorPass (v : VtileRef) (p : Pass) : Statement (.tensorPass v p) := of_any _
theorem vectorConversion (v : VtileRef) (op : ConvOp) : Statement (.vectorConversion v op) := of_any _
theorem vectorFp32Arithmetic (v : VtileRef) (op : FpOp) (xs : List (W32 × W32 × W32)) : Statement (.vectorFp32Arithmetic v op xs) := of_any _
theorem vectorMinMax (v : VtileRef) (op : MinMaxOp) (xs : List (W32 × W32)) : Statement (.vectorMinMax v op xs) := of_any _
theorem horizontalSum (v : VtileRef) (xs : List W32) : Statement (.horizontalSum v xs) := of_any _
theorem dotProduct (v : VtileRef) (xs : List (W32 × W32)) : Statement (.dotProduct v xs) := of_any _
theorem exp2 (v : VtileRef) (xs : List W32) : Statement (.exp2 v xs) := of_any _
theorem naturalExponential (v : VtileRef) (xs : List W32) : Statement (.naturalExponential v xs) := of_any _
theorem moments (v : VtileRef) (fmt : NumFmt) (scales : List Nat) (codes : List Nat) (e : BitVec 8) (req : MomentsReq) : Statement (.moments v fmt scales codes e req) := of_any _
theorem randBits64 (v : VtileRef) (n : Nat) (origin : Origin) : Statement (.randBits64 v n origin) := of_any _
theorem randBits32 (v : VtileRef) (n : Nat) (origin : Origin) : Statement (.randBits32 v n origin) := of_any _
theorem randUniform (v : VtileRef) (n : Nat) (origin : Origin) : Statement (.randUniform v n origin) := of_any _
theorem randBernoulli (v : VtileRef) (n : Nat) (origin : Origin) (threshold : W32) : Statement (.randBernoulli v n origin threshold) := of_any _
theorem drawUnitRow (v : VtileRef) (invT : W32) (scores : List W32) : Statement (.drawUnitRow v invT scores) := of_any _
theorem steepColour (v : VtileRef) (area : Nat) (colour : Fin 8) (metropolis : Bool) (beta : W32) (wait : Nat) : Statement (.steepColour v area colour metropolis beta wait) := of_any _
theorem steepEnergy (v : VtileRef) (area : Nat) : Statement (.steepEnergy v area) := of_any _
theorem steepExchange (area : Nat) (round : Nat) (heads : List VtileRef) (positions : List Nat) (betas : List W32) (energies : List Int) : Statement (.steepExchange area round heads positions betas energies) := of_any _
theorem slotPost (v : VtileRef) (slot : Nat) : Statement (.slotPost v slot) := of_any _
theorem slotWait (v : VtileRef) (slot : Nat) : Statement (.slotWait v slot) := of_any _
theorem unitCompletionWait (v : VtileRef) (u : QueueUnit) : Statement (.unitCompletionWait v u) := of_any _
theorem endStep (v : VtileRef) : Statement (.endStep v) := of_any _
theorem phaseEnd (t : TenantId) (cycles : Nat) (far : List (List Byte)) : Statement (.phaseEnd t cycles far) := of_any _
theorem endOfStepSequence (t : TenantId) (cycles : Nat) (far : List (List Byte)) (peerInvalid : Bool) : Statement (.endOfStepSequence t cycles far peerInvalid) := of_any _
theorem slateRecordCommit : Statement (.slateRecordCommit) := of_any _
theorem signRecord : Statement (.signRecord) := of_any _
theorem slateDrain : Statement (.slateDrain) := of_any _
theorem mirrorCopy (v : VtileRef) : Statement (.mirrorCopy v) := of_any _
theorem stepRerun (t : TenantId) : Statement (.stepRerun t) := of_any _
theorem unplannedLossRecovery (t : TenantId) (regen : List (List (List Byte))) (areas : List (VtileRef × List Byte)) : Statement (.unplannedLossRecovery t regen areas) := of_any _
theorem plannedMove : Statement (.plannedMove) := of_any _
theorem epochBuildComplete (collars : List Nat) (segments : List Nat) (links : List Nat) (spill : Nat) (fits : Bool) : Statement (.epochBuildComplete collars segments links spill fits) := of_any _
theorem epochLoaded : Statement (.epochLoaded) := of_any _
theorem commitTimeout (m : MailboxId) (tag : W32) : Statement (.commitTimeout m tag) := of_any _
theorem migrationSwitch (t : TenantId) (tensor : Nat) (index : Nat) : Statement (.migrationSwitch t tensor index) := of_any _
theorem migrationAbandon (t : TenantId) (tensor : Nat) (index : Nat) : Statement (.migrationAbandon t tensor index) := of_any _
theorem readmissionTest (site : SiteId) : Statement (.readmissionTest site) := of_any _
theorem readmissionTestDone (site : SiteId) (tileOk : Bool) (lanes : List LaneAnswer) (stopped : Bool) : Statement (.readmissionTestDone site tileOk lanes stopped) := of_any _
theorem scrubAccess (site : SiteId) (r : ScrubResult) : Statement (.scrubAccess site r) := of_any _
theorem spadUncorr (v : VtileId) : Statement (.spadUncorr v) := of_any _
theorem tileCoreFault (site : SiteId) : Statement (.tileCoreFault site) := of_any _
theorem collarFault (site : SiteId) : Statement (.collarFault site) := of_any _
theorem meshUncorr (link : Fin 19200) (dir : Fin 2) (t : TenantId) : Statement (.meshUncorr link dir t) := of_any _
theorem reductionOperandArrival (t : TenantId) (red : Nat) (kind : ReduceKind) (path : List Nat) (values : List Int) (v : VtileRef) (addr : Nat) : Statement (.reductionOperandArrival t red kind path values v addr) := of_any _
theorem frameGateOpen (t : TenantId) (needs : List (VtileRef × Nat)) (c1 : Int) (c2 : Int) (c3 : Int) (c4 : Int) (moves : List SlotMove) (corrected : List Nat) : Statement (.frameGateOpen t needs c1 c2 c3 c4 moves corrected) := of_any _
theorem frameHold (t : TenantId) (unmet : Option (Fin 4)) : Statement (.frameHold t unmet) := of_any _
theorem ringTransfer (t : TenantId) (others : List TenantId) (src : RingPlace) (dst : RingPlace) (bytes : Nat) (corrected : Nat) (bad : Option (Fin 16)) (chain : Nat) : Statement (.ringTransfer t others src dst bytes corrected bad chain) := of_any _
theorem eaveSegment (k : Fin 16) (inFlight : List TenantId) : Statement (.eaveSegment k inFlight) := of_any _
theorem tierRead (o : TensorAt) (others : List TenantId) (a : TierAccess) : Statement (.tierRead o others a) := of_any _
theorem tierRecovered (dev : TierDev) (addr : Nat) : Statement (.tierRecovered dev addr) := of_any _
theorem patrolScrub (dev : TierDev) (addr : Nat) (row : Nat) (own : Option TensorAt) (r : LineResult) : Statement (.patrolScrub dev addr row own r) := of_any _
theorem retentionRead (page : Nat) (own : Option TensorAt) (r : PageResult) : Statement (.retentionRead page own r) := of_any _
theorem retirementCopy (dev : TierDev) (row : Nat) (pages : List Nat) : Statement (.retirementCopy dev row pages) := of_any _
theorem retirementLockTimeout (dev : TierDev) (row : Nat) (pages : List Nat) (lines : List (Nat × TensorAt)) : Statement (.retirementLockTimeout dev row pages lines) := of_any _
theorem tierStackLost (dev : TierDev) (held : List TensorAt) (mirrors : List (TenantId × Nat)) : Statement (.tierStackLost dev held mirrors) := of_any _
theorem trngBlock (k : Fin 4) (raw : BitVec 1024) (katFails : Bool) : Statement (.trngBlock k raw katFails) := of_any _
theorem drbgReseed : Statement (.drbgReseed) := of_any _
theorem drbgKat (fails : Bool) : Statement (.drbgKat fails) := of_any _
theorem seedFreshStartupTimeout : Statement (.seedFreshStartupTimeout) := of_any _
theorem seedFreshTimeout (m : MailboxId) (tag : W32) : Statement (.seedFreshTimeout m tag) := of_any _
theorem rowAdmission (k : StrainerId) (t : TenantId) (p : RowParams) (contributors : Nat) (group : Nat) (pos : Nat) (size : Nat) (v : VtileRef) (addr : Nat) : Statement (.rowAdmission k t p contributors group pos size v addr) := of_any _
theorem candidateBlock (t : TenantId) (stream : Nat) (row : Nat) (pos : Nat) (b : CandBlock) : Statement (.candidateBlock t stream row pos b) := of_any _
theorem strainerTimeout (t : TenantId) (stream : Nat) (row : Nat) (pos : Nat) : Statement (.strainerTimeout t stream row pos) := of_any _
theorem strainerFault (k : StrainerId) : Statement (.strainerFault k) := of_any _
theorem annealSweep (t : TenantId) (halos : List HaloMsg) (energies : List (Nat × Int × Int)) (decisions : List (Nat × Bool)) (locked : Nat) (wait : Nat) : Statement (.annealSweep t halos energies decisions locked wait) := of_any _
theorem presenceDetect (p : PortId) (lanes : Fin 23) : Statement (.presenceDetect p lanes) := of_any _
theorem trainingComplete (p : PortId) (serial : BitVec 128) (peerPort : Fin 8) (iface : Nat) (bad : List (Fin 22)) (sideband : Bool) : Statement (.trainingComplete p serial peerPort iface bad sideband) := of_any _
theorem warmTrainingTimeout (p : PortId) : Statement (.warmTrainingTimeout p) := of_any _
theorem coldTrainingTimeout (p : PortId) : Statement (.coldTrainingTimeout p) := of_any _
theorem flitReceived (p : PortId) (bytes : List Byte) (errors : List Nat) (credit : Fin 10) : Statement (.flitReceived p bytes errors credit) := of_any _
theorem nak (p : PortId) (seq : BitVec 12) : Statement (.nak p seq) := of_any _
theorem nakRepeat (p : PortId) : Statement (.nakRepeat p) := of_any _
theorem laneSwapReq (p : PortId) (failing : Fin 22) (spare : Fin 22) : Statement (.laneSwapReq p failing spare) := of_any _
theorem laneSwapDone (p : PortId) (failing : Fin 22) (spare : Fin 22) : Statement (.laneSwapDone p failing spare) := of_any _
theorem laneAck (p : PortId) (kind : BitVec 8) (failing : Fin 22) (spare : Fin 22) : Statement (.laneAck p kind failing spare) := of_any _
theorem retrainReq (p : PortId) (cause : BitVec 8) (width : BitVec 8) : Statement (.retrainReq p cause width) := of_any _
theorem linkMessageRepeat (p : PortId) : Statement (.linkMessageRepeat p) := of_any _
theorem laneFailure (p : PortId) (lane : Fin 22) : Statement (.laneFailure p lane) := of_any _
theorem laneSwapTakeover (p : PortId) : Statement (.laneSwapTakeover p) := of_any _
theorem slotData (t : TenantId) (dst : SlotEnd) (bytes : List Byte) (landed : List (VtileRef × Nat)) (model : Nat) (halo : Option HaloMsg) : Statement (.slotData t dst bytes landed model halo) := of_any _
theorem reduceOperand (p : PortId) (t : TenantId) (red : Nat) (node : Nat) (right : Bool) (kind : ReduceKind) (mark : Bool) (values : List Int) (up : Option (SpanIndex × Nat × Bool)) (dest : Fin 17) : Statement (.reduceOperand p t red node right kind mark values up dest) := of_any _
theorem reduceResult (t : TenantId) (red : Nat) (all : Option SpanIndex) (kind : ReduceKind) (mark : Bool) (values : List Int) (v : VtileRef) (addr : Nat) : Statement (.reduceResult t red all kind mark values v addr) := of_any _
theorem poolCandidate (src : SpanIndex) (handle : Nat) (capture : Nat) (bytes : List Byte) : Statement (.poolCandidate src handle capture bytes) := of_any _
theorem stateMove (t : TenantId) (index : SpanIndex) (dst : SlotEnd) (bytes : List Byte) (last : Bool) : Statement (.stateMove t index dst bytes last) := of_any _
theorem spanHello (p : PortId) (h : Hello) : Statement (.spanHello p h) := of_any _
theorem spanCommit (k : SpanCommit) : Statement (.spanCommit k) := of_any _
theorem spanHeartbeat (serial : BitVec 128) (digest : BitVec 128) (indices : BitVec 16) (latency : Nat) (lMax : Nat) : Statement (.spanHeartbeat serial digest indices latency lMax) := of_any _
theorem heartbeatSend : Statement (.heartbeatSend) := of_any _
theorem spanExpel : Statement (.spanExpel) := of_any _
theorem formTimeout : Statement (.formTimeout) := of_any _
theorem spanMemberLost (lost : SpanIndex) : Statement (.spanMemberLost lost) := of_any _
theorem pairDigest (partner : BitVec 128) (run : W32) (m : PairMsg) : Statement (.pairDigest partner run m) := of_any _
theorem pairProbe (partner : BitVec 128) (run : W32) (mid : Nat) (chain : BitVec 128) (own : BitVec 128) : Statement (.pairProbe partner run mid chain own) := of_any _
theorem pairWaitTimeout (t : TenantId) : Statement (.pairWaitTimeout t) := of_any _
theorem imageChunk (p : PortId) (m : ImageMsg) : Statement (.imageChunk p m) := of_any _
theorem timeSync (time : Nat) : Statement (.timeSync time) := of_any _
theorem arrive (p : PortId) (n : BitVec 16) (src : SpanIndex) (crc : Option (BitVec 8)) : Statement (.arrive p n src crc) := of_any _
theorem arriveRepeat (n : BitVec 16) : Statement (.arriveRepeat n) := of_any _
theorem release (p : PortId) (n : BitVec 16) (src : SpanIndex) (crc : Option (BitVec 8)) : Statement (.release p n src crc) := of_any _
theorem releaseCopy (p : PortId) (n : BitVec 16) (src : SpanIndex) (crc : Option (BitVec 8)) : Statement (.releaseCopy p n src crc) := of_any _
theorem barrierLocalRelease (n : BitVec 16) (differ : Bool) : Statement (.barrierLocalRelease n differ) := of_any _
theorem abort (p : PortId) (n : BitVec 16) (src : SpanIndex) (crc : Option (BitVec 8)) : Statement (.abort p n src crc) := of_any _
theorem barrierTimeout (n : BitVec 16) : Statement (.barrierTimeout n) := of_any _
theorem echo (p : PortId) (n : BitVec 16) (src : SpanIndex) (crc : Option (BitVec 8)) : Statement (.echo p n src crc) := of_any _
theorem echoReply (p : PortId) (n : BitVec 16) (src : SpanIndex) (crc : Option (BitVec 8)) (above : Nat) : Statement (.echoReply p n src crc above) := of_any _
theorem echoMeasurement : Statement (.echoMeasurement) := of_any _
theorem faultEvent (reports : List FaultReport) (ack : BitVec 128) : Statement (.faultEvent reports ack) := of_any _
theorem blockResetComplete (b : Block) : Statement (.blockResetComplete b) := of_any _
theorem gutterModuleReset : Statement (.gutterModuleReset) := of_any _
theorem shadowWindowClose : Statement (.shadowWindowClose) := of_any _
theorem quietPeriodExpiry (cls : ClassId) : Statement (.quietPeriodExpiry cls) := of_any _
theorem forcedRelease (r : Resource) (freed : Bool) : Statement (.forcedRelease r freed) := of_any _
theorem kettleWdt : Statement (.kettleWdt) := of_any _
theorem kettleLockstep : Statement (.kettleLockstep) := of_any _
theorem selftestDue (u : Fin 21) : Statement (.selftestDue u) := of_any _
theorem selftestComplete (f : TestFindings) : Statement (.selftestComplete f) := of_any _
theorem selftestPreemption (q : TestRequest) : Statement (.selftestPreemption q) := of_any _
theorem selftestOverdue (u : Fin 21) : Statement (.selftestOverdue u) := of_any _
theorem caddyCompaction (fails : Bool) : Statement (.caddyCompaction fails) := of_any _
theorem idlePeriodStart (trigger : Bool) : Statement (.idlePeriodStart trigger) := of_any _
theorem plannedWakeStart : Statement (.plannedWakeStart) := of_any _
theorem wakeTrigger (w : WakeCause) : Statement (.wakeTrigger w) := of_any _
theorem wakeComplete (crossings : List (Fin 19200)) : Statement (.wakeComplete crossings) := of_any _
theorem planTimePassed : Statement (.planTimePassed) := of_any _
theorem thermalSample (temps : Vector Int 88) (hot : Bool) : Statement (.thermalSample temps hot) := of_any _
theorem throttleRise : Statement (.throttleRise) := of_any _
theorem throttleFall : Statement (.throttleFall) := of_any _
theorem powerEstimate (mw : Nat) : Statement (.powerEstimate mw) := of_any _
theorem divisorChange : Statement (.divisorChange) := of_any _
theorem vrmPhase (rail : Fin 6) : Statement (.vrmPhase rail) := of_any _
theorem vrmOvercurrent (rail : Fin 6) : Statement (.vrmOvercurrent rail) := of_any _
theorem thermalTrip (k : Fin 73) : Statement (.thermalTrip k) := of_any _
theorem perstLRelease : Statement (.perstLRelease) := of_any _
theorem pcieLink (e : PcieEvent) : Statement (.pcieLink e) := of_any _
theorem pcieLinkUp : Statement (.pcieLinkUp) := of_any _
theorem kettleSramUncorr : Statement (.kettleSramUncorr) := of_any _
theorem purlinErr (endpoint : Nat) (kind : Fin 3) : Statement (.purlinErr endpoint kind) := of_any _
theorem mbxEngine : Statement (.mbxEngine) := of_any _
theorem vbatLow (cell : Nat) : Statement (.vbatLow cell) := of_any _
theorem backupDomainPowerLoss : Statement (.backupDomainPowerLoss) := of_any _
theorem intakeLinkRestored (csi : Bool) (port : Fin 16) : Statement (.intakeLinkRestored csi port) := of_any _
theorem spareDeskew (p : PortId) : Statement (.spareDeskew p) := of_any _
theorem stateEntryComplete : Statement (.stateEntryComplete) := of_any _
theorem tier3BlockErase (block : Nat) (average : Nat) (fails : Option Nat) : Statement (.tier3BlockErase block average fails) := of_any _
theorem tier3ScanComplete : Statement (.tier3ScanComplete) := of_any _
theorem ethFrameDiscard (port : Fin 4) : Statement (.ethFrameDiscard port) := of_any _

end Sys2Proof.Laws.Posted
end

