-- ==== Sys2Proof/Tests/Slice0.lean ====
section
/-! SUPPORT. Tests: the smoke test of well-formedness, and for every statement with hypotheses a concrete state and operands that meet
them, clause by clause. -/

set_option maxRecDepth 100000
set_option Elab.async false

namespace Sys2Proof.Tests

open Sys2Proof Sys2Proof.Machine

/-! ### States in which the statements' hypotheses are met -/

/-- The main firmware serves mailboxes, nothing else has happened. -/
def up : Device :=
  { ({} : Device) with boot := { ({} : Boot) with inReset := false, stage := .main, mbxReady := true, engineReady := true } }

/-- A state with an empty queue. -/
def world (d : Device) : State := { pending := [], dev := d }

/-- An entry on a mailbox: an OPCODE with its flags, and its words from W1 on. -/
def entry (m : MailboxId) (w0 : Nat) (ws : List Nat := []) : Call :=
  { mbx := m, words := Vector.ofFn fun i => BitVec.ofNat 64 ((w0 :: ws).getD i.val 0) }

/-- A mailbox that takes commands, changed. -/
def mailed (m : MailboxId) (f : Mailbox → Mailbox) (d : Device) : Device := modMbx m (fun x => f { x with en := true }) d

def doorS : State := world (mailed 3 (fun x => { x with cmdHead := 500 }) up)

def takenS : State := world (mailed 8 (fun x => { x with taken := [⟨(entry 8 0x72).words, 0⟩], cplTail := 256 }) up)
def startedX : Started := { call := entry 8 0x72, rung := 0 }
def startedS : State := world (mailed 8 (fun x => { x with started := [startedX] }) up)
def doneK : Completion := { tag := 5, status := .ok, result := [1, 2] }
def postS : State := world (mailed 8 (fun x => { x with overflow := [doneK], cplTail := 511, cplHead := 300 }) up)
def fullS : State := world (mailed 8 (fun x => { x with overflow := [doneK], cplTail := 255, cplHead := 511 }) up)

def flushM (x : Mailbox) : Mailbox :=
  { x with
    taken := [⟨(entry 0 0x30).words, 0⟩, ⟨(entry 0 0x72).words, 0⟩]
    cmdTail := 4
    cmdHead := 3
    started := [{ call := entry 0 0x30, rung := 0, first := true, compute := true }, { call := entry 0 0x22, rung := 0 }] }
def flushS : State := world (mailed 0 flushM up)

def listed (c : Call) (n : Nat) : Call := { c with room := n }

/-- Tenant 0 holds what is said, and its rectangle is the first column of vtiles. -/
def tens (x : Tenant) : Device := modTenant 0 (fun _ => { x with isOpen := true }) up
def epochS (b : Build) : State := world { tens {} with fabric := { ({} : Fabric) with build := some b } }
def commitK : Commit := { call := entry 8 0x71 [2], scopes := [.tenant 0], deadline := some 7 }
def fencedS : State := world { up with sites := [{ id := 101, planned := true }] }
def dryS : State := world { tens { rect := (0, 0, 3, 3) } with sites := [{ id := 101, planned := true }] }

def winX : Tensor := { id := 7, size := 8192, bytes := [(4097, 5)] }
def winD : Device :=
  modWindow 1 (fun w => { w with en := true, ready := true, wrEn := true, tensor := 7, base := 1 }) (tens { tensors := [winX] })
def roD : Device :=
  modWindow 1 (fun w => { w with en := true, ready := true, wrEn := true, tensor := 7, base := 1 })
    (tens { tensors := [{ winX with mode := .readOnly }] })

/-- The Gutter is initialised. -/
def gutt : Gutter := { ({} : Gutter) with initDone := true, pairFault := false }
def guttD (g : Gutter) : Device := { up with gutter := g }
def guttS : State := world (guttD gutt)
def resetR : BlockReset := { block := .tileCore 101, cls := 0, start := 0 }
def quietD : Device :=
  guttD { gutt with cls := gutt.cls.set 2 { inFault := true, applied := 1, quiet := some (5, 10) }, pairFault := true }

/-- Tenant 0 is within step 9 of its run. -/
def decl0 : PackageDecl := { rect := (0, 0, 3, 3), budget := 64, slots := [5], outputs := [.scratch 0 0 64 8], phases := [[.scratch 0 0 64 8]] }
def pack0 : Package := { handle := 1, decl := decl0, digest := 0, driving := true }
def step9 : Step := { n := 9, boundary := 0, started := true }
def run0 : Run :=
  { call := entry 0 0x30 [1, 9], kind := .steps, seed := { value := 1, id := 2 }, budget := 64, package := some 1, step := some step9 }
def ten0 : Tenant :=
  { rect := (0, 0, 3, 3), packages := [pack0], runState := .running, run := some run0, runId := some 1, nextStep := 9 }
def runD : Device := tens ten0
def runS : State := world runD
def vt0 : VtileRef := { vtile := 0 }

def vtD (x : VtileState) : Device := { runD with vtiles := [x] }

def pass0 : Pass := { mode := .initAuto, kp := 0, aFmt := .int8, bFmt := .int8, aCodes := List.replicate 512 255, bCodes := List.replicate 512 1, record := 0 }
/-- A model area at address 0 of vtile 0: one variable, one colour, no halo, empty sections. -/
def area0 : Mem :=
  [(0, 1), (5, 1), (14, 8), (18, 1), (80, 128), (84, 144), (88, 148), (92, 152), (96, 156), (100, 160), (104, 164), (108, 168), (112, 172)]
def steepS : State := world { runD with scratch := area0 }

def siteD (r : SiteRec) : Device := { runD with sites := [r] }
def laneA (l : LaneId) : LaneAnswer :=
  let (g, o, r) := laneKatExpected l
  { lane := l, galois := g, outputs := o, s0 := r.s0, s1 := r.s1 }

def postD (x : Tenant → Tenant) : State := world (modTenant 0 x runD)

def ringE : Device := (ringSlots 0 [] [0, 1] 0 64 runD).getD up
def stored (c : Call) (bs : List Byte) : Call := { c with room := bs.length, data := bs }

def tenX : Tensor := { id := 7, size := 4096, bytes := [(0, 1), (4095, 2)] }
def tensX : State := world (tens { tensors := [tenX] })
def runX : State := postD (fun x => { x with tensors := [tenX] })

def entD (e : Entropy) : Device := { tens {} with entropy := e }
def srcUp : NoiseSource := { ok := true }
def entUp : Entropy := { src := Vector.replicate 4 { ok := true }, instantiated := true, startup := 1024 }

def altRaw : BitVec 1024 := BitVec.ofNat 1024 ((2 ^ 1024 - 1) / 3)
def seed0 : Seed := { value := 1, id := 2 }
def heldTen : Tenant :=
  { rect := (0, 0, 3, 3), packages := [pack0], runId := some 1, nextStep := 9, seed := some seed0,
    run := some { run0 with step := none, seed := seed0 }, runState := .stopped }
def heldD : Device := tens heldTen
/-- A checkpoint without sections: its header and the digest of no content. -/
def ckptRaw : List Byte :=
  fit 96 (ascii "LEMUPCKP" ++ leBytes 2 1 ++ leBytes 6 0 ++ leBytes 16 0 ++ leBytes 16 0 ++ bytes16 2 ++ leBytes 16 0 ++
    leBytes 2 (runningImage heldD).arith ++ leBytes 2 1 ++ leBytes 2 1) ++ sha384 []
def ckptX : StoredCheckpoint := { slot := 5, tenant := 0, bytes := fit 512 ckptRaw }
def ckptD (x : StoredCheckpoint) : State := world { heldD with tiers := { heldD.tiers with t3 := { heldD.tiers.t3 with checkpoints := [x] } } }
def ckptBad : StoredCheckpoint := { slot := 5, tenant := 0, bytes := List.replicate 512 0 }

def slateD (x : Slate) : State := world { tens {} with slate := x }
def recs16 : List (Nat × List Byte) := (List.range 16).map fun i => (i, List.replicate 256 0)
def recs1024 : List (Nat × List Byte) := (List.range 1024).map fun i => (i, List.replicate 9 0)
def waitR : SlateWait := { kind := 2, tenant := 0, record := List.replicate 256 0 }

/-- Tenant 0 stands between steps, with a seed, a model, tensors 7 to 10 and room in the tiers. -/
def model0 : Model :=
  { handle := 3, nvar := 1, ncolour := 1, q := 0, w := 1, replicas := 1, vtiles := [0], bases := [0], lengths := [4096], card := [0],
    place := [(0, 0)], positive := true, positions := [0], working := [0] }
/-- A run descriptor of one sweep on one rung, with no pool. -/
def descB : List Byte :=
  padTo 296 (leBytes 2 1 ++ [0, 1] ++ leBytes 4 1 ++ leBytes 4 1 ++ leBytes 8 0 ++ leBytes 4 1 ++ leBytes 8 0 ++ leBytes 8 2 ++
    leBytes 4 0x3F800000) ++ leBytes 4 0 ++ leBytes 4 0x3F800000 ++ leBytes 8 0
def logX (id : Nat) (bs : List Byte) : Tensor := { id := id, size := bs.length, bytes := Mem.writeN [] 0 bs }
def stepRec : List Byte := padTo 256 (leBytes 8 0 ++ leBytes 1 recStep ++ leBytes 23 0 ++ leBytes 8 5 ++ leBytes 8 2)
def idleTen : Tenant :=
  { rect := (0, 0, 3, 3), packages := [{ pack0 with decl := { decl0 with budget := 144, decodes := true } }], seed := some seed0,
    models := [model0], tensors := [tenX, logX 8 descB] }
def idleS : State := world (tens idleTen)
def replayS : State := world (tens { rect := (0, 0, 3, 3), seed := some seed0, chain := chainInit 2 2, tensors := [logX 7 stepRec, logX 8 [], logX 9 []] })
def replayP : Replay := { first := 5, last := 5, expected := 7, log := 8, hosts := 9 }

def run1 (f : Run → Run) : Device := tens { ten0 with run := some (f { run0 with step := none }) }
def runStep (f : Step → Step) : Device := tens { ten0 with run := some { run0 with step := some (f step9) } }
def haltedS : State := world (runStep (fun x => { x with halted := true }))

/-- Every vtile of the rectangle has ended its program. -/
def endedD (f : Step → Step) : Device :=
  { runStep f with vtiles := [0, 1, 2, 3, 96, 97, 98, 99, 192, 193, 194, 195, 288, 289, 290, 291].map fun i => { id := i, ended := true } }
def badStep : Step := { step9 with reason := some 1 }

def pageD : State := world { runD with vtiles := [{ id := 0, uncopied := [3, 4] }] }
def lossS (ms : List Mirror) (ds : List (Nat × BitVec 128)) : State :=
  world (tens { ten0 with run := some { run0 with step := none, redo := some badStep }, mirrors := ms, digests := ds })
def mirror8 : Mirror := { next := 8, areas := [], complete := true }

/-- A row of two FP32 scores with TEMP 1, TOP_K 2 and TOP_P 1, through a list of 8 bytes. -/
def rowC (op w3 : Nat) (bs : List Byte) : Call := stored (entry 0 op [2, 0x3F8000003F800000, w3, 0, 0x1000, 1]) bs
def seedS : State := world (tens { seed := some seed0 })
def oneHalf : List Byte := leBytes 4 0x3F800000 ++ leBytes 4 0x3F000000
/-- Two target rows, a draft record and its row. -/
def groupB (token : Nat) : List Byte :=
  oneHalf ++ oneHalf ++ leBytes 4 0x3F800000 ++ leBytes 4 0x3F800000 ++ leBytes 4 2 ++ leBytes 4 token ++ oneHalf

def rowP : RowParams := { n := 2, temp := 0x3F800000, topK := 2, topP := 0x3F800000, stream := 1, row := 2 }
def rowX : RowCtx := { tenant := 0, params := rowP, expect := 2, asked := 0, admitted := 0, dest := 0, addr := 64 }
def blockB : CandBlock :=
  { base := 0, nextIndex := 0, nextScore := 0xFF800000, cands := [(0, 0x3F800000), (1, 0x3F000000)], scores := [0x3F800000, 0x3F000000] }
def strD (f : Strainer → Strainer) : State := world { runD with strainers := runD.strainers.set 1 (f {}) }

/-- A description of one binary variable without couplings. -/
def modelB : List Byte := leBytes 4 1 ++ leBytes 4 1 ++ leBytes 8 0 ++ leBytes 16 0 ++ leBytes 8 96 ++ List.replicate 56 0 ++ leBytes 8 0
def spread0 : Spread :=
  { desc := { enc := 0, precoloured := false, prepartitioned := false, nvar := 1, sigma := 0, tau := 0, rho := 0,
              vars := [{ colour := 0, card := 0, bias := 0, cat := [] }], coups := [], pens := [], dense := [], part := [] }
    perPart := 1, colours := [0], ranks := [0], locals := [[0]] }
def modelTen (desc : List Byte) : Tenant := { rect := (0, 0, 3, 3), tensors := [logX 7 desc, logX 8 (leBytes 4 0)] }
def annealRun : Run := { run0 with kind := .anneal 3 descB false, step := some { step9 with sweeps := 1 } }
def annealD (r : Run) : State := world { tens { ten0 with models := [model0], run := some r } with scratch := Mem.writeN [] 4096 [1] }
def poolE : PoolEntry := { energy := -5, penalty := 0, sweep := 1, step := 1, hash := 0, replica := 0, position := 0, final := true, free := false, states := [1] }
def poolTen : Tenant := { models := [{ model0 with poolSize := 1, pool := [poolE] }], tensors := [tenX] }

/-- Context 0 takes frames for tenant 0 from a source. -/
def desc0 : Descriptor := { enable := true, matchAux := 0xFFFFFFFFFFFFFFFF, frameMax := 4096, ringBytes := 16777216 }
def ctxD (x : Context) : Device := { runD with intake := { runD.intake with ctx := runD.intake.ctx.set 0 x } }
def ctxS (x : Context) : State := world (ctxD x)
def onS : State := ctxS { desc := desc0, state := .enabled }
def frame0 : SensorFrame := { seq := 1, stamp := 0, bytes := [1], first := 0 }

def startC : Context := { desc := desc0, state := .started }
def openC : Context := { startC with current := some frame0, frameSeq := 1 }
def ethC (k : SourceKind) : Context := { startC with desc := { desc0 with kind := k, port := 3, matchKey := 9, matchAux := 7 } }

def timed (x : TimeBase) (c : List (Nat × Nat)) : State := world { up with time := x, cfg := c, now := 2000000000 }
/-- Tenant 0's run is paced and holds the pacing signals. -/
def pacedS (x : TimeBase) (c : List (Nat × Nat)) : State :=
  world { run1 (fun r => { r with period := 10000000, nominal := 20000000, begun := true }) with time := x, cfg := c }
def pacedR : Run := { run0 with step := none, period := 10000000, nominal := 20000000, begun := true }

/-- The module runs with RESET_L high. -/
def live : Device := { runD with pins := { runD.pins with resetL := true } }
def offD : Device := { live with pins := { live.pins with vin := false } }
def dueD (d : Device) : State := world { d with gutter := { gutt with resetDue := some 10000 } }
def holdS (d : Device) : State := world { d with clocks := { d.clocks with holdover := some 9, refclk := false } }

def bootD (b : Boot) : Device := { live with boot := b }
def romS : State := world (bootD { inReset := false, romReady := true })
def restartB : Boot := { inReset := false, kettleRestarting := true }

def coldS : State := world { offD with backup := { lost := false } }

def hotS : State := world { runD with clocks := { runD.clocks with warnSince := runD.clocks.warnSince.set 3 (some 7), throttle := 1 } }

def powS (p : Power) : State := world { tens {} with power := p }

def spdmS : State := world { live with host := { live.host with endpointReady := true } }
def nonceS : State := world (bootD { inReset := false, nonce := some (List.replicate 32 7) })

/-- The header of an image of one data chunk, and chunk 0 of it. -/
def chunk0 : List Byte := List.replicate 48 3
def hdrB : List Byte :=
  padTo 4096 (ascii "LEMUPIMG" ++ leBytes 4 0x10001 ++ leBytes 12 1 ++ leBytes 12 1 ++ leBytes 4 0x101 ++ leBytes 8 0 ++ leBytes 8 4096 ++
    leBytes 8 1 ++ leBytes 8 2 ++ sha384 chunk0 ++ leBytes 192 0 ++ leBytes 8 1 ++ leBytes 40 2048)
def hdrP : List Byte := padTo 4096 (leBytes 72 0 ++ sha384 chunk0 ++ leBytes 48 0 ++ sha384 [] ++ sha384 [] ++ sha384 [])
def updS (u : Update) : State := world { up with boot := { up.boot with update := u } }
def rcvU : Update := { state := .receiving, header := hdrB }
def heldU : Update := { rcvU with chunks := [(0, chunk0)] }
def plainU : Update := { heldU with state := .received, header := hdrP }
def trialS (b : Boot) : State :=
  world { up with boot := { b with inReset := false, stage := .main, mbxReady := true, engineReady := true } }
def armsB : Boot := { update := { rcvU with state := .trial }, trial := some .b, running := .b, startComplete := true }
def activeD (b : Boot) : Device := { up with boot := b, ridge := up.ridge.set 2 { state := .active } }

def testS (x : SelfTest) : State := world { tens { rect := (0, 0, 3, 3) } with selftest := x }
def runningT : SelfTest := { unit := 16, running := true }
/-- A journal whose sectors are all retired but one, which holds a record. -/
def fullC : Caddy :=
  { sectors := { num := 513, recs := [⟨1, 1, 0, 64⟩] } :: (List.range 3583).map fun i => { num := i, retired := true } }

def unitS (u : RUnit) : State := world (tens { units := [u] })
def t3S (x : Tier3) : State := world { runD with tiers := { runD.tiers with t3 := x } }

def poisR : PoisonRec := { addr := 64, row := 1, tenant := 0, tensor := 7, off := 0 }
def tierS (x : Tensor) (m : MemDevice) : State :=
  let d := modTenant 0 (fun y => { y with tensors := [x] }) runD
  world { d with tiers := { d.tiers with stackDevs := d.tiers.stackDevs.set 7 m } }
def strictS : State := postD (fun x => { x with strict := true })

def portS (r : Ridge) : State := world { live with ridge := live.ridge.set 7 r }
def actR : Ridge := { state := .active, lanes := List.range 20, activeLanes := 20 }
def swapR : Ridge := { actR with swaps := [{ failing := 3, spare := 20, acked := true, deskewed := true }] }

/-- A flit of a type and a sequence number, of 256 bytes with its CRC. -/
def flitB (type seq : Nat) : List Byte :=
  let b := fit 252 (leBytes 4 (type * 2 ^ 30 + seq * 2 ^ 15))
  b ++ leBytes 4 (crc32 b)
def opO : HeldOperand := { vc := 0, red := 3, node := 7, right := false, mark := false, values := [1] }

/-- A ring-free span record of two modules: index 0 at serial number 5, index 1 at serial number 6. -/
def recB : List Byte :=
  fit 544 (leBytes 8 77 ++ [0, 2, 2, 0] ++ leBytes 4 100 ++ leBytes 4 1000 ++ leBytes 4 1000 ++ leBytes 8 0 ++
    leBytes 16 5 ++ leBytes 16 0xF0 ++ leBytes 16 6 ++ leBytes 16 0x0F)
def spanC : Call := stored (entry 8 0x60 [0x1000, 1]) recB
def spanD : Device := { live with boot := { live.boot with serial := 5 } }
def peer6 : Member := { serial := 6, indices := 2, digest := 9, arith := 0, iface := 0, ports := [4], latency := 40, heard := 7 }
def span0 : Span := { record := recB, digest := 9 }
def spanS (x : Span) : State := world { spanD with span := x }
def span2 : Span := { span0 with formed := true, carried := 1, members := 3, peers := [peer6], committed := [0, 1] }
def formX : Span := { span0 with forming := some (spanC, 3), peers := [peer6] }
def link4 : Device := { spanD with ridge := spanD.ridge.set 4 { actR with peerSerial := 6, sideband := true } }
def linkS (x : Span) : State := world { link4 with span := x }
def helloH : Hello := { serial := 7, spanId := 77, digest := 9, indices := 2, arith := 0, iface := 0, runs := [], time := 0 }
def commitJ : SpanCommit :=
  { digest := 9, leader := 1, members := [(5, 1), (6, 2)], lMax := 90, time := 5000000000, iface := 0, arithMixed := false, runs := [] }
def leaveC : Call := entry 8 0x61 [0x110]
def calmS (x : Span) : State := world { up with boot := { up.boot with serial := 5 }, span := x }

def bar3 : Barrier := { number := 3, reached := some 5 }
def barS (b : Barrier) : State := linkS { span2 with barriers := [b], lMax := 90, lSelf := 40 }
def farS : Span := { span2 with leader := 1 }

def pair0 : Pair :=
  { call := entry 0 0x62, runId := 1, partner := 6, key := 3, every := 1, timing := false, own := [(4, 10)], ring := [(4, 70, 71, 12)] }
def pairSt (p : Pair) : State := world (modTenant 0 (fun x => { x with pair := some p }) { link4 with span := span2 })
def setC (ev : Nat) : Call := entry 0 0x62 [1, 6, 0, 3, 0, ev]
def formedP : Pair := { pair0 with formed := true }
def bisP : Pair := { formedP with state := 1, bisect := some (2, 7) }
def bis5 : Pair := { bisP with ring := [(5, 70, 71, 12)] }

def queueS : State := { pending := [.perstAssert], dev := runD }
def stepT : State := match step queueS with | .next t => t | _ => runS

/-! ### Ill-formed commands are refused -/

theorem test_wf_opcode : (Instr.stepRun (entry 0 0x31)).wf = false ∧ (Instr.stepRun (entry 0 0x30)).wf = true := by decide +kernel
theorem test_wf_flag_that_tells_rows_apart :
    (Instr.tensorCreate (entry 0 0x22)).wf = false ∧ (Instr.tensorCreate (entry 0 0x122)).wf = true := by decide +kernel
theorem test_wf_action_that_tells_rows_apart :
    (Instr.faultForceClear (entry 8 0x82 [0x010])).wf = false ∧ (Instr.faultForceClear (entry 8 0x82 [0x110])).wf = true := by decide +kernel
theorem test_wf_function_shows_its_mailbox :
    (Instr.stepRun { entry 3 0x30 with fn := 1 }).wf = false ∧ (Instr.stepRun { entry 3 0x30 with fn := 2 }).wf = true ∧
    (Instr.queryStatus { entry 8 2 with fn := 1 }).wf = false := by decide +kernel
theorem test_wf_data_fits_the_list : (Instr.spanForm { entry 8 0x60 with data := [1], room := 0 }).wf = false := by decide +kernel
theorem test_wf_window_access :
    (Instr.bar4Read 1 0 0 false).wf = false ∧ (Instr.bar4Write 1 0 [] false).wf = false ∧
    (Instr.registerWrite 1 (.bar2 0 []) false).wf = false ∧ (Instr.registerWrite 1 (.bar2 262143 [1, 2]) false).wf = false ∧
    (Instr.registerWrite 1 (.bar2 262142 [1, 2]) false).wf = true := by decide +kernel
theorem test_wf_signature_and_nonce :
    (Instr.debugUnlock []).wf = false ∧ (Instr.spdmRequest (.challenge [1])).wf = false ∧
    (Instr.spdmRequest (.challenge (List.replicate 32 1))).wf = true := by decide +kernel
theorem test_wf_datagram_address :
    (Instr.udpDatagram 0 false (2 ^ 32) 7 [1] 0 0).wf = false ∧ (Instr.udpDatagram 0 true (2 ^ 32) 7 [1] 0 0).wf = true := by
  decide +kernel
theorem test_wf_epoch_resources :
    (Instr.epochBuildComplete [9600] [] [] 0 true).wf = false ∧ (Instr.epochBuildComplete [] [16] [] 0 true).wf = false ∧
    (Instr.epochBuildComplete [] [] [19200] 0 true).wf = false := by decide +kernel
theorem test_wf_ridge_messages :
    (Instr.flitReceived 0 [] [] 0).wf = false ∧ (Instr.laneAck 0 1 0 0).wf = false ∧ (Instr.laneAck 0 2 0 0).wf = true ∧
    (Instr.imageChunk 0 (.header [])).wf = false ∧ (Instr.imageChunk 0 (.chunk 0 [] [])).wf = false := by decide +kernel
theorem test_wf_greeting_names_an_index :
    (Instr.spanHello 4 { serial := 7, spanId := 77, digest := 9, indices := 0, arith := 0, iface := 0, runs := [], time := 0 }).wf = false := by
  decide +kernel
theorem test_wf_fault_event_names_a_place :
    (Instr.faultEvent [{ src := 16, insts := [], kind := .occurrence }] 0).wf = false := by decide +kernel

/-! ### The spec's worked examples -/

/-- 02_tiles "Region 6": vtile 3,031 has site 3,157, and its neighbour to the east when that site is fenced. -/
theorem test_carrier_of_vtile_3031 : carrier [] 3031 = some 3157 ∧ carrier [3157] 3031 = some 3158 := by decide +kernel
/-- 03_number_formats "A BF16 group": the largest element 3.5, and three smaller ones. -/
theorem test_alignment_of_a_bf16_group :
    alignGroup bf16 [0x4060, 0xBBB3, 0x3780, 0x38C0] = [some (28672, -13), some (-45, -13), some (0, -13), some (1, -13)] := by
  decide +kernel
/-- 03_number_formats "The FP32 value 0x3EA6_B000": to nearest even, toward zero, and two stochastic draws. -/
theorem test_conversion_to_e4m3 :
    (e4m3.convert 0 false 0 (val32 0x3EA6B000)).code = 0x2A ∧ (e4m3.convert 1 false 0 (val32 0x3EA6B000)).code = 0x2A ∧
    (e4m3.convert 2 false 0x3C91 (val32 0x3EA6B000)).code = 0x2A ∧ (e4m3.convert 2 false 0xC4E2 (val32 0x3EA6B000)).code = 0x2B := by
  decide +kernel
/-- 04_accumulation "Three vtiles in one row": the two small values are lost one by one. -/
theorem test_reduction_tree_of_three : treeOf add32 [0x3F800000, 0x33800000, 0x33800000] = some 0x3F800000 := by decide +kernel
/-- 05_mesh "Tenant 0 runs driving work": the wheel positions of the three tenants. -/
theorem test_wheel_positions_of_three_tenants :
    wheelOf 1 [12, 10, 6, 0] = [[0, 16, 8, 24, 4, 20, 12, 28, 2, 18, 10, 26], [6, 22, 14, 30, 1, 17, 9, 25, 5, 21], [13, 29, 3, 19, 11, 27], []] := by
  decide +kernel
/-- 06_placement "Region 9": the folded pairs before and after the site at position 11 returns. -/
theorem test_folding_in_region_9 :
    [5323, 5324, 5325, 5326].map (carrier [5528, 5536, 5545]) = [some 5547, some 5548, some 5548, some 5549] ∧
    [5314, 5323, 5324, 5325, 5326].map (carrier [5528, 5545]) = [some 5536, some 5546, some 5547, some 5548, some 5549] := by
  decide +kernel
/-- 08_randomness "A training tenant": the stream of lane 7 of vtile 3,031 at span index 2. -/
theorem test_stream_number_of_a_lane : laneStream 2 3031 7 = 686823 := by decide

/-- The hypotheses of `Obligations.IdleStepIsOneTick` are met. -/
theorem witness_IdleStepIsOneTick :
    ((world up).pending = []) := by
  decide +kernel

/-- The hypotheses of `Obligations.EveryCommandConsumesOneQueueEntry` are met. -/
theorem witness_EveryCommandConsumesOneQueueEntry :
    ((({pending := [.perstAssert, .pllLock], dev := up}) : State).pending = (.perstAssert : Instr) :: ([.pllLock] : List Instr)) := by
  decide +kernel

/-- The hypotheses of `Obligations.DoorbellMovesTailOrSetsBadTail` are met. -/
theorem witness_DoorbellMovesTailOrSetsBadTail :
    (Reaches (2 : FunctionId) false doorS.dev ∧ shows (2 : FunctionId) (3 : MailboxId) = true ∧ (doorS.dev.mb (3 : MailboxId)).en =
      true ∧ ringDist (doorS.dev.mb (3 : MailboxId)).cmdHead ((244 : W64).setWidth 9) ≤ 256) ∧
    (Reaches (2 : FunctionId) false doorS.dev ∧ shows (2 : FunctionId) (3 : MailboxId) = true ∧ (doorS.dev.mb (3 : MailboxId)).en =
      true ∧ 256 < ringDist (doorS.dev.mb (3 : MailboxId)).cmdHead ((245 : W64).setWidth 9)) ∧
    (Reaches (1 : FunctionId) false doorS.dev ∧ (shows (1 : FunctionId) (3 : MailboxId) = false ∨ (doorS.dev.mb (3 : MailboxId)).en
      = false)) := by
  unfold Reaches
  refine ⟨?_, ?_, ?_⟩ <;> decide +kernel

/-- The hypotheses of `Obligations.EngineTakesStartsAndPosts` are met. -/
theorem witness_EngineTakesStartsAndPosts :
    ((((world (mailed 8 (fun x => { x with visible := [⟨1, 0⟩], cmdHead := 511 }) up)).dev.mb (8 : MailboxId)).visible = (⟨1, 0⟩ :
      Visible) :: ([] : List Visible)) ∧ (((world (mailed 8 (fun x => { x with visible := [⟨1, 0⟩], cmdHead := 511 }) up)).dev.mb (8
      : MailboxId)).en = true) ∧ ((world (mailed 8 (fun x => { x with visible := [⟨1, 0⟩], cmdHead := 511 })
      up)).dev.boot.engineReady = true) ∧ (((world (mailed 8 (fun x => { x with visible := [⟨1, 0⟩], cmdHead := 511 }) up)).dev.mb
      (8 : MailboxId)).owed = []) ∧ (((world (mailed 8 (fun x => { x with visible := [⟨1, 0⟩], cmdHead := 511 }) up)).dev.mb (8 :
      MailboxId)).flushing = false)) ∧
    ((takenS.dev.mb (8 : MailboxId)).taken = (⟨(entry 8 0x72).words, 0⟩ : Taken) :: ([] : List Taken) ∧ (entry 8 0x72) =
      { mbx := (8 : MailboxId), words := (⟨(entry 8 0x72).words, 0⟩ : Taken).entry } ∧ (entry 8 0x72).info = some
      (({ code := 0x72, masks := [0xFFFFFFFF] }) : OpInfo) ∧ (({ code := 0x72, masks := [0xFFFFFFFF] }) : OpInfo).engine = false ∧
      Served (entry 8 0x72) takenS.dev ∧ ((∀ y ∈ (takenS.dev.mb (8 : MailboxId)).started, y.first = true ∧ sameCommand y.call (entry
      8 0x72) = false)) ∧ (takenS.dev.mb (8 : MailboxId)).hasRoom = true ∧ ((urgentEntry (8 : MailboxId) (⟨(entry 8 0x72).words, 0⟩
      : Taken) = true ∨ urgentWaits takenS.dev = false))) ∧
    ((startedS.dev.mb (8 : MailboxId)).started = [startedX] ∧ startedX.call.mbx = (8 : MailboxId) ∧ startedX.call.info = some
      (({ code := 0x72, masks := [0xFFFFFFFF] }) : OpInfo) ∧ (({ code := 0x72, masks := [0xFFFFFFFF] }) : OpInfo).engine = false ∧
      startedX.first = false ∧ startedX.compute = false ∧ startedX.call.opcode ≠ 0x33 ∧ startedS.dev.boot.kettleRestarting = false ∧
      startedS.dev.boot.mbxReady = true) ∧
    ((postS.dev.mb (8 : MailboxId)).owed = [] ∧ (postS.dev.mb (8 : MailboxId)).overflow = doneK :: ([] : List Completion) ∧
      doneK.ext = 0 ∧ (postS.dev.mb (8 : MailboxId)).ring.wf = true ∧ (postS.dev.mb (8 : MailboxId)).freeSlots 1 = true) ∧
    ((fullS.dev.mb (8 : MailboxId)).owed = [] ∧ (fullS.dev.mb (8 : MailboxId)).overflow = doneK :: ([] : List Completion) ∧
      doneK.ext = 0 ∧ (fullS.dev.mb (8 : MailboxId)).ring.wf = true ∧ (fullS.dev.mb (8 : MailboxId)).freeSlots 1 = false) := by
  unfold Served
  refine ⟨?_, ?_, ?_, ?_, ?_⟩ <;> decide +kernel

/-- The hypotheses of `Obligations.EnableZeroesDisableFlushesAndIdleIndicesStay` are met. -/
theorem witness_EnableZeroesDisableFlushesAndIdleIndicesStay :
    (Reaches (1 : FunctionId) false (world up).dev ∧ shows (1 : FunctionId) (0 : MailboxId) = true ∧ ((world up).dev.mb (0 :
      MailboxId)).en = false ∧ ((world up).dev.mb (0 : MailboxId)).owed = []) ∧
    (Reaches (0 : FunctionId) false (world (mailed 0 id up)).dev ∧ shows (0 : FunctionId) (0 : MailboxId) = true ∧ ((world (mailed 0
      id up)).dev.mb (0 : MailboxId)).en = true) ∧
    (((world up).dev.mb (0 : MailboxId)).en = false) ∧
    (Reaches (1 : FunctionId) false (world up).dev ∧ ((world up).dev.mb (0 : MailboxId)).en = false) := by
  unfold Reaches
  refine ⟨?_, ?_, ?_, ?_⟩ <;> decide +kernel

/-- The hypotheses of `Obligations.FlushAnswersTakenCommandsWithFlushed` are met. -/
theorem witness_FlushAnswersTakenCommandsWithFlushed :
    (Reaches (1 : FunctionId) false flushS.dev ∧ shows (1 : FunctionId) (0 : MailboxId) = true) ∧
    ((msixVec (world (setMsixVec 4 1 { last := some 0, held := true } up)).dev (4 : FunctionId) (1 : Fin 16)).held = true ∧ (world
      (setMsixVec 4 1 { last := some 0, held := true } up)).dev.host.d3cold = false) := by
  unfold Reaches
  refine ⟨?_, ?_⟩ <;> decide +kernel

/-- The hypotheses of `Obligations.IdentityStatusAndCountersAreReported` are met. -/
theorem witness_IdentityStatusAndCountersAreReported :
    (EngineServed (entry 8 1) (world up).dev ∧ (entry 8 1).hasList 2 = false) ∧
    (EngineServed (listed (entry 8 1 [0x1000, 1]) 128) (world up).dev ∧ (listed (entry 8 1 [0x1000, 1]) 128).hasList 2 = true ∧
      field ((listed (entry 8 1 [0x1000, 1]) 128).w 2) 0 16 ≤ 4096 ∧ 128 ≤ (listed (entry 8 1 [0x1000, 1]) 128).room ∧ (listed
      (entry 8 1 [0x1000, 1]) 128).dmaFails = false) ∧
    (Served (listed (entry 8 2 [0x1000, 1, 1]) 4096) (world up).dev ∧ field ((listed (entry 8 2 [0x1000, 1, 1]) 4096).w 2) 0 16 ≤
      4096 ∧ (listed (entry 8 2 [0x1000, 1, 1]) 4096).dmaFails = false) ∧
    (Served (listed (entry 8 3 [0x1000, 1, 0x20000]) 65536) (world up).dev ∧ field ((listed (entry 8 3 [0x1000, 1, 0x20000])
      65536).w 2) 0 16 ≤ 4096 ∧ (listed (entry 8 3 [0x1000, 1, 0x20000]) 65536).dmaFails = false ∧ (listed (entry 8 3 [0x1000, 1,
      0x20000]) 65536).hasList 2 = true ∧
      (let es := counterEntries (listed (entry 8 3 [0x1000, 1, 0x20000]) 65536).fn (field ((listed (entry 8 3 [0x1000, 1, 0x20000]) 65536).w 3) 0 18) (acceptCall (listed (entry 8 3 [0x1000, 1, 0x20000]) 65536) (world up).dev); 40 * es.length ≤ (listed (entry 8 3 [0x1000, 1, 0x20000]) 65536).room)
      ∧
      (let es := counterEntries (listed (entry 8 3 [0x1000, 1, 0x20000]) 65536).fn (field ((listed (entry 8 3 [0x1000, 1, 0x20000]) 65536).w 3) 0 18) (acceptCall (listed (entry 8 3 [0x1000, 1, 0x20000]) 65536) (world up).dev); es ≠ [])) := by
  unfold Served EngineServed
  refine ⟨?_, ?_, ?_, ?_⟩ <;> decide +kernel

/-- The hypotheses of `Obligations.StagingReplacesCommitApplies` are met. -/
theorem witness_StagingReplacesCommitApplies :
    (Served (entry 8 0x70 [0x02010001, 0]) (world up).dev ∧ (entry 8 0x70 [0x02010001, 0]).mbx = 8 ∧ ((∀ p ∈ stagePairs (entry 8
      0x70 [0x02010001, 0]), commandOnly p.1 = false)) ∧ ((∀ p ∈ stagePairs (entry 8 0x70 [0x02010001, 0]), (fieldDefault
      p.1).isSome = true ∧ fieldValueOk p.1 p.2 = true)) ∧ commitPending (world up).dev .module = false) ∧
    (Served (entry 8 0x70 [0x02010001, 2]) (world up).dev ∧ (entry 8 0x70 [0x02010001, 2]).mbx = 8 ∧ ((∀ p ∈ stagePairs (entry 8
      0x70 [0x02010001, 2]), commandOnly p.1 = false)) ∧ ((∃ p ∈ stagePairs (entry 8 0x70 [0x02010001, 2]), fieldDefault p.1 = none
      ∨ fieldValueOk p.1 p.2 = false))) ∧
    (Served (entry 8 0x170 [0, 0, 0, 0, 0, 0, 1]) (world up).dev ∧ (entry 8 0x170 [0, 0, 0, 0, 0, 0, 1]).mbx = 8 ∧ (entry 8 0x170
      [0, 0, 0, 0, 0, 0, 1]).w 7 = 1 ∧ commitPending (world up).dev .module = false) ∧
    (Served (entry 8 0x71 [1]) (world { up with staged := [⟨.module, 0x02010001, 0⟩] }).dev ∧ (entry 8 0x71 [1]).mbx = 8 ∧ (entry 8
      0x71 [1]).w 1 = 1 ∧ (world { up with staged := [⟨.module, 0x02010001, 0⟩] }).dev.commits = [] ∧ (world
      { up with staged := [⟨.module, 0x02010001, 0⟩] }).dev.cfgLater = [] ∧ ((world
      { up with staged := [⟨.module, 0x02010001, 0⟩] }).dev.staged.map (·.field)).Nodup) ∧
    (Served (entry 8 0x72 [0x02010001]) (world up).dev ∧ (entry 8 0x72 [0x02010001]).w 1 < 2 ^ 32 ∧ (fieldDefault ((entry 8 0x72
      [0x02010001]).w 1)).isSome = true) := by
  unfold Served
  refine ⟨?_, ?_, ?_, ?_, ?_⟩ <;> decide +kernel

/-- The hypotheses of `Obligations.SharesFencesAndEpochsTakeEffect` are met (part 1). -/
theorem witness_SharesFencesAndEpochsTakeEffect_1 :
    (Served (entry 8 0x12 [0xF, 0, 0, 0, 0]) (world up).dev ∧ (sharesOk ([2, 3, 4, 5].map fun i => ((entry 8 0x12 [0xF, 0, 0, 0,
      0]).words[i]?.getD 0 : BitVec 64)) = true) ∧ (world up).dev.commits = [] ∧ ((∀ t : TenantId, running (world up).dev t =
      false))) ∧
    (Served (entry 8 0x83 [9215]) (world up).dev ∧ (9215 : Nat) = field ((entry 8 0x83 [9215]).w 1) 0 14 ∧ (9215 : Nat) < 9216 ∧
      carriesIndex (world up).dev (field ((entry 8 0x83 [9215]).w 1) 16 4) = true ∧ commitPending (world up).dev .placement = false
      ∧ carrierOf (world up).dev (9215 : Nat) = some (9598 : Nat)) ∧
    ((world { tens {} with commits := [commitK] }).dev.commits = [commitK] ∧ commitK.call.mbx = (8 : MailboxId) ∧
      commitK.call.opcode = 0x71 ∧ commitK.scopes = [.tenant (0 : TenantId)] ∧ commitK.shares = none ∧ commitK.deadline = some (7 :
      Nat) ∧ plannedSites (world { tens {} with commits := [commitK] }).dev = [] ∧ movingTenants (world
      { tens {} with commits := [commitK] }).dev = []) ∧
    ((epochS { tenant := 0, group := 1, bad := [] }).dev.fabric.build = some (({ tenant := 0, group := 1, bad := [] }) : Build) ∧
      (({ tenant := 0, group := 1, bad := [] }) : Build).tenant = (0 : TenantId).val ∧ (({ tenant := 0, group := 1, bad := [] }) :
      Build).built = none) ∧
    ((epochS { tenant := 0, group := 1, bad := [], built := some { number := 1 } }).dev.fabric.build = some
      (({ tenant := 0, group := 1, bad := [], built := some { number := 1 } }) : Build) ∧
      (({ tenant := 0, group := 1, bad := [], built := some { number := 1 } }) : Build).tenant = (0 : TenantId).val ∧
      (({ tenant := 0, group := 1, bad := [], built := some { number := 1 } }) : Build).built = some (({ number := 1 }) : Epoch)) ∧
    (movesReady dryS.dev = false) := by
  unfold Served
  refine ⟨?_, ?_, ?_, ?_, ?_, ?_⟩ <;> decide +kernel

/-- The hypotheses of `Obligations.SharesFencesAndEpochsTakeEffect` are met (part 2). -/
theorem witness_SharesFencesAndEpochsTakeEffect_2 :
    (movesReady fencedS.dev = true ∧ plannedSites fencedS.dev ≠ []) := by
  decide +kernel

/-- The hypotheses of `Obligations.HostReachesRegistersAndWindows` are met (part 1). -/
theorem witness_HostReachesRegistersAndWindows_1 :
    (Reaches (1 : FunctionId) false (world up).dev) ∧
    ((window (world up).dev (1 : FunctionId)).waiting = []) ∧
    (Reaches (1 : FunctionId) false (world winD).dev ∧ (window (world winD).dev (1 : FunctionId)).ready = true ∧ (window (world
      winD).dev (1 : FunctionId)).en = true ∧ windowTensor (world winD).dev (1 : FunctionId) = some winX ∧ (world winD).dev.inStep
      (windowTenant (world winD).dev (1 : FunctionId)) = false ∧ (window (world winD).dev (1 : FunctionId)).base.toNat * 4096 +
      (0xFFF : BitVec 32).toNat + (1 : Nat) ≤ winX.size ∧ ((∀ i, winX.isLost i = false)) ∧ undoLog (world winD).dev (windowTenant
      (world winD).dev (1 : FunctionId)) = []) ∧
    (Reaches (1 : FunctionId) false (world roD).dev ∧ (window (world roD).dev (1 : FunctionId)).ready = true ∧ (window (world
      roD).dev (1 : FunctionId)).en = true ∧ windowTensor (world roD).dev (1 : FunctionId) = some (({ winX with mode := .readOnly })
      : Tensor) ∧ (({ winX with mode := .readOnly }) : Tensor).mode = .readOnly ∧ (([1, 2] : List Byte).take
      ((({ winX with mode := .readOnly }) : Tensor).size - ((window (world roD).dev (1 : FunctionId)).base.toNat * 4096 + (0xFFF :
      BitVec 32).toNat))) ≠ []) ∧
    (Reaches (4 : FunctionId) false (world { up with time := { up.time with latch := vset up.time.latch 4 (some 7) } }).dev ∧
      ((world { up with time := { up.time with latch := vset up.time.latch 4 (some 7) } }).dev.time.latch[(4 : FunctionId).val]'(4 :
      FunctionId).isLt) = some (7 : W32)) ∧
    (Reaches 0 false (world up).dev) := ⟨by unfold Reaches; decide +kernel,
    by decide +kernel,
    ⟨by unfold Reaches; decide +kernel, by decide +kernel, by decide +kernel, by decide +kernel, by decide +kernel, by decide +kernel, (fun _ => rfl), by decide +kernel⟩,
    by unfold Reaches; decide +kernel,
    by unfold Reaches; decide +kernel,
    by unfold Reaches; decide +kernel⟩

/-- The hypotheses of `Obligations.HostReachesRegistersAndWindows` are met (part 2). -/
theorem witness_HostReachesRegistersAndWindows_2 :
    (Reaches 0 false (world up).dev ∧ (world up).dev.caddy.readOnly = false ∧ commitPending (world up).dev .module = false) ∧
    (Reaches (4 : FunctionId) false (world up).dev ∧ (0x2FFFF : Fin 262144).val / 0x6000 < 9 ∧ shows (4 : FunctionId) ⟨(0x2FFFF :
      Fin 262144).val / 0x6000, (by decide)⟩ = true ∧ ((world up).dev.mb ⟨(0x2FFFF : Fin 262144).val / 0x6000, (by decide)⟩).ring.wf
      = true) ∧
    ((world { up with cfg := [(0x01000002, 1)] }).dev.boot.inReset = false ∧ ideRequired (world
      { up with cfg := [(0x01000002, 1)] }).dev = true) := by
  unfold Reaches
  refine ⟨?_, ?_, ?_⟩ <;> decide +kernel

/-- The hypotheses of `Obligations.EventSetsItsStickyBitOverAnAcknowledgement` are met. -/
theorem witness_EventSetsItsStickyBitOverAnAcknowledgement :
    ((({ src := 3, insts := [2], kind := .occurrence }) : FaultReport).insts = [(2 : Nat)] ∧
      (({ src := 3, insts := [2], kind := .occurrence }) : FaultReport).kind = .occurrence ∧ guttS.dev.gutter.initDone = true ∧
      srcEnabled guttS.dev (({ src := 3, insts := [2], kind := .occurrence }) : FaultReport).src.val = true ∧ shadowed guttS.dev
      (({ src := 3, insts := [2], kind := .occurrence }) : FaultReport).src.val (2 : Nat) = false) ∧
    (guttS.dev.gutter.initDone = true ∧ srcEnabled guttS.dev 9 = true ∧ shadowed guttS.dev 9 0 = false ∧ checkInverted guttS.dev 9 =
      false) ∧
    (guttS.dev.gutter.initDone = true ∧ srcEnabled guttS.dev 55 = true ∧ shadowed guttS.dev 55 0 = false ∧ (((none : Option Bool) ≠
      some guttS.dev.pins.errP ∨ (none : Option Bool) ≠ some guttS.dev.pins.errN))) := by
  refine ⟨?_, ?_, ?_⟩ <;> decide +kernel

/-- The hypotheses of `Obligations.AcknowledgementClearsOnlyTheNamedBits` are met. -/
theorem witness_AcknowledgementClearsOnlyTheNamedBits :
    (EngineServed (entry 8 0x81 [3, 1]) (world (guttD { gutt with sticky := 7 })).dev) ∧
    (Reaches 0 false (world (guttD { gutt with sticky := 1#128 <<< 64 })).dev) ∧
    (Reaches (2 : FunctionId) false guttS.dev ∧ (2 : FunctionId) ≠ 0) ∧
    (EngineServed (entry 8 0x80) (world (guttD { gutt with sticky := 7 })).dev ∧ (entry 8 0x80).hasList 2 = false) := by
  unfold EngineServed Reaches
  refine ⟨?_, ?_, ?_, ?_⟩ <;> decide +kernel

/-- The hypotheses of `Obligations.ForceAndCheckInvertBits` are met. -/
theorem witness_ForceAndCheckInvertBits :
    (EngineServed (entry 8 0x82 [3]) guttS.dev ∧ (sourceRow (forcedSource (entry 8 0x82 [3])).val).isSome = true) ∧
    (EngineServed (entry 8 0x82 [0x210]) guttS.dev ∧ invertible (forcedSource (entry 8 0x82 [0x210])) = true) ∧
    (EngineServed (entry 8 0x82 [0x212]) guttS.dev ∧ invertible (forcedSource (entry 8 0x82 [0x212])) = false) := by
  unfold EngineServed
  refine ⟨?_, ?_, ?_⟩ <;> decide +kernel

/-- The hypotheses of `Obligations.ResetsWindowsQuietPeriodsAndThePair` are met. -/
theorem witness_ResetsWindowsQuietPeriodsAndThePair :
    ((world (guttD { gutt with resets := [resetR] })).dev.gutter.resets = [resetR] ∧ resetR.block = ((.tileCore 101) : Block)) ∧
    ((world (guttD { gutt with shadows := [⟨.tileCore 101, [], 0⟩, ⟨.tileCore 102, [], 70000⟩] })).dev.gutter.shadows ≠ []) ∧
    ((classRec (world quietD).dev (2 : ClassId)).quiet = some ((5 : Nat), (10 : Nat)) ∧ (world quietD).dev.gutter.shadows = []) ∧
    (((world (modTenant 1 (fun x => { x with held := [(1, 2, true, [3])] }) up)).dev.boot.kettleRestarting = false) ∧ (((world
      (modTenant 1 (fun x => { x with held := [(1, 2, true, [3])] }) up)).dev.tenant (1 : TenantId)).held ≠ [])) ∧
    (guttS.dev.boot.kettleRestarting = false ∧ (guttS.dev.tenant (1 : TenantId)).held = []) ∧
    ((world { up with gutter := { gutt with pairFault := true } }).dev.gutter.pairFault = true ∧ pairWantsFault (world
      { up with gutter := { gutt with pairFault := true } }).dev = false) := by
  refine ⟨?_, ?_, ?_, ?_, ?_, ?_⟩ <;> decide +kernel

/-- The hypotheses of `Obligations.VectorUnitGivesEachElementItsRoundedValue` are met. -/
theorem witness_VectorUnitGivesEachElementItsRoundedValue :
    (vtRuns runS.dev vt0 = some (0 : TenantId)) ∧
    (vtRuns runS.dev vt0 = some (0 : TenantId) ∧ (((.min : MinMaxOp) = .min ∨ (.min : MinMaxOp) = .max))) ∧
    (vtRuns runS.dev vt0 = some (0 : TenantId) ∧ (.lt : MinMaxOp) ≠ .min ∧ (.lt : MinMaxOp) ≠ .max) ∧
    (vtRuns runS.dev vt0 = some (0 : TenantId)) ∧
    (vtRuns runS.dev vt0 = some (0 : TenantId)) ∧
    (vtRuns runS.dev vt0 = some (0 : TenantId)) := by
  refine ⟨?_, ?_, ?_, ?_, ?_, ?_⟩ <;> decide +kernel

/-- The hypotheses of `Obligations.MomentsConversionsAndDraws` are met (part 1). -/
theorem witness_MomentsConversionsAndDraws_1 :
    (vtRuns runS.dev vt0 = some (0 : TenantId) ∧ ([127, 128] : List Nat) ≠ [] ∧ ([127, 128] : List Nat).length ≤ 131072 ∧ (moments
      (([127, 128] : List Nat).map fun c => decodeNum (.int8 : NumFmt) c) (0 : BitVec 8).toInt = some
      (({ s1 := -1, s2 := 32513, e := 0, replays := 0, sat := false }) : Moments))) ∧
    (vtRuns runS.dev vt0 = some (0 : TenantId) ∧ (5 : Fin 8).val % 4 < 2) ∧
    (vtRuns runS.dev vt0 = some (0 : TenantId) ∧ (7 : Fin 8).val % 4 = 3) ∧
    (vtRuns runS.dev vt0 = some (0 : TenantId) ∧ ((∀ l : Fin 32, (laneCounts (4096 : Nat) 2).getD l.val 0 ≠ 0 → (vt runS.dev
      vt0).draws[l.val]'l.isLt + (laneCounts (4096 : Nat) 2).getD l.val 0 ≤ (drawKey runS.dev (0 : TenantId)).2.2))) ∧
    (vtRuns runS.dev vt0 = some (0 : TenantId) ∧ ((∀ l : Fin 32, (laneCounts (2048 : Nat) 1).getD l.val 0 ≠ 0 → (vt runS.dev
      vt0).draws[l.val]'l.isLt + (laneCounts (2048 : Nat) 1).getD l.val 0 ≤ (drawKey runS.dev (0 : TenantId)).2.2))) ∧
    (vtRuns runS.dev vt0 = some (0 : TenantId) ∧ ((∃ l : Fin 32, (laneCounts (4097 : Nat) 2).getD l.val 0 ≠ 0 ∧ (drawKey runS.dev (0
      : TenantId)).2.2 < (vt runS.dev vt0).draws[l.val]'l.isLt + (laneCounts (4097 : Nat) 2).getD l.val 0))) := by
  refine ⟨?_, ?_, ?_, ?_, ?_, ?_⟩ <;> decide +kernel

/-- The hypotheses of `Obligations.MomentsConversionsAndDraws` are met (part 2). -/
theorem witness_MomentsConversionsAndDraws_2 :
    (vtRuns runS.dev vt0 = some (0 : TenantId) ∧ ([0x3F800000, 0xFF800000, 0x7FC00000] : List W32) ≠ [] ∧ ([0x3F800000, 0xFF800000,
      0x7FC00000] : List W32).length ≤ 256 ∧ (vt runS.dev vt0).rows < (drawKey runS.dev (0 : TenantId)).2.2) := by
  decide +kernel

/-- The hypotheses of `Obligations.ControllerInstructionsAndWaits` are met (part 1). -/
theorem witness_ControllerInstructionsAndWaits_1 :
    (vtRuns runS.dev vt0 = some (0 : TenantId) ∧ (vt runS.dev vt0).waits = none ∧ (vt runS.dev vt0).pc + (4096 : Nat) ≤ ((runDecl
      runS.dev (0 : TenantId)).map (·.imageSize)).getD 0) ∧
    (vtRuns runS.dev vt0 = some (0 : TenantId) ∧ (vt runS.dev vt0).waits = none ∧ (vt runS.dev vt0).pc + (4 : Nat) ≤ ((runDecl
      runS.dev (0 : TenantId)).map (·.imageSize)).getD 0 ∧ (1 : Fin 32) ≠ 0 ∧ spadOk (0x7EFFC : Nat) 4 = true ∧ checkInverted
      runS.dev 0 = false) ∧
    (vtRuns (world (vtD { id := 0, x := (Vector.replicate 32 (0 : W32)).set 2 0xA1B2C3D4 })).dev vt0 = some (0 : TenantId) ∧ (vt
      (world (vtD { id := 0, x := (Vector.replicate 32 (0 : W32)).set 2 0xA1B2C3D4 })).dev vt0).waits = none ∧ (vt (world (vtD
      { id := 0, x := (Vector.replicate 32 (0 : W32)).set 2 0xA1B2C3D4 })).dev vt0).pc + (4 : Nat) ≤ ((runDecl (world (vtD
      { id := 0, x := (Vector.replicate 32 (0 : W32)).set 2 0xA1B2C3D4 })).dev (0 : TenantId)).map (·.imageSize)).getD 0 ∧ spadOk
      (0x7EFFC : Nat) 4 = true ∧ (world (vtD { id := 0, x := (Vector.replicate 32 (0 : W32)).set 2 0xA1B2C3D4 })).dev.scratch.wf =
      true) ∧
    (vtRuns runS.dev vt0 = some (0 : TenantId) ∧ (vt runS.dev vt0).waits = none ∧ (vt runS.dev vt0).pc + (4 : Nat) ≤ ((runDecl
      runS.dev (0 : TenantId)).map (·.imageSize)).getD 0) ∧
    (vtRuns runS.dev vt0 = some (0 : TenantId) ∧ (vt runS.dev vt0).waits = none ∧ (vt runS.dev vt0).pc + (4 : Nat) ≤ ((runDecl
      runS.dev (0 : TenantId)).map (·.imageSize)).getD 0) ∧
    (vtRuns (world (vtD { id := 0, queues := #v[0, 15, 0, 0, 0, 0] })).dev vt0 = some (0 : TenantId) ∧ (vt (world (vtD
      { id := 0, queues := #v[0, 15, 0, 0, 0, 0] })).dev vt0).waits = none ∧ (vt (world (vtD
      { id := 0, queues := #v[0, 15, 0, 0, 0, 0] })).dev vt0).pc + (4 : Nat) ≤ ((runDecl (world (vtD
      { id := 0, queues := #v[0, 15, 0, 0, 0, 0] })).dev (0 : TenantId)).map (·.imageSize)).getD 0 ∧ (vt (world (vtD
      { id := 0, queues := #v[0, 15, 0, 0, 0, 0] })).dev vt0).queues[(queueOf (.vector : QueueUnit)).val]'(queueOf (.vector :
      QueueUnit)).isLt < 16) := by
  refine ⟨?_, ?_, ?_, ?_, ?_, ?_⟩ <;> decide +kernel

/-- The hypotheses of `Obligations.ControllerInstructionsAndWaits` are met (part 2). -/
theorem witness_ControllerInstructionsAndWaits_2 :
    (vtRuns runS.dev vt0 = some (0 : TenantId) ∧ (vt runS.dev vt0).waits = none ∧ ((runDecl runS.dev (0 : TenantId)).map
      (·.imageSize)).getD 0 < (vt runS.dev vt0).pc + (4097 : Nat)) ∧
    (vtRuns (world (vtD { id := 0, finished := #v[1, 0, 0, 0, 0, 0] })).dev vt0 = some (0 : TenantId) ∧ (vt (world (vtD
      { id := 0, finished := #v[1, 0, 0, 0, 0, 0] })).dev vt0).waits = none ∧ (vt (world (vtD
      { id := 0, finished := #v[1, 0, 0, 0, 0, 0] })).dev vt0).queues[(queueOf (.tensor : QueueUnit)).val]'(queueOf (.tensor :
      QueueUnit)).isLt = 0 ∧ (vt (world (vtD { id := 0, finished := #v[1, 0, 0, 0, 0, 0] })).dev vt0).finished[(queueOf (.tensor :
      QueueUnit)).val]'(queueOf (.tensor : QueueUnit)).isLt ≠ 0) ∧
    (vtRuns runS.dev vt0 = some (0 : TenantId) ∧ (vt runS.dev vt0).waits = none ∧ hasSlot runS.dev (0 : TenantId) (5 : Nat) = true) ∧
    (vtRuns runS.dev vt0 = some (0 : TenantId) ∧ (vt runS.dev vt0).waits = none ∧ ((∀ u : Fin 6, (vt runS.dev
      vt0).queues[u.val]'u.isLt = 0))) := by
  refine ⟨?_, ?_, ?_, ?_⟩ <;> decide +kernel

/-- The hypotheses of `Obligations.PassesAndSteepCommandsWriteTheirAreaOnly` are met. -/
theorem witness_PassesAndSteepCommandsWriteTheirAreaOnly :
    (vtRuns runS.dev vt0 = some (0 : TenantId) ∧ runS.dev.scratch.wf = true ∧ checkInverted runS.dev 0 = false ∧ passValid pass0 =
      true ∧ spadOk (16 * pass0.record.val) 1072 = true ∧ pass0.out = .record) ∧
    (vtRuns runS.dev vt0 = some (0 : TenantId) ∧ runS.dev.scratch.wf = true ∧ checkInverted runS.dev 0 = false ∧ passValid
      (({ pass0 with out := .final .int32 0 true .none .fp32 false [] 4096 }) : Pass) = true ∧ spadOk (16 *
      (({ pass0 with out := .final .int32 0 true .none .fp32 false [] 4096 }) : Pass).record.val) 1072 = true ∧
      (({ pass0 with out := .final .int32 0 true .none .fp32 false [] 4096 }) : Pass).out = .final (.int32 : NumFmt) (0 : Fin 3)
      true (.none : Fuse) (.fp32 : NumFmt) false ([] : List Nat) (4096 : Nat) ∧ (0 : Fin 3).val < 2 ∧ spadOk (4096 : Nat) (256 *
      (codeBits (.int32 : NumFmt) / 8)) = true) ∧
    (vtRuns steepS.dev vt0 = some (0 : TenantId) ∧ steepS.dev.scratch.wf = true ∧ checkInverted steepS.dev 0 = false ∧ spadOk (0 :
      Nat) 128 = true ∧ halosLanded steepS.dev (0 : TenantId) (areaOf steepS.dev (0 : TenantId) vt0 (0 : Nat)) = true ∧ (areaOf
      steepS.dev (0 : TenantId) vt0 (0 : Nat)).headerOk = true ∧ 8 ≤ (areaOf steepS.dev (0 : TenantId) vt0 (0 : Nat)).last ∧
      (List.range (areaOf steepS.dev (0 : TenantId) vt0 (0 : Nat)).nvar).all (itemOk steepS.dev (areaOf steepS.dev (0 : TenantId)
      vt0 (0 : Nat))) = true ∧ (List.range (areaOf steepS.dev (0 : TenantId) vt0 (0 : Nat)).npen).all (groupOk steepS.dev (areaOf
      steepS.dev (0 : TenantId) vt0 (0 : Nat))) = true) ∧
    (vtRuns steepS.dev vt0 = some (0 : TenantId) ∧ steepS.dev.scratch.wf = true ∧ checkInverted steepS.dev 0 = false ∧ spadOk (0 :
      Nat) 128 = true ∧ (areaOf steepS.dev (0 : TenantId) vt0 (0 : Nat)).headerOk = true ∧ 8 ≤ (areaOf steepS.dev (0 : TenantId) vt0
      (0 : Nat)).last ∧ (0 : Fin 8).val < (areaOf steepS.dev (0 : TenantId) vt0 (0 : Nat)).ncolour ∧ (0 : Nat) = (areaOf steepS.dev
      (0 : TenantId) vt0 (0 : Nat)).colourStart.getD (0 : Fin 8).val 0 ∧ (1 : Nat) = (areaOf steepS.dev (0 : TenantId) vt0 (0 :
      Nat)).colourStart.getD ((0 : Fin 8).val + 1) 0 ∧ (0 : Nat) < (1 : Nat) ∧ ((1 : Nat) + 31) / 32 - (0 : Nat) / 32 ≤ 1 ∧
      (rangeFrom (0 : Nat) ((1 : Nat) - (0 : Nat))).all (itemOk steepS.dev (areaOf steepS.dev (0 : TenantId) vt0 (0 : Nat))) = true
      ∧ ((∀ l : Fin 32, (colourCounts (areaOf steepS.dev (0 : TenantId) vt0 (0 : Nat)) (0 : Fin 8).val).getD l.val 0 ≠ 0 → (vt
      steepS.dev vt0).draws[l.val]'l.isLt + (colourCounts (areaOf steepS.dev (0 : TenantId) vt0 (0 : Nat)) (0 : Fin 8).val).getD
      l.val 0 ≤ (drawKey steepS.dev (0 : TenantId)).2.2))) ∧
    (vtRuns steepS.dev vt0 = some (0 : TenantId) ∧ steepS.dev.scratch.wf = true ∧ checkInverted steepS.dev 0 = false ∧ spadOk (0 :
      Nat) 128 = true ∧ halosLanded steepS.dev (0 : TenantId) (areaOf steepS.dev (0 : TenantId) vt0 (0 : Nat)) = true ∧ (((areaOf
      steepS.dev (0 : TenantId) vt0 (0 : Nat)).headerOk = false ∨ (areaOf steepS.dev (0 : TenantId) vt0 (0 : Nat)).ncolour ≤ (1 :
      Fin 8).val))) ∧
    (vtRuns steepS.dev vt0 = some (0 : TenantId) ∧ steepS.dev.scratch.wf = true ∧ checkInverted steepS.dev 0 = false ∧ (areaOf
      steepS.dev (0 : TenantId) vt0 (0 : Nat)).headerOk = true ∧ ([0] : List Nat).length ≤ 1) := by
  refine ⟨?_, ?_, ?_, ?_, ?_, ?_⟩ <;> decide +kernel

/-- The hypotheses of `Obligations.SitesFenceHoleTestAndReturn` are met. -/
theorem witness_SitesFenceHoleTestAndReturn :
    ((runS.dev.site (0 : SiteId).val).bad = none) ∧
    (((world (siteD { id := 0, bad := some .fenced, returns := 3 })).dev.site (0 : SiteId).val).bad ≠ some .holed) ∧
    (((world (siteD { id := 9599, bad := some .fenced, returns := 2 })).dev.site (9599 : SiteId).val).bad = some .fenced ∧ ((world
      (siteD { id := 9599, bad := some .fenced, returns := 2 })).dev.site (9599 : SiteId).val).returns < 3) ∧
    (((((world (siteD { id := 9599, bad := some .fenced, returns := 3 })).dev.site (9599 : SiteId).val).bad ≠ some .fenced ∨ 3 ≤
      ((world (siteD { id := 9599, bad := some .fenced, returns := 3 })).dev.site (9599 : SiteId).val).returns))) ∧
    (((world (siteD { id := 7, bad := some .testing })).dev.site (7 : SiteId).val).bad = some .testing ∧ ([] : List LaneAnswer).all
      laneOk = true) ∧
    (((world (siteD { id := 7, bad := some .testing })).dev.site (7 : SiteId).val).bad = some .testing) := by
  refine ⟨?_, ?_, ?_, ?_, ?_, ?_⟩ <;> decide +kernel

/-- The hypotheses of `Obligations.ScratchpadAndLinkErrorsCountAndFence` are met. -/
theorem witness_ScratchpadAndLinkErrorsCountAndFence :
    ((runS.dev.site (0 : SiteId).val).bad = none ∧ checkInverted runS.dev 0 = false) ∧
    (checkInverted runS.dev 0 = false) ∧
    (carrierOf runS.dev (0 : VtileId).val = some (0 : Nat) ∧ tenantOfVtile runS.dev (0 : VtileId).val = some (0 : TenantId) ∧
      runS.dev.inStep (0 : TenantId) = true ∧ checkInverted runS.dev 0 = false ∧ (runS.dev.site (0 : Nat)).bad = none) ∧
    (checkInverted runS.dev 16 = false) := by
  refine ⟨?_, ?_, ?_, ?_⟩ <;> decide +kernel

/-- The hypotheses of `Obligations.FramesMoveSlotsAndReductionsClimb` are met (part 1). -/
theorem witness_FramesMoveSlotsAndReductionsClimb_1 :
    (((postD (fun x => { x with posted := [slotCode vt0 5] })).dev.inStep (0 : TenantId) = true) ∧ (checkInverted (postD (fun x =>
      { x with posted := [slotCode vt0 5] })).dev 16 = false) ∧ (checkInverted (postD (fun x =>
      { x with posted := [slotCode vt0 5] })).dev 0 = false) ∧ ((∀ q ∈ ([(vt0, 5)] : List (VtileRef × Nat)), slotCode q.1 q.2 ∈
      ((postD (fun x => { x with posted := [slotCode vt0 5] })).dev.tenant (0 : TenantId)).posted)) ∧ (16777216 : Int) ≤ 2 ^ 24 ∧
      ((-1) : Int) ≤ 2 ^ 24 ∧ (0 : Int) ≤ 2 ^ 24 ∧ (1 : Int) ≤ 2 ^ 24) ∧
    ((world { runD with scratch := [(0, 9), (1, 8)] }).dev.inStep (0 : TenantId) = true ∧ checkInverted (world
      { runD with scratch := [(0, 9), (1, 8)] }).dev 16 = false ∧ checkInverted (world
      { runD with scratch := [(0, 9), (1, 8)] }).dev 0 = false ∧ ownsVtile (world { runD with scratch := [(0, 9), (1, 8)] }).dev (0
      : TenantId) vt0 = true ∧ ownsVtile (world { runD with scratch := [(0, 9), (1, 8)] }).dev (0 : TenantId) (({ vtile := 1 }) :
      VtileRef) = true ∧ (0 : Nat) + (2 : Nat) ≤ 2 ^ 19 ∧ (524286 : Nat) + (2 : Nat) ≤ 2 ^ 19 ∧ (world
      { runD with scratch := [(0, 9), (1, 8)] }).dev.scratch.wf = true) ∧
    (runS.dev.inStep (0 : TenantId) = true ∧ checkInverted runS.dev 16 = false ∧ checkInverted runS.dev 0 = false ∧ ((∃ q ∈ ([(vt0,
      5)] : List (VtileRef × Nat)), slotCode q.1 q.2 ∉ (runS.dev.tenant (0 : TenantId)).posted))) ∧
    (runS.dev.inStep (0 : TenantId) = true ∧ (runS.dev.tenant (0 : TenantId)).gateUnmet = none) ∧
    (((postD (fun x => { x with gateUnmet := some 1 })).dev.inStep (0 : TenantId) = true) ∧ (((postD (fun x =>
      { x with gateUnmet := some 1 })).dev.tenant (0 : TenantId)).gateUnmet ≠ none)) ∧
    (runS.dev.inStep (0 : TenantId) = true ∧ ((∀ h ∈ (runS.dev.tenant (0 : TenantId)).held, h.1 ≠ (3 : Nat) ∨ h.2.1 ≠ (7 : Nat)))) := by
  refine ⟨?_, ?_, ?_, ?_, ?_, ?_⟩ <;> decide +kernel

/-- The hypotheses of `Obligations.FramesMoveSlotsAndReductionsClimb` are met (part 2). -/
theorem witness_FramesMoveSlotsAndReductionsClimb_2 :
    (((postD (fun x => { x with held := [(3, 7, false, [0x3F800000])] })).dev.inStep (0 : TenantId) = true) ∧ (((postD (fun x =>
      { x with held := [(3, 7, false, [0x3F800000])] })).dev.tenant (0 : TenantId)).held = [((3 : Nat), (7 : Nat), false,
      ([0x3F800000] : List Int))]) ∧ (.fp32 : ReduceKind) = .fp32 ∧ ([0x3F800000] : List Int).length = 1 ∧ ([0x3F800000] : List
      Int).length = 1 ∧ (ownsVtile (postD (fun x => { x with held := [(3, 7, false, [0x3F800000])] })).dev (0 : TenantId) vt0 =
      true) ∧ (524284 : Nat) + 4 ≤ 2 ^ 19 ∧ ((postD (fun x => { x with held := [(3, 7, false, [0x3F800000])] })).dev.scratch.wf =
      true)) := by
  decide +kernel

/-- The hypotheses of `Obligations.RingTransfersAndFencedSegments` are met. -/
theorem witness_RingTransfersAndFencedSegments :
    (ringPath runS.dev.fabric.fenced ((.stop 0) : RingPlace) ((.stop 2) : RingPlace) = some (([0, 1] : List Nat), (0 : Nat)) ∧
      ringSlots (0 : TenantId) ([] : List TenantId) ([0, 1] : List Nat) (0 : Nat) (64 : Nat) runS.dev = some ringE ∧ checkInverted
      runS.dev 17 = false) ∧
    (ringPath (world { runD with fabric := { ({} : Fabric) with fenced := 0xFFFF } }).dev.fabric.fenced ((.stop 0) : RingPlace)
      ((.stop 2) : RingPlace) = none) ∧
    (runS.dev.fabric.fenced.getLsbD (15 : Fin 16).val = false) ∧
    ((world { runD with fabric := { ({} : Fabric) with fenced := 0x8000 } }).dev.fabric.fenced.getLsbD (15 : Fin 16).val = true) := by
  refine ⟨?_, ?_, ?_, ?_⟩ <;> decide +kernel

/-- The hypotheses of `Obligations.PackagesLoadUnderAFreshHandleAndLeave` are met. -/
theorem witness_PackagesLoadUnderAFreshHandleAndLeave :
    (Served (listed (entry 0 0x120 [0x1000, 1]) 4096) (world (tens { rect := (0, 0, 3, 3) })).dev ∧ (listed (entry 0 0x120 [0x1000,
      1]) 4096).flag 8 = true ∧ (listed (entry 0 0x120 [0x1000, 1]) 4096).flag 9 = false ∧ field ((listed (entry 0 0x120 [0x1000,
      1]) 4096).w 2) 0 16 ≤ 4096 ∧ (listed (entry 0 0x120 [0x1000, 1]) 4096).hasList 2 = true ∧ (listed (entry 0 0x120 [0x1000, 1])
      4096).dmaFails = false ∧ (world (tens { rect := (0, 0, 3, 3) })).dev.loads = [] ∧ loadRefusal (listed (entry 0 0x120 [0x1000,
      1]) 4096) decl0 false (world (tens { rect := (0, 0, 3, 3) })).dev = none) ∧
    (Served (entry 0 0x320) (world (tens { rect := (0, 0, 3, 3) })).dev ∧ (entry 0 0x320).flag 8 = true ∧ (entry 0 0x320).flag 9 =
      true ∧ (world (tens { rect := (0, 0, 3, 3) })).dev.loads = [] ∧ (world (tens { rect := (0, 0, 3, 3) })).dev.tiers.t3.packages
      = []) ∧
    (Served (entry 0 0x21 [1]) (world (tens { rect := (0, 0, 3, 3), packages := [pack0] })).dev ∧ ((world (tens
      { rect := (0, 0, 3, 3), packages := [pack0] })).dev.tenant (entry 0 0x21 [1]).tenant).packages = [pack0] ∧ pack0.ready = true
      ∧ pack0.handle = field ((entry 0 0x21 [1]).w 1) 0 32 ∧ running (world (tens
      { rect := (0, 0, 3, 3), packages := [pack0] })).dev (entry 0 0x21 [1]).tenant = false) ∧
    (Served (entry 0 0x21 [1]) runS.dev ∧ (runS.dev.tenant (entry 0 0x21 [1]).tenant).packages = [pack0] ∧ pack0.ready = true ∧
      pack0.handle = field ((entry 0 0x21 [1]).w 1) 0 32 ∧ ((∃ r, (runS.dev.tenant (entry 0 0x21 [1]).tenant).run = some r ∧
      r.package = some pack0.handle)) ∧ running runS.dev (entry 0 0x21 [1]).tenant = true) := by
  unfold Served
  refine ⟨?_, ?_, ?_, ?_⟩ <;> decide +kernel

/-- The hypotheses of `Obligations.HostTensorsAreCreatedWrittenAndReadAsCommitted` are met. -/
theorem witness_HostTensorsAreCreatedWrittenAndReadAsCommitted :
    (Served (stored (entry 0 0x122 [0x8000000700000000, 4094, 2, 0x1000, 1, 4096]) [1, 2]) (world (tens {})).dev ∧ createId (world
      (tens {})).dev (stored (entry 0 0x122 [0x8000000700000000, 4094, 2, 0x1000, 1, 4096]) [1, 2]).tenant ((stored (entry 0 0x122
      [0x8000000700000000, 4094, 2, 0x1000, 1, 4096]) [1, 2]).w 1 / 2 ^ 32) = some (0x80000007 : Nat) ∧ field ((stored (entry 0
      0x122 [0x8000000700000000, 4094, 2, 0x1000, 1, 4096]) [1, 2]).w 1) 0 32 = 0 ∧ rangeOk ((stored (entry 0 0x122
      [0x8000000700000000, 4094, 2, 0x1000, 1, 4096]) [1, 2]).w 2) (field ((stored (entry 0 0x122 [0x8000000700000000, 4094, 2,
      0x1000, 1, 4096]) [1, 2]).w 3) 0 32) ((stored (entry 0 0x122 [0x8000000700000000, 4094, 2, 0x1000, 1, 4096]) [1, 2]).w 6) =
      true ∧ bitAt ((stored (entry 0 0x122 [0x8000000700000000, 4094, 2, 0x1000, 1, 4096]) [1, 2]).w 7) 0 = false ∧ unitsOf ((stored
      (entry 0 0x122 [0x8000000700000000, 4094, 2, 0x1000, 1, 4096]) [1, 2]).w 6) ≤ tierFree (world (tens {})).dev 1 + tierFree
      (world (tens {})).dev 2 ∧ field ((stored (entry 0 0x122 [0x8000000700000000, 4094, 2, 0x1000, 1, 4096]) [1, 2]).w 5) 0 16 ≤
      4096 ∧ (stored (entry 0 0x122 [0x8000000700000000, 4094, 2, 0x1000, 1, 4096]) [1, 2]).hasList 5 = true ∧ field ((stored (entry
      0 0x122 [0x8000000700000000, 4094, 2, 0x1000, 1, 4096]) [1, 2]).w 3) 0 32 ≤ (stored (entry 0 0x122 [0x8000000700000000, 4094,
      2, 0x1000, 1, 4096]) [1, 2]).room ∧ (stored (entry 0 0x122 [0x8000000700000000, 4094, 2, 0x1000, 1, 4096]) [1, 2]).dmaFails =
      false ∧ (world (tens {})).dev.inStep (stored (entry 0 0x122 [0x8000000700000000, 4094, 2, 0x1000, 1, 4096]) [1, 2]).tenant =
      false) ∧
    (Served (stored (entry 0 0x22 [0x700000000, 4094, 2, 0x1000, 1]) [1, 2]) tensX.dev ∧ findTensor tensX.dev (stored (entry 0 0x22
      [0x700000000, 4094, 2, 0x1000, 1]) [1, 2]).tenant ((stored (entry 0 0x22 [0x700000000, 4094, 2, 0x1000, 1]) [1, 2]).w 1 / 2 ^
      32) = some tenX ∧ tenX.ready = true ∧ field ((stored (entry 0 0x22 [0x700000000, 4094, 2, 0x1000, 1]) [1, 2]).w 1) 0 32 = 0 ∧
      tenX.package = none ∧ rangeOk ((stored (entry 0 0x22 [0x700000000, 4094, 2, 0x1000, 1]) [1, 2]).w 2) (field ((stored (entry 0
      0x22 [0x700000000, 4094, 2, 0x1000, 1]) [1, 2]).w 3) 0 32) tenX.size = true ∧ tenX.mode = .inPlace ∧ field ((stored (entry 0
      0x22 [0x700000000, 4094, 2, 0x1000, 1]) [1, 2]).w 5) 0 16 ≤ 4096 ∧ (stored (entry 0 0x22 [0x700000000, 4094, 2, 0x1000, 1])
      [1, 2]).hasList 5 = true ∧ field ((stored (entry 0 0x22 [0x700000000, 4094, 2, 0x1000, 1]) [1, 2]).w 3) 0 32 ≤ (stored (entry
      0 0x22 [0x700000000, 4094, 2, 0x1000, 1]) [1, 2]).room ∧ (stored (entry 0 0x22 [0x700000000, 4094, 2, 0x1000, 1]) [1,
      2]).dmaFails = false ∧ 0 < field ((stored (entry 0 0x22 [0x700000000, 4094, 2, 0x1000, 1]) [1, 2]).w 3) 0 32 ∧
      tensX.dev.inStep (stored (entry 0 0x22 [0x700000000, 4094, 2, 0x1000, 1]) [1, 2]).tenant = false ∧ tenX.lost = [] ∧
      tenX.bytes.wf = true) ∧
    (Served (stored (entry 0 0x22 [0x700000000, 4094, 2, 0x1000, 1]) [1, 2]) runX.dev ∧ findTensor runX.dev (stored (entry 0 0x22
      [0x700000000, 4094, 2, 0x1000, 1]) [1, 2]).tenant ((stored (entry 0 0x22 [0x700000000, 4094, 2, 0x1000, 1]) [1, 2]).w 1 / 2 ^
      32) = some tenX ∧ tenX.ready = true ∧ field ((stored (entry 0 0x22 [0x700000000, 4094, 2, 0x1000, 1]) [1, 2]).w 1) 0 32 = 0 ∧
      tenX.package = none ∧ rangeOk ((stored (entry 0 0x22 [0x700000000, 4094, 2, 0x1000, 1]) [1, 2]).w 2) (field ((stored (entry 0
      0x22 [0x700000000, 4094, 2, 0x1000, 1]) [1, 2]).w 3) 0 32) tenX.size = true ∧ tenX.mode = .inPlace ∧ field ((stored (entry 0
      0x22 [0x700000000, 4094, 2, 0x1000, 1]) [1, 2]).w 5) 0 16 ≤ 4096 ∧ (stored (entry 0 0x22 [0x700000000, 4094, 2, 0x1000, 1])
      [1, 2]).hasList 5 = true ∧ field ((stored (entry 0 0x22 [0x700000000, 4094, 2, 0x1000, 1]) [1, 2]).w 3) 0 32 ≤ (stored (entry
      0 0x22 [0x700000000, 4094, 2, 0x1000, 1]) [1, 2]).room ∧ (stored (entry 0 0x22 [0x700000000, 4094, 2, 0x1000, 1]) [1,
      2]).dmaFails = false ∧ 0 < field ((stored (entry 0 0x22 [0x700000000, 4094, 2, 0x1000, 1]) [1, 2]).w 3) 0 32 ∧ runX.dev.inStep
      (stored (entry 0 0x22 [0x700000000, 4094, 2, 0x1000, 1]) [1, 2]).tenant = true) ∧
    (Served (listed (entry 0 0x23 [7, 4094, 2, 0x1000, 1]) 2) tensX.dev ∧ (listed (entry 0 0x23 [7, 4094, 2, 0x1000, 1]) 2).flag 8 =
      false ∧ findTensor tensX.dev (listed (entry 0 0x23 [7, 4094, 2, 0x1000, 1]) 2).tenant (field ((listed (entry 0 0x23 [7, 4094,
      2, 0x1000, 1]) 2).w 1) 0 32) = some tenX ∧ tenX.ready = true ∧ rangeOk ((listed (entry 0 0x23 [7, 4094, 2, 0x1000, 1]) 2).w 2)
      ((listed (entry 0 0x23 [7, 4094, 2, 0x1000, 1]) 2).w 3) tenX.size = true ∧ tenX.lost = [] ∧ 0 < (listed (entry 0 0x23 [7,
      4094, 2, 0x1000, 1]) 2).w 3 ∧ (listed (entry 0 0x23 [7, 4094, 2, 0x1000, 1]) 2).w 3 ≤ (listed (entry 0 0x23 [7, 4094, 2,
      0x1000, 1]) 2).room ∧ field ((listed (entry 0 0x23 [7, 4094, 2, 0x1000, 1]) 2).w 5) 0 16 ≤ 4096 ∧ (listed (entry 0 0x23 [7,
      4094, 2, 0x1000, 1]) 2).hasList 5 = true ∧ (listed (entry 0 0x23 [7, 4094, 2, 0x1000, 1]) 2).dmaFails = false ∧ atStopPoint
      tensX.dev (listed (entry 0 0x23 [7, 4094, 2, 0x1000, 1]) 2).tenant = false) ∧
    (Served (entry 0 0x24 [7, 4]) tensX.dev ∧ findTensor tensX.dev (entry 0 0x24 [7, 4]).tenant (field ((entry 0 0x24 [7, 4]).w 1) 0
      32) = some tenX ∧ tenX.ready = true ∧ field ((entry 0 0x24 [7, 4]).w 2) 0 3 < 5) ∧
    (Served (entry 0 0x24 [7, 5]) tensX.dev ∧ findTensor tensX.dev (entry 0 0x24 [7, 5]).tenant (field ((entry 0 0x24 [7, 5]).w 1) 0
      32) = some tenX ∧ tenX.ready = true ∧ 5 ≤ field ((entry 0 0x24 [7, 5]).w 2) 0 3) := by
  unfold Served
  refine ⟨?_, ?_, ?_, ?_, ?_, ?_⟩ <;> decide +kernel

/-- The hypotheses of `Obligations.SeedsAreHeldReturnedOrRefused` are met. -/
theorem witness_SeedsAreHeldReturnedOrRefused :
    (Served (entry 0 0x32 [1, 2]) runS.dev ∧ seedBusy runS.dev (entry 0 0x32 [1, 2]).tenant = true) ∧
    (Served (entry 0 0x33) (world (entD { entUp with pool := List.replicate 1024 true })).dev ∧ seedBusy (world (entD
      { entUp with pool := List.replicate 1024 true })).dev (entry 0 0x33).tenant = false ∧ (entry 0 0x33).opcode = 0x33 ∧ (world
      (entD { entUp with pool := List.replicate 1024 true })).dev.entropy.ready = true ∧ (world (entD
      { entUp with pool := List.replicate 1024 true })).dev.entropy.waits = [] ∧ (world (entD
      { entUp with pool := List.replicate 1024 true })).dev.entropy.reseedDue = false ∧ underTest (world (entD
      { entUp with pool := List.replicate 1024 true })).dev 20 = false ∧ 1024 ≤ (world (entD
      { entUp with pool := List.replicate 1024 true })).dev.entropy.pool.length) ∧
    (Served (entry 0 0x33) (world (entD { entUp with pool := List.replicate 1023 true })).dev ∧ seedBusy (world (entD
      { entUp with pool := List.replicate 1023 true })).dev (entry 0 0x33).tenant = false ∧ (entry 0 0x33).opcode = 0x33 ∧ (world
      (entD { entUp with pool := List.replicate 1023 true })).dev.entropy.ready = true ∧ (world (entD
      { entUp with pool := List.replicate 1023 true })).dev.entropy.waits = [] ∧ (world (entD
      { entUp with pool := List.replicate 1023 true })).dev.entropy.reseedDue = false ∧ underTest (world (entD
      { entUp with pool := List.replicate 1023 true })).dev 20 = false ∧ (world (entD
      { entUp with pool := List.replicate 1023 true })).dev.entropy.pool.length < 1024) ∧
    (Served (entry 0 0x33) (world (entD { entUp with failed := true })).dev ∧ seedBusy (world (entD
      { entUp with failed := true })).dev (entry 0 0x33).tenant = false ∧ (world (entD
      { entUp with failed := true })).dev.entropy.broken = true) ∧
    ((world (entD { waits := [entry 0 0x33] })).dev.entropy.waits = [(entry 0 0x33)] ∧ (world (entD
      { waits := [entry 0 0x33] })).dev.entropy.up = false ∧ (world (entD { waits := [entry 0 0x33] })).dev.boot.inReset = false) ∧
    ((world (entD { entUp with waits := [entry 0 0x33] })).dev.entropy.waits = [(entry 0 0x33)] ∧ (world (entD
      { entUp with waits := [entry 0 0x33] })).dev.entropy.up = true) := by
  unfold Served
  refine ⟨?_, ?_, ?_, ?_, ?_, ?_⟩ <;> decide +kernel

/-- The hypotheses of `Obligations.TenantsOpenOnFreeRectanglesAndCloseEmpty` are met. -/
theorem witness_TenantsOpenOnFreeRectanglesAndCloseEmpty :
    (Served (entry 8 0x10 [0, 0x60006000]) (world (tens {})).dev ∧ openRefusal (entry 8 0x10 [0, 0x60006000]) (world (tens {})).dev
      = some (.busy : Status)) ∧
    (Served (entry 8 0x10 [0, 0x03030000]) (world { up with entropy := { entUp with pool := List.replicate 2048 true } }).dev ∧
      openRefusal (entry 8 0x10 [0, 0x03030000]) (world { up with entropy := { entUp with pool := List.replicate 2048 true } }).dev
      = none ∧ (entry 8 0x10 [0, 0x03030000]).opcode = 0x10 ∧ (world
      { up with entropy := { entUp with pool := List.replicate 2048 true } }).dev.entropy.ready = true ∧ (world
      { up with entropy := { entUp with pool := List.replicate 2048 true } }).dev.entropy.waits = [] ∧ (world
      { up with entropy := { entUp with pool := List.replicate 2048 true } }).dev.entropy.reseedDue = false ∧ underTest (world
      { up with entropy := { entUp with pool := List.replicate 2048 true } }).dev 20 = false ∧ 2048 ≤ (world
      { up with entropy := { entUp with pool := List.replicate 2048 true } }).dev.entropy.pool.length) ∧
    (Served (entry 8 0x11 [3]) (world up).dev ∧ (3 : TenantId) = namedTenant (entry 8 0x11 [3]) ∧ ((world up).dev.tenant (3 :
      TenantId)).isOpen = false) ∧
    (Served (entry 8 0x11 [0]) runS.dev ∧ (0 : TenantId) = namedTenant (entry 8 0x11 [0]) ∧ (runS.dev.tenant (0 : TenantId)).isOpen
      = true ∧ running runS.dev (0 : TenantId) = true ∧ (entry 8 0x11 [0]).flag 8 = false) ∧
    (Served (entry 8 0x111 [0]) runS.dev ∧ (0 : TenantId) = namedTenant (entry 8 0x111 [0]) ∧ (runS.dev.tenant (0 :
      TenantId)).isOpen = true ∧ ((running runS.dev (0 : TenantId) = false ∨ (entry 8 0x111 [0]).flag 8 = true)) ∧ runS.dev.commits
      = []) := by
  unfold Served
  refine ⟨?_, ?_, ?_, ?_, ?_⟩ <;> decide +kernel

/-- The hypotheses of `Obligations.TheEntropySourceTestsGathersAndReseeds` are met. -/
theorem witness_TheEntropySourceTestsGathersAndReseeds :
    ((world (entD {})).dev.boot.inReset = false ∧ (world (entD {})).dev.power.state ≠ .backup ∧ (world (entD
      {})).dev.entropy.stopped = false ∧
      (let bad := (rctGo (0 : BitVec 1024) 1024 0 ((world (entD {})).dev.entropy.src[(0 : Fin 4).val]'(0 : Fin 4).isLt).run false).2 || decide (795 ≤ aptCount (0 : BitVec 1024)); bad = true)) ∧
    ((world (entD {})).dev.boot.inReset = false ∧ (world (entD {})).dev.power.state ≠ .backup ∧ (world (entD
      {})).dev.entropy.stopped = false ∧
      (let bad := (rctGo altRaw 1024 0 ((world (entD {})).dev.entropy.src[(3 : Fin 4).val]'(3 : Fin 4).isLt).run false).2 || decide (795 ≤ aptCount altRaw); bad = false)
      ∧
      (let bad := (rctGo altRaw 1024 0 ((world (entD {})).dev.entropy.src[(3 : Fin 4).val]'(3 : Fin 4).isLt).run false).2 || decide (795 ≤ aptCount altRaw); (world (entD {})).dev.entropy.startup < 1024)) ∧
    ((world (entD entUp)).dev.boot.inReset = false ∧ (world (entD entUp)).dev.power.state ≠ .backup ∧ (world (entD
      entUp)).dev.entropy.stopped = false ∧
      (let bad := (rctGo altRaw 1024 0 ((world (entD entUp)).dev.entropy.src[(3 : Fin 4).val]'(3 : Fin 4).isLt).run false).2 || decide (795 ≤ aptCount altRaw); bad = false)
      ∧
      (let bad := (rctGo altRaw 1024 0 ((world (entD entUp)).dev.entropy.src[(3 : Fin 4).val]'(3 : Fin 4).isLt).run false).2 || decide (795 ≤ aptCount altRaw); 1024 ≤ (world (entD entUp)).dev.entropy.startup)
      ∧
      (let bad := (rctGo altRaw 1024 0 ((world (entD entUp)).dev.entropy.src[(3 : Fin 4).val]'(3 : Fin 4).isLt).run false).2 || decide (795 ≤ aptCount altRaw); (world (entD entUp)).dev.entropy.instantiated = true)
      ∧
      (let bad := (rctGo altRaw 1024 0 ((world (entD entUp)).dev.entropy.src[(3 : Fin 4).val]'(3 : Fin 4).isLt).run false).2 || decide (795 ≤ aptCount altRaw); (world (entD entUp)).dev.entropy.waits = [])
      ∧
      (let bad := (rctGo altRaw 1024 0 ((world (entD entUp)).dev.entropy.src[(3 : Fin 4).val]'(3 : Fin 4).isLt).run false).2 || decide (795 ≤ aptCount altRaw); (world (entD entUp)).dev.entropy.reseedDue = false)) ∧
    ((world (entD { entUp with pool := List.replicate 1024 true })).dev.entropy.ready = true ∧ (world (entD
      { entUp with pool := List.replicate 1024 true })).dev.entropy.waits = [] ∧ underTest (world (entD
      { entUp with pool := List.replicate 1024 true })).dev 20 = false ∧ 1024 ≤ (world (entD
      { entUp with pool := List.replicate 1024 true })).dev.entropy.pool.length) ∧
    ((world (entD { entUp with pool := List.replicate 1023 true })).dev.entropy.ready = true ∧ (world (entD
      { entUp with pool := List.replicate 1023 true })).dev.entropy.waits = [] ∧ underTest (world (entD
      { entUp with pool := List.replicate 1023 true })).dev 20 = false ∧ (world (entD
      { entUp with pool := List.replicate 1023 true })).dev.entropy.pool.length < 1024) ∧
    ((world (entD { entUp with waits := [entry 0 0x33] })).dev.entropy.ready = true ∧ (world (entD
      { entUp with waits := [entry 0 0x33] })).dev.entropy.waits = [(entry 0 0x33)]) := by
  refine ⟨?_, ?_, ?_, ?_, ?_, ?_⟩ <;> decide +kernel

/-- The hypotheses of `Obligations.CheckpointsCaptureCommittedStateAndRestoresCheckIt` are met (part 1). -/
theorem witness_CheckpointsCaptureCommittedStateAndRestoresCheckIt_1 :
    (Served (entry 0 0x34) (world heldD).dev ∧ ((world heldD).dev.tenant (entry 0 0x34).tenant).runId.isSome = true ∧ stepOpen
      (world heldD).dev (entry 0 0x34).tenant = false ∧ ((world heldD).dev.tenant (entry 0 0x34).tenant).run.bind (·.dirty) = none ∧
      bitAt ((entry 0 0x34).w 1) 0 = false ∧ tier3ReadOnly (world heldD).dev = false ∧ pageBytes (ckptBytes (world heldD).dev (entry
      0 0x34).tenant false).length ≤ tier3Free (world heldD).dev ∧ freeSlot (world heldD).dev = some (1 : Nat)) ∧
    (Served (entry 0 0x34) runS.dev ∧ (runS.dev.tenant (entry 0 0x34).tenant).runId.isSome = true ∧ stepOpen runS.dev (entry 0
      0x34).tenant = true) ∧
    (Served (entry 0 0x35) runS.dev ∧ running runS.dev (entry 0 0x35).tenant = true) ∧
    (Served (entry 0 0x35 [0x50000]) (ckptD ckptBad).dev ∧ running (ckptD ckptBad).dev (entry 0 0x35 [0x50000]).tenant = false ∧
      ((ckptD ckptBad).dev.tenant (entry 0 0x35 [0x50000]).tenant).seed = some seed0 ∧ bitAt ((entry 0 0x35 [0x50000]).w 1) 0 =
      false ∧ (ckptD ckptBad).dev.tiers.t3.checkpoints = [ckptBad] ∧ ckptBad.slot = field ((entry 0 0x35 [0x50000]).w 1) 16 16 ∧
      ckptBad.tenant = (entry 0 0x35 [0x50000]).tenant.val ∧ ckptRefusal (ckptD ckptBad).dev (entry 0 0x35 [0x50000]).tenant
      seed0.id ckptBad.bytes = some (0x40 : Nat)) ∧
    (Served (entry 0 0x35 [0x50000]) (ckptD ckptX).dev ∧ running (ckptD ckptX).dev (entry 0 0x35 [0x50000]).tenant = false ∧ ((ckptD
      ckptX).dev.tenant (entry 0 0x35 [0x50000]).tenant).seed = some seed0 ∧ bitAt ((entry 0 0x35 [0x50000]).w 1) 0 = false ∧ (ckptD
      ckptX).dev.tiers.t3.checkpoints = [ckptX] ∧ ckptX.slot = field ((entry 0 0x35 [0x50000]).w 1) 16 16 ∧ ckptX.tenant = (entry 0
      0x35 [0x50000]).tenant.val ∧ ckptRefusal (ckptD ckptX).dev (entry 0 0x35 [0x50000]).tenant seed0.id ckptX.bytes = none) ∧
    (Served (entry 0 0x135 [0x50000]) (ckptD ckptBad).dev ∧ bitAt ((entry 0 0x135 [0x50000]).w 1) 0 = false ∧ (ckptD
      ckptBad).dev.tiers.t3.checkpoints = [ckptBad] ∧ ckptBad.slot = field ((entry 0 0x135 [0x50000]).w 1) 16 16 ∧ ckptBad.tenant =
      (entry 0 0x135 [0x50000]).tenant.val) := by
  unfold Served
  refine ⟨?_, ?_, ?_, ?_, ?_, ?_⟩ <;> decide +kernel

/-- The hypotheses of `Obligations.CheckpointsCaptureCommittedStateAndRestoresCheckIt` are met (part 2). -/
theorem witness_CheckpointsCaptureCommittedStateAndRestoresCheckIt_2 :
    (Served (entry 0 0x135 [0x50000]) (ckptD { ckptBad with tenant := 1 }).dev ∧ bitAt ((entry 0 0x135 [0x50000]).w 1) 0 = false ∧
      (ckptD { ckptBad with tenant := 1 }).dev.tiers.t3.checkpoints = [(({ ckptBad with tenant := 1 }) : StoredCheckpoint)] ∧
      (({ ckptBad with tenant := 1 }) : StoredCheckpoint).slot = field ((entry 0 0x135 [0x50000]).w 1) 16 16 ∧
      (({ ckptBad with tenant := 1 }) : StoredCheckpoint).tenant ≠ (entry 0 0x135 [0x50000]).tenant.val) ∧
    (Served (entry 0 0x135 [0x60000]) (ckptD ckptBad).dev ∧ bitAt ((entry 0 0x135 [0x60000]).w 1) 0 = false ∧ (ckptD
      ckptBad).dev.tiers.t3.checkpoints = [ckptBad] ∧ ckptBad.slot ≠ field ((entry 0 0x135 [0x60000]).w 1) 16 16) := by
  unfold Served
  refine ⟨?_, ?_⟩ <;> decide +kernel

/-- The hypotheses of `Obligations.TheSlateDrainsSignsAndReadsInOrder` are met (part 1). -/
theorem witness_TheSlateDrainsSignsAndReadsInOrder_1 :
    ((slateD { buffer := recs16.take 15 }).dev.slate.buffer.length < 16) ∧
    (16 ≤ (slateD { buffer := recs16 }).dev.slate.buffer.length) ∧
    (signPoint (slateD {}).dev = none) ∧
    (signPoint (slateD { ring := recs1024, nextSeq := 1024 }).dev = some (1023 : Nat) ∧ slateRoom (slateD
      { ring := recs1024, nextSeq := 1024 }).dev = true ∧ (slateD { ring := recs1024, nextSeq := 1024 }).dev.slate.waiting = []) ∧
    ((slateD { waiting := [waitR] }).dev.slate.waiting = waitR :: ([] : List SlateWait) ∧ waitR.kind ≠ recStep ∧ slateRoom (slateD
      { waiting := [waitR] }).dev = true) ∧
    ((slateD { waiting := [waitR], buffer := List.replicate 16384 (0, []) }).dev.slate.waiting = waitR :: ([] : List SlateWait) ∧
      waitR.kind ≠ recStep ∧ slateRoom (slateD { waiting := [waitR], buffer := List.replicate 16384 (0, []) }).dev = false) := by
  refine ⟨?_, ?_, ?_, ?_, ?_, ?_⟩ <;> decide +kernel

/-- The hypotheses of `Obligations.TheSlateDrainsSignsAndReadsInOrder` are met (part 2). -/
theorem witness_TheSlateDrainsSignsAndReadsInOrder_2 :
    (Served (entry 0 0x1C0) (slateD {}).dev ∧ (entry 0 0x1C0).mbx.val < 8 ∧ (entry 0 0x1C0).flag 8 = true) ∧
    (Served (listed (entry 0 0xC0 [0, 2, 0x1000, 1]) 512) (slateD { buffer := recs16 }).dev ∧ (listed (entry 0 0xC0 [0, 2, 0x1000,
      1]) 512).mbx.val < 8 ∧ (listed (entry 0 0xC0 [0, 2, 0x1000, 1]) 512).flag 8 = false ∧ (listed (entry 0 0xC0 [0, 2, 0x1000, 1])
      512).flag 9 = false ∧ field ((listed (entry 0 0xC0 [0, 2, 0x1000, 1]) 512).w 4) 0 16 ≤ 4096 ∧ (listed (entry 0 0xC0 [0, 2,
      0x1000, 1]) 512).hasList 4 = true ∧ (listed (entry 0 0xC0 [0, 2, 0x1000, 1]) 512).dmaFails = false ∧
      (let from_ := max ((listed (entry 0 0xC0 [0, 2, 0x1000, 1]) 512).w 1) (((heldRecords (slateD { buffer := recs16 }).dev).head?.map (·.1)).getD ((listed (entry 0 0xC0 [0, 2, 0x1000, 1]) 512).w 1)); let recs := ((heldRecords (slateD { buffer := recs16 }).dev).filter fun r => decide (from_ ≤ r.1) && (decide (leAt r.2 9 1 = (listed (entry 0 0xC0 [0, 2, 0x1000, 1]) 512).tenant.val) || decide (leAt r.2 9 1 = moduleRecord))).take ((listed (entry 0 0xC0 [0, 2, 0x1000, 1]) 512).w 2); (recs.flatMap (·.2)).length ≤ (listed (entry 0 0xC0 [0, 2, 0x1000, 1]) 512).room)
      ∧
      (let from_ := max ((listed (entry 0 0xC0 [0, 2, 0x1000, 1]) 512).w 1) (((heldRecords (slateD { buffer := recs16 }).dev).head?.map (·.1)).getD ((listed (entry 0 0xC0 [0, 2, 0x1000, 1]) 512).w 1)); let recs := ((heldRecords (slateD { buffer := recs16 }).dev).filter fun r => decide (from_ ≤ r.1) && (decide (leAt r.2 9 1 = (listed (entry 0 0xC0 [0, 2, 0x1000, 1]) 512).tenant.val) || decide (leAt r.2 9 1 = moduleRecord))).take ((listed (entry 0 0xC0 [0, 2, 0x1000, 1]) 512).w 2); recs.flatMap (·.2) ≠ [])) := by
  unfold Served
  refine ⟨?_, ?_⟩ <;> decide +kernel

/-- The hypotheses of `Obligations.RunCommandsBeginARunOrAreRefused` are met. -/
theorem witness_RunCommandsBeginARunOrAreRefused :
    (Served (entry 0 0x30) runS.dev ∧ running runS.dev (entry 0 0x30).tenant = true ∧ (Instr.stepRun (entry 0 0x30)) ∈
      [Instr.stepRun (entry 0 0x30), .decodeRun (entry 0 0x30), .annealRun (entry 0 0x30), .replayBegin (entry 0 0x30)]) ∧
    (Served (entry 0 0x30 [1, 2, 0, 0, 999]) idleS.dev ∧ running idleS.dev (entry 0 0x30 [1, 2, 0, 0, 999]).tenant = false ∧
      ((idleS.dev.tenant (entry 0 0x30 [1, 2, 0, 0, 999]).tenant).packages.find? (fun k => decide (k.handle = field ((entry 0 0x30
      [1, 2, 0, 0, 999]).w 1) 0 32)) = some (({ pack0 with decl := { decl0 with budget := 144, decodes := true } }) : Package)) ∧
      (({ pack0 with decl := { decl0 with budget := 144, decodes := true } }) : Package).ready = true ∧ (idleS.dev.tenant (entry 0
      0x30 [1, 2, 0, 0, 999]).tenant).seed = some seed0 ∧ spanRefusal idleS.dev (List.range
      (({ pack0 with decl := { decl0 with budget := 144, decodes := true } }) : Package).decl.extent) = none ∧ field ((entry 0 0x30
      [1, 2, 0, 0, 999]).w 5) 0 30 ≠ 0 ∧ (field ((entry 0 0x30 [1, 2, 0, 0, 999]).w 5) 0 30 < 1000 ∨ 1000000 < field ((entry 0 0x30
      [1, 2, 0, 0, 999]).w 5) 0 30)) ∧
    (Served (entry 0 0x30 [1, 2, 281474976710655, 1, 1000]) idleS.dev ∧ running idleS.dev (entry 0 0x30 [1, 2, 281474976710655, 1,
      1000]).tenant = false ∧ ((idleS.dev.tenant (entry 0 0x30 [1, 2, 281474976710655, 1, 1000]).tenant).packages.find? (fun k =>
      decide (k.handle = field ((entry 0 0x30 [1, 2, 281474976710655, 1, 1000]).w 1) 0 32)) = some
      (({ pack0 with decl := { decl0 with budget := 144, decodes := true } }) : Package)) ∧
      (({ pack0 with decl := { decl0 with budget := 144, decodes := true } }) : Package).ready = true ∧ (idleS.dev.tenant (entry 0
      0x30 [1, 2, 281474976710655, 1, 1000]).tenant).seed = some seed0 ∧ spanRefusal idleS.dev (List.range
      (({ pack0 with decl := { decl0 with budget := 144, decodes := true } }) : Package).decl.extent) = none ∧ ((field ((entry 0
      0x30 [1, 2, 281474976710655, 1, 1000]).w 5) 0 30 = 0 ∨ (1000 ≤ field ((entry 0 0x30 [1, 2, 281474976710655, 1, 1000]).w 5) 0
      30 ∧ field ((entry 0 0x30 [1, 2, 281474976710655, 1, 1000]).w 5) 0 30 ≤ 1000000))) ∧ runValuesOk idleS.dev (entry 0 0x30 [1,
      2, 281474976710655, 1, 1000]).tenant ((entry 0 0x30 [1, 2, 281474976710655, 1, 1000]).w 2) ((entry 0 0x30 [1, 2,
      281474976710655, 1, 1000]).w 3) (field ((entry 0 0x30 [1, 2, 281474976710655, 1, 1000]).w 4) 0 32) = none) ∧
    (Served (entry 0 0x41 [1, 2, 0, 0x800000005, 0x3F8000003F800000, 1024, 7]) idleS.dev ∧ running idleS.dev (entry 0 0x41 [1, 2, 0,
      0x800000005, 0x3F8000003F800000, 1024, 7]).tenant = false ∧ ((idleS.dev.tenant (entry 0 0x41 [1, 2, 0, 0x800000005,
      0x3F8000003F800000, 1024, 7]).tenant).packages.find? (fun k => decide (k.handle = field ((entry 0 0x41 [1, 2, 0, 0x800000005,
      0x3F8000003F800000, 1024, 7]).w 1) 0 32)) = some (({ pack0 with decl := { decl0 with budget := 144, decodes := true } }) :
      Package)) ∧ (({ pack0 with decl := { decl0 with budget := 144, decodes := true } }) : Package).ready = true ∧
      (idleS.dev.tenant (entry 0 0x41 [1, 2, 0, 0x800000005, 0x3F8000003F800000, 1024, 7]).tenant).seed = some seed0 ∧ spanRefusal
      idleS.dev (List.range (({ pack0 with decl := { decl0 with budget := 144, decodes := true } }) : Package).decl.extent) = none ∧
      field ((entry 0 0x41 [1, 2, 0, 0x800000005, 0x3F8000003F800000, 1024, 7]).w 4) 32 4 ≤ 8 ∧ 16 * (field ((entry 0 0x41 [1, 2, 0,
      0x800000005, 0x3F8000003F800000, 1024, 7]).w 4) 32 4 + 1) ≤
      (({ pack0 with decl := { decl0 with budget := 144, decodes := true } }) : Package).decl.budget ∧
      (({ pack0 with decl := { decl0 with budget := 144, decodes := true } }) : Package).decl.decodes = true ∧ rowParamsOk
      { n := 1, temp := BitVec.ofNat 32 (field ((entry 0 0x41 [1, 2, 0, 0x800000005, 0x3F8000003F800000, 1024, 7]).w 5) 0 32), topK := field ((entry 0 0x41 [1, 2, 0, 0x800000005, 0x3F8000003F800000, 1024, 7]).w 6) 0 11, topP := BitVec.ofNat 32 (field ((entry 0 0x41 [1, 2, 0, 0x800000005, 0x3F8000003F800000, 1024, 7]).w 5) 32 32), stream := field ((entry 0 0x41 [1, 2, 0, 0x800000005, 0x3F8000003F800000, 1024, 7]).w 6) 16 8, row := 0 }
      65536 = true ∧ ((∃ x, findTensor idleS.dev (entry 0 0x41 [1, 2, 0, 0x800000005, 0x3F8000003F800000, 1024, 7]).tenant (field
      ((entry 0 0x41 [1, 2, 0, 0x800000005, 0x3F8000003F800000, 1024, 7]).w 7) 0 32) = some x ∧ x.ready = true)) ∧ ((field ((entry 0
      0x41 [1, 2, 0, 0x800000005, 0x3F8000003F800000, 1024, 7]).w 7) 32 32 = 0 ∨ ∃ x, findTensor idleS.dev (entry 0 0x41 [1, 2, 0,
      0x800000005, 0x3F8000003F800000, 1024, 7]).tenant (field ((entry 0 0x41 [1, 2, 0, 0x800000005, 0x3F8000003F800000, 1024, 7]).w
      7) 32 32) = some x ∧ x.ready = true)) ∧ runValuesOk idleS.dev (entry 0 0x41 [1, 2, 0, 0x800000005, 0x3F8000003F800000, 1024,
      7]).tenant ((entry 0 0x41 [1, 2, 0, 0x800000005, 0x3F8000003F800000, 1024, 7]).w 2) ((entry 0 0x41 [1, 2, 0, 0x800000005,
      0x3F8000003F800000, 1024, 7]).w 3) 0 = none) ∧
    (Served (entry 0 0x51 [3, 8]) idleS.dev ∧ running idleS.dev (entry 0 0x51 [3, 8]).tenant = false ∧ findModel idleS.dev (entry 0
      0x51 [3, 8]).tenant (field ((entry 0 0x51 [3, 8]).w 1) 0 32) = some model0 ∧ findTensor idleS.dev (entry 0 0x51 [3, 8]).tenant
      (field ((entry 0 0x51 [3, 8]).w 2) 0 32) = some (logX 8 descB) ∧ (logX 8 descB).ready = true ∧ (logX 8 descB).lost = [] ∧
      (idleS.dev.tenant (entry 0 0x51 [3, 8]).tenant).seed = some seed0 ∧ runRefusal idleS.dev model0 ((logX 8 descB).bytes.readN 0
      (min (logX 8 descB).size 1320)) = none ∧ spanRefusal idleS.dev (modelSpans model0) = none ∧ runValuesOk idleS.dev (entry 0
      0x51 [3, 8]).tenant (rdRunId ((logX 8 descB).bytes.readN 0 (min (logX 8 descB).size 1320))) (rdStep0 ((logX 8
      descB).bytes.readN 0 (min (logX 8 descB).size 1320))) 0 = none) ∧
    (Served (entry 0 0xC1 [2, 5, 5, 0x800000007, 9, 0xFFFFFFFFFFFFFFFF]) replayS.dev ∧ running replayS.dev (entry 0 0xC1 [2, 5, 5,
      0x800000007, 9, 0xFFFFFFFFFFFFFFFF]).tenant = false ∧ ((∀ id ∈ [field ((entry 0 0xC1 [2, 5, 5, 0x800000007, 9,
      0xFFFFFFFFFFFFFFFF]).w 4) 0 32, field ((entry 0 0xC1 [2, 5, 5, 0x800000007, 9, 0xFFFFFFFFFFFFFFFF]).w 4) 32 32, field ((entry
      0 0xC1 [2, 5, 5, 0x800000007, 9, 0xFFFFFFFFFFFFFFFF]).w 5) 0 32], ∃ x, findTensor replayS.dev (entry 0 0xC1 [2, 5, 5,
      0x800000007, 9, 0xFFFFFFFFFFFFFFFF]).tenant id = some x ∧ x.ready = true)) ∧ (replayS.dev.tenant (entry 0 0xC1 [2, 5, 5,
      0x800000007, 9, 0xFFFFFFFFFFFFFFFF]).tenant).seed = some seed0 ∧ replayP.expected = field ((entry 0 0xC1 [2, 5, 5,
      0x800000007, 9, 0xFFFFFFFFFFFFFFFF]).w 4) 0 32 ∧ (entry 0 0xC1 [2, 5, 5, 0x800000007, 9, 0xFFFFFFFFFFFFFFFF]).w 2 ≤ (entry 0
      0xC1 [2, 5, 5, 0x800000007, 9, 0xFFFFFFFFFFFFFFFF]).w 3 ∧ (entry 0 0xC1 [2, 5, 5, 0x800000007, 9, 0xFFFFFFFFFFFFFFFF]).w 3 < 2
      ^ 48 ∧ (((replayS.dev.tenant (entry 0 0xC1 [2, 5, 5, 0x800000007, 9, 0xFFFFFFFFFFFFFFFF]).tenant).runId = some ((entry 0 0xC1
      [2, 5, 5, 0x800000007, 9, 0xFFFFFFFFFFFFFFFF]).w 1) → (replayS.dev.tenant (entry 0 0xC1 [2, 5, 5, 0x800000007, 9,
      0xFFFFFFFFFFFFFFFF]).tenant).nextStep = (entry 0 0xC1 [2, 5, 5, 0x800000007, 9, 0xFFFFFFFFFFFFFFFF]).w 2)) ∧
      ((let lead := firstExpected replayS.dev (entry 0 0xC1 [2, 5, 5, 0x800000007, 9, 0xFFFFFFFFFFFFFFFF]).tenant (field ((entry 0 0xC1 [2, 5, 5, 0x800000007, 9, 0xFFFFFFFFFFFFFFFF]).w 4) 0 32); if kindOf lead = recStep ∧ leAt lead 32 8 + 1 = (entry 0 0xC1 [2, 5, 5, 0x800000007, 9, 0xFFFFFFFFFFFFFFFF]).w 2 ∧ leAt lead 40 8 = (entry 0 0xC1 [2, 5, 5, 0x800000007, 9, 0xFFFFFFFFFFFFFFFF]).w 1 then (replayS.dev.tenant (entry 0 0xC1 [2, 5, 5, 0x800000007, 9, 0xFFFFFFFFFFFFFFFF]).tenant).runId = some ((entry 0 0xC1 [2, 5, 5, 0x800000007, 9, 0xFFFFFFFFFFFFFFFF]).w 1) ∧ slice lead 128 16 = bytes16 (replayS.dev.tenant (entry 0 0xC1 [2, 5, 5, 0x800000007, 9, 0xFFFFFFFFFFFFFFFF]).tenant).chain else (replayS.dev.tenant (entry 0 0xC1 [2, 5, 5, 0x800000007, 9, 0xFFFFFFFFFFFFFFFF]).tenant).runId ≠ some ((entry 0 0xC1 [2, 5, 5, 0x800000007, 9, 0xFFFFFFFFFFFFFFFF]).w 1) ∨ (replayS.dev.tenant (entry 0 0xC1 [2, 5, 5, 0x800000007, 9, 0xFFFFFFFFFFFFFFFF]).tenant).chain = chainInit ((entry 0 0xC1 [2, 5, 5, 0x800000007, 9, 0xFFFFFFFFFFFFFFFF]).w 1) seed0.id))
      ∧ expectedStep replayS.dev (entry 0 0xC1 [2, 5, 5, 0x800000007, 9, 0xFFFFFFFFFFFFFFFF]).tenant replayP ((entry 0 0xC1 [2, 5,
      5, 0x800000007, 9, 0xFFFFFFFFFFFFFFFF]).w 1) ((entry 0 0xC1 [2, 5, 5, 0x800000007, 9, 0xFFFFFFFFFFFFFFFF]).w 2) = some stepRec
      ∧ slice stepRec 64 16 = List.replicate 16 0 ∧ (replayS.dev.tenant (entry 0 0xC1 [2, 5, 5, 0x800000007, 9,
      0xFFFFFFFFFFFFFFFF]).tenant).packages = []) := by
  unfold Served
  refine ⟨?_, ?_, ?_, ?_, ?_, ?_⟩ <;> decide +kernel

/-- The hypotheses of `Obligations.StepsStartEndPhasesAndHalt` are met (part 1). -/
theorem witness_StepsStartEndPhasesAndHalt_1 :
    (((world (tens { ten0 with runState := .stopped })).dev.tenant (0 : TenantId)).run = some run0 ∧ running (world (tens
      { ten0 with runState := .stopped })).dev (0 : TenantId) = false) ∧
    ((((world (run1 (fun r => { r with period := 10000 }))).dev.tenant (0 : TenantId)).run = some
      (({ run0 with step := none, period := 10000 }) : Run)) ∧ (running (world (run1 (fun r => { r with period := 10000 }))).dev (0
      : TenantId) = true) ∧ (({ run0 with step := none, period := 10000 }) : Run).barrier = none ∧
      (({ run0 with step := none, period := 10000 }) : Run).replay = none ∧ (spanBound (world (run1 (fun r =>
      { r with period := 10000 }))).dev (0 : TenantId) = false) ∧ (drainHolds (world (run1 (fun r =>
      { r with period := 10000 }))).dev (0 : TenantId) = false) ∧ (awake (world (run1 (fun r => { r with period := 10000 }))).dev =
      true) ∧ (latchOf (world (run1 (fun r => { r with period := 10000 }))).dev (({ run0 with step := none, period := 10000 }) :
      Run).call ≠ .flush) ∧ (runRoom (world (run1 (fun r => { r with period := 10000 }))).dev
      (({ run0 with step := none, period := 10000 }) : Run) = true) ∧ 0 < (({ run0 with step := none, period := 10000 }) :
      Run).period ∧ (({ run0 with step := none, period := 10000 }) : Run).idle = true ∧
      (({ run0 with step := none, period := 10000 }) : Run).released = false) ∧
    (((world (run1 id)).dev.tenant (0 : TenantId)).run = some (({ run0 with step := none }) : Run) ∧ running (world (run1 id)).dev
      (0 : TenantId) = true ∧ (({ run0 with step := none }) : Run).barrier = none ∧ (({ run0 with step := none }) : Run).replay =
      none ∧ spanBound (world (run1 id)).dev (0 : TenantId) = false ∧ drainHolds (world (run1 id)).dev (0 : TenantId) = false ∧
      awake (world (run1 id)).dev = true ∧ latchOf (world (run1 id)).dev (({ run0 with step := none }) : Run).call ≠ .flush ∧
      runRoom (world (run1 id)).dev (({ run0 with step := none }) : Run) = true ∧ (({ run0 with step := none }) : Run).redo = none ∧
      (({ run0 with step := none }) : Run).committing = none ∧ (({ run0 with step := none }) : Run).recorded = false ∧ regionTest
      (world (run1 id)).dev (0 : TenantId) = false ∧ (({ run0 with step := none }) : Run).period = 0 ∧ (({ run0 with step := none })
      : Run).step = none) ∧
    ((((world (runStep (fun x => { x with started := false }))).dev.tenant (0 : TenantId)).run = some
      (({ run0 with step := some { step9 with started := false } }) : Run)) ∧ (running (world (runStep (fun x =>
      { x with started := false }))).dev (0 : TenantId) = true) ∧ (({ run0 with step := some { step9 with started := false } }) :
      Run).barrier = none ∧ (({ run0 with step := some { step9 with started := false } }) : Run).replay = none ∧ (spanBound (world
      (runStep (fun x => { x with started := false }))).dev (0 : TenantId) = false) ∧ (drainHolds (world (runStep (fun x =>
      { x with started := false }))).dev (0 : TenantId) = false) ∧ (awake (world (runStep (fun x =>
      { x with started := false }))).dev = true) ∧ (latchOf (world (runStep (fun x => { x with started := false }))).dev
      (({ run0 with step := some { step9 with started := false } }) : Run).call ≠ .flush) ∧ (runRoom (world (runStep (fun x =>
      { x with started := false }))).dev (({ run0 with step := some { step9 with started := false } }) : Run) = true) ∧
      (({ run0 with step := some { step9 with started := false } }) : Run).redo = none ∧
      (({ run0 with step := some { step9 with started := false } }) : Run).committing = none ∧
      (({ run0 with step := some { step9 with started := false } }) : Run).recorded = false ∧ (regionTest (world (runStep (fun x =>
      { x with started := false }))).dev (0 : TenantId) = false) ∧ (({ run0 with step := some { step9 with started := false } }) :
      Run).step = some (({ step9 with started := false }) : Step) ∧ (({ step9 with started := false }) : Step).started = false) ∧
    ((runS.dev.tenant (0 : TenantId)).run = some run0 ∧ run0.step = some step9 ∧ step9.started = true ∧ runDecl runS.dev (0 :
      TenantId) = some decl0 ∧ step9.halted = false ∧ run0.committing = none ∧ run0.recorded = false ∧ run0.kind = .steps ∧
      (runS.dev.tenant (0 : TenantId)).pair = none ∧ step9.phases.length < decl0.phases.length) ∧
    ((((world (runStep (fun x => { x with phases := [(0, 0)] }))).dev.tenant (0 : TenantId)).run = some
      (({ run0 with step := some { step9 with phases := [(0, 0)] } }) : Run)) ∧
      (({ run0 with step := some { step9 with phases := [(0, 0)] } }) : Run).step = some (({ step9 with phases := [(0, 0)] }) :
      Step) ∧ (({ step9 with phases := [(0, 0)] }) : Step).started = true ∧ (runDecl (world (runStep (fun x =>
      { x with phases := [(0, 0)] }))).dev (0 : TenantId) = some decl0) ∧ decl0.phases.length ≤ (({ step9 with phases := [(0, 0)] })
      : Step).phases.length) := by
  refine ⟨?_, ?_, ?_, ?_, ?_, ?_⟩ <;> decide +kernel

/-- The hypotheses of `Obligations.StepsStartEndPhasesAndHalt` are met (part 2). -/
theorem witness_StepsStartEndPhasesAndHalt_2 :
    (Served (entry 0 0x1C1) haltedS.dev ∧ running haltedS.dev (entry 0 0x1C1).tenant = true ∧ atStopPoint haltedS.dev (entry 0
      0x1C1).tenant = true) ∧
    (Served (entry 0 0x1C1) runS.dev ∧ atStopPoint runS.dev (entry 0 0x1C1).tenant = false) ∧
    ((EngineServed (entry 0 0x31 [0]) (world (mailed 0 (fun x =>
      { x with started := [{ call := entry 0 0x30 [1, 9], rung := 0, first := true, compute := true }] }) runD)).dev) ∧ (entry 0
      0x31 [0]).opcode = 0x31 ∧ (atStopPoint (world (mailed 0 (fun x =>
      { x with started := [{ call := entry 0 0x30 [1, 9], rung := 0, first := true, compute := true }] }) runD)).dev (entry 0 0x31
      [0]).tenant = false)) := by
  unfold Served EngineServed
  refine ⟨?_, ?_, ?_⟩ <;> decide +kernel

/-- The hypotheses of `Obligations.TheEndOfAStepCommitsRerunsOrWaits` are met. -/
theorem witness_TheEndOfAStepCommitsRerunsOrWaits :
    ((((world (runStep (fun x => { x with started := false }))).dev.tenant (0 : TenantId)).run = some
      (({ run0 with step := some { step9 with started := false } }) : Run)) ∧
      (({ run0 with step := some { step9 with started := false } }) : Run).step = some (({ step9 with started := false }) : Step) ∧
      (({ run0 with step := some { step9 with started := false } }) : Run).kind = .steps ∧
      (({ run0 with step := some { step9 with started := false } }) : Run).replay = none ∧
      (({ run0 with step := some { step9 with started := false } }) : Run).committing = none ∧
      (({ run0 with step := some { step9 with started := false } }) : Run).recorded = false ∧ (running (world (runStep (fun x =>
      { x with started := false }))).dev (0 : TenantId) = true) ∧ (({ step9 with started := false }) : Step).started = false) ∧
    (((world (endedD id)).dev.tenant (0 : TenantId)).run = some run0 ∧ run0.step = some step9 ∧ run0.kind = .steps ∧ run0.replay =
      none ∧ run0.committing = none ∧ run0.recorded = false ∧ running (world (endedD id)).dev (0 : TenantId) = true ∧ step9.started
      = true ∧ step9.halted = false ∧ step9.reason = none ∧ ((runVtiles (world (endedD id)).dev (0 : TenantId)).all (fun n => (vt
      (world (endedD id)).dev (refOf n)).ended) = true) ∧ slateRoom (world (endedD id)).dev = true ∧ (world (endedD
      id)).dev.slate.waiting = [] ∧ runRoom (world (endedD id)).dev run0 = true) ∧
    (((world { endedD id with slate := { buffer := List.replicate 16384 (0, []) } }).dev.tenant (0 : TenantId)).run = some run0 ∧
      run0.step = some step9 ∧ run0.kind = .steps ∧ run0.replay = none ∧ run0.committing = none ∧ run0.recorded = false ∧ running
      (world { endedD id with slate := { buffer := List.replicate 16384 (0, []) } }).dev (0 : TenantId) = true ∧ step9.started =
      true ∧ step9.halted = false ∧ step9.reason = none ∧ ((runVtiles (world
      { endedD id with slate := { buffer := List.replicate 16384 (0, []) } }).dev (0 : TenantId)).all (fun n => (vt (world
      { endedD id with slate := { buffer := List.replicate 16384 (0, []) } }).dev (refOf n)).ended) = true) ∧ slateRoom (world
      { endedD id with slate := { buffer := List.replicate 16384 (0, []) } }).dev = false) ∧
    ((((world (runStep (fun _ => badStep))).dev.tenant (0 : TenantId)).run = some (({ run0 with step := some badStep }) : Run)) ∧
      (({ run0 with step := some badStep }) : Run).step = some badStep ∧ (({ run0 with step := some badStep }) : Run).kind = .steps
      ∧ (({ run0 with step := some badStep }) : Run).replay = none ∧ (({ run0 with step := some badStep }) : Run).committing = none
      ∧ (({ run0 with step := some badStep }) : Run).recorded = false ∧ (running (world (runStep (fun _ => badStep))).dev (0 :
      TenantId) = true) ∧ badStep.started = true ∧ badStep.halted = false ∧ badStep.reason = some (1 : Nat) ∧ badStep.overflowed =
      false ∧ 1 ≤ (1 : Nat) ∧ (1 : Nat) ≤ 7 ∧ (({ run0 with step := some badStep }) : Run).rerun = false ∧ (latchOf (world (runStep
      (fun _ => badStep))).dev (({ run0 with step := some badStep }) : Run).call ≠ .flush) ∧ (slateRoom (world (runStep (fun _ =>
      badStep))).dev = true) ∧ ((world (runStep (fun _ => badStep))).dev.slate.waiting = []) ∧ (runRoom (world (runStep (fun _ =>
      badStep))).dev (({ run0 with step := some badStep }) : Run) = true)) ∧
    ((runS.dev.tenant (0 : TenantId)).run = some run0 ∧ run0.redo = none) ∧
    ((((world (run1 (fun r => { r with redo := some badStep }))).dev.tenant (0 : TenantId)).run = some
      (({ run0 with step := none, redo := some badStep }) : Run)) ∧ (({ run0 with step := none, redo := some badStep }) : Run).redo
      = some badStep ∧ badStep.reason ≠ some 5 ∧ (running (world (run1 (fun r => { r with redo := some badStep }))).dev (0 :
      TenantId) = true) ∧ (runRoom (world (run1 (fun r => { r with redo := some badStep }))).dev
      (({ run0 with step := none, redo := some badStep }) : Run) = true)) := by
  refine ⟨?_, ?_, ?_, ?_, ?_, ?_⟩ <;> decide +kernel

/-- The hypotheses of `Obligations.MirrorsCopyAndRegenerationChecksDigests` are met. -/
theorem witness_MirrorsCopyAndRegenerationChecksDigests :
    ((vt runS.dev vt0).uncopied = []) ∧
    (tenantOfVtile pageD.dev vt0.vtile.val = some (0 : TenantId) ∧ (vt pageD.dev vt0).uncopied = (3 : Nat) :: ([4] : List Nat) ∧
      (runDecl pageD.dev (0 : TenantId)).isSome = true) ∧
    (((lossS [mirror8] []).dev.tenant (0 : TenantId)).run = some (({ run0 with step := none, redo := some badStep }) : Run) ∧
      (({ run0 with step := none, redo := some badStep }) : Run).redo = some badStep ∧ running (lossS [mirror8] []).dev (0 :
      TenantId) = true ∧ mappingReady (lossS [mirror8] []).dev (0 : TenantId) = true ∧ ((lossS [mirror8] []).dev.tenant (0 :
      TenantId)).mirrors.find? (·.complete) = some mirror8 ∧ mirror8.next < badStep.n ∧ ((∀ i, i < badStep.n - mirror8.next → ∀ o,
      assoc ((lossS [mirror8] []).dev.tenant (0 : TenantId)).digests (mirror8.next + i) = some o → o = outputDigest (([] : List
      (List (List Byte))).getD i []) (mirror8.next + i)))) ∧
    (((lossS [mirror8] [(8, outputDigest [] 8 + 1)]).dev.tenant (0 : TenantId)).run = some
      (({ run0 with step := none, redo := some badStep }) : Run) ∧ (({ run0 with step := none, redo := some badStep }) : Run).redo =
      some badStep ∧ running (lossS [mirror8] [(8, outputDigest [] 8 + 1)]).dev (0 : TenantId) = true ∧ mappingReady (lossS
      [mirror8] [(8, outputDigest [] 8 + 1)]).dev (0 : TenantId) = true ∧ ((lossS [mirror8] [(8, outputDigest [] 8 + 1)]).dev.tenant
      (0 : TenantId)).mirrors.find? (·.complete) = some mirror8 ∧ mirror8.next < badStep.n ∧ ((∃ i, i < badStep.n - mirror8.next ∧ ∃
      o, assoc ((lossS [mirror8] [(8, outputDigest [] 8 + 1)]).dev.tenant (0 : TenantId)).digests (mirror8.next + i) = some o ∧ o ≠
      outputDigest (([] : List (List (List Byte))).getD i []) (mirror8.next + i)))) ∧
    (((lossS [] []).dev.tenant (0 : TenantId)).run = some (({ run0 with step := none, redo := some badStep }) : Run) ∧
      (({ run0 with step := none, redo := some badStep }) : Run).redo = some badStep ∧ running (lossS [] []).dev (0 : TenantId) =
      true ∧ mappingReady (lossS [] []).dev (0 : TenantId) = true ∧ ((lossS [] []).dev.tenant (0 : TenantId)).mirrors.find?
      (·.complete) = none) := ⟨by decide +kernel,
    by decide +kernel,
    ⟨by decide +kernel, by decide +kernel, by decide +kernel, by decide +kernel, by decide +kernel, by decide +kernel, (by intro i _ o h; cases h)⟩,
    ⟨by decide +kernel, by decide +kernel, by decide +kernel, by decide +kernel, by decide +kernel, by decide +kernel, ⟨0, by decide, outputDigest [] 8 + 1, by decide +kernel, by decide +kernel⟩⟩,
    by decide +kernel⟩

/-- The hypotheses of `Obligations.HostRowsAreDrawnOrRefused` are met. -/
theorem witness_HostRowsAreDrawnOrRefused :
    (Served (rowC 0x40 0 []) seedS.dev ∧ rowParamsOk (packedRow (rowC 0x40 0 [])) 65536 = false ∧ (Instr.sampleRow (rowC 0x40 0 []))
      ∈ [Instr.sampleRow (rowC 0x40 0 []), .specVerify (rowC 0x40 0 [])]) ∧
    (Served (rowC 0x42 0x90002 []) seedS.dev ∧ ((field ((rowC 0x42 0x90002 []).w 3) 16 4 = 0 ∨ 8 < field ((rowC 0x42 0x90002 []).w
      3) 16 4))) ∧
    (Served (rowC 0x40 2 oneHalf) (world (tens {})).dev ∧ rowParamsOk (packedRow (rowC 0x40 2 oneHalf)) 65536 = true ∧ ((world (tens
      {})).dev.tenant (rowC 0x40 2 oneHalf).tenant).seed = none) ∧
    (Served (rowC 0x40 2 oneHalf) seedS.dev ∧ rowParamsOk (packedRow (rowC 0x40 2 oneHalf)) 65536 = true ∧ (seedS.dev.tenant (rowC
      0x40 2 oneHalf).tenant).seed = some seed0 ∧ hostStrainer seedS.dev = some (0 : StrainerId) ∧ field ((rowC 0x40 2 oneHalf).w 6)
      0 16 ≤ 4096 ∧ (rowC 0x40 2 oneHalf).hasList 6 = true ∧ (rowC 0x40 2 oneHalf).dmaFails = false ∧
      (let p := packedRow (rowC 0x40 2 oneHalf); let need := p.n * scoreBytes p.fmt; need ≤ (rowC 0x40 2 oneHalf).room)) ∧
    (Served (rowC 0x42 0x10002 (groupB 0 |>.set 32 0xFF |>.set 24 0)) seedS.dev ∧ rowParamsOk (packedRow (rowC 0x42 0x10002 (groupB
      0 |>.set 32 0xFF |>.set 24 0))) 65536 = true ∧ (seedS.dev.tenant (rowC 0x42 0x10002 (groupB 0 |>.set 32 0xFF |>.set 24
      0)).tenant).seed = some seed0 ∧ hostStrainer seedS.dev = some (0 : StrainerId) ∧ field ((rowC 0x42 0x10002 (groupB 0 |>.set 32
      0xFF |>.set 24 0)).w 6) 0 16 ≤ 4096 ∧ (rowC 0x42 0x10002 (groupB 0 |>.set 32 0xFF |>.set 24 0)).hasList 6 = true ∧ (rowC 0x42
      0x10002 (groupB 0 |>.set 32 0xFF |>.set 24 0)).dmaFails = false ∧
      (let p := packedRow (rowC 0x42 0x10002 (groupB 0 |>.set 32 0xFF |>.set 24 0)); let n := field ((rowC 0x42 0x10002 (groupB 0 |>.set 32 0xFF |>.set 24 0)).w 3) 16 4; let len := p.n * scoreBytes p.fmt; let need := (n + 1) * len + n * (16 + len); let bs := fit need (rowC 0x42 0x10002 (groupB 0 |>.set 32 0xFF |>.set 24 0)).data; let recs := (List.range n).map fun i => (draftAt p bs ((n + 1) * len + i * (16 + len)), (n + 1) * len + i * (16 + len) + 16); 1 ≤ n)
      ∧
      (let p := packedRow (rowC 0x42 0x10002 (groupB 0 |>.set 32 0xFF |>.set 24 0)); let n := field ((rowC 0x42 0x10002 (groupB 0 |>.set 32 0xFF |>.set 24 0)).w 3) 16 4; let len := p.n * scoreBytes p.fmt; let need := (n + 1) * len + n * (16 + len); let bs := fit need (rowC 0x42 0x10002 (groupB 0 |>.set 32 0xFF |>.set 24 0)).data; let recs := (List.range n).map fun i => (draftAt p bs ((n + 1) * len + i * (16 + len)), (n + 1) * len + i * (16 + len) + 16); n ≤ 8)
      ∧
      (let p := packedRow (rowC 0x42 0x10002 (groupB 0 |>.set 32 0xFF |>.set 24 0)); let n := field ((rowC 0x42 0x10002 (groupB 0 |>.set 32 0xFF |>.set 24 0)).w 3) 16 4; let len := p.n * scoreBytes p.fmt; let need := (n + 1) * len + n * (16 + len); let bs := fit need (rowC 0x42 0x10002 (groupB 0 |>.set 32 0xFF |>.set 24 0)).data; let recs := (List.range n).map fun i => (draftAt p bs ((n + 1) * len + i * (16 + len)), (n + 1) * len + i * (16 + len) + 16); need ≤ (rowC 0x42 0x10002 (groupB 0 |>.set 32 0xFF |>.set 24 0)).room)
      ∧
      (let p := packedRow (rowC 0x42 0x10002 (groupB 0 |>.set 32 0xFF |>.set 24 0)); let n := field ((rowC 0x42 0x10002 (groupB 0 |>.set 32 0xFF |>.set 24 0)).w 3) 16 4; let len := p.n * scoreBytes p.fmt; let need := (n + 1) * len + n * (16 + len); let bs := fit need (rowC 0x42 0x10002 (groupB 0 |>.set 32 0xFF |>.set 24 0)).data; let recs := (List.range n).map fun i => (draftAt p bs ((n + 1) * len + i * (16 + len)), (n + 1) * len + i * (16 + len) + 16); (∃ r ∈ recs, rowParamsOk r.1.1 65536 = false))) ∧
    (Served (rowC 0x42 0x10002 (groupB 1)) seedS.dev ∧ rowParamsOk (packedRow (rowC 0x42 0x10002 (groupB 1))) 65536 = true ∧
      (seedS.dev.tenant (rowC 0x42 0x10002 (groupB 1)).tenant).seed = some seed0 ∧ hostStrainer seedS.dev = some (0 : StrainerId) ∧
      field ((rowC 0x42 0x10002 (groupB 1)).w 6) 0 16 ≤ 4096 ∧ (rowC 0x42 0x10002 (groupB 1)).hasList 6 = true ∧ (rowC 0x42 0x10002
      (groupB 1)).dmaFails = false ∧
      (let p := packedRow (rowC 0x42 0x10002 (groupB 1)); let n := field ((rowC 0x42 0x10002 (groupB 1)).w 3) 16 4; let len := p.n * scoreBytes p.fmt; let need := (n + 1) * len + n * (16 + len); let bs := fit need (rowC 0x42 0x10002 (groupB 1)).data; let recs := (List.range n).map fun i => (draftAt p bs ((n + 1) * len + i * (16 + len)), (n + 1) * len + i * (16 + len) + 16); 1 ≤ n)
      ∧
      (let p := packedRow (rowC 0x42 0x10002 (groupB 1)); let n := field ((rowC 0x42 0x10002 (groupB 1)).w 3) 16 4; let len := p.n * scoreBytes p.fmt; let need := (n + 1) * len + n * (16 + len); let bs := fit need (rowC 0x42 0x10002 (groupB 1)).data; let recs := (List.range n).map fun i => (draftAt p bs ((n + 1) * len + i * (16 + len)), (n + 1) * len + i * (16 + len) + 16); n ≤ 8)
      ∧
      (let p := packedRow (rowC 0x42 0x10002 (groupB 1)); let n := field ((rowC 0x42 0x10002 (groupB 1)).w 3) 16 4; let len := p.n * scoreBytes p.fmt; let need := (n + 1) * len + n * (16 + len); let bs := fit need (rowC 0x42 0x10002 (groupB 1)).data; let recs := (List.range n).map fun i => (draftAt p bs ((n + 1) * len + i * (16 + len)), (n + 1) * len + i * (16 + len) + 16); need ≤ (rowC 0x42 0x10002 (groupB 1)).room)
      ∧
      (let p := packedRow (rowC 0x42 0x10002 (groupB 1)); let n := field ((rowC 0x42 0x10002 (groupB 1)).w 3) 16 4; let len := p.n * scoreBytes p.fmt; let need := (n + 1) * len + n * (16 + len); let bs := fit need (rowC 0x42 0x10002 (groupB 1)).data; let recs := (List.range n).map fun i => (draftAt p bs ((n + 1) * len + i * (16 + len)), (n + 1) * len + i * (16 + len) + 16); let qs := recs.map fun r => { rowKept r.1.1 (hostBlocks r.1.1 (scoresAt bs p.fmt r.2 p.n)) with token := r.1.2 }; let targets := (List.range (n + 1)).map fun i => rowKept p (hostBlocks p (scoresAt bs p.fmt (i * len) p.n)); let g := verifyGroup (hostUniform seed0.value p.stream (field ((rowC 0x42 0x10002 (groupB 1)).w 4) 0 48) p.row) qs targets; (∀ r ∈ recs, rowParamsOk r.1.1 65536 = true))
      ∧
      (let p := packedRow (rowC 0x42 0x10002 (groupB 1)); let n := field ((rowC 0x42 0x10002 (groupB 1)).w 3) 16 4; let len := p.n * scoreBytes p.fmt; let need := (n + 1) * len + n * (16 + len); let bs := fit need (rowC 0x42 0x10002 (groupB 1)).data; let recs := (List.range n).map fun i => (draftAt p bs ((n + 1) * len + i * (16 + len)), (n + 1) * len + i * (16 + len) + 16); let qs := recs.map fun r => { rowKept r.1.1 (hostBlocks r.1.1 (scoresAt bs p.fmt r.2 p.n)) with token := r.1.2 }; let targets := (List.range (n + 1)).map fun i => rowKept p (hostBlocks p (scoresAt bs p.fmt (i * len) p.n)); let g := verifyGroup (hostUniform seed0.value p.stream (field ((rowC 0x42 0x10002 (groupB 1)).w 4) 0 48) p.row) qs targets; (∀ q ∈ qs, 0 < weightOf q.set q.token))
      ∧
      (let p := packedRow (rowC 0x42 0x10002 (groupB 1)); let n := field ((rowC 0x42 0x10002 (groupB 1)).w 3) 16 4; let len := p.n * scoreBytes p.fmt; let need := (n + 1) * len + n * (16 + len); let bs := fit need (rowC 0x42 0x10002 (groupB 1)).data; let recs := (List.range n).map fun i => (draftAt p bs ((n + 1) * len + i * (16 + len)), (n + 1) * len + i * (16 + len) + 16); let qs := recs.map fun r => { rowKept r.1.1 (hostBlocks r.1.1 (scoresAt bs p.fmt r.2 p.n)) with token := r.1.2 }; let targets := (List.range (n + 1)).map fun i => rowKept p (hostBlocks p (scoresAt bs p.fmt (i * len) p.n)); let g := verifyGroup (hostUniform seed0.value p.stream (field ((rowC 0x42 0x10002 (groupB 1)).w 4) 0 48) p.row) qs targets; g.unstated = false)) := by
  unfold Served
  refine ⟨?_, ?_, ?_, ?_, ?_, ?_⟩ <;> decide +kernel

/-- The hypotheses of `Obligations.RowsAreAdmittedGatheredDrawnOrTimedOut` are met (part 1). -/
theorem witness_RowsAreAdmittedGatheredDrawnOrTimedOut_1 :
    (runS.dev.stepOf (0 : TenantId) = some step9 ∧ step9.started = true ∧ step9.halted = false ∧
      (let q := rowParamsOf runS.dev (0 : TenantId) (({ rowP with row := 4 }) : RowParams); let ok := rowParamsOk q ((drawKey runS.dev (0 : TenantId)).2.2 / 16) && !repeatsRow step9 q.stream q.row (if q.kind = .group then (0 : Nat) + 1 else 0); ok = false)) ∧
    ((world { runD with strainers := Vector.replicate 4 { fenced := true } }).dev.stepOf (0 : TenantId) = some step9 ∧ step9.started
      = true ∧ step9.halted = false ∧
      (let q := rowParamsOf (world { runD with strainers := Vector.replicate 4 { fenced := true } }).dev (0 : TenantId) rowP; let ok := rowParamsOk q ((drawKey (world { runD with strainers := Vector.replicate 4 { fenced := true } }).dev (0 : TenantId)).2.2 / 16) && !repeatsRow step9 q.stream q.row (if q.kind = .group then (0 : Nat) + 1 else 0); ok = true)
      ∧
      (let q := rowParamsOf (world { runD with strainers := Vector.replicate 4 { fenced := true } }).dev (0 : TenantId) rowP; let ok := rowParamsOk q ((drawKey (world { runD with strainers := Vector.replicate 4 { fenced := true } }).dev (0 : TenantId)).2.2 / 16) && !repeatsRow step9 q.stream q.row (if q.kind = .group then (0 : Nat) + 1 else 0); serving (world { runD with strainers := Vector.replicate 4 { fenced := true } }).dev (1 : StrainerId) = none)) ∧
    (((strD (fun x => { x with fenced := true })).dev.stepOf (0 : TenantId) = some step9) ∧ step9.started = true ∧ step9.halted =
      false ∧
      (let q := rowParamsOf (strD (fun x => { x with fenced := true })).dev (0 : TenantId) rowP; let ok := rowParamsOk q ((drawKey (strD (fun x => { x with fenced := true })).dev (0 : TenantId)).2.2 / 16) && !repeatsRow step9 q.stream q.row (if q.kind = .group then (0 : Nat) + 1 else 0); ok = true)
      ∧
      (let q := rowParamsOf (strD (fun x => { x with fenced := true })).dev (0 : TenantId) rowP; let ok := rowParamsOk q ((drawKey (strD (fun x => { x with fenced := true })).dev (0 : TenantId)).2.2 / 16) && !repeatsRow step9 q.stream q.row (if q.kind = .group then (0 : Nat) + 1 else 0); serving (strD (fun x => { x with fenced := true })).dev (1 : StrainerId) = some (0 : StrainerId))) ∧
    ((findRow (strD (fun x => { x with ctx := [rowX] })).dev (0 : TenantId).val (1 : Nat) (2 : Nat) (0 : Nat) = some ((1 :
      StrainerId), rowX)) ∧ rowX.blocks.length + 1 < rowX.expect) ∧
    ((findRow (strD (fun x => { x with ctx := [{ rowX with expect := 1 }] })).dev (0 : TenantId).val (1 : Nat) (2 : Nat) (0 : Nat) =
      some ((1 : StrainerId), (({ rowX with expect := 1 }) : RowCtx))) ∧ (({ rowX with expect := 1 }) : RowCtx).blocks.length + 1 =
      (({ rowX with expect := 1 }) : RowCtx).expect ∧ (({ rowX with expect := 1 }) : RowCtx).params.kind = .ordinary ∧ ((strD (fun x
      => { x with ctx := [{ rowX with expect := 1 }] })).dev.scratch.wf = true)) ∧
    ((findRow (strD (fun x => { x with ctx := [rowX] })).dev (0 : TenantId).val (1 : Nat) (2 : Nat) (0 : Nat) = some ((1 :
      StrainerId), rowX)) ∧ rowX.blocks.length < rowX.expect ∧ rowX.params.kind ≠ .group) := by
  refine ⟨?_, ?_, ?_, ?_, ?_, ?_⟩ <;> decide +kernel

/-- The hypotheses of `Obligations.RowsAreAdmittedGatheredDrawnOrTimedOut` are met (part 2). -/
theorem witness_RowsAreAdmittedGatheredDrawnOrTimedOut_2 :
    ((findRow (strD (fun x => { x with ctx := [{ rowX with expect := 0 }] })).dev (0 : TenantId).val (1 : Nat) (2 : Nat) (0 : Nat) =
      some ((1 : StrainerId), (({ rowX with expect := 0 }) : RowCtx))) ∧ (({ rowX with expect := 0 }) : RowCtx).expect ≤
      (({ rowX with expect := 0 }) : RowCtx).blocks.length) := by
  decide +kernel

/-- The hypotheses of `Obligations.ModelsLoadSweepAndKeepTheirPool` are met (part 1). -/
theorem witness_ModelsLoadSweepAndKeepTheirPool_1 :
    (Served (entry 0 0x50 [7, 0x100000008]) (world (tens
      { modelTen modelB with models := [model0], run := some annealRun, runState := .running })).dev ∧ findTensor (world (tens
      { modelTen modelB with models := [model0], run := some annealRun, runState := .running })).dev (entry 0 0x50 [7,
      0x100000008]).tenant (field ((entry 0 0x50 [7, 0x100000008]).w 1) 0 32) = some (logX 7 modelB) ∧ (logX 7 modelB).ready = true
      ∧ findTensor (world (tens { modelTen modelB with models := [model0], run := some annealRun, runState := .running })).dev
      (entry 0 0x50 [7, 0x100000008]).tenant (field ((entry 0 0x50 [7, 0x100000008]).w 2) 0 32) = some (logX 8 (leBytes 4 0)) ∧
      (logX 8 (leBytes 4 0)).ready = true ∧ (logX 7 modelB).lost = [] ∧ (logX 8 (leBytes 4 0)).lost = [] ∧
      (let nums := ((List.range ((logX 8 (leBytes 4 0)).size / 4)).map fun i => leAt ((logX 8 (leBytes 4 0)).bytes.readN 0 ((logX 8 (leBytes 4 0)).size / 4 * 4)) (4 * i) 4); let res := checkModel ((logX 7 modelB).bytes.readN 0 (logX 7 modelB).size) ((world (tens { modelTen modelB with models := [model0], run := some annealRun, runState := .running })).dev.tenant (entry 0 0x50 [7, 0x100000008]).tenant).rect nums (field ((entry 0 0x50 [7, 0x100000008]).w 2) 32 8); namesRunning (world (tens { modelTen modelB with models := [model0], run := some annealRun, runState := .running })).dev (entry 0 0x50 [7, 0x100000008]).tenant (nums.map vtileOfEntry) = true)) ∧
    (Served (entry 0 0x50 [7, 0x100000008]) (world (tens (modelTen []))).dev ∧ findTensor (world (tens (modelTen []))).dev (entry 0
      0x50 [7, 0x100000008]).tenant (field ((entry 0 0x50 [7, 0x100000008]).w 1) 0 32) = some (logX 7 []) ∧ (logX 7 []).ready = true
      ∧ findTensor (world (tens (modelTen []))).dev (entry 0 0x50 [7, 0x100000008]).tenant (field ((entry 0 0x50 [7, 0x100000008]).w
      2) 0 32) = some (logX 8 (leBytes 4 0)) ∧ (logX 8 (leBytes 4 0)).ready = true ∧ (logX 7 []).lost = [] ∧ (logX 8 (leBytes 4
      0)).lost = [] ∧
      (let nums := ((List.range ((logX 8 (leBytes 4 0)).size / 4)).map fun i => leAt ((logX 8 (leBytes 4 0)).bytes.readN 0 ((logX 8 (leBytes 4 0)).size / 4 * 4)) (4 * i) 4); let res := checkModel ((logX 7 []).bytes.readN 0 (logX 7 []).size) ((world (tens (modelTen []))).dev.tenant (entry 0 0x50 [7, 0x100000008]).tenant).rect nums (field ((entry 0 0x50 [7, 0x100000008]).w 2) 32 8); namesRunning (world (tens (modelTen []))).dev (entry 0 0x50 [7, 0x100000008]).tenant (nums.map vtileOfEntry) = false)
      ∧
      (let nums := ((List.range ((logX 8 (leBytes 4 0)).size / 4)).map fun i => leAt ((logX 8 (leBytes 4 0)).bytes.readN 0 ((logX 8 (leBytes 4 0)).size / 4 * 4)) (4 * i) 4); let res := checkModel ((logX 7 []).bytes.readN 0 (logX 7 []).size) ((world (tens (modelTen []))).dev.tenant (entry 0 0x50 [7, 0x100000008]).tenant).rect nums (field ((entry 0 0x50 [7, 0x100000008]).w 2) 32 8); res = .error rsnModelFormat)) ∧
    (Served (entry 0 0x50 [7, 0x100000008]) (world (tens (modelTen modelB))).dev ∧ findTensor (world (tens (modelTen modelB))).dev
      (entry 0 0x50 [7, 0x100000008]).tenant (field ((entry 0 0x50 [7, 0x100000008]).w 1) 0 32) = some (logX 7 modelB) ∧ (logX 7
      modelB).ready = true ∧ findTensor (world (tens (modelTen modelB))).dev (entry 0 0x50 [7, 0x100000008]).tenant (field ((entry 0
      0x50 [7, 0x100000008]).w 2) 0 32) = some (logX 8 (leBytes 4 0)) ∧ (logX 8 (leBytes 4 0)).ready = true ∧ (logX 7 modelB).lost =
      [] ∧ (logX 8 (leBytes 4 0)).lost = [] ∧
      (let nums := ((List.range ((logX 8 (leBytes 4 0)).size / 4)).map fun i => leAt ((logX 8 (leBytes 4 0)).bytes.readN 0 ((logX 8 (leBytes 4 0)).size / 4 * 4)) (4 * i) 4); let res := checkModel ((logX 7 modelB).bytes.readN 0 (logX 7 modelB).size) ((world (tens (modelTen modelB))).dev.tenant (entry 0 0x50 [7, 0x100000008]).tenant).rect nums (field ((entry 0 0x50 [7, 0x100000008]).w 2) 32 8); namesRunning (world (tens (modelTen modelB))).dev (entry 0 0x50 [7, 0x100000008]).tenant (nums.map vtileOfEntry) = false)
      ∧
      (let nums := ((List.range ((logX 8 (leBytes 4 0)).size / 4)).map fun i => leAt ((logX 8 (leBytes 4 0)).bytes.readN 0 ((logX 8 (leBytes 4 0)).size / 4 * 4)) (4 * i) 4); let res := checkModel ((logX 7 modelB).bytes.readN 0 (logX 7 modelB).size) ((world (tens (modelTen modelB))).dev.tenant (entry 0 0x50 [7, 0x100000008]).tenant).rect nums (field ((entry 0 0x50 [7, 0x100000008]).w 2) 32 8); res = .ok spread0)
      ∧
      (let nums := ((List.range ((logX 8 (leBytes 4 0)).size / 4)).map fun i => leAt ((logX 8 (leBytes 4 0)).bytes.readN 0 ((logX 8 (leBytes 4 0)).size / 4 * 4)) (4 * i) 4); let res := checkModel ((logX 7 modelB).bytes.readN 0 (logX 7 modelB).size) ((world (tens (modelTen modelB))).dev.tenant (entry 0 0x50 [7, 0x100000008]).tenant).rect nums (field ((entry 0 0x50 [7, 0x100000008]).w 2) 32 8); spread0.tooLarge = false)
      ∧
      (let nums := ((List.range ((logX 8 (leBytes 4 0)).size / 4)).map fun i => leAt ((logX 8 (leBytes 4 0)).bytes.readN 0 ((logX 8 (leBytes 4 0)).size / 4 * 4)) (4 * i) 4); let res := checkModel ((logX 7 modelB).bytes.readN 0 (logX 7 modelB).size) ((world (tens (modelTen modelB))).dev.tenant (entry 0 0x50 [7, 0x100000008]).tenant).rect nums (field ((entry 0 0x50 [7, 0x100000008]).w 2) 32 8); spread0.energyTooLarge = false)
      ∧
      (let nums := ((List.range ((logX 8 (leBytes 4 0)).size / 4)).map fun i => leAt ((logX 8 (leBytes 4 0)).bytes.readN 0 ((logX 8 (leBytes 4 0)).size / 4 * 4)) (4 * i) 4); let res := checkModel ((logX 7 modelB).bytes.readN 0 (logX 7 modelB).size) ((world (tens (modelTen modelB))).dev.tenant (entry 0 0x50 [7, 0x100000008]).tenant).rect nums (field ((entry 0 0x50 [7, 0x100000008]).w 2) 32 8); ((areaNeeds spread0 (partsOfList (nums.map vtileOfEntry) (field ((entry 0 0x50 [7, 0x100000008]).w 2) 32 8))).all fun n => !(carriesIndex (world (tens (modelTen modelB))).dev (n.1 / 16384) && decide (vtileSpace < vtileTaken (world (tens (modelTen modelB))).dev n.1 + n.2))) = true)) ∧
    (((annealD annealRun).dev.tenant (0 : TenantId)).run = some annealRun ∧ annealRun.step = some (({ step9 with sweeps := 1 }) :
      Step) ∧ runModel (annealD annealRun).dev (0 : TenantId) = some model0 ∧ annealRun.kind = .anneal (3 : Nat) descB false ∧
      (({ step9 with sweeps := 1 }) : Step).started = true ∧ annealRun.committing = none ∧ latchOf (annealD annealRun).dev
      annealRun.call = .none ∧ stepSweeps annealRun descB ≤ (({ step9 with sweeps := 1 }) : Step).sweeps) ∧
    (((annealD { annealRun with step := some step9 }).dev.tenant (0 : TenantId)).run = some (({ annealRun with step := some step9 })
      : Run) ∧ (({ annealRun with step := some step9 }) : Run).step = some step9 ∧ runModel (annealD
      { annealRun with step := some step9 }).dev (0 : TenantId) = some model0 ∧ (({ annealRun with step := some step9 }) : Run).kind
      = .anneal (3 : Nat) descB false ∧ step9.started = true ∧ (({ annealRun with step := some step9 }) : Run).committing = none ∧
      latchOf (annealD { annealRun with step := some step9 }).dev (({ annealRun with step := some step9 }) : Run).call = .none ∧
      step9.sweeps < stepSweeps (({ annealRun with step := some step9 }) : Run) descB ∧ statesIn (annealD
      { annealRun with step := some step9 }).dev model0 (({ annealRun with step := some step9 }) : Run)
      ((({ annealRun with step := some step9 }) : Run).captures + step9.captures) = true) ∧
    (Served (entry 0 0x52 [3, 0x10000, 7]) (world (tens poolTen)).dev ∧ findModel (world (tens poolTen)).dev (entry 0 0x52 [3,
      0x10000, 7]).tenant (field ((entry 0 0x52 [3, 0x10000, 7]).w 1) 0 32) = some (({ model0 with poolSize := 1, pool := [poolE] })
      : Model) ∧ findTensor (world (tens poolTen)).dev (entry 0 0x52 [3, 0x10000, 7]).tenant (field ((entry 0 0x52 [3, 0x10000,
      7]).w 3) 0 32) = some tenX ∧ tenX.ready = true ∧ tenX.lost = [] ∧ tenX.bytes.wf = true ∧
      (let es := ((({ model0 with poolSize := 1, pool := [poolE] }) : Model).pool.drop (field ((entry 0 0x52 [3, 0x10000, 7]).w 2) 0 16)).take (field ((entry 0 0x52 [3, 0x10000, 7]).w 2) 16 16); let bs := es.flatMap poolEntryBytes; bs.length ≤ tenX.size)
      ∧
      (let es := ((({ model0 with poolSize := 1, pool := [poolE] }) : Model).pool.drop (field ((entry 0 0x52 [3, 0x10000, 7]).w 2) 0 16)).take (field ((entry 0 0x52 [3, 0x10000, 7]).w 2) 16 16); let bs := es.flatMap poolEntryBytes; tenX.mode ≠ .readOnly)) := ⟨by unfold Served; decide +kernel,
    ⟨by unfold Served; decide +kernel, by decide +kernel, by decide +kernel, by decide +kernel, by decide +kernel, by decide +kernel, by decide +kernel, by decide +kernel, rfl⟩,
    ⟨by unfold Served; decide +kernel, by decide +kernel, by decide +kernel, by decide +kernel, by decide +kernel, by decide +kernel, by decide +kernel, by decide +kernel, rfl, by decide +kernel, by decide +kernel, by decide +kernel⟩,
    by decide +kernel,
    by decide +kernel,
    by unfold Served; decide +kernel⟩

/-- The hypotheses of `Obligations.ModelsLoadSweepAndKeepTheirPool` are met (part 2). -/
theorem witness_ModelsLoadSweepAndKeepTheirPool_2 :
    (Served (entry 0 0x52 [3, 0x10000, 7]) (world (tens { poolTen with tensors := [{ tenX with size := 64 }] })).dev ∧ findModel
      (world (tens { poolTen with tensors := [{ tenX with size := 64 }] })).dev (entry 0 0x52 [3, 0x10000, 7]).tenant (field ((entry
      0 0x52 [3, 0x10000, 7]).w 1) 0 32) = some (({ model0 with poolSize := 1, pool := [poolE] }) : Model) ∧ findTensor (world (tens
      { poolTen with tensors := [{ tenX with size := 64 }] })).dev (entry 0 0x52 [3, 0x10000, 7]).tenant (field ((entry 0 0x52 [3,
      0x10000, 7]).w 3) 0 32) = some (({ tenX with size := 64 }) : Tensor) ∧ (({ tenX with size := 64 }) : Tensor).ready = true ∧
      (({ tenX with size := 64 }) : Tensor).lost = [] ∧ (({ tenX with size := 64 }) : Tensor).bytes.wf = true ∧
      (let es := ((({ model0 with poolSize := 1, pool := [poolE] }) : Model).pool.drop (field ((entry 0 0x52 [3, 0x10000, 7]).w 2) 0 16)).take (field ((entry 0 0x52 [3, 0x10000, 7]).w 2) 16 16); let bs := es.flatMap poolEntryBytes; ((({ tenX with size := 64 }) : Tensor).size < bs.length ∨ (({ tenX with size := 64 }) : Tensor).mode = .readOnly))) := by
  unfold Served
  decide +kernel

/-- The hypotheses of `Obligations.IntakeCommandsActOnTheirContext` are met (part 1). -/
theorem witness_IntakeCommandsActOnTheirContext_1 :
    (Served (entry 8 0xB0 [0x100, 0, 0, 0, 0x1000, 0x800000000]) (world runD).dev ∧ (entry 8 0xB0 [0x100, 0, 0, 0, 0x1000,
      0x800000000]).mbx = 8 ∧ ((world runD).dev.tenant ⟨(descriptorOf (entry 8 0xB0 [0x100, 0, 0, 0, 0x1000, 0x800000000])).tenant %
      4, Nat.mod_lt _ (by decide)⟩).isOpen = true ∧ field ((entry 8 0xB0 [0x100, 0, 0, 0, 0x1000, 0x800000000]).w 1) 24 2 ≠ 3 ∧
      descriptorOk (descriptorOf (entry 8 0xB0 [0x100, 0, 0, 0, 0x1000, 0x800000000])) = true ∧ ((∀ j : ContextId, j ≠ ⟨_, (show (0
      : Nat) < 24 by decide)⟩ → ((world runD).dev.ctx j).state = .disabled)) ∧ (world runD).dev.commits = []) ∧
    (Served (entry 8 0xB1 [0]) runS.dev ∧ (runS.dev.ctx ⟨_, (show (0 : Nat) < 24 by decide)⟩).state = .disabled ∧ (Instr.intakeStart
      (entry 8 0xB1 [0])) ∈ [Instr.intakeStart (entry 8 0xB1 [0]), .intakeStop (entry 8 0xB1 [0]), .intakeFlush (entry 8 0xB1 [0]),
      .intakeRelease (entry 8 0xB1 [0])]) ∧
    (Served (entry 0 0xB1 [0]) (ctxS { desc := { desc0 with tenant := 1 }, state := .started }).dev ∧ ((ctxS
      { desc := { desc0 with tenant := 1 }, state := .started }).dev.ctx ⟨_, (show (0 : Nat) < 24 by decide)⟩).state ≠ .disabled ∧
      (entry 0 0xB1 [0]).mbx.val < 8 ∧ ((ctxS { desc := { desc0 with tenant := 1 }, state := .started }).dev.ctx ⟨_, (show (0 : Nat)
      < 24 by decide)⟩).desc.tenant ≠ (entry 0 0xB1 [0]).tenant.val ∧ (Instr.intakeStop (entry 0 0xB1 [0])) ∈ [Instr.intakeStart
      (entry 0 0xB1 [0]), .intakeStop (entry 0 0xB1 [0]), .intakeFlush (entry 0 0xB1 [0]), .intakeRelease (entry 0 0xB1 [0])]) ∧
    (Served (entry 0 0xB1 [0]) onS.dev ∧ (((entry 0 0xB1 [0]).mbx = 8 ∨ (onS.dev.ctx ⟨_, (show (0 : Nat) < 24 by
      decide)⟩).desc.tenant = (entry 0 0xB1 [0]).tenant.val)) ∧
      (let i : ContextId := ⟨_, (show (0 : Nat) < 24 by decide)⟩; let x := onS.dev.ctx i; x.state = .enabled)) ∧
    (Served (entry 8 0xB1 [0]) (ctxS { desc := desc0, state := .stopping }).dev ∧ (((entry 8 0xB1 [0]).mbx = 8 ∨ ((ctxS
      { desc := desc0, state := .stopping }).dev.ctx ⟨_, (show (0 : Nat) < 24 by decide)⟩).desc.tenant = (entry 8 0xB1
      [0]).tenant.val)) ∧
      (let i : ContextId := ⟨_, (show (0 : Nat) < 24 by decide)⟩; let x := (ctxS { desc := desc0, state := .stopping }).dev.ctx i; x.state = .stopping)) ∧
    (Served (entry 8 0xB1 [0x100]) (ctxS { desc := desc0, state := .started, current := some frame0 }).dev ∧ (((entry 8 0xB1
      [0x100]).mbx = 8 ∨ ((ctxS { desc := desc0, state := .started, current := some frame0 }).dev.ctx ⟨_, (show (0 : Nat) < 24 by
      decide)⟩).desc.tenant = (entry 8 0xB1 [0x100]).tenant.val)) ∧
      (let i : ContextId := ⟨_, (show (0 : Nat) < 24 by decide)⟩; let x := (ctxS { desc := desc0, state := .started, current := some frame0 }).dev.ctx i; x.state = .started)
      ∧
      (let i : ContextId := ⟨_, (show (0 : Nat) < 24 by decide)⟩; let x := (ctxS { desc := desc0, state := .started, current := some frame0 }).dev.ctx i; unlanded x = true)) := by
  unfold Served
  refine ⟨?_, ?_, ?_, ?_, ?_, ?_⟩ <;> decide +kernel

/-- The hypotheses of `Obligations.IntakeCommandsActOnTheirContext` are met (part 2). -/
theorem witness_IntakeCommandsActOnTheirContext_2 :
    (Served (entry 8 0xB1 [0x100]) (ctxS { desc := desc0, state := .started }).dev ∧ (((entry 8 0xB1 [0x100]).mbx = 8 ∨ ((ctxS
      { desc := desc0, state := .started }).dev.ctx ⟨_, (show (0 : Nat) < 24 by decide)⟩).desc.tenant = (entry 8 0xB1
      [0x100]).tenant.val)) ∧
      (let i : ContextId := ⟨_, (show (0 : Nat) < 24 by decide)⟩; let x := (ctxS { desc := desc0, state := .started }).dev.ctx i; x.state = .started)
      ∧
      (let i : ContextId := ⟨_, (show (0 : Nat) < 24 by decide)⟩; let x := (ctxS { desc := desc0, state := .started }).dev.ctx i; unlanded x = false)) ∧
    (Served (entry 8 0xB1 [0x300, 4]) (ctxS { desc := { desc0 with host := true }, state := .started }).dev ∧ (((entry 8 0xB1
      [0x300, 4]).mbx = 8 ∨ ((ctxS { desc := { desc0 with host := true }, state := .started }).dev.ctx ⟨_, (show (0 : Nat) < 24 by
      decide)⟩).desc.tenant = (entry 8 0xB1 [0x300, 4]).tenant.val)) ∧
      (let i : ContextId := ⟨_, (show (0 : Nat) < 24 by decide)⟩; let x := (ctxS { desc := { desc0 with host := true }, state := .started }).dev.ctx i; x.state ≠ .disabled)) := by
  unfold Served
  refine ⟨?_, ?_⟩ <;> decide +kernel

/-- The hypotheses of `Obligations.FramesAreGatheredLandedAndReleased` are met (part 1). -/
theorem witness_FramesAreGatheredLandedAndReleased_1 :
    ((ctxOf (ctxS startC).dev .csi (0 : Fin 16).val (0 : Fin 16).val (fun _ => true) = some (0 : ContextId)) ∧ ((ctxS
      startC).dev.ctx (0 : ContextId)).state = .started) ∧
    ((ctxOf (ctxS openC).dev .csi (0 : Fin 16).val (0 : Fin 16).val (fun _ => true) = some (0 : ContextId)) ∧ ((ctxS openC).dev.ctx
      (0 : ContextId)).current = some frame0) ∧
    (csiTypes.contains (0x11 : Fin 64).val = false) ∧
    (csiTypes.contains (0x12 : Fin 64).val = true ∧ (ctxOf (ctxS openC).dev .csi (0 : Fin 16).val (0 : Fin 16).val (fun m => bitAt m
      (0x12 : Fin 64).val) = some (0 : ContextId)) ∧ ((ctxS openC).dev.ctx (0 : ContextId)).state = .started ∧ ((ctxS openC).dev.ctx
      (0 : ContextId)).current = some frame0 ∧ frame0.bytes.length + (List.replicate 4095 1).length ≤ ((ctxS openC).dev.ctx (0 :
      ContextId)).desc.frameMax ∧ ringUsed ((ctxS openC).dev.ctx (0 : ContextId)) + (List.replicate 4095 1).length ≤ ((ctxS
      openC).dev.ctx (0 : ContextId)).desc.ringBytes ∧ fifoLimit ≤ fifoLimit) ∧
    ((ctxOf (ctxS openC).dev .csi (0 : Fin 16).val (0 : Fin 16).val (fun _ => true) = some (0 : ContextId)) ∧ ((ctxS openC).dev.ctx
      (0 : ContextId)).state = .started ∧ ((ctxS openC).dev.ctx (0 : ContextId)).current = some frame0) ∧
    ((ctxOf runS.dev .avtp (3 : Fin 4).val (9 : W64).toNat (fun _ => true) = none)) := by
  refine ⟨?_, ?_, ?_, ?_, ?_, ?_⟩ <;> decide +kernel

/-- The hypotheses of `Obligations.FramesAreGatheredLandedAndReleased` are met (part 2). -/
theorem witness_FramesAreGatheredLandedAndReleased_2 :
    ((ctxOf (ctxS (ethC .avtp)).dev .avtp (3 : Fin 4).val (9 : W64).toNat (fun _ => true) = some (0 : ContextId)) ∧ ((ctxS (ethC
      .avtp)).dev.ctx (0 : ContextId)).state = .started ∧ ((ctxS (ethC .avtp)).dev.ctx (0 : ContextId)).current = none ∧ ((ctxS
      (ethC .avtp)).dev.ctx (0 : ContextId)).discarding = false ∧ seqMissing ((ctxS (ethC .avtp)).dev.ctx (0 : ContextId)) (0 :
      BitVec 8).toNat = false ∧ ([1] : List Byte).length ≤ ((ctxS (ethC .avtp)).dev.ctx (0 : ContextId)).desc.frameMax ∧ ((((ctxS
      (ethC .avtp)).dev.ctx (0 : ContextId)).ring.map fun f => f.bytes.length).sum + ([1] : List Byte).length ≤ ((ctxS (ethC
      .avtp)).dev.ctx (0 : ContextId)).desc.ringBytes) ∧ (0 : Nat) ≤ fifoLimit) ∧
    ((ctxOf (ctxS (ethC .udp)).dev .udp (3 : Fin 4).val (9 : BitVec 128).toNat (fun m => decide (m = (7 : BitVec 16).toNat + b2n
      false * 65536)) = some (0 : ContextId)) ∧ ((ctxS (ethC .udp)).dev.ctx (0 : ContextId)).state = .started ∧ ((ctxS (ethC
      .udp)).dev.ctx (0 : ContextId)).desc.frameLen = 0 ∧ ((ctxS (ethC .udp)).dev.ctx (0 : ContextId)).desc.seqCheck = false ∧ ([1]
      : List Byte).length ≤ ((ctxS (ethC .udp)).dev.ctx (0 : ContextId)).desc.frameMax ∧ ((((ctxS (ethC .udp)).dev.ctx (0 :
      ContextId)).ring.map fun f => f.bytes.length).sum + ([1] : List Byte).length ≤ ((ctxS (ethC .udp)).dev.ctx (0 :
      ContextId)).desc.ringBytes) ∧ (0 : Nat) ≤ fifoLimit) ∧
    ((((ctxS { startC with ring := [frame0] }).dev.ctx (0 : ContextId)).ring.find? (fun f => f.landed.isNone) = some frame0)) ∧
    (((∀ f ∈ ((ctxS { startC with ring := [{ frame0 with bound := some 8 }] }).dev.ctx (0 : ContextId)).ring, frameDone (ctxS
      { startC with ring := [{ frame0 with bound := some 8 }] }).dev (ctxTenant (ctxS
      { startC with ring := [{ frame0 with bound := some 8 }] }).dev (0 : ContextId)) f = true ∧ hostDone ((ctxS
      { startC with ring := [{ frame0 with bound := some 8 }] }).dev.ctx (0 : ContextId)) f = true))) ∧
    (((ctxS { startC with ring := [frame0] }).dev.ctx (0 : ContextId)).ring = frame0 :: ([] : List SensorFrame) ∧ frame0.released =
      false ∧ ((frameDone (ctxS { startC with ring := [frame0] }).dev (ctxTenant (ctxS { startC with ring := [frame0] }).dev (0 :
      ContextId)) frame0 = false ∨ hostDone ((ctxS { startC with ring := [frame0] }).dev.ctx (0 : ContextId)) frame0 = false))) := by
  refine ⟨?_, ?_, ?_, ?_, ?_⟩ <;> decide +kernel

/-- The hypotheses of `Obligations.TheTimeBaseFollowsItsReference` are met (part 1). -/
theorem witness_TheTimeBaseFollowsItsReference_1 :
    ((timed { lastPps := some 0 } [(0x04000001, 2)]).dev.boot.inReset = false ∧ ppsAccepts (timed { lastPps := some 0 }
      [(0x04000001, 2)]).dev (998999999 : Nat) = false) ∧
    ((timed { lastPps := some 0 } []).dev.boot.inReset = false ∧ ppsAccepts (timed { lastPps := some 0 } []).dev (999000000 : Nat) =
      true ∧ timeSource (timed { lastPps := some 0 } []).dev ≠ .pps) ∧
    ((timed {} [(0x04000001, 2)]).dev.boot.inReset = false ∧ ppsAccepts (timed {} [(0x04000001, 2)]).dev (2500000000 : Nat) = true ∧
      timeSource (timed {} [(0x04000001, 2)]).dev = .pps ∧ (timed {} [(0x04000001, 2)]).dev.now ≤ (2500000000 : Nat) ∧ 0 <
      moduleTimeAt (timed {} [(0x04000001, 2)]).dev (2500000000 : Nat) ∧
      (let sec_ := (timed {} [(0x04000001, 2)]).dev.time.timeSet.getD ((moduleTimeAt (timed {} [(0x04000001, 2)]).dev (2500000000 : Nat) + 500 * ms) / sec); (moduleTimeAt (timed {} [(0x04000001, 2)]).dev (2500000000 : Nat) + 1000 ≤ sec_ * sec ∨ sec_ * sec + 1000 ≤ moduleTimeAt (timed {} [(0x04000001, 2)]).dev (2500000000 : Nat)))) ∧
    ((timed {} []).dev.boot.inReset = false ∧ ((timeSource (timed {} []).dev ≠ .gptp ∨ gptpPort (timed {} []).dev ≠ (3 : Fin
      4).val))) ∧
    ((timed {} [(0x04000001, 0x31)]).dev.boot.inReset = false ∧ timeSource (timed {} [(0x04000001, 0x31)]).dev = .gptp ∧ gptpPort
      (timed {} [(0x04000001, 0x31)]).dev = (3 : Fin 4).val) ∧
    ((timed { goodSince := some 1, lastRef := some 7000000001 } [(0x04000001, 0x31)]).dev.time.goodSince = some (1 : Nat) ∧ (timed
      { goodSince := some 1, lastRef := some 7000000001 } [(0x04000001, 0x31)]).dev.time.lastRef = some (7000000001 : Nat) ∧ (timed
      { goodSince := some 1, lastRef := some 7000000001 } [(0x04000001, 0x31)]).dev.time.locked = false ∧ (1 : Nat) + 7 * sec ≤
      (7000000001 : Nat)) := by
  refine ⟨?_, ?_, ?_, ?_, ?_, ?_⟩ <;> decide +kernel

/-- The hypotheses of `Obligations.TheTimeBaseFollowsItsReference` are met (part 2). -/
theorem witness_TheTimeBaseFollowsItsReference_2 :
    ((timed { goodSince := some 1, lastRef := some 7000000000 } [(0x04000001, 0x31)]).dev.time.goodSince = some (1 : Nat) ∧ (timed
      { goodSince := some 1, lastRef := some 7000000000 } [(0x04000001, 0x31)]).dev.time.lastRef = some (7000000000 : Nat) ∧
      (7000000000 : Nat) < (1 : Nat) + 7 * sec) ∧
    ((timed { goodSince := some 1, lastRef := some 7000000000, locked := true } [(0x04000001, 0x31)]).dev.time.goodSince = some (1 :
      Nat) ∧ (timed { goodSince := some 1, lastRef := some 7000000000, locked := true } [(0x04000001, 0x31)]).dev.time.lastRef =
      some (7000000000 : Nat) ∧ (timed { goodSince := some 1, lastRef := some 7000000000, locked := true } [(0x04000001,
      0x31)]).dev.time.locked = true) ∧
    ((timed { locked := true } []).dev.time.locked = true) ∧
    ((timed {} []).dev.time.locked = false) ∧
    (syncPaced runS.dev = false) ∧
    (syncPaced (pacedS {} []).dev = true ∧ syncTenant (pacedS {} []).dev = (0 : TenantId).val ∧ ((pacedS {} []).dev.tenant (0 :
      TenantId)).run = some pacedR ∧ pacedR.begun = true ∧ spanBound (pacedS {} []).dev (0 : TenantId) = false ∧ nearestAhead pacedR
      ((22500000 : Nat) / 10 * 10 + syncOffset (pacedS {} []).dev) = 0 ∧ pacedR.moved = none ∧ absDiff ((22500000 : Nat) / 10 * 10 +
      syncOffset (pacedS {} []).dev) pacedR.nominal ≤ min (pacedR.period / 4) (5 * ms)) := by
  refine ⟨?_, ?_, ?_, ?_, ?_, ?_⟩ <;> decide +kernel

/-- The hypotheses of `Obligations.TheTimeBaseFollowsItsReference` are met (part 3). -/
theorem witness_TheTimeBaseFollowsItsReference_3 :
    ((syncPaced runS.dev && syncCadence runS.dev) = false) ∧
    (syncPaced (pacedS {} [(0x05000003, 1)]).dev = true ∧ syncCadence (pacedS {} [(0x05000003, 1)]).dev = true ∧ syncTenant (pacedS
      {} [(0x05000003, 1)]).dev = (0 : TenantId).val ∧ ((pacedS {} [(0x05000003, 1)]).dev.tenant (0 : TenantId)).run = some pacedR ∧
      pacedR.begun = true ∧ (pacedS {} [(0x05000003, 1)]).dev.time.pulseEnd = none) ∧
    (runS.dev.time.pulseEnd = none) ∧
    ((pacedS { pulseEnd := some 77 } []).dev.time.pulseEnd = some (77 : Nat)) := by
  refine ⟨?_, ?_, ?_, ?_⟩ <;> decide +kernel

/-- The hypotheses of `Obligations.ResetsClearTheModuleAndTheRomBootsIt` are met (part 1). -/
theorem witness_ResetsClearTheModuleAndTheRomBootsIt_1 :
    ((world live).dev.pins.vin = true) ∧
    ((world offD).dev.pins.vin = false ∧ false = false) ∧
    ((world offD).dev.pins.vin = false ∧ true = true) ∧
    ((world offD).dev.pins.vin = false) ∧
    ((world live).dev.pins.vin = true) ∧
    ((((49 : Nat) < 50 ∨ (world live).dev.pins.resetL = false))) := by
  refine ⟨?_, ?_, ?_, ?_, ?_, ?_⟩ <;> decide +kernel

/-- The hypotheses of `Obligations.ResetsClearTheModuleAndTheRomBootsIt` are met (part 2). -/
theorem witness_ResetsClearTheModuleAndTheRomBootsIt_2 :
    (50 ≤ (50 : Nat) ∧ (world live).dev.pins.resetL = true ∧ (world live).dev.pins.vin = true) ∧
    ((((49 : Nat) < 50 ∨ runS.dev.pins.resetL = true))) ∧
    (50 ≤ (50 : Nat) ∧ runS.dev.pins.resetL = false ∧ (runS.dev.pins.vin && runS.dev.boot.inReset) = false) ∧
    (50 ≤ (50 : Nat) ∧ State.reset.dev.pins.resetL = false ∧ State.reset.dev.pins.vin = true ∧ State.reset.dev.boot.inReset = true) ∧
    (runS.dev.gutter.resetDue = none) ∧
    ((dueD live).dev.gutter.resetDue = some 10000 ∧ (dueD live).dev.pins.resetL = true) := by
  refine ⟨?_, ?_, ?_, ?_, ?_, ?_⟩ <;> decide +kernel

/-- The hypotheses of `Obligations.ResetsClearTheModuleAndTheRomBootsIt` are met (part 3). -/
theorem witness_ResetsClearTheModuleAndTheRomBootsIt_3 :
    ((dueD runD).dev.gutter.resetDue = some 10000 ∧ (dueD runD).dev.pins.resetL = false) ∧
    (((runS.dev.clocks.holdover = none ∨ runS.dev.clocks.refclk = true))) ∧
    ((holdS live).dev.clocks.holdover = some 9 ∧ (holdS live).dev.clocks.refclk = false ∧ (holdS live).dev.pins.resetL = true) := by
  refine ⟨?_, ?_, ?_⟩ <;> decide +kernel

/-- The hypotheses of `Obligations.AStartRunsThroughStageOneToTheMainFirmware` are met (part 1). -/
theorem witness_AStartRunsThroughStageOneToTheMainFirmware_1 :
    (((runS.dev.boot.romReady = false ∨ runS.dev.boot.kettleRestarting = true ∨ runS.dev.clocks.refclk = false ∨
      runS.dev.clocks.locked = false ∨ runS.dev.boot.tripHold = true))) ∧
    (romS.dev.boot.romReady = true ∧ romS.dev.boot.kettleRestarting = false ∧ romS.dev.clocks.refclk = true ∧ romS.dev.clocks.locked
      = true ∧ romS.dev.boot.tripHold = false) ∧
    (((runS.dev.boot.stage ≠ .stage1 ∨ runS.dev.boot.kettleRestarting = true))) ∧
    ((world (bootD { inReset := false, stage := .stage1 })).dev.boot.stage = .stage1 ∧ (world (bootD
      { inReset := false, stage := .stage1 })).dev.boot.kettleRestarting = false) ∧
    ((((world (bootD { inReset := false, stage := .main, mbxReady := true, startComplete := true })).dev.boot.stage ≠ .main ∨ (world
      (bootD { inReset := false, stage := .main, mbxReady := true, startComplete := true })).dev.boot.mbxReady = false ∨ (world
      (bootD { inReset := false, stage := .main, mbxReady := true, startComplete := true })).dev.boot.startComplete = true))) ∧
    ((world live).dev.boot.stage = .main ∧ (world live).dev.boot.mbxReady = true ∧ (world live).dev.boot.startComplete = false) := by
  refine ⟨?_, ?_, ?_, ?_, ?_, ?_⟩ <;> decide +kernel

/-- The hypotheses of `Obligations.AStartRunsThroughStageOneToTheMainFirmware` are met (part 2). -/
theorem witness_AStartRunsThroughStageOneToTheMainFirmware_2 :
    (runS.dev.boot.kettleRestarting = false) ∧
    ((world (bootD { restartB with noSlot := true })).dev.boot.kettleRestarting = true ∧ (world (bootD
      { restartB with noSlot := true })).dev.boot.noSlot = true ∧ (world (bootD { restartB with noSlot := true })).dev.pins.resetL =
      true) ∧
    ((world (bootD restartB)).dev.boot.kettleRestarting = true ∧ (world (bootD restartB)).dev.boot.noSlot = false ∧ (world (bootD
      restartB)).dev.boot.stage = .rom ∧ (world (bootD restartB)).dev.boot.romReady = false) := by
  refine ⟨?_, ?_, ?_⟩ <;> decide +kernel

/-- The hypotheses of `Obligations.TheBackupDomainRunsOnItsCell` are met. -/
theorem witness_TheBackupDomainRunsOnItsCell :
    (((runS.dev.pins.vin = true ∨ runS.dev.backup.lost = true))) ∧
    (coldS.dev.pins.vin = false ∧ coldS.dev.backup.lost = false) ∧
    (runS.dev.pins.vin = true) ∧
    (coldS.dev.pins.vin = false) ∧
    (((coldS.dev.pins.vin = false ∨ coldS.dev.boot.part ≠ 0))) ∧
    (runS.dev.pins.vin = true ∧ runS.dev.boot.part = 0) := by
  refine ⟨?_, ?_, ?_, ?_, ?_, ?_⟩ <;> decide +kernel

/-- The hypotheses of `Obligations.SingleReportsReachTheirClass` are met. -/
theorem witness_SingleReportsReachTheirClass :
    ((((.kettleWdt : Instr) = .kettleWdt ∧ (52 : SourceId) = 52 ∨ (.kettleWdt : Instr) = .kettleLockstep ∧ (52 : SourceId) = 53)) ∧
      guttS.dev.gutter.initDone = true ∧ srcEnabled guttS.dev (52 : SourceId).val = true ∧ shadowed guttS.dev (52 : SourceId).val 0
      = false ∧ gutterEn guttS.dev = true ∧ 3 ≤ srcLevel guttS.dev (52 : SourceId).val) := by
  decide +kernel

/-- The hypotheses of `Obligations.TheClocksFollowTheReferenceAndTheDivisor` are met. -/
theorem witness_TheClocksFollowTheReferenceAndTheDivisor :
    (runS.dev.clocks.pending = none) ∧
    ((world { runD with clocks := { runD.clocks with pending := some 7 } }).dev.clocks.pending = some 7) := by
  refine ⟨?_, ?_⟩ <;> decide +kernel

/-- The hypotheses of `Obligations.TemperatureAndPowerThrottleTheGrid` are met (part 1). -/
theorem witness_TemperatureAndPowerThrottleTheGrid_1 :
    ((world offD).dev.pins.vin = false) ∧
    (runS.dev.pins.vin = true) ∧
    ((world offD).dev.pins.vin = false) ∧
    ((world live).dev.pins.vin = true) ∧
    (((riseAt runS.dev = none ∨ 2 ≤ runS.dev.clocks.throttle))) ∧
    (riseAt hotS.dev = some 100000007 ∧ hotS.dev.clocks.throttle < 2) := by
  refine ⟨?_, ?_, ?_, ?_, ?_, ?_⟩ <;> decide +kernel

/-- The hypotheses of `Obligations.TemperatureAndPowerThrottleTheGrid` are met (part 2). -/
theorem witness_TemperatureAndPowerThrottleTheGrid_2 :
    (((runS.dev.clocks.coolSince = none ∨ runS.dev.clocks.throttle = 0 ∨ limiterAllows runS.dev = false))) ∧
    (hotS.dev.clocks.coolSince = some 0 ∧ 0 < hotS.dev.clocks.throttle ∧ limiterAllows hotS.dev = true) := by
  refine ⟨?_, ?_⟩ <;> decide +kernel

/-- The hypotheses of `Obligations.PowerStatesAreEnteredAndLeft` are met (part 1). -/
theorem witness_PowerStatesAreEnteredAndLeft_1 :
    (Served (entry 8 0xA0 [17]) (world up).dev ∧ (let n := field ((entry 8 0xA0 [17]).w 1) 0 5; 16 < n)) ∧
    (Served (entry 8 0xA0 [0]) (powS { plan := [5] }).dev ∧ (let n := field ((entry 8 0xA0 [0]).w 1) 0 5; n = 0)) ∧
    (Served (stored (entry 8 0xA0 [2, 0x1000, 1]) (leBytes 8 9 ++ leBytes 8 3)) (world up).dev ∧
      (let n := field ((stored (entry 8 0xA0 [2, 0x1000, 1]) (leBytes 8 9 ++ leBytes 8 3)).w 1) 0 5; 0 < n) ∧
      (let n := field ((stored (entry 8 0xA0 [2, 0x1000, 1]) (leBytes 8 9 ++ leBytes 8 3)).w 1) 0 5; n ≤ 16) ∧
      (let n := field ((stored (entry 8 0xA0 [2, 0x1000, 1]) (leBytes 8 9 ++ leBytes 8 3)).w 1) 0 5; field ((stored (entry 8 0xA0 [2, 0x1000, 1]) (leBytes 8 9 ++ leBytes 8 3)).w 3) 0 16 ≤ 4096)
      ∧
      (let n := field ((stored (entry 8 0xA0 [2, 0x1000, 1]) (leBytes 8 9 ++ leBytes 8 3)).w 1) 0 5; (stored (entry 8 0xA0 [2, 0x1000, 1]) (leBytes 8 9 ++ leBytes 8 3)).readBuf 3 (8 * n) = .ok (leBytes 8 9 ++ leBytes 8 3))) ∧
    (Served (entry 8 0xA1 [0]) (world (tens {})).dev ∧ (entry 8 0xA1 [0]).opcode = 0xA1 ∧ ((∀ x ∈ ((world (tens {})).dev.mb (entry 8
      0xA1 [0]).mbx).started, x.call.opcode ≠ 0xA1)) ∧ allTenants.any (world (tens {})).dev.inStep = false) ∧
    (Served (entry 8 0xA1 [0]) runS.dev ∧ (entry 8 0xA1 [0]).opcode = 0xA1 ∧ ((∀ x ∈ (runS.dev.mb (entry 8 0xA1 [0]).mbx).started,
      x.call.opcode ≠ 0xA1)) ∧ allTenants.any runS.dev.inStep = true) ∧
    ((let may := (powS {}).dev.boot.stage = .main ∧ awake (powS {}).dev = true ∧ (powS {}).dev.power.idleSince = none ∧ mustRun (powS {}).dev = false ∧ false = false; may)) := by
  unfold Served
  refine ⟨?_, ?_, ?_, ?_, ?_, ?_⟩ <;> decide +kernel

/-- The hypotheses of `Obligations.PowerStatesAreEnteredAndLeft` are met (part 2). -/
theorem witness_PowerStatesAreEnteredAndLeft_2 :
    ((let may := (powS {}).dev.boot.stage = .main ∧ awake (powS {}).dev = true ∧ (powS {}).dev.power.idleSince = none ∧ mustRun (powS {}).dev = false ∧ true = false; ¬may)) ∧
    ((((powS {}).dev.power.entering = none ∨ (powS {}).dev.power.idleSince = none))) ∧
    ((powS { entering := some .gate, idleSince := some 5 }).dev.power.entering = some PState.gate ∧ (powS
      { entering := some .gate, idleSince := some 5 }).dev.power.idleSince = some 5) ∧
    (nextEvent (powS {}).dev = none) ∧
    (nextEvent (powS { state := .gate, plan := [900000000] }).dev = some 900000000 ∧ (powS
      { state := .gate, plan := [900000000] }).dev.power.waking = none ∧
      (let p := (powS { state := .gate, plan := [900000000] }).dev.power.entering.getD (powS { state := .gate, plan := [900000000] }).dev.power.state; p ≠ .run)
      ∧
      (let p := (powS { state := .gate, plan := [900000000] }).dev.power.entering.getD (powS { state := .gate, plan := [900000000] }).dev.power.state; p ≠ .backup)) ∧
    (triggers (powS { state := .dark }).dev ((.doorbell false) : WakeCause) = false) := by
  refine ⟨?_, ?_, ?_, ?_, ?_, ?_⟩ <;> decide +kernel

/-- The hypotheses of `Obligations.PowerStatesAreEnteredAndLeft` are met (part 3). -/
theorem witness_PowerStatesAreEnteredAndLeft_3 :
    (triggers (powS { state := .park, idleSince := some 0 }).dev (.kettle : WakeCause) = true) ∧
    ((powS {}).dev.power.waking = none) ∧
    ((powS { state := .dark, waking := some (.dark, 9) }).dev.power.waking = some (PState.dark, 9)) ∧
    ((powS {}).dev.power.plan = []) ∧
    ((powS { plan := [5, 6] }).dev.power.plan = 5 :: [6]) := by
  refine ⟨?_, ?_, ?_, ?_, ?_⟩ <;> decide +kernel

/-- The hypotheses of `Obligations.LinksAttestationAndTheDebugPortAnswer` are met (part 1). -/
theorem witness_LinksAttestationAndTheDebugPortAnswer_1 :
    (runS.dev.host.endpointReady = false) ∧
    (spdmS.dev.host.endpointReady = true) ∧
    (((runS.dev.boot.inReset = true ∨ runS.dev.host.endpointReady = false))) ∧
    (spdmS.dev.boot.inReset = false ∧ spdmS.dev.host.endpointReady = true ∧ (.digests : SpdmRequest) = .digests) ∧
    (spdmS.dev.boot.inReset = false ∧ spdmS.dev.host.endpointReady = true ∧ ((.certificate 0 16) : SpdmRequest) = .certificate 0 16) ∧
    (spdmS.dev.boot.inReset = false ∧ spdmS.dev.host.endpointReady = true ∧ ((.measurement 1) : SpdmRequest) = .measurement 1 ∧
      measurement spdmS.dev 1 = some ((measurement spdmS.dev 1).getD [])) := ⟨by decide +kernel,
    by decide +kernel,
    by decide +kernel,
    by decide +kernel,
    by decide +kernel,
    ⟨by decide +kernel, by decide +kernel, by decide +kernel, rfl⟩⟩

/-- The hypotheses of `Obligations.LinksAttestationAndTheDebugPortAnswer` are met (part 2). -/
theorem witness_LinksAttestationAndTheDebugPortAnswer_2 :
    (spdmS.dev.boot.inReset = false ∧ spdmS.dev.host.endpointReady = true ∧ ((.challenge []) : SpdmRequest) = .challenge []) ∧
    (spdmS.dev.boot.inReset = false ∧ spdmS.dev.host.endpointReady = true ∧ ((.ideKeySet 4) : SpdmRequest) = .ideKeySet (4 :
      FunctionId)) ∧
    (spdmS.dev.boot.inReset = false ∧ spdmS.dev.host.endpointReady = true ∧ ((.ideKeyStop 4) : SpdmRequest) = .ideKeyStop (4 :
      FunctionId)) ∧
    (spdmS.dev.boot.inReset = false ∧ spdmS.dev.host.endpointReady = true ∧ ((.other 0xE4) : SpdmRequest) = .other (0xE4 : BitVec
      8)) ∧
    ((world offD).dev.pins.vin = false) ∧
    (runS.dev.pins.vin = true) := by
  refine ⟨?_, ?_, ?_, ?_, ?_, ?_⟩ <;> decide +kernel

/-- The hypotheses of `Obligations.LinksAttestationAndTheDebugPortAnswer` are met (part 3). -/
theorem witness_LinksAttestationAndTheDebugPortAnswer_3 :
    (State.reset.dev.boot.inReset = true) ∧
    (nonceS.dev.boot.inReset = false) ∧
    (State.reset.dev.boot.inReset = true) ∧
    (Config.debugSignatureOk (List.replicate 32 7) 0 [] = true → nonceS.dev.boot.inReset = false ∧ nonceS.dev.boot.nonce = some
      (List.replicate 32 7) ∧ Config.debugSignatureOk (List.replicate 32 7) nonceS.dev.boot.serial ([] : List Byte) = true) ∧
    (runS.dev.boot.inReset = false ∧ ((∀ n, runS.dev.boot.nonce = some n → Config.debugSignatureOk n runS.dev.boot.serial ([] : List
      Byte) = false))) := ⟨by decide +kernel,
    by decide +kernel,
    by decide +kernel,
    fun h => ⟨rfl, rfl, h⟩,
    ⟨rfl, (by intro n h; cases h)⟩⟩

/-- The hypotheses of `Obligations.UpdatesAreReceivedVerifiedTriedAndConfirmed` are met (part 1). -/
theorem witness_UpdatesAreReceivedVerifiedTriedAndConfirmed_1 :
    (Served (stored (entry 8 0x90 [0x1000, 1]) (List.replicate 4096 0)) (world up).dev ∧ field ((stored (entry 8 0x90 [0x1000, 1])
      (List.replicate 4096 0)).w 2) 0 16 ≤ 4096 ∧ (stored (entry 8 0x90 [0x1000, 1]) (List.replicate 4096 0)).readBuf 2 headerBytes
      = .ok (List.replicate 4096 0) ∧
      (let u := (world up).dev.boot.update; headerRefusal (List.replicate 4096 0) (world up).dev = some (1, Status.imageRefused)) ∧
      (let u := (world up).dev.boot.update; u.state ≠ .trial)) ∧
    (Config.imageSignatureOk hdrB = true → (Served (stored (entry 8 0x90 [0x1000, 1]) hdrB) (world up).dev ∧ field ((stored (entry 8
      0x90 [0x1000, 1]) hdrB).w 2) 0 16 ≤ 4096 ∧ (stored (entry 8 0x90 [0x1000, 1]) hdrB).readBuf 2 headerBytes = .ok hdrB ∧
      (let u := (world up).dev.boot.update; headerRefusal hdrB (world up).dev = none) ∧
      (let u := (world up).dev.boot.update; (u.state = .idle ∨ (u.state ≠ .trial ∧ u.header ≠ hdrB ∧ (u.state = .receiving → u.fromPeer = none)))))) ∧
    (Config.imageSignatureOk hdrB = true → Served (stored (entry 8 0x90 [0x1000, 1]) hdrB) (updS rcvU).dev ∧ field ((stored (entry 8
      0x90 [0x1000, 1]) hdrB).w 2) 0 16 ≤ 4096 ∧ (stored (entry 8 0x90 [0x1000, 1]) hdrB).readBuf 2 headerBytes = .ok hdrB ∧
      (let u := (updS rcvU).dev.boot.update; headerRefusal hdrB (updS rcvU).dev = none) ∧
      (let u := (updS rcvU).dev.boot.update; (u.state = .receiving ∨ u.state = .received)) ∧
      (let u := (updS rcvU).dev.boot.update; u.header = hdrB)) ∧
    (Served (stored (entry 8 0x90 [0x1000, 1]) hdrB) (updS { rcvU with state := .trial }).dev ∧ field ((stored (entry 8 0x90
      [0x1000, 1]) hdrB).w 2) 0 16 ≤ 4096 ∧ (stored (entry 8 0x90 [0x1000, 1]) hdrB).readBuf 2 headerBytes = .ok hdrB ∧
      (let u := (updS { rcvU with state := .trial }).dev.boot.update; (u.state = .trial ∨ (headerRefusal hdrB (updS { rcvU with state := .trial }).dev = none ∧ u.state = .verified ∧ u.header = hdrB)))) ∧
    (Served (stored (entry 8 0x91 [0, 0x1000, 1]) chunk0) (world up).dev ∧
      (let u := (world up).dev.boot.update; let i := field ((stored (entry 8 0x91 [0, 0x1000, 1]) chunk0).w 1) 0 32; u.state ≠ .receiving)) ∧
    (Served (stored (entry 8 0x91 [1, 0x1000, 1]) chunk0) (updS rcvU).dev ∧
      (let u := (updS rcvU).dev.boot.update; let i := field ((stored (entry 8 0x91 [1, 0x1000, 1]) chunk0).w 1) 0 32; u.state = .receiving)
      ∧
      (let u := (updS rcvU).dev.boot.update; let i := field ((stored (entry 8 0x91 [1, 0x1000, 1]) chunk0).w 1) 0 32; (chunkCount u.header ≤ i ∨ (i ≠ 0 ∧ chunkHeld u 0 = false)))) := ⟨by unfold Served; decide +kernel,
    fun h => ⟨by unfold Served; decide +kernel, by decide +kernel, by decide +kernel, (by simp only [headerRefusal, h]; decide +kernel), by decide +kernel⟩,
    fun h => ⟨by unfold Served; decide +kernel, by decide +kernel, by decide +kernel, (by simp only [headerRefusal, h]; decide +kernel), by decide +kernel, by decide +kernel⟩,
    by unfold Served; decide +kernel,
    by unfold Served; decide +kernel,
    by unfold Served; decide +kernel⟩

/-- The hypotheses of `Obligations.UpdatesAreReceivedVerifiedTriedAndConfirmed` are met (part 2). -/
theorem witness_UpdatesAreReceivedVerifiedTriedAndConfirmed_2 :
    (Served (stored (entry 8 0x91 [0, 0x1000, 1]) chunk0) (updS heldU).dev ∧
      (let u := (updS heldU).dev.boot.update; let i := field ((stored (entry 8 0x91 [0, 0x1000, 1]) chunk0).w 1) 0 32; u.state = .receiving)
      ∧
      (let u := (updS heldU).dev.boot.update; let i := field ((stored (entry 8 0x91 [0, 0x1000, 1]) chunk0).w 1) 0 32; i < chunkCount u.header)
      ∧
      (let u := (updS heldU).dev.boot.update; let i := field ((stored (entry 8 0x91 [0, 0x1000, 1]) chunk0).w 1) 0 32; (i = 0 ∨ chunkHeld u 0 = true))
      ∧
      (let u := (updS heldU).dev.boot.update; let i := field ((stored (entry 8 0x91 [0, 0x1000, 1]) chunk0).w 1) 0 32; field ((stored (entry 8 0x91 [0, 0x1000, 1]) chunk0).w 3) 0 16 ≤ 4096)
      ∧
      (let u := (updS heldU).dev.boot.update; let i := field ((stored (entry 8 0x91 [0, 0x1000, 1]) chunk0).w 1) 0 32; (stored (entry 8 0x91 [0, 0x1000, 1]) chunk0).readBuf 3 (chunkLength u.header i) = .ok chunk0)
      ∧
      (let u := (updS heldU).dev.boot.update; let i := field ((stored (entry 8 0x91 [0, 0x1000, 1]) chunk0).w 1) 0 32; chunkHeld u i = true)) ∧
    (Served (stored (entry 8 0x91 [0, 0x1000, 1]) chunk0) (updS rcvU).dev ∧
      (let u := (updS rcvU).dev.boot.update; let i := field ((stored (entry 8 0x91 [0, 0x1000, 1]) chunk0).w 1) 0 32; u.state = .receiving)
      ∧
      (let u := (updS rcvU).dev.boot.update; let i := field ((stored (entry 8 0x91 [0, 0x1000, 1]) chunk0).w 1) 0 32; i < chunkCount u.header)
      ∧
      (let u := (updS rcvU).dev.boot.update; let i := field ((stored (entry 8 0x91 [0, 0x1000, 1]) chunk0).w 1) 0 32; (i = 0 ∨ chunkHeld u 0 = true))
      ∧
      (let u := (updS rcvU).dev.boot.update; let i := field ((stored (entry 8 0x91 [0, 0x1000, 1]) chunk0).w 1) 0 32; field ((stored (entry 8 0x91 [0, 0x1000, 1]) chunk0).w 3) 0 16 ≤ 4096)
      ∧
      (let u := (updS rcvU).dev.boot.update; let i := field ((stored (entry 8 0x91 [0, 0x1000, 1]) chunk0).w 1) 0 32; (stored (entry 8 0x91 [0, 0x1000, 1]) chunk0).readBuf 3 (chunkLength u.header i) = .ok chunk0)
      ∧
      (let u := (updS rcvU).dev.boot.update; let i := field ((stored (entry 8 0x91 [0, 0x1000, 1]) chunk0).w 1) 0 32; chunkHeld u i = false)
      ∧
      (let u := (updS rcvU).dev.boot.update; let i := field ((stored (entry 8 0x91 [0, 0x1000, 1]) chunk0).w 1) 0 32; sha384 chunk0 = chunkHash u i)) ∧
    (Served (stored (entry 8 0x91 [0, 0x1000, 1]) chunk0) (updS { rcvU with header := hdrB.set 80 0 |>.set 79 1 }).dev ∧
      (let u := (updS { rcvU with header := hdrB.set 80 0 |>.set 79 1 }).dev.boot.update; let i := field ((stored (entry 8 0x91 [0, 0x1000, 1]) chunk0).w 1) 0 32; u.state = .receiving)
      ∧
      (let u := (updS { rcvU with header := hdrB.set 80 0 |>.set 79 1 }).dev.boot.update; let i := field ((stored (entry 8 0x91 [0, 0x1000, 1]) chunk0).w 1) 0 32; i < chunkCount u.header)
      ∧
      (let u := (updS { rcvU with header := hdrB.set 80 0 |>.set 79 1 }).dev.boot.update; let i := field ((stored (entry 8 0x91 [0, 0x1000, 1]) chunk0).w 1) 0 32; (i = 0 ∨ chunkHeld u 0 = true))
      ∧
      (let u := (updS { rcvU with header := hdrB.set 80 0 |>.set 79 1 }).dev.boot.update; let i := field ((stored (entry 8 0x91 [0, 0x1000, 1]) chunk0).w 1) 0 32; field ((stored (entry 8 0x91 [0, 0x1000, 1]) chunk0).w 3) 0 16 ≤ 4096)
      ∧
      (let u := (updS { rcvU with header := hdrB.set 80 0 |>.set 79 1 }).dev.boot.update; let i := field ((stored (entry 8 0x91 [0, 0x1000, 1]) chunk0).w 1) 0 32; (stored (entry 8 0x91 [0, 0x1000, 1]) chunk0).readBuf 3 (chunkLength u.header i) = .ok chunk0)
      ∧
      (let u := (updS { rcvU with header := hdrB.set 80 0 |>.set 79 1 }).dev.boot.update; let i := field ((stored (entry 8 0x91 [0, 0x1000, 1]) chunk0).w 1) 0 32; chunkHeld u i = false)
      ∧
      (let u := (updS { rcvU with header := hdrB.set 80 0 |>.set 79 1 }).dev.boot.update; let i := field ((stored (entry 8 0x91 [0, 0x1000, 1]) chunk0).w 1) 0 32; sha384 chunk0 ≠ chunkHash u i)) ∧
    (Served (entry 8 0x92) (updS { rcvU with state := .verified }).dev ∧
      (let u := (updS { rcvU with state := .verified }).dev.boot.update; u.state = .verified)) ∧
    (Served (entry 8 0x92) (updS rcvU).dev ∧ (let u := (updS rcvU).dev.boot.update; u.state ≠ .verified) ∧
      (let u := (updS rcvU).dev.boot.update; u.state ≠ .received)) ∧
    (Served (entry 8 0x92) (updS { heldU with state := .received }).dev ∧
      (let u := (updS { heldU with state := .received }).dev.boot.update; u.state = .received) ∧
      (let u := (updS { heldU with state := .received }).dev.boot.update; badChunks ([0] : List Nat) u ≠ [])) := by
  unfold Served
  refine ⟨?_, ?_, ?_, ?_, ?_, ?_⟩ <;> decide +kernel

/-- The hypotheses of `Obligations.UpdatesAreReceivedVerifiedTriedAndConfirmed` are met (part 3). -/
theorem witness_UpdatesAreReceivedVerifiedTriedAndConfirmed_3 :
    (plaintext plainU = some [] → Served (entry 8 0x92) (updS plainU).dev ∧
      (let u := (updS plainU).dev.boot.update; u.state = .received) ∧
      (let u := (updS plainU).dev.boot.update; badChunks ([] : List Nat) u = []) ∧
      (let u := (updS plainU).dev.boot.update; plaintext u = some []) ∧
      (let u := (updS plainU).dev.boot.update; digestsOk u.header [] = true)) ∧
    (plaintext { heldU with state := .received } = none → (Served (entry 8 0x92) (updS { heldU with state := .received }).dev ∧
      (let u := (updS { heldU with state := .received }).dev.boot.update; u.state = .received) ∧
      (let u := (updS { heldU with state := .received }).dev.boot.update; badChunks ([] : List Nat) u = []) ∧
      (let u := (updS { heldU with state := .received }).dev.boot.update; (∀ p, plaintext u = some p → digestsOk u.header p = false)))) ∧
    (Served (entry 8 0x93) (updS { rcvU with state := .verified }).dev ∧
      (let u := (updS { rcvU with state := .verified }).dev.boot.update; let i := ((updS { rcvU with state := .verified }).dev.slot u.target).image; u.state = .verified)
      ∧
      (let u := (updS { rcvU with state := .verified }).dev.boot.update; let i := ((updS { rcvU with state := .verified }).dev.slot u.target).image; (i.arith = (runningImage (updS { rcvU with state := .verified }).dev).arith ∨ anyPackage (updS { rcvU with state := .verified }).dev = false))
      ∧
      (let u := (updS { rcvU with state := .verified }).dev.boot.update; let i := ((updS { rcvU with state := .verified }).dev.slot u.target).image; ifaceFar (updS { rcvU with state := .verified }).dev i.iface = false)) ∧
    (Served (entry 8 0x93) (world
      { tens { packages := [pack0] } with boot := { up.boot with update := { rcvU with state := .verified }, slotB := { image := { arith := 2 } } } }).dev
      ∧
      (let u := (world { tens { packages := [pack0] } with boot := { up.boot with update := { rcvU with state := .verified }, slotB := { image := { arith := 2 } } } }).dev.boot.update; let i := ((world { tens { packages := [pack0] } with boot := { up.boot with update := { rcvU with state := .verified }, slotB := { image := { arith := 2 } } } }).dev.slot u.target).image; u.state = .verified)
      ∧
      (let u := (world { tens { packages := [pack0] } with boot := { up.boot with update := { rcvU with state := .verified }, slotB := { image := { arith := 2 } } } }).dev.boot.update; let i := ((world { tens { packages := [pack0] } with boot := { up.boot with update := { rcvU with state := .verified }, slotB := { image := { arith := 2 } } } }).dev.slot u.target).image; i.arith ≠ (runningImage (world { tens { packages := [pack0] } with boot := { up.boot with update := { rcvU with state := .verified }, slotB := { image := { arith := 2 } } } }).dev).arith)
      ∧
      (let u := (world { tens { packages := [pack0] } with boot := { up.boot with update := { rcvU with state := .verified }, slotB := { image := { arith := 2 } } } }).dev.boot.update; let i := ((world { tens { packages := [pack0] } with boot := { up.boot with update := { rcvU with state := .verified }, slotB := { image := { arith := 2 } } } }).dev.slot u.target).image; anyPackage (world { tens { packages := [pack0] } with boot := { up.boot with update := { rcvU with state := .verified }, slotB := { image := { arith := 2 } } } }).dev = true)) ∧
    (Served (entry 8 0x93) (updS { rcvU with state := .trial }).dev ∧
      (let u := (updS { rcvU with state := .trial }).dev.boot.update; let i := ((updS { rcvU with state := .trial }).dev.slot u.target).image; u.state = .trial)) ∧
    (Served (entry 8 0x93) (updS rcvU).dev ∧
      (let u := (updS rcvU).dev.boot.update; let i := ((updS rcvU).dev.slot u.target).image; u.state ≠ .verified) ∧
      (let u := (updS rcvU).dev.boot.update; let i := ((updS rcvU).dev.slot u.target).image; u.state ≠ .trial)) := ⟨fun h => ⟨by unfold Served; decide +kernel, rfl, (by decide +kernel), h, (by decide +kernel)⟩,
    fun h => ⟨by unfold Served; decide +kernel, by decide +kernel, by decide +kernel, (by intro p q k; cases h.symm.trans k)⟩,
    by unfold Served; decide +kernel,
    by unfold Served; decide +kernel,
    by unfold Served; decide +kernel,
    by unfold Served; decide +kernel⟩

/-- The hypotheses of `Obligations.UpdatesAreReceivedVerifiedTriedAndConfirmed` are met (part 4). -/
theorem witness_UpdatesAreReceivedVerifiedTriedAndConfirmed_4 :
    (Served (entry 8 0x94) (trialS armsB).dev ∧ (let b := (trialS armsB).dev.boot; b.update.state = .trial) ∧
      (let b := (trialS armsB).dev.boot; b.trial = some Slot.b) ∧ (let b := (trialS armsB).dev.boot; b.startComplete = true) ∧
      (let b := (trialS armsB).dev.boot; b.running = Slot.b)) ∧
    (Served (entry 8 0x94) (trialS { armsB with startComplete := false }).dev ∧
      (let b := (trialS { armsB with startComplete := false }).dev.boot; (b.update.state ≠ .trial ∨ b.startComplete = false ∨ b.trial ≠ some b.running))) ∧
    (Served (entry 8 0x95 [0xFF]) (world up).dev ∧
      (let u := (world up).dev.boot.update; let allowed := u.state = .verified ∨ u.state = .trial ∨ (u.state = .idle ∧ u.staged = true); let named := allPorts.filter fun p => bitAt ((entry 8 0x95 [0xFF]).w 1) p.val && decide (((world up).dev.port p).state = .active); (¬allowed ∨ u.forward ≠ []))) ∧
    (Served (entry 8 0x95 [0xFF]) (updS { staged := true }).dev ∧
      (let u := (updS { staged := true }).dev.boot.update; let allowed := u.state = .verified ∨ u.state = .trial ∨ (u.state = .idle ∧ u.staged = true); let named := allPorts.filter fun p => bitAt ((entry 8 0x95 [0xFF]).w 1) p.val && decide (((updS { staged := true }).dev.port p).state = .active); allowed)
      ∧
      (let u := (updS { staged := true }).dev.boot.update; let allowed := u.state = .verified ∨ u.state = .trial ∨ (u.state = .idle ∧ u.staged = true); let named := allPorts.filter fun p => bitAt ((entry 8 0x95 [0xFF]).w 1) p.val && decide (((updS { staged := true }).dev.port p).state = .active); u.forward = [])
      ∧
      (let u := (updS { staged := true }).dev.boot.update; let allowed := u.state = .verified ∨ u.state = .trial ∨ (u.state = .idle ∧ u.staged = true); let named := allPorts.filter fun p => bitAt ((entry 8 0x95 [0xFF]).w 1) p.val && decide (((updS { staged := true }).dev.port p).state = .active); named = [])) ∧
    (Served (entry 8 0x95 [0xFF]) (world (activeD { up.boot with update := { staged := true } })).dev ∧
      (let u := (world (activeD { up.boot with update := { staged := true } })).dev.boot.update; let allowed := u.state = .verified ∨ u.state = .trial ∨ (u.state = .idle ∧ u.staged = true); let named := allPorts.filter fun p => bitAt ((entry 8 0x95 [0xFF]).w 1) p.val && decide (((world (activeD { up.boot with update := { staged := true } })).dev.port p).state = .active); allowed)
      ∧
      (let u := (world (activeD { up.boot with update := { staged := true } })).dev.boot.update; let allowed := u.state = .verified ∨ u.state = .trial ∨ (u.state = .idle ∧ u.staged = true); let named := allPorts.filter fun p => bitAt ((entry 8 0x95 [0xFF]).w 1) p.val && decide (((world (activeD { up.boot with update := { staged := true } })).dev.port p).state = .active); u.forward = [])
      ∧
      (let u := (world (activeD { up.boot with update := { staged := true } })).dev.boot.update; let allowed := u.state = .verified ∨ u.state = .trial ∨ (u.state = .idle ∧ u.staged = true); let named := allPorts.filter fun p => bitAt ((entry 8 0x95 [0xFF]).w 1) p.val && decide (((world (activeD { up.boot with update := { staged := true } })).dev.port p).state = .active); named ≠ [])) ∧
    ((let u := (world (bootD { inReset := false })).dev.boot.update; (world (bootD { inReset := false })).dev.boot.mbxReady = false) ∧ (let u := (world (bootD { inReset := false })).dev.boot.update; recovering (world (bootD { inReset := false })).dev = false)) := by
  unfold Served
  refine ⟨?_, ?_, ?_, ?_, ?_, ?_⟩ <;> decide +kernel

/-- The hypotheses of `Obligations.UpdatesAreReceivedVerifiedTriedAndConfirmed` are met (part 5). -/
theorem witness_UpdatesAreReceivedVerifiedTriedAndConfirmed_5 :
    (Config.imageSignatureOk hdrB = true → (let u := (world up).dev.boot.update; (world up).dev.boot.mbxReady = true) ∧
      (let u := (world up).dev.boot.update; ((.header hdrB) : ImageMsg) = .header hdrB) ∧
      (let u := (world up).dev.boot.update; u.state = .idle) ∧
      (let u := (world up).dev.boot.update; (world up).dev.caddy.readOnly = false) ∧
      (let u := (world up).dev.boot.update; headerRefusal (fit headerBytes hdrB) (world up).dev = none)) ∧
    ((let u := (updS rcvU).dev.boot.update; (updS rcvU).dev.boot.mbxReady = true) ∧ (let u := (updS rcvU).dev.boot.update; ((.header hdrB) : ImageMsg) = .header hdrB) ∧ (let u := (updS rcvU).dev.boot.update; u.state ≠ .idle)) ∧
    ((let u := (updS rcvU).dev.boot.update; (updS rcvU).dev.boot.mbxReady = true) ∧ (let u := (updS rcvU).dev.boot.update; ((.chunk 0 chunk0 []) : ImageMsg) = .chunk 0 chunk0 []) ∧ (let u := (updS rcvU).dev.boot.update; u.state = .receiving) ∧ (let u := (updS rcvU).dev.boot.update; 0 < chunkCount u.header) ∧ (let u := (updS rcvU).dev.boot.update; (0 = 0 ∨ chunkHeld u 0 = true)) ∧ (let u := (updS rcvU).dev.boot.update; chunkHeld u 0 = false) ∧ (let u := (updS rcvU).dev.boot.update; (updS rcvU).dev.caddy.readOnly = false) ∧ (let u := (updS rcvU).dev.boot.update; chunk0.length = chunkLength u.header 0) ∧ (let u := (updS rcvU).dev.boot.update; sha384 chunk0 = chunkHash u 0) ∧ (let u := (updS rcvU).dev.boot.update; u.chunks.length + 1 ≠ chunkCount u.header)) ∧
    ((let u := (world up).dev.boot.update; (world up).dev.boot.mbxReady = true) ∧ (let u := (world up).dev.boot.update; (((.missing []) : ImageMsg) = .missing [] ∨ ((.missing []) : ImageMsg) = .refused))) := ⟨fun h => ⟨by decide +kernel, by decide +kernel, by decide +kernel, by decide +kernel, (by simp only [show fit headerBytes hdrB = hdrB by decide +kernel, headerRefusal, h]; decide +kernel)⟩,
    by decide +kernel,
    by decide +kernel,
    by decide +kernel⟩

/-- The hypotheses of `Obligations.UnitsAreTestedInTheFieldAndTheJournalCompacted` are met (part 1). -/
theorem witness_UnitsAreTestedInTheFieldAndTheJournalCompacted_1 :
    (State.reset.dev.boot.stage ≠ .main) ∧
    ((testS { due := [5] }).dev.boot.stage = .main ∧ (5 : Fin 21).val ∈ (testS { due := [5] }).dev.selftest.due ∧ testEnabled (testS
      { due := [5] }).dev = true ∧ (testS { due := [5] }).dev.selftest.running = false ∧ unitIdle (testS { due := [5] }).dev (5 :
      Fin 21).val = true) ∧
    ((testS { due := [5], running := true }).dev.boot.stage = .main ∧ (5 : Fin 21).val ∈ (testS
      { due := [5], running := true }).dev.selftest.due ∧ ((testEnabled (testS { due := [5], running := true }).dev = false ∨ (testS
      { due := [5], running := true }).dev.selftest.running = true ∨ unitIdle (testS { due := [5], running := true }).dev (5 : Fin
      21).val = false))) ∧
    ((testS { next := 20, nextAt := some 9 }).dev.boot.stage = .main ∧ (20 : Fin 21).val ∉ (testS
      { next := 20, nextAt := some 9 }).dev.selftest.due ∧ (testS { next := 20, nextAt := some 9 }).dev.selftest.nextAt = some 9 ∧
      testEnabled (testS { next := 20, nextAt := some 9 }).dev = true ∧ (testS { next := 20, nextAt := some 9 }).dev.selftest.next =
      (20 : Fin 21).val ∧ underTest (testS { next := 20, nextAt := some 9 }).dev (20 : Fin 21).val = false) ∧
    ((testS {}).dev.selftest.running = false) ∧
    ((testS runningT).dev.selftest.running = true ∧ testFails (testS runningT).dev (testS runningT).dev.selftest.unit (({}) :
      TestFindings) = false) := by
  refine ⟨?_, ?_, ?_, ?_, ?_, ?_⟩ <;> decide +kernel

/-- The hypotheses of `Obligations.UnitsAreTestedInTheFieldAndTheJournalCompacted` are met (part 2). -/
theorem witness_UnitsAreTestedInTheFieldAndTheJournalCompacted_2 :
    ((testS runningT).dev.selftest.running = true ∧ (testS runningT).dev.selftest.repeating = false ∧ testFails (testS runningT).dev
      (testS runningT).dev.selftest.unit (({ fails := true }) : TestFindings) = true) ∧
    ((testS { runningT with repeating := true }).dev.selftest.running = true ∧ (testS
      { runningT with repeating := true }).dev.selftest.repeating = true ∧ testFails (testS { runningT with repeating := true }).dev
      (testS { runningT with repeating := true }).dev.selftest.unit (({ fails := true }) : TestFindings) = true) ∧
    ((let may := (testS runningT).dev.selftest.running = true ∧ requestMeets (testS runningT).dev ((.entropy true) : TestRequest) = true ∧ requestHeld (testS runningT).dev ((.entropy true) : TestRequest) = false; ¬may)) ∧
    ((let may := (testS runningT).dev.selftest.running = true ∧ requestMeets (testS runningT).dev ((.row 0 0) : TestRequest) = true ∧ requestHeld (testS runningT).dev ((.row 0 0) : TestRequest) = false; may)) ∧
    ((((testS { overdue := [20] }).dev.boot.stage ≠ .main ∨ (20 : Fin 21).val ∈ (testS { overdue := [20] }).dev.selftest.overdue))) ∧
    ((testS {}).dev.boot.stage = .main ∧ (20 : Fin 21).val ∉ (testS {}).dev.selftest.overdue) := by
  refine ⟨?_, ?_, ?_, ?_, ?_, ?_⟩ <;> decide +kernel

/-- The hypotheses of `Obligations.UnitsAreTestedInTheFieldAndTheJournalCompacted` are met (part 3). -/
theorem witness_UnitsAreTestedInTheFieldAndTheJournalCompacted_3 :
    (((runS.dev.caddy.readOnly = true ∨ runS.dev.caddy.due = false ∨ runS.dev.caddy.victim = none))) ∧
    ((world { up with caddy := fullC }).dev.caddy.readOnly = false ∧ (world { up with caddy := fullC }).dev.caddy.due = true ∧
      (world { up with caddy := fullC }).dev.caddy.victim = some ({ num := 513, recs := [⟨1, 1, 0, 64⟩] } : CaddySector)) := ⟨by decide +kernel,
    ⟨by decide +kernel, by decide +kernel, (by rfl)⟩⟩

/-- The hypotheses of `Obligations.UnitsMigrateBetweenStepsAndTierThreeIsKept` are met (part 1). -/
theorem witness_UnitsMigrateBetweenStepsAndTierThreeIsKept_1 :
    ((let found := (runS.dev.tenant (0 : TenantId)).units.find? fun u => decide (u.tensor = (7 : Nat)) && decide (u.index = (1 : Nat)); found = none)) ∧
    ((let found := ((unitS { tensor := 7, index := 1, tier := 2 }).dev.tenant (0 : TenantId)).units.find? fun u => decide (u.tensor = (7 : Nat)) && decide (u.index = (1 : Nat)); found = some ({ tensor := 7, index := 1, tier := 2 } : RUnit)) ∧ (let found := ((unitS { tensor := 7, index := 1, tier := 2 }).dev.tenant (0 : TenantId)).units.find? fun u => decide (u.tensor = (7 : Nat)) && decide (u.index = (1 : Nat)); ({ tensor := 7, index := 1, tier := 2 } : RUnit).migrating = none)) ∧
    ((let found := ((unitS { tensor := 7, index := 1, tier := 2, migrating := some (1, 4) }).dev.tenant (0 : TenantId)).units.find? fun u => decide (u.tensor = (7 : Nat)) && decide (u.index = (1 : Nat)); found = some ({ tensor := 7, index := 1, tier := 2, migrating := some (1, 4) } : RUnit)) ∧ (let found := ((unitS { tensor := 7, index := 1, tier := 2, migrating := some (1, 4) }).dev.tenant (0 : TenantId)).units.find? fun u => decide (u.tensor = (7 : Nat)) && decide (u.index = (1 : Nat)); ({ tensor := 7, index := 1, tier := 2, migrating := some (1, 4) } : RUnit).migrating = some (1, 4)) ∧ (let found := ((unitS { tensor := 7, index := 1, tier := 2, migrating := some (1, 4) }).dev.tenant (0 : TenantId)).units.find? fun u => decide (u.tensor = (7 : Nat)) && decide (u.index = (1 : Nat)); (betweenSteps (unitS { tensor := 7, index := 1, tier := 2, migrating := some (1, 4) }).dev (0 : TenantId) = false ∨ 4 ≤ 4))) ∧
    ((let found := ((unitS { tensor := 7, index := 1, tier := 2, migrating := some (1, 3) }).dev.tenant (0 : TenantId)).units.find? fun u => decide (u.tensor = (7 : Nat)) && decide (u.index = (1 : Nat)); found = some ({ tensor := 7, index := 1, tier := 2, migrating := some (1, 3) } : RUnit)) ∧ (let found := ((unitS { tensor := 7, index := 1, tier := 2, migrating := some (1, 3) }).dev.tenant (0 : TenantId)).units.find? fun u => decide (u.tensor = (7 : Nat)) && decide (u.index = (1 : Nat)); ({ tensor := 7, index := 1, tier := 2, migrating := some (1, 3) } : RUnit).migrating = some (1, 3)) ∧ (let found := ((unitS { tensor := 7, index := 1, tier := 2, migrating := some (1, 3) }).dev.tenant (0 : TenantId)).units.find? fun u => decide (u.tensor = (7 : Nat)) && decide (u.index = (1 : Nat)); betweenSteps (unitS { tensor := 7, index := 1, tier := 2, migrating := some (1, 3) }).dev (0 : TenantId) = true) ∧ (let found := ((unitS { tensor := 7, index := 1, tier := 2, migrating := some (1, 3) }).dev.tenant (0 : TenantId)).units.find? fun u => decide (u.tensor = (7 : Nat)) && decide (u.index = (1 : Nat)); 3 < 4)) ∧
    ((let found := ((unitS { tensor := 7, index := 1, tier := 2, migrating := some (1, 3) }).dev.tenant (0 : TenantId)).units.find? fun u => decide (u.tensor = (7 : Nat)) && decide (u.index = (1 : Nat)); found = some ({ tensor := 7, index := 1, tier := 2, migrating := some (1, 3) } : RUnit)) ∧ (let found := ((unitS { tensor := 7, index := 1, tier := 2, migrating := some (1, 3) }).dev.tenant (0 : TenantId)).units.find? fun u => decide (u.tensor = (7 : Nat)) && decide (u.index = (1 : Nat)); ({ tensor := 7, index := 1, tier := 2, migrating := some (1, 3) } : RUnit).migrating = some (1, 3)) ∧ (let found := ((unitS { tensor := 7, index := 1, tier := 2, migrating := some (1, 3) }).dev.tenant (0 : TenantId)).units.find? fun u => decide (u.tensor = (7 : Nat)) && decide (u.index = (1 : Nat)); 3 < 4)) ∧
    ((let found := ((unitS { tensor := 7, index := 1, tier := 2, migrating := some (1, 4) }).dev.tenant (0 : TenantId)).units.find? fun u => decide (u.tensor = (7 : Nat)) && decide (u.index = (1 : Nat)); found = some ({ tensor := 7, index := 1, tier := 2, migrating := some (1, 4) } : RUnit)) ∧ (let found := ((unitS { tensor := 7, index := 1, tier := 2, migrating := some (1, 4) }).dev.tenant (0 : TenantId)).units.find? fun u => decide (u.tensor = (7 : Nat)) && decide (u.index = (1 : Nat)); ({ tensor := 7, index := 1, tier := 2, migrating := some (1, 4) } : RUnit).migrating = some (1, 4)) ∧ (let found := ((unitS { tensor := 7, index := 1, tier := 2, migrating := some (1, 4) }).dev.tenant (0 : TenantId)).units.find? fun u => decide (u.tensor = (7 : Nat)) && decide (u.index = (1 : Nat)); 4 ≤ 4)) := by
  refine ⟨?_, ?_, ?_, ?_, ?_, ?_⟩ <;> decide +kernel

/-- The hypotheses of `Obligations.UnitsMigrateBetweenStepsAndTierThreeIsKept` are met (part 2). -/
theorem witness_UnitsMigrateBetweenStepsAndTierThreeIsKept_2 :
    (checkInverted runS.dev 3 = false) ∧
    (checkInverted runS.dev 3 = false ∧ (none : Option TensorAt) = none) ∧
    (runS.dev.tiers.t3.scanning = false) ∧
    ((t3S { scanning := true }).dev.tiers.t3.scanning = true) := by
  refine ⟨?_, ?_, ?_, ?_⟩ <;> decide +kernel

/-- The hypotheses of `Obligations.TierLinesAreCorrectedPoisonedRecoveredAndRetired` are met (part 1). -/
theorem witness_TierLinesAreCorrectedPoisonedRecoveredAndRetired_1 :
    ((tierDev strictS.dev ((.stack 7) : TierDev)).health ≠ .lost ∧ lineSlot ((.stack 7) : TierDev)
      (({ tenant := 0, id := 7, off := 65 }) : TensorAt).tenant ([] : List TenantId) strictS.dev = none) ∧
    ((tierDev (tierS tenX {}).dev ((.stack 7) : TierDev)).health ≠ .lost ∧ lineSlot ((.stack 7) : TierDev)
      (({ tenant := 0, id := 7, off := 65 }) : TensorAt).tenant ([] : List TenantId) (tierS tenX {}).dev = some ((lineSlot (.stack
      7) 0 [] (tierS tenX {}).dev).getD up) ∧ checkInverted (tierS tenX {}).dev (devSource ((.stack 7) : TierDev)).1 = false ∧
      findTensor (tierS tenX {}).dev (({ tenant := 0, id := 7, off := 65 }) : TensorAt).tenant
      (({ tenant := 0, id := 7, off := 65 }) : TensorAt).id = some tenX ∧ tenX.rangeLost ((({ tenant := 0, id := 7, off := 65 }) :
      TensorAt).off / 64 * 64) 64 = false) ∧
    ((tierDev (tierS tenX {}).dev ((.stack 7) : TierDev)).health ≠ .lost ∧ lineSlot ((.stack 7) : TierDev)
      (({ tenant := 0, id := 7, off := 65 }) : TensorAt).tenant ([] : List TenantId) (tierS tenX {}).dev = some ((lineSlot (.stack
      7) 0 [] (tierS tenX {}).dev).getD up) ∧ checkInverted (tierS tenX {}).dev (devSource ((.stack 7) : TierDev)).1 = false ∧
      findTensor (tierS tenX {}).dev (({ tenant := 0, id := 7, off := 65 }) : TensorAt).tenant
      (({ tenant := 0, id := 7, off := 65 }) : TensorAt).id = some tenX ∧ tenX.rangeLost ((({ tenant := 0, id := 7, off := 65 }) :
      TensorAt).off / 64 * 64) 64 = false ∧ tenX.mode ≠ .readOnly) ∧
    ((tierDev (tierS tenX { health := .lost }).dev ((.stack 7) : TierDev)).health = .lost) ∧
    ((tierDev runS.dev ((.stack 7) : TierDev)).health ≠ .lost ∧ checkInverted runS.dev (devSource ((.stack 7) : TierDev)).1 = false) ∧
    ((let found := (tierDev runS.dev ((.stack 7) : TierDev)).poison.find? fun r => decide (r.addr = (64 : Nat)) && decide (r.len = 64); found = none)) := by
  refine ⟨?_, ?_, ?_, ?_, ?_, ?_⟩ <;> decide +kernel

/-- The hypotheses of `Obligations.TierLinesAreCorrectedPoisonedRecoveredAndRetired` are met (part 2). -/
theorem witness_TierLinesAreCorrectedPoisonedRecoveredAndRetired_2 :
    ((let found := (tierDev (tierS tenX { poison := [poisR] }).dev ((.stack 7) : TierDev)).poison.find? fun r => decide (r.addr = (64 : Nat)) && decide (r.len = 64); found = some poisR) ∧ (let found := (tierDev (tierS tenX { poison := [poisR] }).dev ((.stack 7) : TierDev)).poison.find? fun r => decide (r.addr = (64 : Nat)) && decide (r.len = 64); poisR.tenant = (0 : TenantId).val) ∧ (let found := (tierDev (tierS tenX { poison := [poisR] }).dev ((.stack 7) : TierDev)).poison.find? fun r => decide (r.addr = (64 : Nat)) && decide (r.len = 64); findTensor (tierS tenX { poison := [poisR] }).dev (0 : TenantId) poisR.tensor = some tenX) ∧ (let found := (tierDev (tierS tenX { poison := [poisR] }).dev ((.stack 7) : TierDev)).poison.find? fun r => decide (r.addr = (64 : Nat)) && decide (r.len = 64); tenX.mode ≠ .readOnly)) ∧
    ((let found := (tierDev (tierS { tenX with mode := .readOnly } { poison := [poisR] }).dev ((.stack 7) : TierDev)).poison.find? fun r => decide (r.addr = (64 : Nat)) && decide (r.len = 64); found = some poisR) ∧ (let found := (tierDev (tierS { tenX with mode := .readOnly } { poison := [poisR] }).dev ((.stack 7) : TierDev)).poison.find? fun r => decide (r.addr = (64 : Nat)) && decide (r.len = 64); poisR.tenant = (0 : TenantId).val) ∧ (let found := (tierDev (tierS { tenX with mode := .readOnly } { poison := [poisR] }).dev ((.stack 7) : TierDev)).poison.find? fun r => decide (r.addr = (64 : Nat)) && decide (r.len = 64); findTensor (tierS { tenX with mode := .readOnly } { poison := [poisR] }).dev (0 : TenantId) poisR.tensor = some ({ tenX with mode := .readOnly })) ∧ (let found := (tierDev (tierS { tenX with mode := .readOnly } { poison := [poisR] }).dev ((.stack 7) : TierDev)).poison.find? fun r => decide (r.addr = (64 : Nat)) && decide (r.len = 64); ({ tenX with mode := .readOnly }).mode = .readOnly)) ∧
    (((∀ c ∈ (tierDev runS.dev ((.package 15) : TierDev)).copying, c.1 ≠ (1 : Nat)))) ∧
    (((tierDev (tierS tenX { copying := [(1, 5)] }).dev ((.stack 7) : TierDev)).copying.find? (fun c => decide (c.1 = (1 : Nat))) =
      some ((1, 5) : Nat × Nat))) := by
  refine ⟨?_, ?_, ?_, ?_⟩ <;> decide +kernel

/-- The hypotheses of `Obligations.RidgePortsTrainRetrainAndSwapLanes` are met (part 1). -/
theorem witness_RidgePortsTrainRetrainAndSwapLanes_1 :
    (((((portS { state := .detect }).dev.port (7 : PortId)).state ≠ .detect ∨ (9 : Fin 23).val < 10))) ∧
    (((portS { state := .detect }).dev.port (7 : PortId)).state = .detect ∧ 10 ≤ (10 : Fin 23).val) ∧
    ((let left := goodLanes ((([] : List (Fin 22)).map (·.val)).foldl (fun r l => retireLane l r) ((portS { state := .down }).dev.port (7 : PortId))); let half := left.length < 20 ∨ ∃ c, ((portS { state := .down }).dev.port (7 : PortId)).retrainReq = some (c, 10); ((portS { state := .down }).dev.port (7 : PortId)).training = false)) ∧
    ((let left := goodLanes ((([0, 1, 2, 3, 4, 5, 6, 7, 8, 9, 10, 11, 12] : List (Fin 22)).map (·.val)).foldl (fun r l => retireLane l r) ((portS { state := .equalise }).dev.port (7 : PortId))); let half := left.length < 20 ∨ ∃ c, ((portS { state := .equalise }).dev.port (7 : PortId)).retrainReq = some (c, 10); ((portS { state := .equalise }).dev.port (7 : PortId)).training = true) ∧ (let left := goodLanes ((([0, 1, 2, 3, 4, 5, 6, 7, 8, 9, 10, 11, 12] : List (Fin 22)).map (·.val)).foldl (fun r l => retireLane l r) ((portS { state := .equalise }).dev.port (7 : PortId))); let half := left.length < 20 ∨ ∃ c, ((portS { state := .equalise }).dev.port (7 : PortId)).retrainReq = some (c, 10); left.length < 10)) ∧
    ((let left := goodLanes ((([0, 1, 2, 3, 4, 5, 6, 7, 8, 9, 10, 11] : List (Fin 22)).map (·.val)).foldl (fun r l => retireLane l r) ((portS { state := .equalise }).dev.port (7 : PortId))); let half := left.length < 20 ∨ ∃ c, ((portS { state := .equalise }).dev.port (7 : PortId)).retrainReq = some (c, 10); ((portS { state := .equalise }).dev.port (7 : PortId)).training = true) ∧ (let left := goodLanes ((([0, 1, 2, 3, 4, 5, 6, 7, 8, 9, 10, 11] : List (Fin 22)).map (·.val)).foldl (fun r l => retireLane l r) ((portS { state := .equalise }).dev.port (7 : PortId))); let half := left.length < 20 ∨ ∃ c, ((portS { state := .equalise }).dev.port (7 : PortId)).retrainReq = some (c, 10); 10 ≤ left.length)) ∧
    ((let r := (portS { state := .equalise }).dev.port (7 : PortId); (r.training = false ∨ r.warmTry = false))) := ⟨by decide +kernel,
    by decide +kernel,
    by decide +kernel,
    ⟨(by decide +kernel), (by decide +kernel)⟩,
    ⟨(by decide +kernel), (by decide +kernel)⟩,
    by decide +kernel⟩

/-- The hypotheses of `Obligations.RidgePortsTrainRetrainAndSwapLanes` are met (part 2). -/
theorem witness_RidgePortsTrainRetrainAndSwapLanes_2 :
    ((let r := (portS { state := .equalise, warmTry := true }).dev.port (7 : PortId); r.training = true) ∧ (let r := (portS { state := .equalise, warmTry := true }).dev.port (7 : PortId); r.warmTry = true)) ∧
    ((let r := (portS { state := .equalise, warmTry := true }).dev.port (7 : PortId); (r.training = false ∨ r.warmTry = true))) ∧
    ((let r := (portS { state := .retrain }).dev.port (7 : PortId); r.training = true) ∧ (let r := (portS { state := .retrain }).dev.port (7 : PortId); r.warmTry = false)) ∧
    ((let r := (portS { actR with erasures := [3] }).dev.port (7 : PortId); (r.state ≠ .active ∨ (3 : Fin 22).val ∈ r.erasures ∨ r.badLanes.getLsbD (3 : Fin 22).val = true))) ∧
    ((let r := (portS actR).dev.port (7 : PortId); r.state = .active) ∧ (let r := (portS actR).dev.port (7 : PortId); (19 : Fin 22).val ∉ r.erasures) ∧ (let r := (portS actR).dev.port (7 : PortId); r.badLanes.getLsbD (19 : Fin 22).val = false) ∧ (let r := (portS actR).dev.port (7 : PortId); (19 : Fin 22).val ∈ r.lanes) ∧ (let r := (portS actR).dev.port (7 : PortId); spareLanes r = 20 :: [21])) ∧
    ((let r := (portS { actR with badLanes := 0x300000 }).dev.port (7 : PortId); r.state = .active) ∧ (let r := (portS { actR with badLanes := 0x300000 }).dev.port (7 : PortId); (19 : Fin 22).val ∉ r.erasures) ∧ (let r := (portS { actR with badLanes := 0x300000 }).dev.port (7 : PortId); r.badLanes.getLsbD (19 : Fin 22).val = false) ∧ (let r := (portS { actR with badLanes := 0x300000 }).dev.port (7 : PortId); (19 : Fin 22).val ∈ r.lanes) ∧ (let r := (portS { actR with badLanes := 0x300000 }).dev.port (7 : PortId); spareLanes r = []) ∧ (let r := (portS { actR with badLanes := 0x300000 }).dev.port (7 : PortId); 10 ≤ (goodLanes (retireLane (19 : Fin 22).val r)).length)) := by
  refine ⟨?_, ?_, ?_, ?_, ?_, ?_⟩ <;> decide +kernel

/-- The hypotheses of `Obligations.RidgePortsTrainRetrainAndSwapLanes` are met (part 3). -/
theorem witness_RidgePortsTrainRetrainAndSwapLanes_3 :
    ((let r := (portS { actR with badLanes := 0x3FFC00, lanes := List.range 10 }).dev.port (7 : PortId); r.state = .active) ∧ (let r := (portS { actR with badLanes := 0x3FFC00, lanes := List.range 10 }).dev.port (7 : PortId); (9 : Fin 22).val ∉ r.erasures) ∧ (let r := (portS { actR with badLanes := 0x3FFC00, lanes := List.range 10 }).dev.port (7 : PortId); r.badLanes.getLsbD (9 : Fin 22).val = false) ∧ (let r := (portS { actR with badLanes := 0x3FFC00, lanes := List.range 10 }).dev.port (7 : PortId); (9 : Fin 22).val ∈ r.lanes) ∧ (let r := (portS { actR with badLanes := 0x3FFC00, lanes := List.range 10 }).dev.port (7 : PortId); spareLanes r = []) ∧ (let r := (portS { actR with badLanes := 0x3FFC00, lanes := List.range 10 }).dev.port (7 : PortId); (goodLanes (retireLane (9 : Fin 22).val r)).length < 10)) ∧
    ((let r := (portS actR).dev.port (7 : PortId); r.state = .active) ∧ (let r := (portS actR).dev.port (7 : PortId); (21 : Fin 22).val ∉ r.erasures) ∧ (let r := (portS actR).dev.port (7 : PortId); r.badLanes.getLsbD (21 : Fin 22).val = false) ∧ (let r := (portS actR).dev.port (7 : PortId); (21 : Fin 22).val ∉ r.lanes) ∧ (let r := (portS actR).dev.port (7 : PortId); (∀ x ∈ r.swaps, x.spare ≠ (21 : Fin 22).val ∨ x.taken = true))) ∧
    ((runS.dev.port (7 : PortId)).state ≠ .active) ∧
    (((portS actR).dev.port (7 : PortId)).state = .active) ∧
    ((let ready := ((portS actR).dev.port (7 : PortId)).swaps.filter fun x => x.deskewed && !x.taken; (((portS actR).dev.port (7 : PortId)).state ≠ .active ∨ ready = []))) ∧
    ((let ready := ((portS swapR).dev.port (7 : PortId)).swaps.filter fun x => x.deskewed && !x.taken; ((portS swapR).dev.port (7 : PortId)).state = .active) ∧ (let ready := ((portS swapR).dev.port (7 : PortId)).swaps.filter fun x => x.deskewed && !x.taken; ready ≠ [])) := by
  refine ⟨?_, ?_, ?_, ?_, ?_, ?_⟩ <;> decide +kernel

/-- The hypotheses of `Obligations.RidgePortsTrainRetrainAndSwapLanes` are met (part 4). -/
theorem witness_RidgePortsTrainRetrainAndSwapLanes_4 :
    ((let ready := (runS.dev.port (7 : PortId)).swaps.filter fun x => x.deskewed && !x.taken; (runS.dev.port (7 : PortId)).state ≠ .active)) ∧
    ((11 : BitVec 8).toNat ≠ 10 ∧ (11 : BitVec 8).toNat ≠ 20) ∧
    ((((10 : BitVec 8).toNat = 10 ∨ (10 : BitVec 8).toNat = 20)) ∧ (runS.dev.port (7 : PortId)).state ≠ .active) ∧
    ((((20 : BitVec 8).toNat = 10 ∨ (20 : BitVec 8).toNat = 20)) ∧ ((portS actR).dev.port (7 : PortId)).state = .active) := by
  refine ⟨?_, ?_, ?_, ?_⟩ <;> decide +kernel

/-- The hypotheses of `Obligations.FlitsAreCheckedRetriedAndTheirMessagesLand` are met (part 1). -/
theorem witness_FlitsAreCheckedRetriedAndTheirMessagesLand_1 :
    ((let r := runS.dev.port (7 : PortId); let fails := (∃ t ∈ ([0, 15] : List Nat), 30 < 2 * t + erasedSymbols r) ∨ crc32 (fit 252 (flitB flitIdle 0)) ≠ leAt (flitB flitIdle 0) 252 4; let type := field (leAt (flitB flitIdle 0) 0 4) 30 2; let seq := field (leAt (flitB flitIdle 0) 0 4) 15 12; r.state ≠ .active)) ∧
    ((let r := (portS actR).dev.port (7 : PortId); let fails := (∃ t ∈ ([16] : List Nat), 30 < 2 * t + erasedSymbols r) ∨ crc32 (fit 252 (flitB flitIdle 0)) ≠ leAt (flitB flitIdle 0) 252 4; let type := field (leAt (flitB flitIdle 0) 0 4) 30 2; let seq := field (leAt (flitB flitIdle 0) 0 4) 15 12; r.state = .active) ∧ (let r := (portS actR).dev.port (7 : PortId); let fails := (∃ t ∈ ([16] : List Nat), 30 < 2 * t + erasedSymbols r) ∨ crc32 (fit 252 (flitB flitIdle 0)) ≠ leAt (flitB flitIdle 0) 252 4; let type := field (leAt (flitB flitIdle 0) 0 4) 30 2; let seq := field (leAt (flitB flitIdle 0) 0 4) 15 12; fails)) ∧
    ((let r := (portS { actR with rxSeq := 5 }).dev.port (7 : PortId); let fails := (∃ t ∈ ([0, 15] : List Nat), 30 < 2 * t + erasedSymbols r) ∨ crc32 (fit 252 (flitB flitMgmt 5)) ≠ leAt (flitB flitMgmt 5) 252 4; let type := field (leAt (flitB flitMgmt 5) 0 4) 30 2; let seq := field (leAt (flitB flitMgmt 5) 0 4) 15 12; r.state = .active) ∧ (let r := (portS { actR with rxSeq := 5 }).dev.port (7 : PortId); let fails := (∃ t ∈ ([0, 15] : List Nat), 30 < 2 * t + erasedSymbols r) ∨ crc32 (fit 252 (flitB flitMgmt 5)) ≠ leAt (flitB flitMgmt 5) 252 4; let type := field (leAt (flitB flitMgmt 5) 0 4) 30 2; let seq := field (leAt (flitB flitMgmt 5) 0 4) 15 12; ¬fails) ∧ (let r := (portS { actR with rxSeq := 5 }).dev.port (7 : PortId); let fails := (∃ t ∈ ([0, 15] : List Nat), 30 < 2 * t + erasedSymbols r) ∨ crc32 (fit 252 (flitB flitMgmt 5)) ≠ leAt (flitB flitMgmt 5) 252 4; let type := field (leAt (flitB flitMgmt 5) 0 4) 30 2; let seq := field (leAt (flitB flitMgmt 5) 0 4) 15 12; (type = flitData ∨ type = flitMgmt)) ∧ (let r := (portS { actR with rxSeq := 5 }).dev.port (7 : PortId); let fails := (∃ t ∈ ([0, 15] : List Nat), 30 < 2 * t + erasedSymbols r) ∨ crc32 (fit 252 (flitB flitMgmt 5)) ≠ leAt (flitB flitMgmt 5) 252 4; let type := field (leAt (flitB flitMgmt 5) 0 4) 30 2; let seq := field (leAt (flitB flitMgmt 5) 0 4) 15 12; seq = r.rxSeq)) ∧
    ((let r := (portS { actR with rxSeq := 5 }).dev.port (7 : PortId); let fails := (∃ t ∈ ([0, 15] : List Nat), 30 < 2 * t + erasedSymbols r) ∨ crc32 (fit 252 (flitB flitMgmt 4)) ≠ leAt (flitB flitMgmt 4) 252 4; let type := field (leAt (flitB flitMgmt 4) 0 4) 30 2; let seq := field (leAt (flitB flitMgmt 4) 0 4) 15 12; r.state = .active) ∧ (let r := (portS { actR with rxSeq := 5 }).dev.port (7 : PortId); let fails := (∃ t ∈ ([0, 15] : List Nat), 30 < 2 * t + erasedSymbols r) ∨ crc32 (fit 252 (flitB flitMgmt 4)) ≠ leAt (flitB flitMgmt 4) 252 4; let type := field (leAt (flitB flitMgmt 4) 0 4) 30 2; let seq := field (leAt (flitB flitMgmt 4) 0 4) 15 12; ¬fails) ∧ (let r := (portS { actR with rxSeq := 5 }).dev.port (7 : PortId); let fails := (∃ t ∈ ([0, 15] : List Nat), 30 < 2 * t + erasedSymbols r) ∨ crc32 (fit 252 (flitB flitMgmt 4)) ≠ leAt (flitB flitMgmt 4) 252 4; let type := field (leAt (flitB flitMgmt 4) 0 4) 30 2; let seq := field (leAt (flitB flitMgmt 4) 0 4) 15 12; (type = flitData ∨ type = flitMgmt)) ∧ (let r := (portS { actR with rxSeq := 5 }).dev.port (7 : PortId); let fails := (∃ t ∈ ([0, 15] : List Nat), 30 < 2 * t + erasedSymbols r) ∨ crc32 (fit 252 (flitB flitMgmt 4)) ≠ leAt (flitB flitMgmt 4) 252 4; let type := field (leAt (flitB flitMgmt 4) 0 4) 30 2; let seq := field (leAt (flitB flitMgmt 4) 0 4) 15 12; seq ≠ r.rxSeq)) ∧
    ((let r := (portS { actR with rxSeq := 5 }).dev.port (7 : PortId); let fails := (∃ t ∈ ([0, 15] : List Nat), 30 < 2 * t + erasedSymbols r) ∨ crc32 (fit 252 (flitB flitIdle 4)) ≠ leAt (flitB flitIdle 4) 252 4; let type := field (leAt (flitB flitIdle 4) 0 4) 30 2; let seq := field (leAt (flitB flitIdle 4) 0 4) 15 12; r.state = .active) ∧ (let r := (portS { actR with rxSeq := 5 }).dev.port (7 : PortId); let fails := (∃ t ∈ ([0, 15] : List Nat), 30 < 2 * t + erasedSymbols r) ∨ crc32 (fit 252 (flitB flitIdle 4)) ≠ leAt (flitB flitIdle 4) 252 4; let type := field (leAt (flitB flitIdle 4) 0 4) 30 2; let seq := field (leAt (flitB flitIdle 4) 0 4) 15 12; ¬fails) ∧ (let r := (portS { actR with rxSeq := 5 }).dev.port (7 : PortId); let fails := (∃ t ∈ ([0, 15] : List Nat), 30 < 2 * t + erasedSymbols r) ∨ crc32 (fit 252 (flitB flitIdle 4)) ≠ leAt (flitB flitIdle 4) 252 4; let type := field (leAt (flitB flitIdle 4) 0 4) 30 2; let seq := field (leAt (flitB flitIdle 4) 0 4) 15 12; type = flitIdle)) ∧
    ((let r := runS.dev.port (7 : PortId); let n := if r.nakSeen.1 = (9 : BitVec 12).toNat then r.nakSeen.2 + 1 else 1; r.state ≠ .active)) := by
  refine ⟨?_, ?_, ?_, ?_, ?_, ?_⟩ <;> decide +kernel

/-- The hypotheses of `Obligations.FlitsAreCheckedRetriedAndTheirMessagesLand` are met (part 2). -/
theorem witness_FlitsAreCheckedRetriedAndTheirMessagesLand_2 :
    ((let r := (portS { actR with nakSeen := (9, 15) }).dev.port (7 : PortId); let n := if r.nakSeen.1 = (9 : BitVec 12).toNat then r.nakSeen.2 + 1 else 1; r.state = .active) ∧ (let r := (portS { actR with nakSeen := (9, 15) }).dev.port (7 : PortId); let n := if r.nakSeen.1 = (9 : BitVec 12).toNat then r.nakSeen.2 + 1 else 1; 16 ≤ n)) ∧
    ((let r := (portS { actR with nakSeen := (9, 14) }).dev.port (7 : PortId); let n := if r.nakSeen.1 = (9 : BitVec 12).toNat then r.nakSeen.2 + 1 else 1; r.state = .active) ∧ (let r := (portS { actR with nakSeen := (9, 14) }).dev.port (7 : PortId); let n := if r.nakSeen.1 = (9 : BitVec 12).toNat then r.nakSeen.2 + 1 else 1; n < 16) ∧ (let r := (portS { actR with nakSeen := (9, 14) }).dev.port (7 : PortId); let n := if r.nakSeen.1 = (9 : BitVec 12).toNat then r.nakSeen.2 + 1 else 1; r.txq = [])) ∧
    ((let r := runS.dev.port (7 : PortId); (r.nak = none ∨ r.state ≠ .active))) ∧
    ((let r := (portS { actR with nak := some (9, 1) }).dev.port (7 : PortId); r.nak = some (9, 1)) ∧ (let r := (portS { actR with nak := some (9, 1) }).dev.port (7 : PortId); r.state = .active)) ∧
    (runS.dev.scratch.wf = true ∧ ownsVtile runS.dev (0 : TenantId) vt0 = true ∧ (524286 : Nat) + ([1, 2] : List Byte).length ≤ 2 ^
      19) ∧
    ((let r := (portS actR).dev.port (7 : PortId); let found := r.operands.find? fun o => decide (o.vc = 2 * (0 : TenantId).val) && decide (o.red = (3 : Nat)) && decide (o.node = (7 : Nat)) && !decide (o.right = true); found = none)) := by
  refine ⟨?_, ?_, ?_, ?_, ?_, ?_⟩ <;> decide +kernel

/-- The hypotheses of `Obligations.FlitsAreCheckedRetriedAndTheirMessagesLand` are met (part 3). -/
theorem witness_FlitsAreCheckedRetriedAndTheirMessagesLand_3 :
    ((let r := (portS { actR with operands := [opO] }).dev.port (7 : PortId); let found := r.operands.find? fun o => decide (o.vc = 2 * (0 : TenantId).val) && decide (o.red = (3 : Nat)) && decide (o.node = (7 : Nat)) && !decide (o.right = true); found = some opO)) ∧
    ((let bs := ([-1] : List Int).flatMap fun x => leBytes (reduceBytes (.int64 : ReduceKind)) (resultElement (.int64 : ReduceKind) false x); runS.dev.scratch.wf = true) ∧ (let bs := ([-1] : List Int).flatMap fun x => leBytes (reduceBytes (.int64 : ReduceKind)) (resultElement (.int64 : ReduceKind) false x); ownsVtile runS.dev (0 : TenantId) vt0 = true) ∧ (let bs := ([-1] : List Int).flatMap fun x => leBytes (reduceBytes (.int64 : ReduceKind)) (resultElement (.int64 : ReduceKind) false x); (524280 : Nat) + bs.length ≤ 2 ^ 19)) ∧
    (runS.dev.scratch.wf = true) := by
  refine ⟨?_, ?_, ?_⟩ <;> decide +kernel

/-- The hypotheses of `Obligations.SpansFormLiveAndEnd` are met (part 1). -/
theorem witness_SpansFormLiveAndEnd_1 :
    (Served (stored (entry 8 0x60 [0x1000, 1]) (List.replicate 544 0)) (spanS {}).dev ∧ field ((stored (entry 8 0x60 [0x1000, 1])
      (List.replicate 544 0)).w 2) 0 16 ≤ 4096 ∧ (stored (entry 8 0x60 [0x1000, 1]) (List.replicate 544 0)).readBuf 2 544 = .ok
      (List.replicate 544 0) ∧
      (let e := modSpan (fun x => { x with record := (List.replicate 544 0), digest := sha384First16 (List.replicate 544 0), topology := leAt (List.replicate 544 0) 8 1 }) (spanS {}).dev; let own := recordIndices e (spanS {}).dev.boot.serial; (recordOk (List.replicate 544 0) = false ∨ own = [] ∨ 2 < own.length))) ∧
    (Served spanC (spanS span2).dev ∧ field (spanC.w 2) 0 16 ≤ 4096 ∧ spanC.readBuf 2 544 = .ok recB ∧
      (let e := modSpan (fun x => { x with record := recB, digest := sha384First16 recB, topology := leAt recB 8 1 }) (spanS span2).dev; let own := recordIndices e (spanS span2).dev.boot.serial; recordOk recB = true)
      ∧
      (let e := modSpan (fun x => { x with record := recB, digest := sha384First16 recB, topology := leAt recB 8 1 }) (spanS span2).dev; let own := recordIndices e (spanS span2).dev.boot.serial; own ≠ [])
      ∧
      (let e := modSpan (fun x => { x with record := recB, digest := sha384First16 recB, topology := leAt recB 8 1 }) (spanS span2).dev; let own := recordIndices e (spanS span2).dev.boot.serial; own.length ≤ 2)
      ∧
      (let e := modSpan (fun x => { x with record := recB, digest := sha384First16 recB, topology := leAt recB 8 1 }) (spanS span2).dev; let own := recordIndices e (spanS span2).dev.boot.serial; ((spanS span2).dev.span.formed = true ∨ (spanS span2).dev.span.forming.isSome = true))) ∧
    (Served spanC (spanS {}).dev ∧ field (spanC.w 2) 0 16 ≤ 4096 ∧ spanC.readBuf 2 544 = .ok recB ∧
      (let e := modSpan (fun x => { x with record := recB, digest := sha384First16 recB, topology := leAt recB 8 1 }) (spanS {}).dev; let own := recordIndices e (spanS {}).dev.boot.serial; recordOk recB = true)
      ∧
      (let e := modSpan (fun x => { x with record := recB, digest := sha384First16 recB, topology := leAt recB 8 1 }) (spanS {}).dev; let own := recordIndices e (spanS {}).dev.boot.serial; own ≠ [])
      ∧
      (let e := modSpan (fun x => { x with record := recB, digest := sha384First16 recB, topology := leAt recB 8 1 }) (spanS {}).dev; let own := recordIndices e (spanS {}).dev.boot.serial; own.length ≤ 2)
      ∧
      (let e := modSpan (fun x => { x with record := recB, digest := sha384First16 recB, topology := leAt recB 8 1 }) (spanS {}).dev; let own := recordIndices e (spanS {}).dev.boot.serial; (spanS {}).dev.span.formed = false)
      ∧
      (let e := modSpan (fun x => { x with record := recB, digest := sha384First16 recB, topology := leAt recB 8 1 }) (spanS {}).dev; let own := recordIndices e (spanS {}).dev.boot.serial; (spanS {}).dev.span.forming = none)
      ∧
      (let e := modSpan (fun x => { x with record := recB, digest := sha384First16 recB, topology := leAt recB 8 1 }) (spanS {}).dev; let own := recordIndices e (spanS {}).dev.boot.serial; (own.length = 2 → 9216 ≤ goodCount (spanS {}).dev))) ∧
    (((spanS {}).dev.span.formed = false ∧ (spanS {}).dev.span.forming = none)) ∧
    ((((spanS span2).dev.span.formed = true ∨ (spanS span2).dev.span.forming.isSome = true)) ∧ (({ helloH with spanId := 78 }) :
      Hello).spanId.toNat ≠ spanId (spanS span2).dev) ∧
    ((spanS span2).dev.span.formed = true ∧ (spanS span2).dev.span.forming = none ∧ helloH.spanId.toNat = spanId (spanS span2).dev ∧
      helloH.serial ≠ (spanS span2).dev.boot.serial ∧ ((∀ m ∈ (spanS span2).dev.span.peers, m.serial ≠ helloH.serial))) := ⟨⟨by unfold Served; decide +kernel, by decide +kernel, (by decide +kernel), by decide +kernel⟩,
    ⟨by unfold Served; decide +kernel, by decide +kernel, (by decide +kernel), by decide +kernel, by decide +kernel, by decide +kernel, by decide +kernel⟩,
    ⟨by unfold Served; decide +kernel, by decide +kernel, (by decide +kernel), by decide +kernel, by decide +kernel, by decide +kernel, (by decide), by decide +kernel, by decide +kernel⟩,
    by decide +kernel,
    by decide +kernel,
    by decide +kernel⟩

/-- The hypotheses of `Obligations.SpansFormLiveAndEnd` are met (part 2). -/
theorem witness_SpansFormLiveAndEnd_2 :
    (((spanS {}).dev.span.formed = false ∧ (spanS {}).dev.span.forming = none)) ∧
    ((spanS formX).dev.span.formed = false ∧ (spanS formX).dev.span.forming = some (spanC, 3) ∧ (spanS formX).dev.boot.serial ∈
      commitJ.members.map (·.1)) ∧
    ((spanS formX).dev.span.formed = false ∧ (spanS formX).dev.span.forming = some (spanC, 3) ∧ (spanS formX).dev.boot.serial ∉
      (({ commitJ with members := [(6, 2)], digest := 8 }) : SpanCommit).members.map (·.1) ∧
      (({ commitJ with members := [(6, 2)], digest := 8 }) : SpanCommit).digest ≠ (spanS formX).dev.span.digest) ∧
    (runS.dev.span.forming = none) ∧
    ((spanS { formX with peers := [] }).dev.span.forming = some (spanC, 3) ∧ (admitted (present (spanS
      { formX with peers := [] }).dev)).length < minMembers (spanS { formX with peers := [] }).dev) ∧
    ((spanS formX).dev.span.forming = some (spanC, 3) ∧ minMembers (spanS formX).dev ≤ (admitted (present (spanS formX).dev)).length
      ∧ leadsPresent (spanS formX).dev = true) := by
  refine ⟨?_, ?_, ?_, ?_, ?_, ?_⟩ <;> decide +kernel

/-- The hypotheses of `Obligations.SpansFormLiveAndEnd` are met (part 3). -/
theorem witness_SpansFormLiveAndEnd_3 :
    ((let found := (spanS {}).dev.span.peers.find? fun m => decide (m.serial = (6 : BitVec 128)); (found = none ∨ (spanS {}).dev.span.formed = false))) ∧
    ((let found := (spanS { span2 with leader := 1 }).dev.span.peers.find? fun m => decide (m.serial = (6 : BitVec 128)); found = some peer6) ∧ (let found := (spanS { span2 with leader := 1 }).dev.span.peers.find? fun m => decide (m.serial = (6 : BitVec 128)); (spanS { span2 with leader := 1 }).dev.span.formed = true) ∧ (let found := (spanS { span2 with leader := 1 }).dev.span.peers.find? fun m => decide (m.serial = (6 : BitVec 128)); (9 : BitVec 128) = (spanS { span2 with leader := 1 }).dev.span.digest)) ∧
    ((let found := (spanS span2).dev.span.peers.find? fun m => decide (m.serial = (6 : BitVec 128)); found = some peer6) ∧ (let found := (spanS span2).dev.span.peers.find? fun m => decide (m.serial = (6 : BitVec 128)); (spanS span2).dev.span.formed = true) ∧ (let found := (spanS span2).dev.span.peers.find? fun m => decide (m.serial = (6 : BitVec 128)); (8 : BitVec 128) ≠ (spanS span2).dev.span.digest) ∧ (let found := (spanS span2).dev.span.peers.find? fun m => decide (m.serial = (6 : BitVec 128)); bitAt peer6.indices (spanS span2).dev.span.leader = false)) ∧
    (runS.dev.span.formed = false) ∧
    ((spanS span2).dev.span.formed = true) ∧
    (((memberAt runS.dev (1 : SpanIndex).val = none ∨ runS.dev.span.formed = false))) := by
  refine ⟨?_, ?_, ?_, ?_, ?_, ?_⟩ <;> decide +kernel

/-- The hypotheses of `Obligations.SpansFormLiveAndEnd` are met (part 4). -/
theorem witness_SpansFormLiveAndEnd_4 :
    (memberAt (spanS span2).dev (1 : SpanIndex).val = some peer6 ∧ (spanS span2).dev.span.formed = true) ∧
    (Served leaveC runS.dev ∧
      (let w := leaveC.w 1; let pairs := (if bitAt w 8 then [(field w 0 4, field w 4 4)] else []) ++ (if bitAt w 24 then [(field w 16 4, field w 20 4)] else []); (runS.dev.span.formed = false ∨ maskOf (pairs.map (·.1)) ≠ runS.dev.span.carried ∨ ¬(pairs.map (·.1)).Nodup))) ∧
    (Served leaveC (spanS { span2 with leaving := some leaveC }).dev ∧
      (let w := leaveC.w 1; let pairs := (if bitAt w 8 then [(field w 0 4, field w 4 4)] else []) ++ (if bitAt w 24 then [(field w 16 4, field w 20 4)] else []); (spanS { span2 with leaving := some leaveC }).dev.span.formed = true)
      ∧
      (let w := leaveC.w 1; let pairs := (if bitAt w 8 then [(field w 0 4, field w 4 4)] else []) ++ (if bitAt w 24 then [(field w 16 4, field w 20 4)] else []); maskOf (pairs.map (·.1)) = (spanS { span2 with leaving := some leaveC }).dev.span.carried)
      ∧
      (let w := leaveC.w 1; let pairs := (if bitAt w 8 then [(field w 0 4, field w 4 4)] else []) ++ (if bitAt w 24 then [(field w 16 4, field w 20 4)] else []); (pairs.map (·.1)).Nodup)
      ∧
      (let w := leaveC.w 1; let pairs := (if bitAt w 8 then [(field w 0 4, field w 4 4)] else []) ++ (if bitAt w 24 then [(field w 16 4, field w 20 4)] else []); (spanS { span2 with leaving := some leaveC }).dev.span.leaving.isSome = true)) ∧
    (Served leaveC (spanS span2).dev ∧
      (let w := leaveC.w 1; let pairs := (if bitAt w 8 then [(field w 0 4, field w 4 4)] else []) ++ (if bitAt w 24 then [(field w 16 4, field w 20 4)] else []); (spanS span2).dev.span.formed = true)
      ∧
      (let w := leaveC.w 1; let pairs := (if bitAt w 8 then [(field w 0 4, field w 4 4)] else []) ++ (if bitAt w 24 then [(field w 16 4, field w 20 4)] else []); maskOf (pairs.map (·.1)) = (spanS span2).dev.span.carried)
      ∧
      (let w := leaveC.w 1; let pairs := (if bitAt w 8 then [(field w 0 4, field w 4 4)] else []) ++ (if bitAt w 24 then [(field w 16 4, field w 20 4)] else []); (pairs.map (·.1)).Nodup)
      ∧
      (let w := leaveC.w 1; let pairs := (if bitAt w 8 then [(field w 0 4, field w 4 4)] else []) ++ (if bitAt w 24 then [(field w 16 4, field w 20 4)] else []); (spanS span2).dev.span.leaving = none)
      ∧
      (let w := leaveC.w 1; let pairs := (if bitAt w 8 then [(field w 0 4, field w 4 4)] else []) ++ (if bitAt w 24 then [(field w 16 4, field w 20 4)] else []); false = false)) ∧
    (Served leaveC (calmS span2).dev ∧
      (let w := leaveC.w 1; let pairs := (if bitAt w 8 then [(field w 0 4, field w 4 4)] else []) ++ (if bitAt w 24 then [(field w 16 4, field w 20 4)] else []); (calmS span2).dev.span.formed = true)
      ∧
      (let w := leaveC.w 1; let pairs := (if bitAt w 8 then [(field w 0 4, field w 4 4)] else []) ++ (if bitAt w 24 then [(field w 16 4, field w 20 4)] else []); maskOf (pairs.map (·.1)) = (calmS span2).dev.span.carried)
      ∧
      (let w := leaveC.w 1; let pairs := (if bitAt w 8 then [(field w 0 4, field w 4 4)] else []) ++ (if bitAt w 24 then [(field w 16 4, field w 20 4)] else []); (pairs.map (·.1)).Nodup)
      ∧
      (let w := leaveC.w 1; let pairs := (if bitAt w 8 then [(field w 0 4, field w 4 4)] else []) ++ (if bitAt w 24 then [(field w 16 4, field w 20 4)] else []); (calmS span2).dev.span.leaving = none)
      ∧
      (let w := leaveC.w 1; let pairs := (if bitAt w 8 then [(field w 0 4, field w 4 4)] else []) ++ (if bitAt w 24 then [(field w 16 4, field w 20 4)] else []); true = true)
      ∧
      (let w := leaveC.w 1; let pairs := (if bitAt w 8 then [(field w 0 4, field w 4 4)] else []) ++ (if bitAt w 24 then [(field w 16 4, field w 20 4)] else []); pairs ≠ [])
      ∧
      (let w := leaveC.w 1; let pairs := (if bitAt w 8 then [(field w 0 4, field w 4 4)] else []) ++ (if bitAt w 24 then [(field w 16 4, field w 20 4)] else []); (calmS span2).dev.span.moves = [])
      ∧
      (let w := leaveC.w 1; let pairs := (if bitAt w 8 then [(field w 0 4, field w 4 4)] else []) ++ (if bitAt w 24 then [(field w 16 4, field w 20 4)] else []); (∀ q ∈ pairs, ∃ m, (calmS span2).dev.span.peers.find? (fun m => decide (m.lowest = q.2)) = some m ∧ (indicesOf m.indices).length + (pairs.filter fun x => decide (x.2 = q.2)).length ≤ 2))
      ∧
      (let w := leaveC.w 1; let pairs := (if bitAt w 8 then [(field w 0 4, field w 4 4)] else []) ++ (if bitAt w 24 then [(field w 16 4, field w 20 4)] else []); (∀ t : TenantId, running (calmS span2).dev t = false))) ∧
    (((runS.dev.span.formed = false ∨ isLeader runS.dev = true))) := ⟨by decide +kernel,
    by unfold Served; decide +kernel,
    by unfold Served; decide +kernel,
    by unfold Served; decide +kernel,
    ⟨by unfold Served; decide +kernel, by decide +kernel, by decide +kernel, by decide +kernel, by decide +kernel, by decide +kernel, by decide +kernel, by decide +kernel, (fun q h => by rw [show q = (0, 1) from List.mem_singleton.mp h]; exact ⟨peer6, by decide +kernel, by decide +kernel⟩), (by decide +kernel)⟩,
    by decide +kernel⟩

/-- The hypotheses of `Obligations.SpansFormLiveAndEnd` are met (part 5). -/
theorem witness_SpansFormLiveAndEnd_5 :
    ((world { spanD with now := 3000, span := { span2 with leader := 1 } }).dev.span.formed = true ∧ isLeader (world
      { spanD with now := 3000, span := { span2 with leader := 1 } }).dev = false) := by
  decide +kernel

/-- The hypotheses of `Obligations.BarriersReleaseAbortAndMeasure` are met (part 1). -/
theorem witness_BarriersReleaseAbortAndMeasure_1 :
    ((let good := fun kind : LinkMsg => (0 : BitVec 8).toNat = crc8 (sidebandBody kind (3 : BitVec 16).toNat (1 : SpanIndex).val) 24 0; let counted := Host.Outcome.next (φ := Fault) (ρ := Refusal) { runS with dev := bump .sidebandCrc (4 : PortId).val runS.dev }; ¬good .arrive)) ∧
    ((let good := fun kind : LinkMsg => (0 : BitVec 8).toNat = crc8 (sidebandBody kind (3 : BitVec 16).toNat (1 : SpanIndex).val) 24 0; let counted := Host.Outcome.next (φ := Fault) (ρ := Refusal) { runS with dev := bump .sidebandCrc (4 : PortId).val runS.dev }; ¬good .release)) ∧
    ((let good := fun kind : LinkMsg => (0 : BitVec 8).toNat = crc8 (sidebandBody kind (3 : BitVec 16).toNat (1 : SpanIndex).val) 24 0; let counted := Host.Outcome.next (φ := Fault) (ρ := Refusal) { runS with dev := bump .sidebandCrc (4 : PortId).val runS.dev }; ¬good .releaseCopy)) ∧
    ((let good := fun kind : LinkMsg => (0 : BitVec 8).toNat = crc8 (sidebandBody kind (3 : BitVec 16).toNat (1 : SpanIndex).val) 24 0; let counted := Host.Outcome.next (φ := Fault) (ρ := Refusal) { runS with dev := bump .sidebandCrc (4 : PortId).val runS.dev }; ¬good .abort)) ∧
    ((let good := fun kind : LinkMsg => (0 : BitVec 8).toNat = crc8 (sidebandBody kind (3 : BitVec 16).toNat (1 : SpanIndex).val) 24 0; let counted := Host.Outcome.next (φ := Fault) (ρ := Refusal) { runS with dev := bump .sidebandCrc (4 : PortId).val runS.dev }; ¬good .echo)) ∧
    ((let good := fun kind : LinkMsg => (0 : BitVec 8).toNat = crc8 (sidebandBody kind (3 : BitVec 16).toNat (1 : SpanIndex).val) 24 0; let counted := Host.Outcome.next (φ := Fault) (ρ := Refusal) { runS with dev := bump .sidebandCrc (4 : PortId).val runS.dev }; ¬good .echoReply)) := by
  refine ⟨?_, ?_, ?_, ?_, ?_, ?_⟩ <;> decide +kernel

/-- The hypotheses of `Obligations.BarriersReleaseAbortAndMeasure` are met (part 2). -/
theorem witness_BarriersReleaseAbortAndMeasure_2 :
    ((let good := fun kind : LinkMsg => (BitVec.ofNat 8 (crc8 (sidebandBody .arrive 3 1) 24 0)).toNat = crc8 (sidebandBody kind (3 : BitVec 16).toNat (1 : SpanIndex).val) 24 0; let counted := Host.Outcome.next (φ := Fault) (ρ := Refusal) { runS with dev := bump .sidebandCrc (4 : PortId).val runS.dev }; good .arrive) ∧ (let good := fun kind : LinkMsg => (BitVec.ofNat 8 (crc8 (sidebandBody .arrive 3 1) 24 0)).toNat = crc8 (sidebandBody kind (3 : BitVec 16).toNat (1 : SpanIndex).val) 24 0; let counted := Host.Outcome.next (φ := Fault) (ρ := Refusal) { runS with dev := bump .sidebandCrc (4 : PortId).val runS.dev }; runS.dev.span.formed = false)) ∧
    ((let good := fun kind : LinkMsg => (BitVec.ofNat 8 (crc8 (sidebandBody .arrive 3 1) 24 0)).toNat = crc8 (sidebandBody kind (3 : BitVec 16).toNat (1 : SpanIndex).val) 24 0; let counted := Host.Outcome.next (φ := Fault) (ρ := Refusal) { (linkS { span2 with nextBarrier := 3 }) with dev := bump .sidebandCrc (4 : PortId).val (linkS { span2 with nextBarrier := 3 }).dev }; good .arrive) ∧ (let good := fun kind : LinkMsg => (BitVec.ofNat 8 (crc8 (sidebandBody .arrive 3 1) 24 0)).toNat = crc8 (sidebandBody kind (3 : BitVec 16).toNat (1 : SpanIndex).val) 24 0; let counted := Host.Outcome.next (φ := Fault) (ρ := Refusal) { (linkS { span2 with nextBarrier := 3 }) with dev := bump .sidebandCrc (4 : PortId).val (linkS { span2 with nextBarrier := 3 }).dev }; (linkS { span2 with nextBarrier := 3 }).dev.span.formed = true) ∧ (let good := fun kind : LinkMsg => (BitVec.ofNat 8 (crc8 (sidebandBody .arrive 3 1) 24 0)).toNat = crc8 (sidebandBody kind (3 : BitVec 16).toNat (1 : SpanIndex).val) 24 0; let counted := Host.Outcome.next (φ := Fault) (ρ := Refusal) { (linkS { span2 with nextBarrier := 3 }) with dev := bump .sidebandCrc (4 : PortId).val (linkS { span2 with nextBarrier := 3 }).dev }; barrierOver (linkS { span2 with nextBarrier := 3 }).dev (3 : BitVec 16).toNat = false)) ∧
    ((let good := fun kind : LinkMsg => (BitVec.ofNat 8 (crc8 (sidebandBody .release 3 1) 24 0)).toNat = crc8 (sidebandBody kind (3 : BitVec 16).toNat (1 : SpanIndex).val) 24 0; let counted := Host.Outcome.next (φ := Fault) (ρ := Refusal) { (barS bar3) with dev := bump .sidebandCrc (4 : PortId).val (barS bar3).dev }; barrierOf (barS bar3).dev (3 : BitVec 16).toNat = some bar3) ∧ (let good := fun kind : LinkMsg => (BitVec.ofNat 8 (crc8 (sidebandBody .release 3 1) 24 0)).toNat = crc8 (sidebandBody kind (3 : BitVec 16).toNat (1 : SpanIndex).val) 24 0; let counted := Host.Outcome.next (φ := Fault) (ρ := Refusal) { (barS bar3) with dev := bump .sidebandCrc (4 : PortId).val (barS bar3).dev }; bar3.reached.isSome = true) ∧ (let good := fun kind : LinkMsg => (BitVec.ofNat 8 (crc8 (sidebandBody .release 3 1) 24 0)).toNat = crc8 (sidebandBody kind (3 : BitVec 16).toNat (1 : SpanIndex).val) 24 0; let counted := Host.Outcome.next (φ := Fault) (ρ := Refusal) { (barS bar3) with dev := bump .sidebandCrc (4 : PortId).val (barS bar3).dev }; bar3.releaseAt = none) ∧ (let good := fun kind : LinkMsg => (BitVec.ofNat 8 (crc8 (sidebandBody .release 3 1) 24 0)).toNat = crc8 (sidebandBody kind (3 : BitVec 16).toNat (1 : SpanIndex).val) 24 0; let counted := Host.Outcome.next (φ := Fault) (ρ := Refusal) { (barS bar3) with dev := bump .sidebandCrc (4 : PortId).val (barS bar3).dev }; good .release)) ∧
    ((let good := fun kind : LinkMsg => (BitVec.ofNat 8 (crc8 (sidebandBody .releaseCopy 3 1) 24 0)).toNat = crc8 (sidebandBody kind (3 : BitVec 16).toNat (1 : SpanIndex).val) 24 0; let counted := Host.Outcome.next (φ := Fault) (ρ := Refusal) { (barS bar3) with dev := bump .sidebandCrc (4 : PortId).val (barS bar3).dev }; barrierOf (barS bar3).dev (3 : BitVec 16).toNat = some bar3) ∧ (let good := fun kind : LinkMsg => (BitVec.ofNat 8 (crc8 (sidebandBody .releaseCopy 3 1) 24 0)).toNat = crc8 (sidebandBody kind (3 : BitVec 16).toNat (1 : SpanIndex).val) 24 0; let counted := Host.Outcome.next (φ := Fault) (ρ := Refusal) { (barS bar3) with dev := bump .sidebandCrc (4 : PortId).val (barS bar3).dev }; bar3.reached.isSome = true) ∧ (let good := fun kind : LinkMsg => (BitVec.ofNat 8 (crc8 (sidebandBody .releaseCopy 3 1) 24 0)).toNat = crc8 (sidebandBody kind (3 : BitVec 16).toNat (1 : SpanIndex).val) 24 0; let counted := Host.Outcome.next (φ := Fault) (ρ := Refusal) { (barS bar3) with dev := bump .sidebandCrc (4 : PortId).val (barS bar3).dev }; bar3.releaseAt = none) ∧ (let good := fun kind : LinkMsg => (BitVec.ofNat 8 (crc8 (sidebandBody .releaseCopy 3 1) 24 0)).toNat = crc8 (sidebandBody kind (3 : BitVec 16).toNat (1 : SpanIndex).val) 24 0; let counted := Host.Outcome.next (φ := Fault) (ρ := Refusal) { (barS bar3) with dev := bump .sidebandCrc (4 : PortId).val (barS bar3).dev }; good .releaseCopy)) ∧
    ((let good := fun kind : LinkMsg => (BitVec.ofNat 8 (crc8 (sidebandBody .abort 3 1) 24 0)).toNat = crc8 (sidebandBody kind (3 : BitVec 16).toNat (1 : SpanIndex).val) 24 0; let counted := Host.Outcome.next (φ := Fault) (ρ := Refusal) { (barS bar3) with dev := bump .sidebandCrc (4 : PortId).val (barS bar3).dev }; good .abort)) ∧
    ((let good := fun kind : LinkMsg => (BitVec.ofNat 8 (crc8 (sidebandBody .echo 3 1) 24 0)).toNat = crc8 (sidebandBody kind (3 : BitVec 16).toNat (1 : SpanIndex).val) 24 0; let counted := Host.Outcome.next (φ := Fault) (ρ := Refusal) { (barS bar3) with dev := bump .sidebandCrc (4 : PortId).val (barS bar3).dev }; good .echo)) := by
  refine ⟨?_, ?_, ?_, ?_, ?_, ?_⟩ <;> decide +kernel

/-- The hypotheses of `Obligations.BarriersReleaseAbortAndMeasure` are met (part 3). -/
theorem witness_BarriersReleaseAbortAndMeasure_3 :
    ((let good := fun kind : LinkMsg => (BitVec.ofNat 8 (crc8 (sidebandBody .echoReply 3 1) 24 0)).toNat = crc8 (sidebandBody kind (3 : BitVec 16).toNat (1 : SpanIndex).val) 24 0; let counted := Host.Outcome.next (φ := Fault) (ρ := Refusal) { runS with dev := bump .sidebandCrc (4 : PortId).val runS.dev }; good .echoReply) ∧ (let good := fun kind : LinkMsg => (BitVec.ofNat 8 (crc8 (sidebandBody .echoReply 3 1) 24 0)).toNat = crc8 (sidebandBody kind (3 : BitVec 16).toNat (1 : SpanIndex).val) 24 0; let counted := Host.Outcome.next (φ := Fault) (ρ := Refusal) { runS with dev := bump .sidebandCrc (4 : PortId).val runS.dev }; (runS.dev.port (4 : PortId)).echoSent = none)) ∧
    ((let good := fun kind : LinkMsg => (BitVec.ofNat 8 (crc8 (sidebandBody .echoReply 3 1) 24 0)).toNat = crc8 (sidebandBody kind (3 : BitVec 16).toNat (1 : SpanIndex).val) 24 0; let counted := Host.Outcome.next (φ := Fault) (ρ := Refusal) { (world { link4 with span := farS, now := 102, ridge := link4.ridge.set 4 { actR with peerSerial := 6, echoSent := some 2 } }) with dev := bump .sidebandCrc (4 : PortId).val (world { link4 with span := farS, now := 102, ridge := link4.ridge.set 4 { actR with peerSerial := 6, echoSent := some 2 } }).dev }; good .echoReply) ∧ (let good := fun kind : LinkMsg => (BitVec.ofNat 8 (crc8 (sidebandBody .echoReply 3 1) 24 0)).toNat = crc8 (sidebandBody kind (3 : BitVec 16).toNat (1 : SpanIndex).val) 24 0; let counted := Host.Outcome.next (φ := Fault) (ρ := Refusal) { (world { link4 with span := farS, now := 102, ridge := link4.ridge.set 4 { actR with peerSerial := 6, echoSent := some 2 } }) with dev := bump .sidebandCrc (4 : PortId).val (world { link4 with span := farS, now := 102, ridge := link4.ridge.set 4 { actR with peerSerial := 6, echoSent := some 2 } }).dev }; ((world { link4 with span := farS, now := 102, ridge := link4.ridge.set 4 { actR with peerSerial := 6, echoSent := some 2 } }).dev.port (4 : PortId)).echoSent = some 2)) ∧
    (barrierOf (barS bar3).dev (4 : BitVec 16).toNat = none) ∧
    (barrierOf (barS bar3).dev (3 : BitVec 16).toNat = some bar3 ∧ bar3.releaseAt = none) ∧
    (barrierOf (barS { bar3 with releaseAt := some 77 }).dev (3 : BitVec 16).toNat = some (({ bar3 with releaseAt := some 77 }) :
      Barrier) ∧ (({ bar3 with releaseAt := some 77 }) : Barrier).releaseAt = some 77) ∧
    (barrierOf (linkS { farS with barriers := [bar3] }).dev (3 : BitVec 16).toNat = some bar3 ∧ ((bar3.reached = none ∨ isLeader
      (linkS { farS with barriers := [bar3] }).dev = false ∨ bar3.releaseAt.isSome = true))) := by
  refine ⟨?_, ?_, ?_, ?_, ?_, ?_⟩ <;> decide +kernel

/-- The hypotheses of `Obligations.BarriersReleaseAbortAndMeasure` are met (part 4). -/
theorem witness_BarriersReleaseAbortAndMeasure_4 :
    (barrierOf (barS bar3).dev (3 : BitVec 16).toNat = some bar3 ∧ bar3.reached = some 5 ∧ isLeader (barS bar3).dev = true ∧
      bar3.releaseAt = none) ∧
    (parentPort runS.dev = none) ∧
    (parentPort (linkS farS).dev = some (4 : PortId)) := by
  refine ⟨?_, ?_, ?_⟩ <;> decide +kernel

/-- The hypotheses of `Obligations.LockStepPairsCompareAndBisect` are met (part 1). -/
theorem witness_LockStepPairsCompareAndBisect_1 :
    (Served (entry 0 0x62) (pairSt pair0).dev ∧ (let every := field ((entry 0 0x62).w 6) 0 9; (entry 0 0x62).w 1 = 0)) ∧
    (Served (setC 257) runS.dev ∧ (let every := field ((setC 257).w 6) 0 9; (setC 257).w 1 ≠ 0) ∧
      (let every := field ((setC 257).w 6) 0 9; ((setC 257).w 4 + (setC 257).w 5 * 2 ^ 64 = 0 ∨ every = 0 ∨ 256 < every ∨ (runS.dev.tenant (setC 257).tenant).runId ≠ some ((setC 257).w 1)))) ∧
    (Served (setC 256) (linkS { span2 with arithMixed := true }).dev ∧ (let every := field ((setC 256).w 6) 0 9; (setC 256).w 1 ≠ 0)
      ∧ (let every := field ((setC 256).w 6) 0 9; (setC 256).w 4 + (setC 256).w 5 * 2 ^ 64 ≠ 0) ∧
      (let every := field ((setC 256).w 6) 0 9; 1 ≤ every) ∧ (let every := field ((setC 256).w 6) 0 9; every ≤ 256) ∧
      (let every := field ((setC 256).w 6) 0 9; ((linkS { span2 with arithMixed := true }).dev.tenant (setC 256).tenant).runId = some ((setC 256).w 1))
      ∧
      (let every := field ((setC 256).w 6) 0 9; (linkS { span2 with arithMixed := true }).dev.span.peers.find? (fun m => decide (m.serial = BitVec.ofNat 128 ((setC 256).w 2 + (setC 256).w 3 * 2 ^ 64))) = some peer6)
      ∧ (let every := field ((setC 256).w 6) 0 9; routeTo (linkS { span2 with arithMixed := true }).dev peer6.lowest ≠ []) ∧
      (let every := field ((setC 256).w 6) 0 9; (linkS { span2 with arithMixed := true }).dev.span.arithMixed = true)) ∧
    (Served (setC 1) (linkS span2).dev ∧ (let every := field ((setC 1).w 6) 0 9; (setC 1).w 1 ≠ 0) ∧
      (let every := field ((setC 1).w 6) 0 9; (setC 1).w 4 + (setC 1).w 5 * 2 ^ 64 ≠ 0) ∧
      (let every := field ((setC 1).w 6) 0 9; 1 ≤ every) ∧ (let every := field ((setC 1).w 6) 0 9; every ≤ 256) ∧
      (let every := field ((setC 1).w 6) 0 9; ((linkS span2).dev.tenant (setC 1).tenant).runId = some ((setC 1).w 1)) ∧
      (let every := field ((setC 1).w 6) 0 9; (linkS span2).dev.span.peers.find? (fun m => decide (m.serial = BitVec.ofNat 128 ((setC 1).w 2 + (setC 1).w 3 * 2 ^ 64))) = some peer6)
      ∧ (let every := field ((setC 1).w 6) 0 9; routeTo (linkS span2).dev peer6.lowest ≠ []) ∧
      (let every := field ((setC 1).w 6) 0 9; (linkS span2).dev.span.arithMixed = false) ∧
      (let every := field ((setC 1).w 6) 0 9; ((linkS span2).dev.tenant (setC 1).tenant).pair = none) ∧
      (let every := field ((setC 1).w 6) 0 9; (linkS span2).dev.span.pairOffers = [])) ∧
    (pairTenant runS.dev (6 : BitVec 128) (1 : W32).toNat = none) ∧
    (pairTenant (pairSt pair0).dev (6 : BitVec 128) (1 : W32).toNat = some 0 ∧ ((pairSt pair0).dev.tenant 0).pair = some pair0 ∧
      pair0.formed = false ∧ (0 : BitVec 384) = pairPackage (pairSt pair0).dev 0 ∧ ((runningImage runD).arith) = (runningImage
      (pairSt pair0).dev).arith ∧ (pairSt pair0).dev.span.pairOffers = []) := by
  unfold Served
  refine ⟨?_, ?_, ?_, ?_, ?_, ?_⟩ <;> decide +kernel

/-- The hypotheses of `Obligations.LockStepPairsCompareAndBisect` are met (part 2). -/
theorem witness_LockStepPairsCompareAndBisect_2 :
    (pairTenant runS.dev (6 : BitVec 128) (1 : W32).toNat = none) ∧
    (pairTenant (pairSt formedP).dev (6 : BitVec 128) (1 : W32).toNat = some (0 : TenantId) ∧ ((pairSt formedP).dev.tenant (0 :
      TenantId)).pair = some formedP ∧ formedP.formed = true ∧ formedP.state = 0 ∧ formedP.own = [((4 : Nat), 10)] ∧ formedP.theirs
      = [] ∧ formedP.at (4 : Nat) = some (70, 71, 12)) ∧
    (pairTenant runS.dev (6 : BitVec 128) (1 : W32).toNat = none) ∧
    (pairTenant (pairSt bis5).dev (6 : BitVec 128) (1 : W32).toNat = some (0 : TenantId) ∧ ((pairSt bis5).dev.tenant (0 :
      TenantId)).pair = some bis5 ∧ bis5.bisect = some (2, 7) ∧ bis5.at (5 : Nat) = some (70, 71, 12) ∧ (5 : Nat) ≠ (2 + 7) / 2) ∧
    (pairTenant (pairSt bisP).dev (6 : BitVec 128) (1 : W32).toNat = some (0 : TenantId) ∧ ((pairSt bisP).dev.tenant (0 :
      TenantId)).pair = some bisP ∧ bisP.bisect = some (2, 7) ∧ bisP.at (4 : Nat) = some (70, 71, 12) ∧ (4 : Nat) = (2 + 7) / 2 ∧ 71
      = (71 : BitVec 128)) ∧
    (pairTenant (pairSt bisP).dev (6 : BitVec 128) (1 : W32).toNat = some (0 : TenantId) ∧ ((pairSt bisP).dev.tenant (0 :
      TenantId)).pair = some bisP ∧ bisP.bisect = some (2, 7) ∧ bisP.at (4 : Nat) = some (70, 71, 12) ∧ (4 : Nat) = (2 + 7) / 2 ∧ 71
      ≠ (72 : BitVec 128)) := by
  refine ⟨?_, ?_, ?_, ?_, ?_, ?_⟩ <;> decide +kernel

/-- The hypotheses of `Obligations.LockStepPairsCompareAndBisect` are met (part 3). -/
theorem witness_LockStepPairsCompareAndBisect_3 :
    ((runS.dev.tenant (0 : TenantId)).pair = none) ∧
    (((pairSt { pair0 with own := [] }).dev.tenant (0 : TenantId)).pair = some ({ pair0 with own := [] }) ∧
      ({ pair0 with own := [] }).own = []) ∧
    (((pairSt pair0).dev.tenant (0 : TenantId)).pair = some pair0 ∧ pair0.own = (4, 10) :: []) := by
  refine ⟨?_, ?_, ?_⟩ <;> decide +kernel

/-- The hypotheses of `Obligations.EveryStepKeepsTheMemoriesCanonical` are met. -/
theorem witness_EveryStepKeepsTheMemoriesCanonical :
    (MemoriesCanonical queueS.dev ∧ step queueS = .next stepT) := ⟨⟨by decide +kernel, by decide +kernel, by decide +kernel⟩, rfl⟩

/-- The hypotheses of `Obligations.FusesAreNeverUnblownAndTheIdentityStays` are met. -/
theorem witness_FusesAreNeverUnblownAndTheIdentityStays :
    (step queueS = .next stepT ∧ queueS.dev.boot.svnFuses ≤ 128) ∧
    (runD.boot.svnFuses ≤ 128 ∧ leAt (List.replicate 38 0 ++ [128]) 38 1 = 128) := ⟨⟨rfl, (by decide +kernel)⟩,
    ⟨(by decide +kernel), (by decide +kernel)⟩⟩

end Sys2Proof.Tests
end

section
/-! SUPPORT. What the reactions of the Gutter, an acknowledgement and the end of a cycle leave of the fault records, and what one
event of an enabled source does to them (R643 to R661). -/

namespace Sys2Proof.Machine

open Sys2Proof

/-- The second device has the first's fault records, apart from quiet periods and the pair, its backup domain and its clocks. With
`Aside` it covers what messages, restarts, wakes and the end of a Gutter cycle leave alone; an update that reaches none of the fields
has it by `{}`. -/
structure KeepsFaults (a b : Device) : Prop where
  sticky : b.gutter.sticky = a.gutter.sticky := by rfl
  latched : b.gutter.latched = a.gutter.latched := by rfl
  force : b.gutter.force = a.gutter.force := by rfl
  checkInvert : b.gutter.checkInvert = a.gutter.checkInvert := by rfl
  cond : b.gutter.cond = a.gutter.cond := by rfl
  initDone : b.gutter.initDone = a.gutter.initDone := by rfl
  inFault : ∀ k : ClassId, (classRec b k).inFault = (classRec a k).inFault := by exact fun _ => rfl
  backup : b.backup = a.backup := by rfl
  clocks : b.clocks = a.clocks := by rfl

theorem KeepsFaults.refl (a : Device) : KeepsFaults a a := {}

theorem KeepsFaults.trans {a b c : Device} (h : KeepsFaults a b) (k : KeepsFaults b c) : KeepsFaults a c where
  sticky := k.sticky.trans h.sticky
  latched := k.latched.trans h.latched
  force := k.force.trans h.force
  checkInvert := k.checkInvert.trans h.checkInvert
  cond := k.cond.trans h.cond
  initDone := k.initDone.trans h.initDone
  inFault := fun n => (k.inFault n).trans (h.inFault n)
  backup := k.backup.trans h.backup
  clocks := k.clocks.trans h.clocks

theorem KeepsFaults.ite {a b c : Device} {p : Prop} [Decidable p] (h : KeepsFaults a b) (k : KeepsFaults a c) :
    KeepsFaults a (if p then b else c) := by
  split
  · exact h
  · exact k

theorem KeepsFaults.foldl {α : Type} (f : Device → α → Device) (h : ∀ d x, KeepsFaults d (f d x)) (l : List α) (d : Device) :
    KeepsFaults d (l.foldl f d) := by
  induction l generalizing d with
  | nil => exact KeepsFaults.refl d
  | cons x l ih => exact (h d x).trans (ih (f d x))

/-! ### Counters, messages, restarts and wakes -/

theorem bumpBy_keepsFaults (c : Counter) (i n : Nat) (d : Device) : KeepsFaults d (bumpBy c i n d) := {}
theorem bump_keepsFaults (c : Counter) (i : Nat) (d : Device) : KeepsFaults d (bump c i d) := bumpBy_keepsFaults c i 1 d
theorem modStep_keepsFaults (t : TenantId) (f : Step → Step) (d : Device) : KeepsFaults d (modStep t f d) := {}
theorem modSlot_keepsFaults (k : Slot) (f : SlotRec → SlotRec) (d : Device) : KeepsFaults d (modSlot k f d) := by
  cases k <;> exact {}

theorem wakeHost_keepsFaults (d : Device) : KeepsFaults d (wakeHost d) := .ite {} (.refl d)

theorem sendMsix_keepsFaults (fn : FunctionId) (v : Fin 16) (d : Device) : KeepsFaults d (sendMsix fn v d) := by
  have held : ∀ m, KeepsFaults d (setMsixVec fn v m d) := fun _ => {}
  have sent : KeepsFaults d (msixSent fn v d) := {}
  unfold sendMsix
  refine .ite ((held _).trans (wakeHost_keepsFaults _)) ?_
  split
  · exact .ite (held _) sent
  · exact sent

theorem announceState_keepsFaults (d : Device) : KeepsFaults d (announceState d) :=
  (sendMsix_keepsFaults 0 10 d).trans (.foldl _ (fun d _ => sendMsix_keepsFaults _ _ d) _ _)

theorem journal_keepsFaults (kind inst : Nat) (d : Device) : KeepsFaults d (journal kind inst d) := by
  unfold journal
  split <;> exact {}

theorem startAttempt_keepsFaults (k : Slot) (d : Device) : KeepsFaults d (startAttempt k d) := by
  unfold startAttempt
  exact (journal_keepsFaults _ _ d).trans (modSlot_keepsFaults k _ _)

theorem boot_keepsFaults (b : Boot) (d : Device) : KeepsFaults d { d with boot := b } := {}

theorem passOver_keepsFaults (k : Slot) (d : Device) : KeepsFaults d (passOver k d) := by
  unfold passOver
  extract_lets d1 b u d2
  have marked : KeepsFaults d d1 := modSlot_keepsFaults k _ d
  have counted : KeepsFaults d1 (bump .fallbacks 0 d2) := {}
  exact ((marked.trans counted).trans (journal_keepsFaults kSlots 0 _)).trans (journal_keepsFaults kUpdate 0 _)

theorem chooseSlot_keepsFaults (d : Device) : KeepsFaults d (chooseSlot d).2 := by
  unfold chooseSlot
  split
  · exact .refl d
  · split
    · exact .refl d
    · exact passOver_keepsFaults _ d

theorem kettleDown_keepsFaults (d : Device) : KeepsFaults d (kettleDown d) := by
  have failed : KeepsFaults d (failStart d) := .ite (bump_keepsFaults _ _ d) (.refl d)
  unfold kettleDown
  exact (failed.trans {}).trans (announceState_keepsFaults _)

theorem restartSlot_keepsFaults (d : Device) : KeepsFaults d (restartSlot d) := by
  have chosen := chooseSlot_keepsFaults d
  unfold restartSlot
  refine .ite (.refl d) (.ite (startAttempt_keepsFaults _ d) ?_)
  split
  next k e hk =>
    rw [hk] at chosen
    exact (chosen.trans (boot_keepsFaults _ e)).trans (startAttempt_keepsFaults k _)
  next e hk =>
    rw [hk] at chosen
    exact chosen.trans (boot_keepsFaults _ e)

theorem beginKettleRestart_keepsFaults (d : Device) : KeepsFaults d (beginKettleRestart d) :=
  (kettleDown_keepsFaults d).trans (restartSlot_keepsFaults _)

theorem endIdle_keepsFaults (t : Nat) (d : Device) : KeepsFaults d (endIdle t d) := by
  unfold endIdle
  split <;> exact {}

theorem startWake_keepsFaults (p : PState) (d : Device) : KeepsFaults d (startWake p d) := {}

theorem wakeUp_keepsFaults (d : Device) : KeepsFaults d (wakeUp d) := by
  unfold wakeUp
  refine (endIdle_keepsFaults d.now d).trans ?_
  dsimp only
  split
  · exact (bump_keepsFaults _ _ _).trans (startWake_keepsFaults _ _)
  · exact .ite (.refl _) (startWake_keepsFaults _ _)

/-! ### Reactions (R650) -/

theorem beginBlockReset_keepsFaults (b : Block) (k : ClassId) (d : Device) : KeepsFaults d (beginBlockReset b k d) := by
  unfold beginBlockReset
  extract_lets w g d1
  have opened : KeepsFaults d d1 := {}
  exact opened.trans (.ite (beginKettleRestart_keepsFaults d1) (.refl d1))

theorem reactMessage_keepsFaults (k : ClassId) (charge : Option TenantId) (d : Device) : KeepsFaults d (reactMessage k charge d) := by
  unfold reactMessage
  refine (sendMsix_keepsFaults 0 9 d).trans ?_
  cases charge with
  | none => exact .refl _
  | some t =>
    exact KeepsFaults.trans {} (sendMsix_keepsFaults _ _ _)

theorem reactTrap_keepsFaults (s : SourceId) (d : Device) : KeepsFaults d (reactTrap s d) :=
  .ite (.ite (.refl d) {}) {}

/-- No action of any level changes a fault record. -/
theorem react_keepsFaults (s : SourceId) (n inst : Nat) (charge : Option TenantId) (d : Device) :
    KeepsFaults d (react s n inst charge d) := by
  unfold react
  extract_lets k d1 d2 d3
  have message : KeepsFaults d d1 := reactMessage_keepsFaults k charge d
  have reset : KeepsFaults d1 d2 := by
    refine .ite ?_ (.refl d1)
    split
    · exact beginBlockReset_keepsFaults _ k d1
    · exact .refl d1
  have trap : KeepsFaults d2 d3 := .ite ((reactTrap_keepsFaults s d2).trans (wakeUp_keepsFaults _)) (.refl d2)
  exact ((message.trans reset).trans trap).trans (.ite {} (.refl d3))

theorem chargeStep_keepsFaults (s : SourceId) (charge : Option TenantId) (d : Device) : KeepsFaults d (chargeStep s charge d) := by
  cases charge with
  | none => exact .refl d
  | some t => exact modStep_keepsFaults t _ d

/-! ### The end of a cycle and acknowledgements (R646, R656, R665) -/

theorem modClass_keepsFaults (k : ClassId) (f : GClass → GClass) (h : ∀ c, (f c).inFault = c.inFault) (d : Device) :
    KeepsFaults d (modClass k f d) where
  inFault l := by
    rw [modClass_classRec]
    split
    · exact h _
    · rfl

theorem requiet_keepsFaults (k : ClassId) (d : Device) : KeepsFaults d (requiet k d) :=
  .ite (.ite (modClass_keepsFaults k _ (fun _ => by rfl) d) (.refl d)) (modClass_keepsFaults k _ (fun _ => by rfl) d)

theorem restartQuiet_keepsFaults (k : ClassId) (d : Device) : KeepsFaults d (restartQuiet k d) :=
  (modClass_keepsFaults k (fun c => { c with quiet := none }) (fun _ => rfl) d).trans (requiet_keepsFaults k _)

theorem drivePair_keepsFaults (fault : Bool) (d : Device) : KeepsFaults d (drivePair fault d) := {}

theorem assertPair_keepsFaults (d : Device) : KeepsFaults d (assertPair d) :=
  .ite (.refl d) (((bump_keepsFaults _ _ d).trans (drivePair_keepsFaults true _)).trans {})

theorem releasePair_keepsFaults (d : Device) : KeepsFaults d (releasePair d) :=
  .ite ((bumpBy_keepsFaults _ _ _ d).trans (drivePair_keepsFaults false _)) (.refl d)

theorem evalPair_keepsFaults (d : Device) : KeepsFaults d (evalPair d) :=
  .ite (assertPair_keepsFaults d) (.ite (releasePair_keepsFaults d) (.refl d))

theorem endCycle_keepsFaults (d : Device) : KeepsFaults d (endCycle d) :=
  (KeepsFaults.foldl _ (fun d k => requiet_keepsFaults k d) _ d).trans (evalPair_keepsFaults _)

/-- The sticky and latched bits of a mask cleared: all that an acknowledgement does to the fault records. -/
def clearBits (mask : BitVec 128) (d : Device) : Device :=
  { d with gutter := { d.gutter with sticky := d.gutter.sticky &&& ~~~mask, latched := d.gutter.latched &&& ~~~mask } }

theorem acknowledge_keepsFaults (mask : BitVec 128) (d : Device) : KeepsFaults (clearBits mask d) (acknowledge mask d) :=
  .foldl _ (fun d k => .ite (restartQuiet_keepsFaults k d) (.refl d)) _ _

theorem acknowledge_aside (mask : BitVec 128) (d : Device) : Aside d (acknowledge mask d) :=
  (gutter_aside _ d).trans (Aside.foldl _ (fun d k => .ite (restartQuiet_aside k d) (.refl d)) _ _)

/-! ### One event of a source (R644, R645) -/

/-- The second device has the event of a source in its fault records: the source's sticky bit set, its class in fault. -/
structure RecordsEvent (s : SourceId) (a b : Device) : Prop where
  sticky : b.gutter.sticky = a.gutter.sticky ||| srcBit s
  inFault : (classRec b (classOf s)).inFault = true
  backup : b.backup = a.backup
  clocks : b.clocks = a.clocks

theorem RecordsEvent.of_keepsFaults {s : SourceId} {a b c : Device} (h : KeepsFaults a b) (k : RecordsEvent s b c) :
    RecordsEvent s a c :=
  ⟨by rw [k.sticky, h.sticky], k.inFault, k.backup.trans h.backup, k.clocks.trans h.clocks⟩

theorem RecordsEvent.trans_keepsFaults {s : SourceId} {a b c : Device} (h : RecordsEvent s a b) (k : KeepsFaults b c) :
    RecordsEvent s a c :=
  ⟨k.sticky.trans h.sticky, (k.inFault _).trans h.inFault, k.backup.trans h.backup, k.clocks.trans h.clocks⟩

theorem reactingEvent_records (s : SourceId) (insts : List Nat) (charge : Option TenantId) (d : Device) :
    RecordsEvent s d (reactingEvent s insts charge d) := by
  unfold reactingEvent
  extract_lets k n esc d1 d2 g d3 d4 d5
  have counted : KeepsFaults d d2 := (bumpBy_keepsFaults _ _ _ d).trans (.ite (bump_keepsFaults _ _ d1) (.refl d1))
  have recorded : RecordsEvent s d2 d4 := ⟨rfl, by simp [d4, modClass_classRec, k], rfl, rfl⟩
  have reacted : KeepsFaults d4 d5 := .ite (react_keepsFaults _ _ _ _ d4) (.refl d4)
  exact .of_keepsFaults counted ((recorded.trans_keepsFaults reacted).trans_keepsFaults (chargeStep_keepsFaults s charge d5))

section

variable {s : SourceId} {i : Nat} {d : Device} (init : d.gutter.initDone = true) (enabled : srcEnabled d s.val = true)
  (bare : shadowed d s.val i = false)
include init enabled bare

/-- An event of an enabled source of the initialised Gutter that no window covers reacts. -/
theorem sourceEvent_records (charge : Option TenantId) : RecordsEvent s d (sourceEvent s [i] charge d) := by
  unfold sourceEvent
  simp only [enabled, init, Bool.and_self, if_true, List.filter_cons, List.filter_nil, bare, Bool.not_false, Bool.false_eq_true, if_false,
    List.isEmpty_cons]
  refine .of_keepsFaults ?_ (reactingEvent_records s [i] charge _)
  cases charge <;> exact {}

theorem occur_records (charge : Option TenantId) : RecordsEvent s d (occur s i charge d) :=
  (sourceEvent_records init enabled bare charge).trans_keepsFaults (endCycle_keepsFaults _)

end

/-! ### A cycle in which one source reports (R661) -/

/-- A fold whose function acts at one element alone acts once. -/
theorem foldl_of_nodup_of_mem {α β : Type} [DecidableEq α] {f : β → α → β} {a : α} {l : List α} (nodup : l.Nodup) (mem : a ∈ l)
    (other : ∀ b x, x ≠ a → f b x = b) (b : β) : l.foldl f b = f b a := by
  have acts : f = fun b x => if x = a then f b x else b := by
    funext b x
    split
    · rfl
    · exact other b x ‹_›
  calc l.foldl f b = (l.filter (· == a)).foldl f b := by rw [List.foldl_filter]; simpa using congrArg (fun g => l.foldl g b) acts
    _ = f b a := by rw [List.filter_beq, List.count_eq_one_of_mem nodup mem]; rfl

theorem cycleSource_of_no_report {rs : List FaultReport} {s : SourceId} (h : reportsOf rs s = []) (q : Device × BitVec 128) :
    cycleSource rs q s = q := by
  simp [cycleSource, eventInstances, reportConds, h]

theorem srcBit_getLsbD (s : SourceId) (n : Nat) : (srcBit s).getLsbD n = decide (n = s.val) := by
  rw [srcBit, BitVec.getLsbD_shiftLeft, BitVec.getLsbD_one]
  have bound := s.isLt
  by_cases h : n = s.val
  · simp [h]
  · simp [h]; omega

/-- Clearing the bits of a mask other than one leaves that one set. -/
theorem or_and_not_diff (sticky ack bit : BitVec 128) :
    (sticky ||| bit) &&& ~~~(ack &&& ~~~bit) = (sticky &&& ~~~ack) ||| bit := by
  ext n h
  simp only [BitVec.getElem_and, BitVec.getElem_or, BitVec.getElem_not]
  cases bit[n] <;> simp

section

variable {r : FaultReport} {i : Nat} {d : Device} (inst : r.insts = [i]) (kind : r.kind = .occurrence)
  (init : d.gutter.initDone = true) (enabled : srcEnabled d r.src.val = true) (bare : shadowed d r.src.val i = false)
include inst kind init enabled bare

/-- The source of a single occurrence: its event, and a bit that no acknowledgement of the cycle clears. -/
theorem cycleSource_of_occurrence : cycleSource [r] (d, 0) r.src = (sourceEvent r.src [i] r.charge d, srcBit r.src) := by
  cases h : r.charge <;> simp [cycleSource, eventInstances, reportConds, reportsOf, inst, kind, init, enabled, bare, h]

theorem faultEvent_of_occurrence (ack : BitVec 128) :
    faultEvent [r] ack d = endCycle (acknowledge (ack &&& ~~~srcBit r.src) (sourceEvent r.src [i] r.charge d)) := by
  have silent : ∀ q s, s ≠ r.src → cycleSource [r] q s = q := fun q s h =>
    cycleSource_of_no_report (by simp [reportsOf, h.symm]) q
  unfold faultEvent
  rw [foldl_of_nodup_of_mem (List.nodup_finRange 128) (List.mem_finRange r.src) silent,
    cycleSource_of_occurrence inst kind init enabled bare]

/-- In a cycle with one occurrence the event is recorded over what the acknowledgement leaves (R19). -/
theorem faultEvent_records (ack : BitVec 128) : RecordsEvent r.src (clearBits ack d) (faultEvent [r] ack d) := by
  rw [faultEvent_of_occurrence inst kind init enabled bare]
  have event := sourceEvent_records init enabled bare r.charge
  refine RecordsEvent.trans_keepsFaults ⟨?_, ?_, ?_, ?_⟩ ((acknowledge_keepsFaults _ _).trans (endCycle_keepsFaults _))
  · simp [clearBits, event.sticky, or_and_not_diff]
  · exact event.inFault
  · exact event.backup
  · exact event.clocks

theorem faultEvent_aside (ack : BitVec 128) : Aside d (faultEvent [r] ack d) := by
  rw [faultEvent_of_occurrence inst kind init enabled bare]
  exact ((sourceEvent_aside _ _ _ d).trans (acknowledge_aside _ _)).trans (endCycle_aside _)

end

/-! ### The frame of the statements -/

theorem Aside.sameFabric {a b : Device} (h : Aside a b) : SameFabric a b :=
  ⟨h.sites, h.fabric, h.vtiles, h.scratch, h.tiers, h.ridge, h.span, h.strainers, h.slate, h.intake, h.windows⟩

theorem Aside.sameControl {a b : Device} (h : Aside a b) (backup : b.backup = a.backup) (clocks : b.clocks = a.clocks) :
    SameControl a b :=
  ⟨h.cfg, h.staged, h.commits, h.entropy, h.time, backup, clocks⟩

end Sys2Proof.Machine
end

section
/-! CERTIFICATE. An event sets its sticky bit over an acknowledgement (R19, R643, R645, R646, R661, R666). -/

namespace Sys2Proof.Machine

open Sys2Proof

theorem exec_faultEvent (rs : List FaultReport) (ack : BitVec 128) (s : State) :
    exec (.faultEvent rs ack) s = done s (faultEvent rs ack s.dev) := rfl
theorem exec_kettleSramUncorr (s : State) : exec .kettleSramUncorr s = done s (kettleSram s.dev) := rfl
theorem exec_errpinReadback (p n : Option Bool) (s : State) : exec (.errpinReadback p n) s = done s (errpinReadback p n s.dev) := rfl

/-- The levels sensed at the error pair's legs recorded. -/
def senseLegs (p n : Option Bool) (d : Device) : Device := { d with pins := { d.pins with senseP := p, senseN := n } }

theorem errpinReadback_differs {p n : Option Bool} {d : Device} (h : p ≠ some d.pins.errP ∨ n ≠ some d.pins.errN) :
    errpinReadback p n d = occur 55 0 none (senseLegs p n d) := if_neg (by tauto)

theorem errpinReadback_agrees (d : Device) :
    errpinReadback (some d.pins.errP) (some d.pins.errN) d = senseLegs (some d.pins.errP) (some d.pins.errN) d :=
  if_pos ⟨rfl, rfl⟩

theorem kettleSram_not_inverted {d : Device} (h : checkInverted d 9 = false) : kettleSram d = occur 9 0 none d := by
  simp [kettleSram, h]

/-- Settles O12: `faultEvent_records` for the event and its acknowledgement, `occur_records` for the two single events. -/
theorem eventSetsItsStickyBitOverAnAcknowledgement : Obligations.EventSetsItsStickyBitOverAnAcknowledgement := by
  unfold Obligations.EventSetsItsStickyBitOverAnAcknowledgement
  refine ⟨?event, ?kettle, ?differs, ?agrees⟩
  case event =>
    intro r i ack s inst kind init enabled bare
    have event := faultEvent_records inst kind init enabled bare ack
    have frame := faultEvent_aside inst kind init enabled bare ack
    refine completes_of_done (exec_faultEvent _ _ s)
      ⟨?_, event.inFault, fun n bound other => ?_, frame.sameFabric, frame.sameControl event.backup event.clocks⟩
    · simp [event.sticky, srcBit_getLsbD]
    · rw [event.sticky, BitVec.getLsbD_or, srcBit_getLsbD]
      simp [clearBits, bound, other]
  case kettle =>
    intro s init enabled bare plain
    refine completes_of_done (exec_kettleSramUncorr s) ?_
    rw [kettleSram_not_inverted plain]
    exact (occur_records init enabled bare none).sticky
  case differs =>
    intro p n s init enabled bare differs
    refine completes_of_done (exec_errpinReadback p n s) ?_
    rw [errpinReadback_differs differs]
    exact (occur_records (s := 55) (d := senseLegs p n s.dev) init enabled bare none).sticky
  case agrees =>
    exact fun s => completes_of_done (exec_errpinReadback _ _ s) (errpinReadback_agrees s.dev)

end Sys2Proof.Machine
end

section
/-! SUPPORT. What messages, journal records, restarts, wakes, reactions and completions leave of the tenants: everything. This
section and those after it are elaborated in order, as the tests are: the text is compiled as one within a memory limit, and a
thread for each lemma that waits would pass it. -/

set_option Elab.async false

namespace Sys2Proof.Machine

open Sys2Proof

theorem foldl_tenants {α : Type} {f : Device → α → Device} (h : ∀ d x, (f d x).tenants = d.tenants) (l : List α) (d : Device) :
    (l.foldl f d).tenants = d.tenants :=
  List.foldlRecOn (motive := fun e => e.tenants = d.tenants) l f rfl fun e same x _ => (h e x).trans same

theorem ite_tenants {p : Prop} [Decidable p] {a b d : Device} (h : a.tenants = d.tenants) (k : b.tenants = d.tenants) :
    (if p then a else b).tenants = d.tenants := by
  split
  · exact h
  · exact k

/-! ### Messages, the journal and restarts -/

@[simp] theorem wakeHost_tenants (d : Device) : (wakeHost d).tenants = d.tenants := ite_tenants rfl rfl

@[simp] theorem sendMsix_tenants (fn : FunctionId) (v : Fin 16) (d : Device) : (sendMsix fn v d).tenants = d.tenants := by
  unfold sendMsix
  refine ite_tenants (wakeHost_tenants _) ?_
  split
  · exact ite_tenants rfl rfl
  · rfl

@[simp] theorem announceState_tenants (d : Device) : (announceState d).tenants = d.tenants :=
  (foldl_tenants (fun _ _ => sendMsix_tenants _ _ _) _ _).trans (sendMsix_tenants _ _ _)

@[simp] theorem journal_tenants (kind inst : Nat) (d : Device) : (journal kind inst d).tenants = d.tenants := ite_tenants rfl rfl

@[simp] theorem startAttempt_tenants (k : Slot) (d : Device) : (startAttempt k d).tenants = d.tenants := by simp [startAttempt]

@[simp] theorem passOver_tenants (k : Slot) (d : Device) : (passOver k d).tenants = d.tenants := by simp [passOver]

@[simp] theorem chooseSlot_tenants (d : Device) : (chooseSlot d).2.tenants = d.tenants := by
  unfold chooseSlot
  split
  · rfl
  · split
    · rfl
    · exact passOver_tenants _ d

@[simp] theorem failStart_tenants (d : Device) : (failStart d).tenants = d.tenants := ite_tenants rfl rfl

@[simp] theorem kettleDown_tenants (d : Device) : (kettleDown d).tenants = d.tenants :=
  (announceState_tenants _).trans (failStart_tenants d)

@[simp] theorem restartSlot_tenants (d : Device) : (restartSlot d).tenants = d.tenants := by
  have chosen := chooseSlot_tenants d
  unfold restartSlot
  refine ite_tenants rfl (ite_tenants (startAttempt_tenants _ d) ?_)
  split
  next k e hk =>
    rw [hk] at chosen
    exact (startAttempt_tenants k _).trans chosen
  next e hk =>
    rw [hk] at chosen
    exact chosen

@[simp] theorem beginKettleRestart_tenants (d : Device) : (beginKettleRestart d).tenants = d.tenants := by simp [beginKettleRestart]

/-! ### Wakes -/

@[simp] theorem endIdle_tenants (t : Nat) (d : Device) : (endIdle t d).tenants = d.tenants := by
  unfold endIdle
  split <;> rfl

@[simp] theorem wakeUp_tenants (d : Device) : (wakeUp d).tenants = d.tenants := by
  have idle := endIdle_tenants d.now d
  unfold wakeUp
  dsimp only
  split
  · exact idle
  · exact ite_tenants idle idle

/-! ### The Gutter (R643 to R665) -/

@[simp] theorem evalPair_tenants (d : Device) : (evalPair d).tenants = d.tenants :=
  ite_tenants (ite_tenants rfl rfl) (ite_tenants (ite_tenants rfl rfl) rfl)

@[simp] theorem requiet_tenants (k : ClassId) (d : Device) : (requiet k d).tenants = d.tenants :=
  ite_tenants (ite_tenants rfl rfl) rfl

@[simp] theorem endCycle_tenants (d : Device) : (endCycle d).tenants = d.tenants :=
  (evalPair_tenants _).trans (foldl_tenants (fun d k => requiet_tenants k d) _ d)

@[simp] theorem beginBlockReset_tenants (b : Block) (k : ClassId) (d : Device) : (beginBlockReset b k d).tenants = d.tenants :=
  ite_tenants (beginKettleRestart_tenants _) rfl

@[simp] theorem reactMessage_tenants (k : ClassId) (charge : Option TenantId) (d : Device) :
    (reactMessage k charge d).tenants = d.tenants := by
  cases charge <;> simp [reactMessage]

@[simp] theorem reactTrap_tenants (s : SourceId) (d : Device) : (reactTrap s d).tenants = d.tenants :=
  ite_tenants (ite_tenants rfl rfl) rfl

@[simp] theorem react_tenants (s : SourceId) (n inst : Nat) (charge : Option TenantId) (d : Device) :
    (react s n inst charge d).tenants = d.tenants := by
  unfold react
  extract_lets k d1 d2 d3
  have message : d1.tenants = d.tenants := reactMessage_tenants _ _ d
  have reset : d2.tenants = d1.tenants := by
    refine ite_tenants ?_ rfl
    split
    · exact beginBlockReset_tenants _ _ _
    · rfl
  have trap : d3.tenants = d2.tenants := ite_tenants (by simp) rfl
  exact ite_tenants (trap.trans (reset.trans message)) (trap.trans (reset.trans message))

/-! ### Completions -/

@[simp] theorem post_tenants (c : Call) (st : Status) (reason : Nat) (result : List Byte) (more : Bool) (d : Device) :
    (post c st reason result more d).tenants = d.tenants := by
  unfold post
  extract_lets r kr late d1 d2
  have counted : d1.tenants = d.tenants := ite_tenants rfl rfl
  have accepted : d2.tenants = d1.tenants := ite_tenants rfl (ite_tenants rfl rfl)
  exact accepted.trans counted

@[simp] theorem finish_tenants (c : Call) (st : Status) (reason : Nat) (d : Device) : (finish c st reason d).tenants = d.tenants :=
  post_tenants c st reason [] false d

@[simp] theorem badParam_tenants (c : Call) (reason : Nat) (d : Device) : (badParam c reason d).tenants = d.tenants :=
  finish_tenants c .badParam reason d

theorem tenant_of_tenants {a b : Device} (h : b.tenants = a.tenants) (t : TenantId) : b.tenant t = a.tenant t := by
  simp [Device.tenant, h]

theorem stepOf_of_tenants {a b : Device} (h : b.tenants = a.tenants) (t : TenantId) : b.stepOf t = a.stepOf t := by
  simp [Device.stepOf, tenant_of_tenants h]

end Sys2Proof.Machine
end

section
/-! SUPPORT. The plan of the tenants' runs: what decides which step comes next and where it runs, and what the step in progress was
created from. The operations between steps keep both (R31, R78, R224, R577, R634, R730). -/

set_option Elab.async false

namespace Sys2Proof.Machine

open Sys2Proof

/-- What places a model: its handle and its vtiles. -/
def Model.spread (m : Model) : Nat × List Nat := (m.handle, m.vtiles)

/-- What a run runs. -/
def Run.plan (r : Run) : RunKind × Option Nat := (r.kind, r.package)

/-- What a tenant runs next, and from what. -/
def Tenant.plan (x : Tenant) : Nat × List Package × List (Nat × List Nat) × Option (RunKind × Option Nat) :=
  (x.nextStep, x.packages, x.models.map Model.spread, x.run.map Run.plan)

/-- What a step was created from, and whether it has started. -/
def Step.origin (s : Step) : Nat × List ManifestEntry × BitVec 128 × Bool := (s.n, s.manifest, s.intakeHash, s.started)

/-- The second device is no earlier than the first and has its span and the plan of every tenant. -/
structure KeepsPlan (a b : Device) : Prop where
  now : a.now ≤ b.now := by exact Nat.le_refl _
  span : b.span = a.span := by rfl
  plan : ∀ t : TenantId, (b.tenant t).plan = (a.tenant t).plan := by exact fun _ => rfl

/-- It has the steps in progress too, as far as their origin goes. -/
structure KeepsCourse (a b : Device) : Prop extends KeepsPlan a b where
  origin : ∀ t : TenantId, (b.stepOf t).map Step.origin = (a.stepOf t).map Step.origin := by exact fun _ => rfl

theorem KeepsPlan.trans {a b c : Device} (h : KeepsPlan a b) (k : KeepsPlan b c) : KeepsPlan a c where
  now := h.now.trans k.now
  span := k.span.trans h.span
  plan t := (k.plan t).trans (h.plan t)

theorem KeepsCourse.refl (a : Device) : KeepsCourse a a := {}

theorem KeepsCourse.trans {a b c : Device} (h : KeepsCourse a b) (k : KeepsCourse b c) : KeepsCourse a c where
  toKeepsPlan := h.toKeepsPlan.trans k.toKeepsPlan
  origin t := (k.origin t).trans (h.origin t)

theorem KeepsCourse.ite {a b c : Device} {p : Prop} [Decidable p] (h : KeepsCourse a b) (k : KeepsCourse a c) :
    KeepsCourse a (if p then b else c) := by
  split
  · exact h
  · exact k

theorem KeepsCourse.foldl {α : Type} {f : Device → α → Device} (h : ∀ d x, KeepsCourse d (f d x)) (l : List α) (d : Device) :
    KeepsCourse d (l.foldl f d) :=
  List.foldlRecOn (motive := KeepsCourse d) l f (.refl d) fun e kept x _ => kept.trans (h e x)

/-- What leaves the tenants and all the contents alone keeps the course. -/
theorem Aside.keepsCourse {a b : Device} (h : Aside a b) (k : b.tenants = a.tenants) : KeepsCourse a b where
  now := h.now.ge
  span := h.span
  plan t := by rw [tenant_of_tenants k]
  origin t := by rw [stepOf_of_tenants k]

/-! ### Updates of the tenants -/

theorem modTenant_keepsPlan {t : TenantId} {f : Tenant → Tenant} (d : Device) (h : ∀ x, (f x).plan = x.plan := by exact fun _ => rfl) :
    KeepsPlan d (modTenant t f d) where
  plan u := by
    rw [modTenant_tenant]
    split
    · exact h _
    · rfl

theorem modRun_keepsPlan {t : TenantId} {f : Run → Run} (d : Device) (h : ∀ r, (f r).plan = r.plan := by exact fun _ => rfl) :
    KeepsPlan d (modRun t f d) :=
  modTenant_keepsPlan d fun x => by simp [Tenant.plan, Function.comp_def, h]

theorem modTenant_keepsCourse {t : TenantId} {f : Tenant → Tenant} (d : Device)
    (h : ∀ x, (f x).plan = x.plan := by exact fun _ => rfl)
    (k : ∀ x, ((f x).run.bind (·.step)).map Step.origin = (x.run.bind (·.step)).map Step.origin := by exact fun _ => rfl) :
    KeepsCourse d (modTenant t f d) where
  toKeepsPlan := modTenant_keepsPlan d h
  origin u := by
    simp only [Device.stepOf, modTenant_tenant]
    split
    · exact k _
    · rfl

theorem modRun_keepsCourse {t : TenantId} {f : Run → Run} (d : Device) (h : ∀ r, (f r).plan = r.plan := by exact fun _ => rfl)
    (k : ∀ r, (f r).step.map Step.origin = r.step.map Step.origin := by exact fun _ => rfl) : KeepsCourse d (modRun t f d) where
  toKeepsPlan := modRun_keepsPlan d h
  origin := (modTenant_keepsCourse d (fun x => by simp [Tenant.plan, Function.comp_def, h])
    (fun x => by cases x.run <;> simp [k])).origin

theorem modStep_keepsCourse {t : TenantId} {f : Step → Step} (d : Device) (h : ∀ s, (f s).origin = s.origin := by exact fun _ => rfl) :
    KeepsCourse d (modStep t f d) :=
  modRun_keepsCourse d (k := fun r => by simp [Function.comp_def, h])

theorem modModel_keepsCourse {t : TenantId} {n : Nat} {f : Model → Model} (d : Device)
    (h : ∀ m, (f m).spread = m.spread := by exact fun _ => rfl) : KeepsCourse d (modModel t n f d) := by
  refine modTenant_keepsCourse d (fun x => ?_)
  have spread : ∀ m : Model, (if m.handle = n then f m else m).spread = m.spread := fun m => by
    split
    · exact h m
    · rfl
  simp [Tenant.plan, Function.comp_def, spread]

/-! ### What the plan decides -/

section

variable {a b : Device} (h : KeepsPlan a b) (t : TenantId)
include h

theorem KeepsPlan.nextStep : (b.tenant t).nextStep = (a.tenant t).nextStep := congrArg (·.1) (h.plan t)

theorem KeepsPlan.packages : (b.tenant t).packages = (a.tenant t).packages := congrArg (·.2.1) (h.plan t)

theorem KeepsPlan.spreads : (b.tenant t).models.map Model.spread = (a.tenant t).models.map Model.spread :=
  congrArg (·.2.2.1) (h.plan t)

theorem KeepsPlan.run : (b.tenant t).run.map Run.plan = (a.tenant t).run.map Run.plan := congrArg (·.2.2.2) (h.plan t)

/-- A run stays a run, of the same kind and package. -/
theorem KeepsPlan.run_some {r : Run} (run : (a.tenant t).run = some r) :
    ∃ q, (b.tenant t).run = some q ∧ q.kind = r.kind ∧ q.package = r.package := by
  have same := h.run t
  simp only [run, Option.map_some, Option.map_eq_some_iff] at same
  obtain ⟨q, hq, plan⟩ := same
  exact ⟨q, hq, congrArg (·.1) plan, congrArg (·.2) plan⟩

theorem KeepsPlan.run_none (run : (a.tenant t).run = none) : (b.tenant t).run = none := by
  simpa [run] using h.run t

theorem KeepsPlan.carriesIndex (i : Nat) : Machine.carriesIndex b i = Machine.carriesIndex a i := by
  simp [Machine.carriesIndex, h.span]

theorem KeepsPlan.runDecl : Machine.runDecl b t = Machine.runDecl a t := by
  cases run : (a.tenant t).run with
  | none => simp [Machine.runDecl, runPackage, run, h.run_none t run]
  | some r =>
    obtain ⟨q, hq, _, package⟩ := h.run_some t run
    simp [Machine.runDecl, runPackage, run, hq, package, h.packages t]

/-- A model that a handle names keeps its vtiles. -/
theorem KeepsPlan.find_model (n : Nat) :
    ((a.tenant t).models.find? (fun m => decide (m.handle = n)) = none ∧
      (b.tenant t).models.find? (fun m => decide (m.handle = n)) = none) ∨
    ∃ x y, (a.tenant t).models.find? (fun m => decide (m.handle = n)) = some x ∧
      (b.tenant t).models.find? (fun m => decide (m.handle = n)) = some y ∧ y.vtiles = x.vtiles := by
  have spread (l : List Model) : (l.find? fun m => decide (m.handle = n)).map Model.spread =
      (l.map Model.spread).find? fun s => decide (s.1 = n) := by
    rw [List.find?_map]
    rfl
  have same := spread (b.tenant t).models
  rw [h.spreads t, ← spread] at same
  cases ha : (a.tenant t).models.find? fun m => decide (m.handle = n) with
  | none =>
    rw [ha, Option.map_none, Option.map_eq_none_iff] at same
    exact .inl ⟨rfl, same⟩
  | some x =>
    rw [ha, Option.map_some, Option.map_eq_some_iff] at same
    obtain ⟨y, hb, same⟩ := same
    exact .inr ⟨x, y, rfl, hb, congrArg (·.2) same⟩

theorem KeepsPlan.runIndices : Machine.runIndices b t = Machine.runIndices a t := by
  cases run : (a.tenant t).run with
  | none => simp [Machine.runIndices, run, h.run_none t run]
  | some r =>
    obtain ⟨q, hq, kind, _⟩ := h.run_some t run
    simp only [Machine.runIndices, run, hq, kind, h.runDecl t]
    split
    next n _ _ _ => obtain ⟨ha, hb⟩ | ⟨x, y, ha, hb, vtiles⟩ := h.find_model t n <;> simp [*]
    next => rfl

theorem KeepsPlan.runVtiles : Machine.runVtiles b t = Machine.runVtiles a t := by
  cases run : (a.tenant t).run with
  | none => simp [Machine.runVtiles, run, h.run_none t run]
  | some r =>
    obtain ⟨q, hq, kind, _⟩ := h.run_some t run
    simp only [Machine.runVtiles, run, hq, kind, h.runDecl t, h.carriesIndex]
    split
    next n _ _ _ => obtain ⟨ha, hb⟩ | ⟨x, y, ha, hb, vtiles⟩ := h.find_model t n <;> simp [*]
    next => rfl

theorem KeepsPlan.spanBound : Machine.spanBound b t = Machine.spanBound a t := by simp [Machine.spanBound, h.runIndices t]

end

/-- A step in progress stays one, with its origin. -/
theorem KeepsCourse.step {a b : Device} (h : KeepsCourse a b) {t : TenantId} {st : Step} (step : a.stepOf t = some st) :
    ∃ s, b.stepOf t = some s ∧ s.origin = st.origin := by
  simpa [step, Option.map_eq_some_iff] using h.origin t

/-! ### Updates of one part -/

theorem bump_keepsCourse (c : Counter) (i : Nat) (d : Device) : KeepsCourse d (bump c i d) := {}
theorem modCtx_keepsCourse (c : ContextId) (f : Context → Context) (d : Device) : KeepsCourse d (modCtx c f d) := {}
theorem modVt_keepsCourse (v : VtileRef) (f : VtileState → VtileState) (d : Device) : KeepsCourse d (modVt v f d) := {}
theorem spadPut_keepsCourse (v : VtileRef) (a : Nat) (bs : List Byte) (d : Device) : KeepsCourse d (spadPut v a bs d) := {}
theorem cutPlanned_keepsCourse (d : Device) : KeepsCourse d (cutPlanned d) := {}
theorem advanceTo_keepsCourse (t : Nat) (d : Device) : KeepsCourse d (advanceTo t d) := { now := Nat.le_max_left _ _ }

theorem modMirror_keepsCourse (t : TenantId) (f : Mirror → Mirror) (d : Device) : KeepsCourse d (modMirror t f d) :=
  modTenant_keepsCourse d

/-! ### Events, conditions and completions -/

theorem post_keepsCourse (c : Call) (st : Status) (reason : Nat) (result : List Byte) (more : Bool) (d : Device) :
    KeepsCourse d (post c st reason result more d) := (post_aside c st reason result more d).keepsCourse (post_tenants _ _ _ _ _ d)

theorem endCycle_keepsCourse (d : Device) : KeepsCourse d (endCycle d) := (endCycle_aside d).keepsCourse (endCycle_tenants d)

theorem journal_keepsCourse (kind inst : Nat) (d : Device) : KeepsCourse d (journal kind inst d) :=
  (journal_aside kind inst d).keepsCourse (journal_tenants kind inst d)

theorem react_keepsCourse (s : SourceId) (n inst : Nat) (charge : Option TenantId) (d : Device) :
    KeepsCourse d (react s n inst charge d) := (react_aside s n inst charge d).keepsCourse (react_tenants s n inst charge d)

theorem chargeStep_keepsCourse (s : SourceId) (charge : Option TenantId) (d : Device) : KeepsCourse d (chargeStep s charge d) := by
  cases charge with
  | none => exact .refl d
  | some t => exact modStep_keepsCourse d

theorem reactingEvent_keepsCourse (s : SourceId) (insts : List Nat) (charge : Option TenantId) (d : Device) :
    KeepsCourse d (reactingEvent s insts charge d) := by
  unfold reactingEvent
  extract_lets k n esc d1 d2 g d3 d4 d5
  have counted : KeepsCourse d d2 := .ite {} {}
  have recorded : KeepsCourse d2 d4 := {}
  have reacted : KeepsCourse d4 d5 := .ite (react_keepsCourse s _ _ charge d4) (.refl d4)
  exact ((counted.trans recorded).trans reacted).trans (chargeStep_keepsCourse s charge d5)

theorem sourceEvent_keepsCourse (s : SourceId) (insts : List Nat) (charge : Option TenantId) (d : Device) :
    KeepsCourse d (sourceEvent s insts charge d) := by
  unfold sourceEvent
  refine .ite ?_ (.refl d)
  extract_lets cov open_ d1 d2
  have charged : KeepsCourse d1 d2 := by
    cases charge with
    | none => exact .refl d1
    | some t => exact modStep_keepsCourse d1
  exact (KeepsCourse.trans {} charged).trans (.ite (.refl d2) (reactingEvent_keepsCourse s _ charge d2))

theorem occur_keepsCourse (s : SourceId) (inst : Nat) (charge : Option TenantId) (d : Device) :
    KeepsCourse d (occur s inst charge d) :=
  (sourceEvent_keepsCourse s _ charge d).trans (endCycle_keepsCourse _)

theorem condBegin_keepsCourse (s : SourceId) (inst : Nat) (charge : Option TenantId) (d : Device) :
    KeepsCourse d (condBegin s inst charge d) := by
  unfold condBegin
  refine .ite (.refl d) ?_
  extract_lets was g d1
  have present : KeepsCourse d d1 := {}
  exact .ite (present.trans (endCycle_keepsCourse d1))
    ((present.trans (sourceEvent_keepsCourse s _ charge d1)).trans (endCycle_keepsCourse _))

/-! ### The tenant scope of a commit (R587, R634) -/

theorem checkStop_keepsCourse (c : ContextId) (d : Device) : KeepsCourse d (checkStop c d) := by
  unfold checkStop
  refine .ite ?_ (.refl d)
  split
  · exact KeepsCourse.trans {} (post_keepsCourse _ _ _ _ _ _)
  · exact {}

theorem flushCtx_keepsCourse (c : ContextId) (d : Device) : KeepsCourse d (flushCtx c d).2 :=
  KeepsCourse.trans {} (checkStop_keepsCourse c _)

theorem dropRing_keepsCourse (i : ContextId) (d : Device) : KeepsCourse d (dropRing i d) := by
  unfold dropRing
  split
  · exact .refl d
  · exact modTenant_keepsCourse d

theorem applyDescriptor_keepsCourse (i : ContextId) (x : Descriptor) (d : Device) : KeepsCourse d (applyDescriptor i x d) := by
  unfold applyDescriptor
  refine .ite (.refl d) ?_
  extract_lets d1 d2 t id us d3
  have dropped : KeepsCourse d d2 := ((flushCtx_keepsCourse i d).trans (dropRing_keepsCourse i _)).trans {}
  have ring : KeepsCourse d2 d3 := modTenant_keepsCourse d2
  exact dropped.trans (.ite (ring.trans (modCtx_keepsCourse i _ d3)) (modCtx_keepsCourse i _ d2))

theorem applyDescriptors_keepsCourse (t : TenantId) (d : Device) : KeepsCourse d (applyDescriptors t d) := by
  unfold applyDescriptors
  refine KeepsCourse.trans (.foldl (fun d q => ?_) _ d) {}
  split
  · exact applyDescriptor_keepsCourse _ _ d
  · exact .refl d

theorem settleCommits_keepsCourse (d : Device) : KeepsCourse d (settleCommits d) :=
  KeepsCourse.trans {} (.foldl (fun d _ => .ite (post_keepsCourse _ _ _ _ _ d) (post_keepsCourse _ _ _ _ _ d)) _ _)

theorem applyTenantScope_keepsCourse (t : TenantId) (d : Device) : KeepsCourse d (applyTenantScope t d) := by
  unfold applyTenantScope
  refine .ite (.ite ?_ (KeepsCourse.trans {} (.foldl (fun d _ => post_keepsCourse _ _ _ _ _ d) _ _))) (.refl d)
  have applied := (applyDescriptors_keepsCourse t d).trans (journal_keepsCourse kApplied (1 + t.val) _)
  exact (applied.trans {}).trans (settleCommits_keepsCourse _)

theorem cutPulse_keepsCourse (d : Device) : KeepsCourse d (cutPulse d) := by
  unfold cutPulse
  split <;> exact {}

theorem applyLater_keepsCourse (d : Device) : KeepsCourse d (applyLater d) :=
  .ite {} (KeepsCourse.trans {} (cutPulse_keepsCourse _))

/-! ### Frames that bind (R577) -/

theorem writeRecord_keepsCourse (kind tenant : Nat) (body : List Byte) (d : Device) :
    KeepsCourse d (writeRecord kind tenant body d) := by
  unfold writeRecord putRecord
  dsimp only
  split
  · exact {}
  · exact KeepsCourse.trans {} (condBegin_keepsCourse 50 0 none _)

theorem bindFrames_keepsCourse (t : TenantId) (n by_ : Nat) (d : Device) : KeepsCourse d (bindFrames t n by_ d).2 :=
  (KeepsCourse.foldl (fun _ _ => {}) _ d).trans (.foldl (fun d _ => writeRecord_keepsCourse _ _ _ d) _ _)

/-! ### FRAME_SYNC_OUT (R586) -/

theorem startPulse_keepsCourse (d : Device) : KeepsCourse d (startPulse d) := by
  unfold startPulse
  split
  · exact .ite {} {}
  · exact {}

theorem settlePulse_keepsCourse (d : Device) : KeepsCourse d (settlePulse d) := by
  have ended : KeepsCourse d (endPulse d) := by
    unfold endPulse
    split
    · exact .refl d
    · exact (advanceTo_keepsCourse _ d).trans {}
  unfold settlePulse
  split
  · exact .ite ended (.refl d)
  · exact .refl d

/-! ### The start of a step (R78, R224, R729 to R732) -/

theorem countDivisor_keepsCourse (d : Device) : KeepsCourse d (countDivisor d) := by
  unfold countDivisor
  extract_lets n above d1
  have counted : KeepsCourse d d1 := .ite {} (.ite {} (.refl d))
  exact counted.trans {}

theorem changeDivisor_keepsCourse (d : Device) : KeepsCourse d (changeDivisor d) := by
  unfold changeDivisor
  extract_lets d1 c d2 d3 waits
  have counted : KeepsCourse d d1 := countDivisor_keepsCourse d
  have changed : KeepsCourse d1 d2 := {}
  have noted : KeepsCourse d2 d3 := .foldl (fun d t => .ite (modStep_keepsCourse d) (.refl d)) _ d2
  exact ((counted.trans changed).trans noted).trans (.foldl (fun d _ => post_keepsCourse _ _ _ _ _ d) _ d3)

theorem divisorPoint_keepsCourse (d : Device) : KeepsCourse d (divisorPoint d) := .ite (changeDivisor_keepsCourse d) (.refl d)

theorem switchEpoch_keepsCourse (t : TenantId) (d : Device) : KeepsCourse d (switchEpoch t d) := by
  unfold switchEpoch
  dsimp only
  split
  · exact ((modTenant_keepsCourse d).trans (cutPlanned_keepsCourse _)).trans (bump_keepsCourse _ _ _)
  · exact .refl d

theorem endIdle_keepsCourse (t : Nat) (d : Device) : KeepsCourse d (endIdle t d) :=
  (endIdle_aside t d).keepsCourse (endIdle_tenants t d)

theorem reloadImage_keepsCourse (d : Device) (t : TenantId) : KeepsCourse d (reloadImage d t) := by
  unfold reloadImage
  split
  · exact .refl d
  · exact .foldl (fun d _ => .ite (.foldl (fun _ _ => {}) _ d) (.refl d)) _ d

theorem resetVtiles_keepsCourse (t : TenantId) (d : Device) : KeepsCourse d (resetVtiles t d) :=
  .foldl (fun d _ => modVt_keepsCourse _ _ d) _ d

theorem annealBegin_keepsCourse (t : TenantId) (n : Nat) (d : Device) : KeepsCourse d (annealBegin t n d) :=
  modModel_keepsCourse d

/-! ### Before the first sweep (R70, R380, R392) -/

theorem annealPrepare_keepsCourse (t : TenantId) (m : Model) (bs : List Byte) (d : Device) : KeepsCourse d (annealPrepare t m bs d) := by
  unfold annealPrepare
  extract_lets d1 keep
  have reset : KeepsCourse d d1 := .ite (KeepsCourse.trans {} (.foldl (fun d _ => spadPut_keepsCourse _ _ _ d) _ _)) (.refl d)
  exact reset.trans (modModel_keepsCourse d1)

theorem copyPage_keepsCourse (v : VtileRef) (t : TenantId) (d : Device) : KeepsCourse d (copyPage v t d) := by
  unfold copyPage
  split
  · exact (modMirror_keepsCourse t _ d).trans {}
  · exact .refl d

theorem finishMirror_keepsCourse (t : TenantId) (d : Device) : KeepsCourse d (finishMirror t d) := by
  have copied := KeepsCourse.foldl (f := fun d n => (vt d (refOf n)).uncopied.foldl (fun d _ => copyPage (refOf n) t d) d)
    (fun d n => .foldl (fun d _ => copyPage_keepsCourse (refOf n) t d) _ d) (runVtiles d t) d
  have completed : ∀ e, KeepsCourse e (settleMirror t e) := fun e =>
    .ite ((modMirror_keepsCourse t _ e).trans (modTenant_keepsCourse _)) (.refl e)
  exact copied.trans (completed _)

theorem beginMirror_keepsCourse (t : TenantId) (next : Nat) (d : Device) : KeepsCourse d (beginMirror t next d) := by
  have finished := finishMirror_keepsCourse t d
  unfold beginMirror
  dsimp only
  split
  · exact finished.trans (modTenant_keepsCourse _)
  · exact .ite (finished.trans (modTenant_keepsCourse _))
      ((finished.trans (modTenant_keepsCourse _)).trans (.foldl (fun d _ => modVt_keepsCourse _ _ d) _ _))

theorem prepareFirst_keepsCourse (t : TenantId) (d : Device) : KeepsCourse d (prepareFirst t d) := by
  unfold prepareFirst
  split
  · split
    · exact .ite ((annealPrepare_keepsCourse t _ _ d).trans (beginMirror_keepsCourse t _ _)) (.refl d)
    · exact .refl d
  · exact .refl d

end Sys2Proof.Machine
end

section
/-! SUPPORT. What a boundary, the creation and the start of a step do to the step in progress, the vtiles and the tenant (R31, R78,
R522, R580). -/

set_option Elab.async false

namespace Sys2Proof.Machine

open Sys2Proof

/-! ### The step in progress after an update -/

theorem modRun_run (t : TenantId) (f : Run → Run) (d : Device) : ((modRun t f d).tenant t).run = (d.tenant t).run.map f := by
  simp [modRun]

theorem modStep_stepOf (t : TenantId) (f : Step → Step) (d : Device) : (modStep t f d).stepOf t = (d.stepOf t).map f := by
  cases h : (d.tenant t).run <;> simp [modStep, modRun, Device.stepOf, h]

theorem stepOf_of_run {d : Device} {t : TenantId} {r : Run} (run : (d.tenant t).run = some r) : d.stepOf t = r.step := by
  simp [Device.stepOf, run]

/-! ### The creation of a step (R522, R577) -/

/-- A created step is that of the run's next value and has not started; the plan stays. -/
theorem createStep_creates {t : TenantId} {d : Device} (r : Run) {q : Run} (run : (d.tenant t).run = some q) :
    (∃ st, (createStep t r d).stepOf t = some st ∧ st.n = (d.tenant t).nextStep ∧ st.started = false) ∧
      KeepsPlan d (createStep t r d) := by
  unfold createStep
  extract_lets n d1 paced mine d2
  have scope : KeepsCourse d d1 := applyTenantScope_keepsCourse t d
  have later : KeepsCourse d1 d2 := .ite (applyLater_keepsCourse d1) (.refl d1)
  have bound := (scope.trans later).trans (bindFrames_keepsCourse t n d2.now d2)
  cases frames : bindFrames t n d2.now d2 with
  | mk es d3 =>
    rw [frames] at bound
    dsimp -zeta only
    extract_lets flags d4
    obtain ⟨q', run', _⟩ := bound.run_some t run
    have created : ∃ st, d4.stepOf t = some st ∧ st.n = n ∧ st.started = false := by
      rw [stepOf_of_run (by rw [modRun_run, run', Option.map_some])]
      exact ⟨_, rfl, rfl, rfl⟩
    have pulse := KeepsCourse.ite (p := (mine && decide (syncTenant d4 = t.val) && !syncCadence d4) = true)
      ((settlePulse_keepsCourse d4).trans (startPulse_keepsCourse _)) (.refl d4)
    obtain ⟨st, step, number, unstarted⟩ := created
    obtain ⟨st', step', origin⟩ := pulse.step step
    simp only [Step.origin, Prod.mk.injEq] at origin
    obtain ⟨number', _, _, unstarted'⟩ := origin
    exact ⟨⟨st', step', number'.trans number, unstarted'.trans unstarted⟩,
      (bound.toKeepsPlan.trans (modRun_keepsPlan d3)).trans pulse.toKeepsPlan⟩

/-! ### Boundaries (R31, R583) -/

theorem advance_plan (r : Run) (m : Nat) : (r.advance m).plan = r.plan := by
  unfold Run.advance
  dsimp only
  split <;> rfl

theorem advanceCadence_plan (r : Run) (now : Nat) : (advanceCadence r now).plan = r.plan := by
  unfold advanceCadence
  split
  · rfl
  · split
    · rfl
    · exact advance_plan r 1

theorem lateStep_keepsPlan (t : TenantId) (f : Nat) (d : Device) : KeepsPlan d (lateStep t f d) := by
  unfold lateStep
  split
  · exact {}
  · have raised := fun (e : Device) => (occur_keepsCourse 49 t.val (some t) e).toKeepsPlan
    refine KeepsPlan.trans ?_ (modRun_keepsPlan _ fun r => advance_plan r _)
    exact KeepsPlan.trans {} (raised _)

/-- A boundary that nothing holds back is the creation of the run's step, at an instant not before it is due. -/
theorem stepBoundary_creates {t : TenantId} {d : Device} {r : Run} (run : (d.tenant t).run = some r) (runs : running d t = true)
    (paced : 0 < r.period) (alone : spanBound d t = false) (idle : r.idle = true) (barrier : r.barrier = none)
    (released : r.released = false) (free : drainHolds d t = false) (up : awake d = true) (latch : latchOf d r.call ≠ .flush)
    (room : runRoom d r = true) :
    ∃ e q, (e.tenant t).run = some q ∧ KeepsPlan d e ∧ (r.begun = true → r.lateAt = none → r.due ≤ e.now) ∧
      stepBoundary t d = createStep t q e := by
  set d1 := if r.begun = true then advanceTo (r.lateAt.getD r.due) d else d with at_due
  set d2 := if (r.waited && r.begun && r.lateAt.isNone && decide (r.due < d1.now)) = true then
    modRun t (fun r => { r with lateStart := true }) (lateStep t d1.now d1) else d1 with late
  set d3 := modRun t (fun r => advanceCadence r d2.now) d2 with advanced
  have reached : KeepsPlan d d1 := by
    rw [at_due]
    split
    · exact (advanceTo_keepsCourse _ d).toKeepsPlan
    · exact {}
  have counted : KeepsPlan d1 d2 := by
    rw [late]
    split
    · exact (lateStep_keepsPlan t _ d1).trans (modRun_keepsPlan _)
    · exact {}
  have cadence : KeepsPlan d2 d3 := modRun_keepsPlan d2 fun r => advanceCadence_plan r _
  have kept := (reached.trans counted).trans cadence
  obtain ⟨q, run', _⟩ := kept.run_some t run
  refine ⟨d3, q, run', kept, fun begun on_time => ?_, ?_⟩
  · have due : r.due ≤ d1.now := by simp [at_due, begun, on_time]
    exact due.trans (counted.trans cadence).now
  · have still_alone : spanBound d3 t = false := (kept.spanBound t).trans alone
    unfold stepBoundary
    simp only [run, runs, alone, idle, barrier, released, free, up, latch, room, Nat.ne_of_gt paced, ← at_due, ← late, ← advanced,
      still_alone, run']
    simp

/-! ### Vtiles -/

theorem vt_id (d : Device) (v : VtileRef) : (vt d v).id = vtNum v := by
  unfold vt
  cases found : d.vtiles.find? fun x => decide (x.id = vtNum v) with
  | none => rfl
  | some x => simpa using List.find?_some found

/-- A vtile reads as it was changed, and every other one as it was. -/
theorem vt_modVt {f : VtileState → VtileState} (v w : VtileRef) (d : Device) (keeps : ∀ x, (f x).id = x.id := by exact fun _ => rfl) :
    vt (modVt w f d) v = if vtNum v = vtNum w then f (vt d w) else vt d v := by
  have id : (f (vt d w)).id = vtNum w := (keeps _).trans (vt_id d w)
  have kept : ∀ x : VtileState, vtNum v ≠ vtNum w → (!decide (x.id = vtNum w) && decide (x.id = vtNum v)) = decide (x.id = vtNum v) :=
    fun x other => by by_cases h : x.id = vtNum v <;> simp [h, other]
  change ((f (vt d w) :: d.vtiles.filter fun x => !decide (x.id = vtNum w)).find? fun x => decide (x.id = vtNum v)).getD _ = _
  rw [List.find?_cons, id]
  split
  next same => simp [(of_decide_eq_true same).symm]
  next other =>
    have other := Ne.symm (of_decide_eq_false other)
    simp [List.find?_filter, kept _ other, other, vt]

/-- A vtile stands at an address and has not ended its program. -/
def StandsAt (entry : Nat) (d : Device) (v : VtileRef) : Prop := (vt d v).pc = entry ∧ (vt d v).ended = false

theorem standsAt_of_vtiles {a b : Device} (h : b.vtiles = a.vtiles) {entry : Nat} {v : VtileRef} (k : StandsAt entry a v) :
    StandsAt entry b v := by
  simpa [StandsAt, vt, h] using k

/-- Vtiles that are reset one after another all stand at the entry address. -/
theorem foldl_reset_standsAt (entry : Nat) (l : List Nat) (d : Device) (n : Nat) (mem : n ∈ l ∨ StandsAt entry d (refOf n)) :
    StandsAt entry (l.foldl (fun d n => modVt (refOf n) (fun x => { id := x.id, pc := entry, uncopied := x.uncopied }) d) d) (refOf n) := by
  induction l generalizing d with
  | nil => simpa using mem
  | cons m l ih =>
    refine ih _ ?_
    have reset (v : VtileRef) (k : v = refOf m ∨ StandsAt entry d v) :
        StandsAt entry (modVt (refOf m) (fun x => { id := x.id, pc := entry, uncopied := x.uncopied }) d) v := by
      unfold StandsAt
      rw [vt_modVt]
      split
      next => exact ⟨rfl, rfl⟩
      next other => exact k.resolve_left fun same => other (congrArg vtNum same)
    rcases mem with mem | stands
    · rcases List.mem_cons.mp mem with same | mem
      · exact .inr (reset _ (.inl (congrArg refOf same)))
      · exact .inl mem
    · exact .inr (reset _ (.inr stands))

theorem resetVtiles_standsAt (t : TenantId) (d : Device) {n : Nat} (mem : n ∈ runVtiles d t) :
    StandsAt (((runDecl d t).map (·.entry)).getD 0) (resetVtiles t d) (refOf n) :=
  foldl_reset_standsAt _ _ d n (.inl mem)

/-! ### The start -/

/-- What the start of a step does to it and to what it runs on. -/
structure Starts (t : TenantId) (st : Step) (a b : Device) : Prop where
  step : ∃ s, b.stepOf t = some s ∧ s.origin = (st.n, st.manifest, st.intakeHash, true)
  posted : (b.tenant t).posted = []
  frames : (b.tenant t).frames = 0
  vtiles : ∀ n ∈ runVtiles a t, StandsAt (((runDecl a t).map (·.entry)).getD 0) b (refOf n)

theorem stepDivisor_origin (d : Device) (s : Step) : (stepDivisor d s).origin = s.origin := rfl

theorem beginStep_starts {t : TenantId} {d : Device} {st : Step} (step : d.stepOf t = some st) : Starts t st d (beginStep t d) := by
  unfold beginStep
  extract_lets d1 d2 d3 d4 free wait d5 why
  have switched : KeepsCourse d d1 := ((endIdle_keepsCourse d.now d).trans (divisorPoint_keepsCourse _)).trans (switchEpoch_keepsCourse t _)
  have loaded := switched.trans (reloadImage_keepsCourse d1 t)
  have reset : KeepsCourse d d2 := loaded.trans (resetVtiles_keepsCourse t _)
  have cleared : KeepsCourse d2 d3 := modTenant_keepsCourse d2
  have cleared_vtiles : d3.vtiles = d2.vtiles := modTenant_vtiles t _ d2
  have annealed : KeepsCourse d3 d4 ∧ d4.vtiles = d2.vtiles ∧ (d4.tenant t).posted = [] ∧ (d4.tenant t).frames = 0 := by
    unfold d4
    split
    · exact ⟨annealBegin_keepsCourse t _ d3, cleared_vtiles, by simp [annealBegin, modModel, d3], by simp [annealBegin, modModel, d3]⟩
    · exact ⟨.refl d3, cleared_vtiles, by simp [d3], by simp [d3]⟩
  obtain ⟨annealed, vtiles, posted, frames⟩ := annealed
  have released : KeepsCourse d4 d5 := modRun_keepsCourse d4
  obtain ⟨s, step', origin⟩ := (((reset.trans cleared).trans annealed).trans released).step step
  simp only [Step.origin, Prod.mk.injEq] at origin
  obtain ⟨number, manifest, hash, _⟩ := origin
  refine ⟨?step, ?posted, ?frames, ?vtiles⟩
  case step =>
    rw [modStep_stepOf, step']
    exact ⟨_, rfl, by rw [stepDivisor_origin, ← number, ← manifest, ← hash]; rfl⟩
  case posted => simp [modStep, modRun, d5, posted]
  case frames => simp [modStep, modRun, d5, frames]
  case vtiles =>
    intro n mem
    rw [← loaded.runVtiles t] at mem
    rw [← loaded.runDecl t]
    refine standsAt_of_vtiles (a := d2) ?_ (resetVtiles_standsAt t _ mem)
    rw [modStep_vtiles, modRun_vtiles, vtiles]

/-- What starts from a device that has kept the course has started from the device before. -/
theorem Starts.of_keepsCourse {t : TenantId} {st st' : Step} {a b c : Device} (h : KeepsCourse a b) (origin : st'.origin = st.origin)
    (k : Starts t st' b c) : Starts t st a c := by
  simp only [Step.origin, Prod.mk.injEq] at origin
  obtain ⟨number, manifest, hash, _⟩ := origin
  refine ⟨?_, k.posted, k.frames, ?_⟩
  · rw [← number, ← manifest, ← hash]
    exact k.step
  · rw [← h.runVtiles t, ← h.runDecl t]
    exact k.vtiles

/-- A step starts in the same way when the run's first sweep is prepared before it. -/
theorem prepared_beginStep_starts {t : TenantId} {d : Device} {st : Step} (begun : Bool) (step : d.stepOf t = some st) :
    Starts t st d (beginStep t (if begun then d else prepareFirst t d)) := by
  have prepared : KeepsCourse d (if begun then d else prepareFirst t d) := .ite (.refl d) (prepareFirst_keepsCourse t d)
  obtain ⟨s, step', origin⟩ := prepared.step step
  exact .of_keepsCourse prepared origin (beginStep_starts step')

/-! ### STEP_START (R78, R224) -/

section

variable {t : TenantId} {d : Device} {r : Run} (run : (d.tenant t).run = some r) (runs : running d t = true) (barrier : r.barrier = none)
  (alone : spanBound d t = false) (up : awake d = true) (redo : r.redo = none) (committing : r.committing = none)
  (recorded : r.recorded = false) (test : regionTest d t = false)
include run runs barrier alone up redo committing recorded test

/-- A created step of a run of the module alone starts. -/
theorem stepStart_created {st : Step} (step : r.step = some st) (unstarted : st.started = false) :
    stepStart t d = beginStep t (if r.begun then d else prepareFirst t d) := by
  simp [stepStart, run, runs, barrier, alone, up, redo, committing, recorded, test, step, unstarted, stepOf_of_run run]

/-- The next step of an unpaced run of the module alone is created and starts. -/
theorem stepStart_fresh (unpaced : r.period = 0) (step : r.step = none) (replay : r.replay = none) (free : drainHolds d t = false)
    (latch : latchOf d r.call ≠ .flush) (room : runRoom d r = true) :
    stepStart t d = beginStep t (if r.begun then createStep t r d else prepareFirst t (createStep t r d)) := by
  obtain ⟨⟨st, created, _⟩, _⟩ := createStep_creates r run
  simp [stepStart, run, runs, barrier, alone, up, redo, committing, recorded, test, unpaced, step, replay, free, latch, room, created]

end

end Sys2Proof.Machine
end

section
/-! SUPPORT. The end of a phase, the stop point of a replay and STEP_ABORT (R505, R560, R622). -/

set_option Elab.async false

namespace Sys2Proof.Machine

open Sys2Proof

/-! ### PHASE_END (R505, R560) -/

/-- Reading outputs uses free values at most. -/
theorem outputsOf_fresh (t : TenantId) (refs : List OutputRef) (far : List (List Byte)) (d : Device) :
    ∃ n, (outputsOf t refs far d).2 = { d with fresh := n } := by
  have read (x : Tensor) (off len n : Nat) : ∃ k, (readFree x off len { d with fresh := n }).2 = { d with fresh := k } := by
    unfold readFree
    split <;> exact ⟨_, rfl⟩
  unfold outputsOf
  refine List.foldlRecOn (motive := fun acc : List (List Byte) × List (List Byte) × Device => ∃ n, acc.2.2 = { d with fresh := n })
    refs _ ⟨_, rfl⟩ fun acc used o _ => ?_
  obtain ⟨outs, rest, e⟩ := acc
  obtain ⟨n, rfl⟩ := used
  cases o with
  | scratch span vtile addr len =>
    dsimp only
    split <;> exact ⟨n, rfl⟩
  | tier id off len =>
    dsimp only
    split
    · exact read _ off len n
    · exact ⟨n, rfl⟩

/-- The next phase of a running step without a pair ends: its digest is appended, and the step halts at the stop point. -/
theorem phaseEnd_appends {t : TenantId} {d : Device} {r : Run} {st : Step} {p : PackageDecl} (run : (d.tenant t).run = some r)
    (step : r.step = some st) (started : st.started = true) (decl : runDecl d t = some p) (halted : st.halted = false)
    (committing : r.committing = none) (recorded : r.recorded = false) (kind : r.kind = .steps) (pair : (d.tenant t).pair = none)
    (more : st.phases.length < p.phases.length) (cycles : Nat) (far : List (List Byte)) :
    ∃ g n, phaseEnd t cycles far d = modStep t (fun s => { s with
      phases := s.phases ++ [(st.phases.length, g)]
      halted := r.replay.any fun q => decide (q.stop = some (st.n, st.phases.length)) }) { d with fresh := n } := by
  obtain ⟨n, read⟩ := outputsOf_fresh t p.phases[st.phases.length] far d
  have unpaired : ∀ outs, pairPhase t outs cycles { d with fresh := n } = { d with fresh := n } := fun outs => by
    unfold pairPhase
    rw [show ({ d with fresh := n } : Device).tenant t = d.tenant t from rfl, pair]
  have model : r.model = none := by simp [Run.model, kind]
  refine ⟨phaseDigest hashKeyO (outputsOf t p.phases[st.phases.length] far d).1 st.phases.length, n, ?_⟩
  unfold phaseEnd
  rw [run, stepOf_of_run run, step, decl]
  simp only [Option.map_some, Option.getD_some, List.getElem?_eq_getElem more, started, halted, committing, recorded, model, read, unpaired]
  cases r.replay <;> rfl

theorem phaseEnd_past_last {t : TenantId} {d : Device} {r : Run} {st : Step} {p : PackageDecl} (run : (d.tenant t).run = some r)
    (step : r.step = some st) (decl : runDecl d t = some p) (last : p.phases.length ≤ st.phases.length) (cycles : Nat)
    (far : List (List Byte)) : phaseEnd t cycles far d = d := by
  simp [phaseEnd, run, stepOf_of_run run, step, decl, last]

/-! ### Stop points (R560) -/

theorem atStopPoint_of_tenants {a b : Device} (h : b.tenants = a.tenants) (t : TenantId) : atStopPoint b t = atStopPoint a t := by
  simp [atStopPoint, stepOf_of_tenants h]

theorem running_of_tenants {a b : Device} (h : b.tenants = a.tenants) (t : TenantId) : running b t = running a t := by
  simp [running, tenant_of_tenants h]

theorem modStep_unhalts (t : TenantId) (d : Device) : atStopPoint (modStep t (fun s => { s with halted := false }) d) t = false := by
  unfold atStopPoint
  rw [modStep_stepOf]
  cases d.stepOf t <;> rfl

theorem replayContinue_halted {c : Call} {d : Device} (runs : running d c.tenant = true) (halted : atStopPoint d c.tenant = true) :
    replayContinue c d = finish c .ok 0 (modStep c.tenant (fun s => { s with halted := false }) d) := by
  simp [replayContinue, runs, halted]

theorem replayContinue_elsewhere {c : Call} {d : Device} (halted : atStopPoint d c.tenant = false) :
    replayContinue c d = badParam c rsnStepSequence d := by
  simp [replayContinue, halted]

/-! ### STEP_ABORT (R622) -/

/-- STEP_ABORT names a started command: a run command of its tenant, with the tag that it gives if it gives one. -/
def abortNames (c : Call) (x : Started) : Bool :=
  runOpcode x.call.opcode && decide (x.call.tenant = c.tenant) &&
    (decide (field (c.w 1) 0 32 = 0) || decide (x.call.tag.toNat = field (c.w 1) 0 32))

/-- The abort latch set on a started command that STEP_ABORT names, where it has no latch. -/
def latchStarted (c : Call) (x : Started) : Started :=
  if abortNames c x && decide (x.latch = .none) then { x with latch := .abort } else x

/-- The abort latch set on every started command that STEP_ABORT names. -/
def latchNamed (c : Call) (d : Device) : Device :=
  { d with host := { d.host with mbx := d.host.mbx.map fun m => { m with started := m.started.map (latchStarted c) } } }

/-- How many started commands STEP_ABORT names. -/
def namedCount (c : Call) (d : Device) : Nat := ((d.host.mbx.toList.flatMap (·.started)).filter (abortNames c)).length

theorem stepAbort_eq (c : Call) (d : Device) :
    stepAbort c d = endHalted c.tenant (post c .ok 0 (leBytes 4 (namedCount c d)) false (latchNamed c d)) := rfl

theorem endHalted_elsewhere {t : TenantId} {d : Device} (halted : atStopPoint d t = false) : endHalted t d = d := by
  unfold endHalted
  split
  · rfl
  next r run =>
    split
    next st _ step =>
      have unhalted : st.halted = false := by simpa [atStopPoint, stepOf_of_run run, step] using halted
      simp [unhalted]
    · rfl

theorem latchStarted_latched {c : Call} {x : Started} (named : abortNames c (latchStarted c x) = true) :
    (latchStarted c x).latch ≠ .none := by
  by_cases h : abortNames c x = true ∧ x.latch = .none
  · simp [latchStarted, h]
  · have same : latchStarted c x = x := if_neg (by simpa using h)
    rw [same] at named ⊢
    exact fun none => h ⟨named, none⟩

theorem latchNamed_started (c : Call) (d : Device) (m : MailboxId) :
    ((latchNamed c d).mb m).started = (d.mb m).started.map (latchStarted c) := by
  simp [latchNamed, Device.mb]

theorem queueCompletion_started (n m : MailboxId) (k : Completion) (d : Device) :
    ((queueCompletion n k d).mb m).started = (d.mb m).started := by
  rw [queueCompletion, modMbx_mb]
  split <;> rfl

/-- A final completion takes its command from the started ones of its mailbox and adds none. -/
theorem mem_started_of_post {c : Call} {st : Status} {reason : Nat} {result : List Byte} {d : Device} {m : MailboxId} {x : Started}
    (mem : x ∈ ((post c st reason result false d).mb m).started) : x ∈ (d.mb m).started := by
  unfold post at mem
  extract_lets r kr late d1 d2 at mem
  have counted : d1.mb m = d.mb m := by
    unfold d1
    split <;> rfl
  have accepted : d2.mb m = d1.mb m := by
    unfold d2
    split
    · rfl
    · split <;> rfl
  rw [modMbx_mb] at mem
  rw [← counted, ← accepted]
  split at mem
  · have kept := List.mem_of_mem_eraseP mem
    rwa [queueCompletion_started] at kept
  · rwa [queueCompletion_started] at mem

/-- A command of another opcode that is accepted changes nothing of the started run commands. -/
theorem acceptCall_named {c : Call} (opcode : runOpcode c.opcode = false) (d : Device) (m : MailboxId) :
    ((acceptCall c d).mb m).started.filter (abortNames c) = (d.mb m).started.filter (abortNames c) := by
  have other : ∀ x : Started, x.call.words = c.words → abortNames c x = false := fun x same => by
    have : x.call.opcode = c.opcode := by simp [Call.opcode, Call.w, same]
    simp [abortNames, this, opcode]
  rw [acceptCall, modMbx_mb]
  split
  case isFalse => rfl
  split
  · have unchanged : ∀ x : Started, abortNames c (if sameCommand x.call c then { x with call := c } else x) = abortNames c x := fun x => by
      split
      next same => rw [other x (by simpa [sameCommand] using same), other _ rfl]
      · rfl
    simp only [List.filter_map, Function.comp_def, unchanged]
    refine (List.map_congr_left fun x mem => ?_).trans (List.map_id _)
    have named : abortNames c x = true := (List.mem_filter.mp mem).2
    refine if_neg fun same => ?_
    rw [other x (by simpa [sameCommand] using same)] at named
    cases named
  · simp [List.filter_append, other]

/-- What is read of every mailbox alike is read alike of all. -/
theorem mbx_map_congr {α : Type} {a b : Device} (g : Mailbox → α) (h : ∀ m : MailboxId, g (b.mb m) = g (a.mb m)) :
    b.host.mbx.toList.map g = a.host.mbx.toList.map g :=
  List.ext_getElem (by simp) fun i hi _ => by simpa [Device.mb] using h ⟨i, by simpa using hi⟩

theorem namedCount_acceptCall {c : Call} (opcode : runOpcode c.opcode = false) (d : Device) :
    namedCount c (acceptCall c d) = namedCount c d := by
  have same := mbx_map_congr (fun m => m.started.filter (abortNames c)) (acceptCall_named opcode d)
  rw [namedCount, namedCount, List.filter_flatMap, List.filter_flatMap, List.flatMap_def, List.flatMap_def, same]

end Sys2Proof.Machine
end

section
/-! CERTIFICATE. A boundary or a start creates the next step; PHASE_END appends a phase; CONTINUE and STEP_ABORT act on the run (R31,
R78, R505, R522, R560, R580, R622). -/

set_option Elab.async false

namespace Sys2Proof.Machine

open Sys2Proof

theorem exec_stepBoundary (t : TenantId) (s : State) : exec (.stepBoundary t) s = done s (stepBoundary t s.dev) := rfl
theorem exec_stepStart (t : TenantId) (s : State) : exec (.stepStart t) s = done s (stepStart t s.dev) := rfl
theorem exec_phaseEnd (t : TenantId) (cycles : Nat) (far : List (List Byte)) (s : State) :
    exec (.phaseEnd t cycles far) s = done s (phaseEnd t cycles far s.dev) := rfl
theorem exec_replayContinue (c : Call) (s : State) : exec (.replayContinue c) s = done s (runFw c (replayContinue c) s.dev) := rfl
theorem exec_stepAbort (c : Call) (s : State) : exec (.stepAbort c) s = done s (runEngine c (stepAbort c) s.dev) := rfl

theorem stepBoundary_not_running {t : TenantId} {d : Device} (stopped : running d t = false) : stepBoundary t d = d := by
  unfold stepBoundary
  split
  · rfl
  · simp [stopped]

theorem stepStart_not_running {t : TenantId} {d : Device} (stopped : running d t = false) : stepStart t d = d := by
  unfold stepStart
  split
  · rfl
  · simp [stopped]

/-- Settles O32: `stepBoundary_creates` for the boundary, `stepStart_fresh` and `stepStart_created` with `beginStep_starts` for the
start, `phaseEnd_appends` for the phase, and the two commands by what they do to the run and to the started commands. -/
theorem stepsStartEndPhasesAndHalt : Obligations.StepsStartEndPhasesAndHalt := by
  unfold Obligations.StepsStartEndPhasesAndHalt
  refine ⟨fun t s r run => ⟨?stopped, fun runs barrier replay alone free up latch room => ⟨?boundary, ?start⟩⟩, ?phase, ?stopPoint, ?abort⟩
  case stopped =>
    intro stopped
    rw [exec_stepBoundary, exec_stepStart, stepBoundary_not_running stopped, stepStart_not_running stopped]
    exact ⟨rfl, rfl⟩
  case boundary =>
    intro paced idle released
    obtain ⟨e, q, run', kept, due, creates⟩ :=
      stepBoundary_creates run runs paced alone idle barrier released free up latch room
    obtain ⟨⟨st, step, number, unstarted⟩, planned⟩ := createStep_creates q run'
    refine completes_of_done (exec_stepBoundary t s) ?_
    rw [creates]
    exact ⟨⟨st, step, number.trans (kept.nextStep t), unstarted⟩, fun begun on_time => (due begun on_time).trans planned.now,
      (kept.trans planned).nextStep t⟩
  case start =>
    intro redo committing recorded test
    refine ⟨fun unpaced step => ?_, fun st step unstarted => ?_⟩
    · obtain ⟨⟨st, created, number, _⟩, planned⟩ := createStep_creates r run
      obtain ⟨⟨st', step', origin⟩, posted, frames, vtiles⟩ := prepared_beginStep_starts r.begun created
      simp only [Step.origin, Prod.mk.injEq] at origin
      obtain ⟨number', _, _, started⟩ := origin
      rw [planned.runVtiles t, planned.runDecl t] at vtiles
      refine completes_of_done (exec_stepStart t s) ?_
      rw [stepStart_fresh run runs barrier alone up redo committing recorded test unpaced step replay free latch room]
      exact ⟨⟨st', step', number'.trans number, started⟩, posted, frames, vtiles⟩
    · obtain ⟨⟨st', step', origin⟩, _⟩ := prepared_beginStep_starts r.begun ((stepOf_of_run run).trans step)
      simp only [Step.origin, Prod.mk.injEq] at origin
      obtain ⟨number, manifest, hash, started⟩ := origin
      refine completes_of_done (exec_stepStart t s) ?_
      rw [stepStart_created run runs barrier alone up redo committing recorded test step unstarted]
      exact ⟨st', step', number, started, manifest, hash⟩
  case phase =>
    intro t s r st cycles far p run step started decl
    refine ⟨fun halted committing recorded kind pair more => ?_, fun last => ?_⟩
    · obtain ⟨g, n, ends⟩ := phaseEnd_appends run step started decl halted committing recorded kind pair more cycles far
      refine completes_of_done (exec_phaseEnd t cycles far s) ?_
      rw [ends, modStep_stepOf, show ({ s.dev with fresh := n } : Device).stepOf t = some st from (stepOf_of_run run).trans step]
      exact ⟨⟨_, g, rfl, rfl, rfl, by simp [Option.any_eq_true]⟩, rfl⟩
    · rw [exec_phaseEnd, phaseEnd_past_last run step decl last]
      rfl
  case stopPoint =>
    intro c s served
    have accepted := acceptCall_tenants c s.dev
    have serves : exec (.replayContinue c) s = done s (replayContinue c (acceptCall c s.dev)) := by
      rw [exec_replayContinue, runFw_served served]
    refine ⟨fun runs halted => completes_of_done serves ?_, fun elsewhere => completes_of_done serves ?_⟩
    · rw [replayContinue_halted ((running_of_tenants accepted _).trans runs) ((atStopPoint_of_tenants accepted _).trans halted)]
      exact ⟨finish_answered c .ok 0 _, (atStopPoint_of_tenants (finish_tenants c .ok 0 _) _).trans (modStep_unhalts c.tenant _),
        (finish_aside c .ok 0 _).scratch⟩
    · rw [replayContinue_elsewhere ((atStopPoint_of_tenants accepted _).trans elsewhere)]
      exact ⟨badParam_answered c rsnStepSequence _, badParam_tenants c rsnStepSequence _⟩
  case abort =>
    intro c s served opcode elsewhere named
    have other : runOpcode c.opcode = false := by simp [runOpcode, opcode]
    have posted : ∀ result, (post c .ok 0 result false (latchNamed c (acceptCall c s.dev))).tenants = s.dev.tenants :=
      fun result => post_tenants c .ok 0 result false _
    refine completes_of_done (exec_stepAbort c s) ?_
    rw [runEngine_served served, stepAbort_eq, endHalted_elsewhere ((atStopPoint_of_tenants (posted _) _).trans elsewhere),
      namedCount_acceptCall other]
    refine ⟨post_answered c .ok 0 _ _, fun m x mem names => ?_, posted _⟩
    have latched := mem_started_of_post mem
    rw [latchNamed_started] at latched
    obtain ⟨y, _, rfl⟩ := List.mem_map.mp latched
    exact latchStarted_latched names

end Sys2Proof.Machine
end

section
/-! SUPPORT. How TENANT_SHARES with no waiting commit and no run applies its share set and completes (R195, R200). -/

set_option Elab.async false

namespace Sys2Proof.Machine

open Sys2Proof

theorem betweenSteps_of_not_running {d : Device} {t : TenantId} (idle : running d t = false) : betweenSteps d t = true := by
  simp [betweenSteps, idle]

theorem foldl_commits {α : Type} {f : Device → α → Device} (h : ∀ d x, (f d x).commits = d.commits) (l : List α) (d : Device) :
    (l.foldl f d).commits = d.commits :=
  List.foldlRecOn (motive := fun e => e.commits = d.commits) l f rfl fun e same x _ => (h e x).trans same

theorem applyShares_commits (s : Nat × List (BitVec 64)) (d : Device) : (applyShares s d).commits = d.commits := by
  unfold applyShares
  extract_lets d1 d2
  have shared : d1.commits = d.commits := foldl_commits (fun d t => modTenant_commits t _ d) _ d
  have credited : d2.commits = d1.commits := foldl_commits (fun d p => modPort_commits p _ d) _ d1
  exact (journal_aside kApplied 0 { d2 with stagedShares := none }).commits.trans (credited.trans shared)

/-- The only commit, with nothing left to apply and another OPCODE than TENANT_SHARES, completes with the result of CONFIG_COMMIT. -/
theorem settleCommits_settled {d : Device} {k : Commit} (only : d.commits = [k]) (scopes : k.scopes = []) (shares : k.shares = none)
    (applied : k.deferred = false) (other : k.call.opcode ≠ 0x12) :
    settleCommits d = post k.call .ok 0 (commitResult k { d with commits := [] }) false { d with commits := [] } := by
  simp [settleCommits, only, scopes, shares, applied, other]

/-- The share set of the only commit applies at once while every tenant is between steps; a commit with a deadline holds none. -/
theorem tryShares_only {d : Device} {k : Commit} {s : Nat × List (BitVec 64)} (only : d.commits = [k]) (shares : k.shares = some s)
    (between : ∀ t, betweenSteps d t = true) (deadline : k.deadline.isNone = false) :
    tryShares d = settleCommits { applyShares s d with commits := [{ k with shares := none, applied := k.applied + 1 }] } := by
  have free : allTenants.filter (drainHolds d) = [] := by simp [drainHolds, only, deadline]
  simp [tryShares, only, shares, between, free, applyShares_commits]

/-- A valid share set without FORCE_DRAIN, no waiting commit and no run: an entry with another OPCODE than TENANT_SHARES completes
with the result of CONFIG_COMMIT. -/
theorem tenantShares_of_other_opcode {c : Call} {d : Device}
    (valid : sharesOk ([2, 3, 4, 5].map fun i => (c.words[i]?.getD 0 : BitVec 64)) = true) (commits : d.commits = [])
    (idle : ∀ t, running d t = false) (drain : c.flag 8 = false) (other : c.opcode ≠ 0x12) :
    ∃ k a, tenantShares c d = post c .ok 0 (commitResult k a) false a := by
  unfold tenantShares
  extract_lets ws s d1
  have none : d1.commits = [] := (journal_aside kStaged 0 _).commits.trans commits
  have between (l : List Commit) (t : TenantId) : betweenSteps { d1 with commits := l } t = true :=
    betweenSteps_of_not_running ((running_of_tenants (journal_tenants kStaged 0 _) t).trans (idle t))
  rw [if_neg (by rw [show sharesOk ws = true from valid]; decide), if_neg (by simp [commits]), none, List.nil_append,
    tryShares_only rfl rfl (between _) (by simp [commitDeadline, drain]), settleCommits_settled rfl rfl rfl rfl other]
  exact ⟨_, _, rfl⟩

end Sys2Proof.Machine
end

section
/-! CERTIFICATE. TENANT_SHARES, fences, deferred commits, epochs and planned moves (R200, R218, R224, R226, R244, R635): refuted. The
statement leaves the OPCODE of the entry open, and `settleCommits` chooses the result bytes of a completion by it. -/

set_option Elab.async false

namespace Sys2Proof.Machine

open Sys2Proof

theorem exec_tenantShares (c : Call) (s : State) : exec (.tenantShares c) s = done s (runFw c (tenantShares c) s.dev) := rfl

/-- The main firmware serves mailboxes, and nothing has happened since the reset. -/
def freshlyBooted : State :=
  { pending := [], dev := { ({} : Device) with boot := { ({} : Boot) with inReset := false, stage := .main, mbxReady := true } } }

/-- An entry on mailbox 8 with the OPCODE of CONFIG_COMMIT and every other field zero. -/
def zeroCommit : Call := { mbx := 8, words := (Vector.replicate 8 0).set 0 0x71 }

theorem zeroCommit_served : Served zeroCommit freshlyBooted.dev := by
  unfold Served
  decide +kernel

/-- Refutes O10: the first clause leaves the OPCODE of the entry open. `zeroCommit` is served with a valid share set, no waiting
commit and no run, and completes with the 16 result bytes of CONFIG_COMMIT where the clause states none. -/
theorem not_sharesFencesAndEpochsTakeEffect : ¬ Obligations.SharesFencesAndEpochsTakeEffect := by
  unfold Obligations.SharesFencesAndEpochsTakeEffect
  rintro ⟨shares, -⟩
  have valid : sharesOk ([2, 3, 4, 5].map fun i => (zeroCommit.words[i]?.getD 0 : BitVec 64)) = true := by decide +kernel
  have idle : ∀ t, running freshlyBooted.dev t = false := by decide +kernel
  obtain ⟨k, a, posts⟩ := tenantShares_of_other_opcode (d := acceptCall zeroCommit freshlyBooted.dev) valid rfl
    (fun t => (running_of_tenants (acceptCall_tenants _ _) t).trans (idle t)) (by decide) (by decide)
  obtain ⟨t, runs, -, ⟨x, last, -, -, -, empty, -⟩, -⟩ := shares zeroCommit freshlyBooted zeroCommit_served valid rfl idle
  obtain ⟨y, posted, -, -, -, full, -⟩ := post_answered zeroCommit .ok 0 (commitResult k a) a
  rw [exec_tenantShares, runFw_served zeroCommit_served, posts] at runs
  cases runs
  obtain rfl : y = x := Option.some.inj (posted.symm.trans last)
  rw [full] at empty
  cases empty

end Sys2Proof.Machine
end

section
/-! SUPPORT. What events, records, the placer and planned moves leave of what the tenants hold, of the keys, the waiting commits and
the entropy source (R192, R216, R226, R268). -/

set_option Elab.async false

namespace Sys2Proof.Machine

open Sys2Proof

/-- What a tenant holds apart from its run and the switch of its epoch. -/
def Tenant.holdings (x : Tenant) : Tenant := { x with run := none, nextReady := false, movePending := false }

/-- Tenants with the same holdings agree in each part of them. -/
theorem Tenant.part_of_holdings {α : Type} {x y : Tenant} (same : x.holdings = y.holdings) (part : Tenant → α)
    (h : ∀ z, part z.holdings = part z := by exact fun _ => rfl) : part x = part y :=
  (h x).symm.trans ((congrArg part same).trans (h y))

/-- The second device has the waiting commits, the keys and the entropy source of the first, and a part of every tenant. -/
structure Keeps {α : Type} (part : Tenant → α) (a b : Device) : Prop where
  commits : b.commits = a.commits := by rfl
  keys : b.tiers.keys = a.tiers.keys := by rfl
  entropy : b.entropy = a.entropy := by rfl
  same : ∀ t : TenantId, part (b.tenant t) = part (a.tenant t) := by exact fun _ => rfl

section

variable {α : Type} {part : Tenant → α} {a b c : Device}

theorem Keeps.refl (a : Device) : Keeps part a a := {}

theorem Keeps.trans (h : Keeps part a b) (k : Keeps part b c) : Keeps part a c where
  commits := k.commits.trans h.commits
  keys := k.keys.trans h.keys
  entropy := k.entropy.trans h.entropy
  same t := (k.same t).trans (h.same t)

theorem Keeps.ite {p : Prop} [Decidable p] (h : Keeps part a b) (k : Keeps part a c) : Keeps part a (if p then b else c) := by
  split
  · exact h
  · exact k

theorem Keeps.foldl {β : Type} {f : Device → β → Device} (h : ∀ d x, Keeps part d (f d x)) (l : List β) (d : Device) :
    Keeps part d (l.foldl f d) :=
  List.foldlRecOn (motive := Keeps part d) l f (.refl d) fun e kept x _ => kept.trans (h e x)

theorem Aside.keeps (h : Aside a b) (k : b.tenants = a.tenants) : Keeps part a b where
  commits := h.commits
  keys := congrArg Tiers.keys h.tiers
  entropy := h.entropy
  same t := by rw [tenant_of_tenants k]

theorem modTenant_keeps {t : TenantId} {f : Tenant → Tenant} (d : Device) (h : ∀ x, part (f x) = part x := by exact fun _ => rfl) :
    Keeps part d (modTenant t f d) where
  same u := by
    rw [modTenant_tenant]
    split
    · exact h _
    · rfl

theorem post_keeps (c : Call) (st : Status) (reason : Nat) (result : List Byte) (more : Bool) (d : Device) :
    Keeps part d (post c st reason result more d) := (post_aside c st reason result more d).keeps (post_tenants _ _ _ _ _ d)

theorem finish_keeps (c : Call) (st : Status) (reason : Nat) (d : Device) : Keeps part d (finish c st reason d) :=
  post_keeps c st reason [] false d

theorem journal_keeps (kind inst : Nat) (d : Device) : Keeps part d (journal kind inst d) :=
  (journal_aside kind inst d).keeps (journal_tenants kind inst d)

theorem endCycle_keeps (d : Device) : Keeps part d (endCycle d) := (endCycle_aside d).keeps (endCycle_tenants d)

theorem react_keeps (s : SourceId) (n inst : Nat) (charge : Option TenantId) (d : Device) : Keeps part d (react s n inst charge d) :=
  (react_aside s n inst charge d).keeps (react_tenants s n inst charge d)

end

/-- What keeps the holdings keeps each part of them. -/
theorem Keeps.shares {a b : Device} (h : Keeps Tenant.holdings a b) : Keeps Tenant.shares a b where
  commits := h.commits
  keys := h.keys
  entropy := h.entropy
  same t := Tenant.part_of_holdings (h.same t) Tenant.shares

/-! ### Events and conditions (R643 to R646) -/

theorem modStep_keepsHoldings (t : TenantId) (f : Step → Step) (d : Device) : Keeps Tenant.holdings d (modStep t f d) :=
  modTenant_keeps d

theorem reactingEvent_keepsHoldings (s : SourceId) (insts : List Nat) (charge : Option TenantId) (d : Device) :
    Keeps Tenant.holdings d (reactingEvent s insts charge d) := by
  unfold reactingEvent
  extract_lets k n esc d1 d2 g d3 d4 d5
  have counted : Keeps Tenant.holdings d d2 := .ite {} {}
  have recorded : Keeps Tenant.holdings d2 d4 := {}
  have reacted : Keeps Tenant.holdings d4 d5 := .ite (react_keeps s _ _ charge d4) (.refl d4)
  have charged : Keeps Tenant.holdings d5 (chargeStep s charge d5) := by
    cases charge with
    | none => exact .refl d5
    | some t => exact modStep_keepsHoldings t _ d5
  exact ((counted.trans recorded).trans reacted).trans charged

theorem sourceEvent_keepsHoldings (s : SourceId) (insts : List Nat) (charge : Option TenantId) (d : Device) :
    Keeps Tenant.holdings d (sourceEvent s insts charge d) := by
  unfold sourceEvent
  refine .ite ?_ (.refl d)
  extract_lets cov open_ d1 d2
  have charged : Keeps Tenant.holdings d1 d2 := by
    cases charge with
    | none => exact .refl d1
    | some t => exact modStep_keepsHoldings t _ d1
  exact (Keeps.trans {} charged).trans (.ite (.refl d2) (reactingEvent_keepsHoldings s _ charge d2))

theorem condBegin_keepsHoldings (s : SourceId) (inst : Nat) (charge : Option TenantId) (d : Device) :
    Keeps Tenant.holdings d (condBegin s inst charge d) := by
  unfold condBegin
  refine .ite (.refl d) ?_
  extract_lets was g d1
  have present : Keeps Tenant.holdings d d1 := {}
  exact present.trans (.ite (endCycle_keeps d1) ((sourceEvent_keepsHoldings s _ charge d1).trans (endCycle_keeps _)))

theorem condEnd_keepsHoldings (s : SourceId) (inst : Nat) (d : Device) : Keeps Tenant.holdings d (condEnd s inst d) :=
  Keeps.trans {} (endCycle_keeps _)

theorem updateEdges_keepsHoldings (d : Device) : Keeps Tenant.holdings d (updateEdges d) :=
  .foldl (fun d _ => .ite (condBegin_keepsHoldings 39 _ _ d) (.ite (condEnd_keepsHoldings 39 _ d) (.refl d))) allTenants d

theorem updateCapacity_keepsHoldings (d : Device) : Keeps Tenant.holdings d (updateCapacity d) :=
  .ite (Keeps.trans {} (condBegin_keepsHoldings 39 0 none _)) (.ite (Keeps.trans {} (condEnd_keepsHoldings 39 0 _)) (.refl d))

/-! ### Records (R539, R545) -/

theorem writeRecord_keepsHoldings (kind tenant : Nat) (body : List Byte) (d : Device) :
    Keeps Tenant.holdings d (writeRecord kind tenant body d) := by
  unfold writeRecord putRecord
  dsimp only
  split
  · exact {}
  · exact Keeps.trans {} (condBegin_keepsHoldings 50 0 none _)

/-! ### The placer and planned moves (R220, R226, R244) -/

theorem startBuild_keepsHoldings (d : Device) : Keeps Tenant.holdings d (startBuild d) := by
  unfold startBuild
  split <;> exact {}

section

variable {d : Device} (none : d.commits = [])
include none

theorem settleCommits_of_none : settleCommits d = d := by
  simp only [settleCommits, none, List.filter_nil, List.foldl_nil]
  rw [← none]

theorem tryShares_of_none : tryShares d = d := by simp [tryShares, none]

/-- Planned moves with no waiting commit. -/
theorem plannedMove_keepsHoldings : Keeps Tenant.holdings d (plannedMove d) := by
  have free : allTenants.filter (drainHolds d) = [] := by simp [drainHolds, none]
  unfold plannedMove
  refine .ite ?_ (.refl d)
  unfold applyMoves
  extract_lets held moved d1 d2 d3 n d4 d5
  have fenced : Keeps Tenant.holdings d d1 := .foldl (fun _ _ => {}) _ d
  have mapped : Keeps Tenant.holdings d d2 := fenced.trans (journal_keeps kSiteMap 0 d1)
  have switched : Keeps Tenant.holdings d d3 := mapped.trans (.foldl (fun d _ => modTenant_keeps d) _ d2)
  have uncommitted : d4 = d3 := if_neg (by simp [switched.commits.trans none])
  have counted : Keeps Tenant.holdings d (updateCapacity (setCount .plannedPending 0 0 d4)) := by
    rw [uncommitted]
    exact switched.trans (Keeps.trans {} (updateCapacity_keepsHoldings _))
  have settled : d5 = updateCapacity (setCount .plannedPending 0 0 d4) := settleCommits_of_none (counted.commits.trans none)
  rw [show held = [] from free, settled]
  exact counted

end

end Sys2Proof.Machine
end

section
/-! SUPPORT. The end of a run, of a pair, of Strainer rows and of sensor rings leaves every tenant's shares, the keys, the entropy
source and, with none waiting, the commits (R192, R443, R551, R587, R623). -/

set_option Elab.async false

namespace Sys2Proof.Machine

open Sys2Proof

/-! ### Checkpoints and writes that waited (R551, R623) -/

theorem modMirror_keepsShares (t : TenantId) (f : Mirror → Mirror) (d : Device) : Keeps Tenant.shares d (modMirror t f d) :=
  modTenant_keeps d

theorem copyPage_keepsShares (v : VtileRef) (t : TenantId) (d : Device) : Keeps Tenant.shares d (copyPage v t d) := by
  unfold copyPage
  split
  · exact (modMirror_keepsShares t _ d).trans {}
  · exact .refl d

theorem spadWrite_keepsShares (v : VtileRef) (t : TenantId) (a : Nat) (bs : List Byte) (d : Device) :
    Keeps Tenant.shares d (spadWrite v t a bs d) := by
  have copied : Keeps Tenant.shares d (copyThrough v t a bs.length d) := by
    unfold copyThrough
    split
    · exact .refl d
    · exact .ite (.foldl (fun d _ => copyPage_keepsShares v t d) _ d) (.refl d)
  exact copied.trans {}

theorem regather_keepsShares (t : TenantId) (v : VtileRef) (base : Nat) (d : Device) : Keeps Tenant.shares d (regather t v base d) := by
  unfold regather gather
  extract_lets a lo vals slots d1
  have gathered : Keeps Tenant.shares d d1 := by
    unfold d1
    split <;> exact {}
  exact (gathered.trans (modTenant_keeps d1)).trans (spadWrite_keepsShares _ t _ _ _)

theorem restoreArea_keepsShares (t : TenantId) (m : Mirror) (n : Nat) (d : Device) : Keeps Tenant.shares d (restoreArea t m n d) := by
  unfold restoreArea
  split
  · split
    · exact .ite (.refl d) (Keeps.trans {} (regather_keepsShares t _ _ _))
    · exact .refl d
  · exact {}

theorem undoStopped_keepsShares (t : TenantId) (d : Device) : Keeps Tenant.shares d (undoStopped t d) := by
  unfold undoStopped
  extract_lets undo d1 d2
  have undone : Keeps Tenant.shares d d1 := modTenant_keeps d
  have restored : Keeps Tenant.shares d1 d2 := by
    unfold d2
    split
    · exact .foldl (fun d n => restoreArea_keepsShares t _ n d) _ d1
    · exact .refl d1
  exact (undone.trans restored).trans (modTenant_keeps d2)

theorem ckptDone_keepsShares (c : Call) (t : TenantId) (bs : List Byte) (slot : Nat) (d : Device) :
    Keeps Tenant.shares d (ckptDone c t bs slot d) :=
  ((writeRecord_keepsHoldings _ _ _ d).shares.trans {}).trans (post_keeps _ _ _ _ _ _)

theorem capture_keepsShares (c : Call) (t : TenantId) (d : Device) : Keeps Tenant.shares d (capture c t d) := by
  have refused : ∀ st, Keeps Tenant.shares d (finish c st 0 d) := fun st => finish_keeps c st 0 d
  unfold capture withOut
  refine .ite (.ite (refused _) ?_) (.ite (refused _) ?_)
  · split
    · exact (Keeps.ite (.refl d) {}).trans (ckptDone_keepsShares c t _ 0 _)
    · exact post_keeps _ _ _ _ _ d
    · exact post_keeps _ _ _ _ _ d
  · split
    · exact refused _
    · exact Keeps.trans {} (ckptDone_keepsShares c t _ _ _)

theorem serveCheckpoints_keepsShares (t : TenantId) (d : Device) : Keeps Tenant.shares d (serveCheckpoints t d) := by
  refine (modTenant_keeps d).trans (.foldl (fun d k => ?_) _ _)
  unfold captureStopped
  split
  · exact .ite (post_keeps _ _ _ _ _ d) ((undoStopped_keepsShares t d).trans (capture_keepsShares _ t _))
  · exact capture_keepsShares _ t d

theorem landBind_keepsShares (c : Call) (id : Nat) (bs : List Byte) (d : Device) : Keeps Tenant.shares d (landBind c id bs d) := by
  unfold landBind
  extract_lets d1 d2
  have written : Keeps Tenant.shares d d1 := .ite (.refl d) (((modTenant_keeps d).trans (modTenant_keeps _)).trans (modTenant_keeps _))
  have counted : Keeps Tenant.shares d1 d2 := by
    unfold d2
    split
    · exact .ite {} (.refl d1)
    · exact .refl d1
  exact ((written.trans counted).trans (modTenant_keeps d2)).trans (post_keeps _ _ _ _ _ _)

theorem landBinds_keepsShares (t : TenantId) (d : Device) : Keeps Tenant.shares d (landBinds t d) :=
  (modTenant_keeps d).trans (.foldl (fun d c => landBind_keepsShares c _ _ d) _ _)

/-! ### The end of a run (R29, R622) -/

theorem cutPulse_keepsShares (d : Device) : Keeps Tenant.shares d (cutPulse d) := by
  unfold cutPulse
  split <;> exact {}

theorem applyLater_keepsShares (d : Device) : Keeps Tenant.shares d (applyLater d) :=
  .ite {} (Keeps.trans {} (cutPulse_keepsShares _))

theorem postAnneal_keepsShares (t : TenantId) (r : Run) (st : Status) (reason : Nat) (aborted : Bool) (d : Device) :
    Keeps Tenant.shares d (postAnneal t r st reason aborted d) := by
  unfold postAnneal
  split <;> exact post_keeps _ _ _ _ _ d

section

variable {d : Device} (none : d.commits = [])
include none

theorem afterRun_keepsShares (t : TenantId) : Keeps Tenant.shares d (afterRun t d) := by
  unfold afterRun
  extract_lets d1 d2 d3
  have landed : Keeps Tenant.shares d (landBinds t d1) := (serveCheckpoints_keepsShares t d).trans (landBinds_keepsShares t d1)
  have unscoped : d2 = landBinds t d1 := if_neg (by simp [landed.commits.trans none])
  have later : Keeps Tenant.shares d2 d3 := .ite (.refl d2) ((cutPulse_keepsShares d2).trans (applyLater_keepsShares _))
  have ended : Keeps Tenant.shares d d3 := landed.trans (unscoped ▸ later)
  rw [tryShares_of_none (ended.commits.trans none)]
  exact ended

theorem endRun_keepsShares (t : TenantId) (st : RunState) : Keeps Tenant.shares d (endRun t st d) := by
  unfold endRun
  extract_lets swept d1
  have based : Keeps Tenant.shares d d1 := by
    unfold d1
    split
    · exact modTenant_keeps d
    · exact .refl d
  have stopped : ∀ e, Keeps Tenant.shares d e → Keeps Tenant.shares d (afterRun t e) := fun _ kept =>
    kept.trans (afterRun_keepsShares (kept.commits.trans none) t)
  exact stopped _ ((based.trans (modTenant_keeps d1)).trans (modTenant_keeps _))

theorem stopRun_keepsShares (t : TenantId) (st : Status) (reason : Nat) : Keeps Tenant.shares d (stopRun t st reason d) := by
  unfold stopRun
  split
  · exact .refl d
  next r _ =>
    refine .ite ?_ (.refl d)
    have ended : ∀ e, Keeps Tenant.shares d e → Keeps Tenant.shares d (endRun t .none e) := fun _ posted =>
      posted.trans (endRun_keepsShares (posted.commits.trans none) t .none)
    refine ended _ ?_
    split
    · exact postAnneal_keepsShares t r st reason false d
    · exact post_keeps _ _ _ _ _ d

end

/-! ### Pairs, Strainer rows and sensor rings (R443, R504, R587) -/

theorem endPair_keepsShares (t : TenantId) (d : Device) : Keeps Tenant.shares d (endPair t d) := by
  unfold endPair
  split
  · exact .refl d
  · exact (modTenant_keeps d).trans (post_keeps _ _ _ _ _ _)

theorem passSlot_keeps {α : Type} {part : Tenant → α} (cls unit : Nat) (ready : List Nat) (d : Device) :
    Keeps part d (passSlot cls unit ready d).2 := {}

theorem serveQueue_keepsShares (k : StrainerId) (n : Nat) (d : Device) : Keeps Tenant.shares d (serveQueue k n d) := by
  induction n generalizing d with
  | zero => exact .refl d
  | succ n ih =>
    unfold serveQueue
    extract_lets x ready
    refine .ite (.refl d) ?_
    have passed : Keeps Tenant.shares d (passSlot 5 k.val ready d).2 := passSlot_keeps 5 k.val ready d
    split
    next e slot =>
      rw [slot] at passed
      exact passed.trans (ih e)
    next u b e slot =>
      rw [slot] at passed
      split
      · exact passed
      next r _ =>
        extract_lets e1 e2
        have lent : Keeps Tenant.shares e e1 := .ite {} (.refl e)
        exact ((passed.trans lent).trans {}).trans (ih _)

theorem dropRows_keepsShares (t : TenantId) (d : Device) : Keeps Tenant.shares d (dropRows t d) :=
  .foldl (fun _ k => Keeps.trans {} (serveQueue_keepsShares k 512 _)) allStrainers d

theorem dropRing_keepsShares (i : ContextId) (d : Device) : Keeps Tenant.shares d (dropRing i d) := by
  unfold dropRing
  split
  · exact .refl d
  · exact modTenant_keeps d

end Sys2Proof.Machine
end

section
/-! SUPPORT. What TENANT_OPEN and TENANT_CLOSE make of the tenant that they name, of its keys and of the other tenants (R192, R195,
R216, R268, R296, R330). -/

set_option Elab.async false

namespace Sys2Proof.Machine

open Sys2Proof

/-! ### The keys of the tenants (R268) -/

theorem keyBit_getLsbD (t u : TenantId) : (1#4 <<< t.val).getLsbD u.val = decide (u = t) := by
  revert t u
  decide

theorem addKey_getLsbD (keys : BitVec 4) (t u : TenantId) :
    (keys ||| 1#4 <<< t.val).getLsbD u.val = (keys.getLsbD u.val || decide (u = t)) := by
  rw [BitVec.getLsbD_or, keyBit_getLsbD]

theorem dropKey_getLsbD_same (keys : BitVec 4) (t : TenantId) : (keys &&& ~~~(1#4 <<< t.val)).getLsbD t.val = false := by
  rw [BitVec.getLsbD_and, BitVec.getLsbD_not, keyBit_getLsbD]
  simp

/-! ### What refuses TENANT_OPEN (R192) -/

theorem openRefusal_of_tenants {a b : Device} (h : b.tenants = a.tenants) (c : Call) : openRefusal c b = openRefusal c a := by
  simp [openRefusal, tenant_of_tenants h]

theorem openRefusal_of_isOpen {c : Call} {d : Device} (isOpen : (d.tenant (namedTenant c)).isOpen = true) :
    openRefusal c d = some .busy := by
  simp [openRefusal, isOpen]

theorem openRefusal_status {c : Call} {d : Device} {st : Status} (refused : openRefusal c d = some st) :
    st = .busy ∨ st = .badParam ∨ st = .noResource := by
  unfold openRefusal at refused
  dsimp only at refused
  split at refused
  · exact .inl (Option.some.inj refused).symm
  · split at refused
    · exact .inr (.inl (Option.some.inj refused).symm)
    · split at refused
      · exact .inr (.inr (Option.some.inj refused).symm)
      · cases refused

theorem tenantOpen_refused {c : Call} {d : Device} {st : Status} (refused : openRefusal c d = some st) :
    tenantOpen c d = finish c st 0 d := by
  simp [tenantOpen, refused]

/-! ### The bits of the two keys (R330) -/

theorem serveEntropy_idle (n : Nat) {d : Device} (idle : d.entropy.waits = []) (fresh : d.entropy.reseedDue = false) :
    serveEntropy n d = d := by
  cases n <;> simp [serveEntropy, idle, fresh]

section

variable {c : Call} {d : Device} (ready : d.entropy.ready = true) (fresh : d.entropy.reseedDue = false) (test : underTest d 20 = false)
  (bits : bitsNeeded c ≤ d.entropy.pool.length)
include ready fresh test bits

/-- The oldest command that waits gets its bits. -/
theorem serveEntropy_first (n : Nat) {rest : List Call} (waits : d.entropy.waits = c :: rest) :
    serveEntropy (n + 1) d = serveEntropy n (finishEntropy c (modEntropy (fun e => { e with waits := rest }) d)) := by
  simp [serveEntropy, ready, fresh, test, waits, bits]

/-- A command that needs the DRBG gets its bits at once when none waits. -/
theorem askEntropy_at_once (idle : d.entropy.waits = []) : askEntropy c d = serveEntropy 1 (finishEntropy c d) := by
  have answers : d.entropy.up = true ∧ d.entropy.broken = false := by
    simp only [Entropy.ready, Bool.and_eq_true, Bool.not_eq_true'] at ready
    obtain ⟨⟨⟨up, _⟩, working⟩, runs⟩ := ready
    exact ⟨up, by simp [Entropy.broken, working, runs]⟩
  obtain ⟨up, working⟩ := answers
  have first := serveEntropy_first (d := modEntropy (fun e => { e with waits := e.waits ++ [c] }) d) (rest := []) ready fresh test bits 1
    (by simp [modEntropy, idle])
  have unqueued : { d with entropy := { d.entropy with waits := [] } } = d := by rw [← idle]
  calc askEntropy c d
    _ = serveEntropy 2 (modEntropy (fun e => { e with waits := e.waits ++ [c] }) d) := by
      simp [askEntropy, up, working, ready, idle, fresh, bits]
    _ = serveEntropy 1 (finishEntropy c { d with entropy := { d.entropy with waits := [] } }) := first
    _ = serveEntropy 1 (finishEntropy c d) := by rw [unqueued]

end

/-! ### The tenant that opens -/

/-- The tenant that TENANT_OPEN names on its rectangle, with its first epoch and its shares, and its two keys made. -/
def openTenant (c : Call) (d : Device) : Device :=
  let d := (freshBits (freshBits d).2).2
  modTenant (namedTenant c) (fun x =>
      { isOpen := true, rect := openRect c, strict := x.strict, shares := x.shares, epoch := firstEpoch d (openRect c) })
    { d with tiers := { d.tiers with keys := d.tiers.keys ||| (1#4 <<< (namedTenant c).val) } }

/-- The record of the opening is written and the edges are looked at. -/
def recordOpening (c : Call) (d : Device) : Device :=
  updateEdges (writeRecord recTenant (namedTenant c).val (tenantBody true (openRect c)) (resetTenantCounters (namedTenant c).val d))

theorem finishOpen_opens {c : Call} {d : Device} (allowed : openRefusal c d = none) :
    finishOpen c d = post c .ok 0 [BitVec.ofNat 8 (namedTenant c).val] false (recordOpening c (openTenant c d)) := by
  simp only [finishOpen, allowed]
  rfl

theorem recordOpening_keepsHoldings (c : Call) (d : Device) : Keeps Tenant.holdings d (recordOpening c d) :=
  (Keeps.trans {} (writeRecord_keepsHoldings _ _ _ _)).trans (updateEdges_keepsHoldings _)

theorem openTenant_tenant (c : Call) (d : Device) (t : TenantId) (other : t ≠ namedTenant c) :
    (openTenant c d).tenant t = d.tenant t := by
  rw [openTenant, modTenant_tenant, if_neg other.symm]
  rfl

theorem openTenant_tenant_named (c : Call) (d : Device) :
    (openTenant c d).tenant (namedTenant c) =
      { isOpen := true, rect := openRect c, strict := (d.tenant (namedTenant c)).strict, shares := (d.tenant (namedTenant c)).shares
        epoch := firstEpoch d (openRect c) } := by
  rw [openTenant, modTenant_tenant_same]
  rfl

theorem openTenant_keys (c : Call) (d : Device) : (openTenant c d).tiers.keys = d.tiers.keys ||| 1#4 <<< (namedTenant c).val := rfl

theorem completedOpening_keepsHoldings (c : Call) (d : Device) :
    Keeps Tenant.holdings (openTenant c d)
      (post c .ok 0 [BitVec.ofNat 8 (namedTenant c).val] false (recordOpening c (openTenant c d))) :=
  (recordOpening_keepsHoldings c _).trans (post_keeps c .ok 0 _ false _)

/-- With the bits of its two keys there, an allowed TENANT_OPEN completes at once. -/
theorem tenantOpen_opens {c : Call} {d : Device} (allowed : openRefusal c d = none) (opcode : c.opcode = 0x10)
    (ready : d.entropy.ready = true) (idle : d.entropy.waits = []) (fresh : d.entropy.reseedDue = false)
    (test : underTest d 20 = false) (bits : 2048 ≤ d.entropy.pool.length) :
    tenantOpen c d = post c .ok 0 [BitVec.ofNat 8 (namedTenant c).val] false (recordOpening c (openTenant c d)) := by
  have opened := completedOpening_keepsHoldings c d
  calc tenantOpen c d
    _ = askEntropy c d := by simp [tenantOpen, allowed]
    _ = serveEntropy 1 (finishEntropy c d) := askEntropy_at_once ready fresh test (by simpa [bitsNeeded, opcode] using bits) idle
    _ = serveEntropy 1 (finishOpen c d) := by simp [finishEntropy, opcode]
    _ = finishOpen c d := by
      rw [finishOpen_opens allowed]
      exact serveEntropy_idle 1 ((congrArg Entropy.waits opened.entropy).trans idle) (congrArg Entropy.reseedDue opened.entropy)
    _ = _ := finishOpen_opens allowed

/-! ### The tenant that closes -/

/-- The tenant's run, pair, Strainer rows and sensor contexts are over. -/
def endWork (t : TenantId) (d : Device) : Device :=
  let d := dropRows t (endPair t (stopRun t .flushed 0 d))
  (allContexts.filter fun c => !decide ((d.ctx c).state = .disabled) && decide (ctxTenant d c = t)).foldl
    (fun d c => modCtx c (fun _ => {}) (dropRing c d)) d

/-- The tenant's keys, triggers, vtiles and staged descriptors are gone. -/
def releaseTenant (t : TenantId) (d : Device) : Device :=
  { d with
    tiers := { d.tiers with keys := d.tiers.keys &&& ~~~(1#4 <<< t.val) }
    fabric := { d.fabric with triggers := d.fabric.triggers.filter fun y => !decide (y.2 = t.val) }
    vtiles := d.vtiles.filter fun v => !decide (tenantOfVtile d (v.id % 16384) = some t)
    intake := { d.intake with staged := d.intake.staged.filter fun y => !decide (y.2.tenant = t.val) } }

/-- They are gone, and the tenant has its shares and its STRICT bit alone. -/
def clearTenant (t : TenantId) (d : Device) : Device :=
  modTenant t (fun x => { strict := x.strict, shares := x.shares }) (condEnd 39 (1 + t.val) (releaseTenant t d))

/-- The placer gives up the build of an epoch for the tenant. -/
def dropBuild (t : TenantId) (d : Device) : Device :=
  let mine := match d.fabric.build with | some b => decide (b.tenant = t.val) | none => false
  if mine then bump .epochsAbandoned 0 { d with fabric := { d.fabric with build := none } } else d

/-- The record of the closing is written, and what waited for the tenant goes on. -/
def recordClosing (t : TenantId) (body : List Byte) (d : Device) : Device :=
  plannedMove (settleCommits (tryShares (startBuild (dropBuild t (writeRecord recTenant t.val body (updateEdges d))))))

theorem closeTenant_eq (t : TenantId) (d : Device) :
    ∃ body, closeTenant t d = recordClosing t body (clearTenant t (endWork t d)) := by
  unfold closeTenant
  extract_lets d1 d2 x rect d3 d4 src d5 d6
  have work : endWork t d = d2 := rfl
  have cleared : updateEdges (clearTenant t d2) = d6 := rfl
  rw [work]
  simp only [recordClosing, cleared]
  clear_value rect d6
  obtain ⟨x0, y0, x1, y1⟩ := rect
  exact ⟨_, rfl⟩

theorem clearTenant_tenant_same (t : TenantId) (d : Device) :
    ∃ strict, (clearTenant t d).tenant t = { strict := strict, shares := (d.tenant t).shares } := by
  have shares : ((condEnd 39 (1 + t.val) (releaseTenant t d)).tenant t).shares = (d.tenant t).shares :=
    (condEnd_keepsHoldings 39 (1 + t.val) (releaseTenant t d)).shares.same t
  rw [clearTenant, modTenant_tenant_same, shares]
  exact ⟨_, rfl⟩

theorem clearTenant_commits (t : TenantId) (d : Device) : (clearTenant t d).commits = d.commits := by
  rw [clearTenant, modTenant_commits, (condEnd_keepsHoldings 39 (1 + t.val) (releaseTenant t d)).commits]
  rfl

theorem clearTenant_keys (t : TenantId) (d : Device) : (clearTenant t d).tiers.keys = d.tiers.keys &&& ~~~(1#4 <<< t.val) := by
  rw [clearTenant, modTenant_tiers, (condEnd_keepsHoldings 39 (1 + t.val) (releaseTenant t d)).keys]
  rfl

theorem dropBuild_keepsHoldings (t : TenantId) (d : Device) : Keeps Tenant.holdings d (dropBuild t d) := .ite {} (.refl d)

section

variable {d : Device} (none : d.commits = [])
include none

theorem endWork_keepsShares (t : TenantId) : Keeps Tenant.shares d (endWork t d) := by
  unfold endWork
  extract_lets d1
  have finished : Keeps Tenant.shares d d1 :=
    ((stopRun_keepsShares none t .flushed 0).trans (endPair_keepsShares t _)).trans (dropRows_keepsShares t _)
  exact finished.trans (.foldl (fun d c => (dropRing_keepsShares c d).trans {}) _ d1)

theorem recordClosing_keepsHoldings (t : TenantId) (body : List Byte) : Keeps Tenant.holdings d (recordClosing t body d) := by
  have recorded := (updateEdges_keepsHoldings d).trans (writeRecord_keepsHoldings recTenant t.val body _)
  have built := (recorded.trans (dropBuild_keepsHoldings t _)).trans (startBuild_keepsHoldings _)
  have free := built.commits.trans none
  rw [recordClosing, tryShares_of_none free, settleCommits_of_none free]
  exact built.trans (plannedMove_keepsHoldings free)

/-- With no waiting commit, a closed tenant holds its shares and its STRICT bit alone, and its keys are gone. -/
theorem closeTenant_empties (t : TenantId) :
    (∃ strict, ((closeTenant t d).tenant t).holdings = ({ strict := strict, shares := (d.tenant t).shares } : Tenant).holdings) ∧
      (closeTenant t d).tiers.keys = d.tiers.keys &&& ~~~(1#4 <<< t.val) := by
  obtain ⟨body, closes⟩ := closeTenant_eq t d
  obtain ⟨strict, cleared⟩ := clearTenant_tenant_same t (endWork t d)
  have ended := endWork_keepsShares none t
  have closed := recordClosing_keepsHoldings ((clearTenant_commits t _).trans (ended.commits.trans none)) t body
  rw [closes, closed.same t, cleared, closed.keys, clearTenant_keys, ended.keys, ended.same t]
  exact ⟨⟨strict, rfl⟩, rfl⟩

end

theorem tenantClose_eq (c : Call) (d : Device) :
    tenantClose c d =
      if !(d.tenant (namedTenant c)).isOpen then finish c .notOwner 0 d
      else if running d (namedTenant c) ∧ ¬c.flag 8 then finish c .busy 0 d
      else finish c .ok 0 (closeTenant (namedTenant c) d) := rfl

theorem isOpen_of_tenantOfVtile {d : Device} {v : Nat} {t : TenantId} (holds : tenantOfVtile d v = some t) :
    (d.tenant t).isOpen = true := by
  have found := List.find?_some holds
  simp only [Bool.and_eq_true] at found
  obtain ⟨⟨⟨⟨isOpen, _⟩, _⟩, _⟩, _⟩ := found
  exact isOpen

end Sys2Proof.Machine
end

section
/-! CERTIFICATE. TENANT_OPEN opens a tenant with two keys on a free rectangle; TENANT_CLOSE leaves it empty (R192, R195, R216, R268,
R296). -/

set_option Elab.async false

namespace Sys2Proof.Machine

open Sys2Proof

theorem exec_tenantOpen (c : Call) (s : State) : exec (.tenantOpen c) s = done s (runFw c (tenantOpen c) s.dev) := rfl
theorem exec_tenantClose (c : Call) (s : State) : exec (.tenantClose c) s = done s (runFw c (tenantClose c) s.dev) := rfl

/-- Settles O27: an allowed TENANT_OPEN is `openTenant`, whose record and edges keep what the tenants hold; TENANT_CLOSE is
`closeTenant_empties`. -/
theorem tenantsOpenOnFreeRectanglesAndCloseEmpty : Obligations.TenantsOpenOnFreeRectanglesAndCloseEmpty := by
  unfold Obligations.TenantsOpenOnFreeRectanglesAndCloseEmpty
  refine ⟨?refused, ?opens, ?closes⟩
  case refused =>
    intro c s st served refused
    refine completes_of_done (exec_tenantOpen c s) ?_
    rw [runFw_served served, tenantOpen_refused ((openRefusal_of_tenants (acceptCall_tenants c s.dev) c).trans refused)]
    exact ⟨finish_answered c st 0 _, finish_tenants c st 0 _, openRefusal_status refused, fun isOpen =>
      Option.some.inj (refused.symm.trans (openRefusal_of_isOpen isOpen))⟩
  case opens =>
    intro c s served allowed opcode ready idle fresh test bits
    have allowed' := (openRefusal_of_tenants (acceptCall_tenants c s.dev) c).trans allowed
    refine completes_of_done (exec_tenantOpen c s) ?_
    rw [runFw_served served, tenantOpen_opens allowed' opcode ready idle fresh test bits]
    have opened := completedOpening_keepsHoldings c (acceptCall c s.dev)
    have named := opened.same (namedTenant c)
    rw [openTenant_tenant_named] at named
    refine ⟨post_answered c .ok 0 _ _, Tenant.part_of_holdings named Tenant.isOpen, Tenant.part_of_holdings named Tenant.rect,
      Tenant.part_of_holdings named Tenant.shares, Tenant.part_of_holdings named (·.epoch.number),
      Tenant.part_of_holdings named (·.epoch.bad), Tenant.part_of_holdings named Tenant.seed, ?keys, fun t other => ?others⟩
    case keys =>
      rw [opened.keys, openTenant_keys, addKey_getLsbD]
      simp
    case others =>
      have held := opened.same t
      rw [openTenant_tenant c _ t other] at held
      refine ⟨Tenant.part_of_holdings held Tenant.isOpen, Tenant.part_of_holdings held Tenant.tensors, ?_⟩
      rw [opened.keys, openTenant_keys, addKey_getLsbD]
      simp [other]
  case closes =>
    rintro c s t served rfl
    have serves : exec (.tenantClose c) s = done s (tenantClose c (acceptCall c s.dev)) := by
      rw [exec_tenantClose, runFw_served served]
    have accepted := tenant_of_tenants (acceptCall_tenants c s.dev) (namedTenant c)
    have ran := running_of_tenants (acceptCall_tenants c s.dev) (namedTenant c)
    refine ⟨fun closed => completes_of_done serves ?_, fun isOpen runs unforced => completes_of_done serves ?_,
      fun isOpen free none => completes_of_done serves ?_⟩
    · rw [tenantClose_eq, accepted, closed]
      exact ⟨finish_answered c .notOwner 0 _, finish_tenants c .notOwner 0 _⟩
    · rw [tenantClose_eq, accepted, isOpen, ran, runs, unforced]
      exact ⟨finish_answered c .busy 0 _, finish_tenants c .busy 0 _⟩
    · have forced : ¬(running s.dev (namedTenant c) = true ∧ ¬c.flag 8 = true) := by
        rcases free with free | free <;> simp [free]
      rw [tenantClose_eq, accepted, isOpen, ran, if_neg (by decide), if_neg forced]
      obtain ⟨⟨strict, empty⟩, keys⟩ := closeTenant_empties (d := acceptCall c s.dev) none (namedTenant c)
      have closed := finish_keeps (part := Tenant.holdings) c .ok 0 (closeTenant (namedTenant c) (acceptCall c s.dev))
      have named := (closed.same (namedTenant c)).trans empty
      have shut := Tenant.part_of_holdings named Tenant.isOpen
      refine ⟨finish_answered c .ok 0 _, shut, Tenant.part_of_holdings named Tenant.seed, Tenant.part_of_holdings named Tenant.packages,
        Tenant.part_of_holdings named Tenant.tensors, Tenant.part_of_holdings named Tenant.models,
        Tenant.part_of_holdings named Tenant.runState, Tenant.part_of_holdings named Tenant.shares, ?_, fun v holds => ?_⟩
      · rw [closed.keys, keys, dropKey_getLsbD_same]
      · exact absurd (isOpen_of_tenantOfVtile holds) (by simpa using shut)

end Sys2Proof.Machine
end

section
/-! SUPPORT. What PACKAGE_LOAD and PACKAGE_UNLOAD make of the tenant that they name: fresh handles, the tensors that a package declares,
and what the image and the models of a package leave alone (R229, R270, R503, R618, R619). -/

set_option Elab.async false

namespace Sys2Proof.Machine

open Sys2Proof

/-! ### Fresh handles (R619) -/

/-- A search that fails has met no candidate. -/
theorem firstFree_none {p : Nat → Bool} {a n : Nat} (h : firstFree p a n = none) : ∀ x ∈ List.range' a n, p x = false := by
  induction n generalizing a with
  | zero => simp
  | succ n ih =>
    rw [firstFree] at h
    split at h
    next => cases h
    next free =>
      simp only [List.range'_succ, List.mem_cons, forall_eq_or_imp]
      exact ⟨by simpa using free, ih h⟩

theorem firstFree_some {p : Nat → Bool} {a n x : Nat} (h : firstFree p a n = some x) : p x = true := by
  induction n generalizing a with
  | zero => cases h
  | succ n ih =>
    rw [firstFree] at h
    split at h
    next free => exact Option.some.inj h ▸ free
    next => exact ih h

/-- Among more candidates than are used one is free. -/
theorem firstFree_unused (used : List Nat) (a : Nat) :
    ∃ x, firstFree (fun h => !used.contains h) a (used.length + 1) = some x ∧ x ∉ used := by
  cases search : firstFree (fun h => !used.contains h) a (used.length + 1) with
  | some x => exact ⟨x, rfl, by simpa using firstFree_some search⟩
  | none =>
    have covered : List.range' a (used.length + 1) ⊆ used := fun x hx => by simpa using firstFree_none search x hx
    have short := (List.subperm_of_subset List.nodup_range' covered).length_le
    simp at short

theorem newHandle_unused (d : Device) : newHandle d ∉ usedHandles d := by
  obtain ⟨x, found, unused⟩ := firstFree_unused (usedHandles d) 1
  rw [newHandle, found]
  exact unused

theorem tenant_mem (d : Device) (t : TenantId) : d.tenant t ∈ d.tenants.toList := by simp [Device.tenant]

theorem handle_ne_newHandle (d : Device) (t : TenantId) :
    (∀ k ∈ (d.tenant t).packages, k.handle ≠ newHandle d) ∧ ∀ m ∈ (d.tenant t).models, m.handle ≠ newHandle d := by
  have unused := newHandle_unused d
  simp only [usedHandles, List.mem_flatMap, List.mem_append, List.mem_map, not_exists, not_and, not_or] at unused
  exact unused _ (tenant_mem d t)

/-! ### The tensors that a package declares (R229) -/

/-- In a list whose keys differ, a search by the key of an element finds it. -/
theorem find?_of_nodup_keys {α κ : Type} [DecidableEq κ] {key : α → κ} {l : List α} {y : α} (distinct : (l.map key).Nodup) (mem : y ∈ l) :
    l.find? (fun z => decide (key z = key y)) = some y := by
  obtain ⟨z, found⟩ : ∃ z, l.find? (fun z => decide (key z = key y)) = some z :=
    Option.isSome_iff_exists.mp (List.find?_isSome.mpr ⟨y, mem, decide_eq_true rfl⟩)
  have same : z = y := List.inj_on_of_nodup_map distinct (List.mem_of_find?_eq_some found) mem (by simpa using List.find?_some found)
  rw [found, same]

/-- A package that nothing refuses declares tensors under different ids, none of which the tenant has. -/
theorem loadRefusal_none_tensors {c : Call} {p : PackageDecl} {stored : Bool} {d : Device} (allowed : loadRefusal c p stored d = none) :
    (p.tensors.map (·.1)).Nodup ∧ ∀ y ∈ p.tensors, findTensor d c.tenant y.1 = none := by
  unfold loadRefusal at allowed
  dsimp only at allowed
  split at allowed
  next => cases allowed
  next valid =>
    simp only [Bool.or_eq_true, not_or] at valid
    obtain ⟨⟨⟨_, distinct⟩, _⟩, unused⟩ := valid
    exact ⟨by simpa using distinct, fun y hy => by simpa using List.any_eq_false.mp (Bool.eq_false_iff.mpr unused) _ (List.mem_map_of_mem hy)⟩

/-- A declared tensor is found under its id among those that a load adds. -/
theorem findTensor_declared {a b : Device} {t : TenantId} {h : Nat} {p : PackageDecl} {y : Nat × Nat × CarryMode × Nat}
    (adds : (b.tenant t).tensors = (a.tenant t).tensors ++ p.tensors.map (packageTensor h p)) (distinct : (p.tensors.map (·.1)).Nodup)
    (unused : findTensor a t y.1 = none) (mem : y ∈ p.tensors) : findTensor b t y.1 = some (packageTensor h p y) := by
  have declared : (p.tensors.map (packageTensor h p)).find? (fun x => decide (x.id = y.1)) = some (packageTensor h p y) := by
    rw [List.find?_map]
    exact congrArg (Option.map _) (find?_of_nodup_keys distinct mem)
  unfold findTensor at unused ⊢
  rw [adds, List.find?_append, unused, declared, Option.none_or]

/-! ### What the image and the models of a package leave alone -/

/-- The second device has the packages and the tensors of one tenant, the loads that wait and everything of the other tenants as in the
first. -/
structure KeepsHeld (t : TenantId) (a b : Device) : Prop where
  packages : (b.tenant t).packages = (a.tenant t).packages := by rfl
  tensors : (b.tenant t).tensors = (a.tenant t).tensors := by rfl
  others : ∀ u : TenantId, u ≠ t → b.tenant u = a.tenant u := by exact fun _ _ => rfl
  loads : b.loads = a.loads := by rfl

section

variable {t : TenantId} {a b c : Device}

theorem KeepsHeld.refl (a : Device) : KeepsHeld t a a := {}

theorem KeepsHeld.trans (h : KeepsHeld t a b) (k : KeepsHeld t b c) : KeepsHeld t a c where
  packages := k.packages.trans h.packages
  tensors := k.tensors.trans h.tensors
  others u other := (k.others u other).trans (h.others u other)
  loads := k.loads.trans h.loads

theorem KeepsHeld.ite {p : Prop} [Decidable p] (h : KeepsHeld t a b) (k : KeepsHeld t a c) : KeepsHeld t a (if p then b else c) := by
  split
  · exact h
  · exact k

theorem KeepsHeld.foldl {β : Type} {f : Device → β → Device} (h : ∀ d x, KeepsHeld t d (f d x)) (l : List β) (d : Device) :
    KeepsHeld t d (l.foldl f d) :=
  List.foldlRecOn (motive := KeepsHeld t d) l f (.refl d) fun e kept x _ => kept.trans (h e x)

end

theorem spadPut_keepsHeld (t : TenantId) (v : VtileRef) (a : Nat) (bs : List Byte) (d : Device) : KeepsHeld t d (spadPut v a bs d) := {}

theorem writeImage_keepsHeld (t : TenantId) (p : PackageDecl) (d : Device) : KeepsHeld t d (writeImage p d) :=
  .foldl (fun d _ => .ite (spadPut_keepsHeld t _ _ _ d) (.refl d)) _ d

theorem writeAreas_keepsHeld (t : TenantId) (s : Spread) (parts : List (List Nat)) (m : Model) (d : Device) :
    KeepsHeld t d (writeAreas s parts m d) :=
  .foldl (fun d ⟨_, _, _, _⟩ => .ite (spadPut_keepsHeld t _ _ _ d) (.refl d)) _ d

theorem addModel_keepsHeld (t : TenantId) (m : Model) (d : Device) :
    KeepsHeld t d (modTenant t (fun x => { x with models := x.models ++ [m] }) d) where
  packages := by simp
  tensors := by simp
  others u other := by rw [modTenant_tenant, if_neg other.symm]

theorem loadModels_keepsHeld (t : TenantId) (h : Nat) (p : PackageDecl) (d : Device) : KeepsHeld t d (loadModels t h p d) := by
  refine .foldl (fun d m => ?_) _ d
  split
  · exact .refl d
  · exact (addModel_keepsHeld t _ d).trans (writeAreas_keepsHeld t _ _ _ _)

@[simp] theorem post_loads (c : Call) (st : Status) (reason : Nat) (result : List Byte) (more : Bool) (d : Device) :
    (post c st reason result more d).loads = d.loads := by
  unfold post
  extract_lets r kr late d1 d2
  have counted : d1.loads = d.loads := by unfold d1; split <;> rfl
  have accepted : d2.loads = d1.loads := by unfold d2; split <;> [rfl; split] <;> rfl
  exact accepted.trans counted

/-! ### PACKAGE_LOAD (R229, R503) -/

/-- The second device is the first with a package loaded under a handle: the tenant holds it and the tensors that it declares, and no
other tenant has changed. -/
structure Loads (t : TenantId) (h : Nat) (p : PackageDecl) (digest : BitVec 384) (a b : Device) : Prop where
  package : ∃ k ∈ (b.tenant t).packages, k.handle = h ∧ k.decl = p ∧ k.digest = digest
  tensors : (b.tenant t).tensors = (a.tenant t).tensors ++ p.tensors.map (packageTensor h p)
  others : ∀ u : TenantId, u ≠ t → b.tenant u = a.tenant u
  loads : b.loads = a.loads

theorem Loads.keepsHeld {t : TenantId} {h : Nat} {p : PackageDecl} {digest : BitVec 384} {a b c : Device} (l : Loads t h p digest a b)
    (k : KeepsHeld t b c) : Loads t h p digest a c where
  package := k.packages ▸ l.package
  tensors := k.tensors.trans l.tensors
  others u other := (k.others u other).trans (l.others u other)
  loads := k.loads.trans l.loads

/-- A package from the host's buffers that nothing refuses is loaded under a new handle, and the command completes. -/
theorem doLoad_allowed {c : Call} {p : PackageDecl} {d : Device} (digest : BitVec 384) (allowed : loadRefusal c p false d = none) :
    ∃ e, Loads c.tenant (newHandle d) p digest d e ∧
      doLoad c p digest false d = post c .ok 0 (leBytes 4 (newHandle d) ++ leBytes 4 0 ++ (beOf 48 digest).take 16) false e := by
  unfold doLoad
  rw [allowed]
  refine ⟨_, ?_, rfl⟩
  refine Loads.keepsHeld ?_ ((writeImage_keepsHeld c.tenant p _).trans (loadModels_keepsHeld c.tenant _ p _))
  constructor
  case package => exact ⟨_, by rw [modTenant_tenant_same]; exact List.mem_append_right _ (List.mem_singleton_self _), rfl, rfl, rfl⟩
  case tensors => rw [modTenant_tenant_same]; rfl
  case others => exact fun u other => by rw [modTenant_tenant, if_neg other.symm]; rfl
  case loads => rfl

theorem Call.readBuf_ok {c : Call} {w : Fin 8} {n : Nat} (list : c.hasList w = true) (room : n ≤ c.room) (moves : c.dmaFails = false) :
    c.readBuf w n = .ok (fit n c.data) := by
  simp [Call.readBuf, list, moves, Nat.not_lt.mpr room]

/-- A driving package waits for no other, and with no load waiting its own is all that happens. -/
theorem packageLoad_driving {c : Call} {p : PackageDecl} {d : Device} (driving : c.flag 8 = true) (alone : (startLoad c p d).loads = []) :
    packageLoad c p d = startLoad c p d := by
  simp [packageLoad, driving, alone, serveLoads]

theorem startLoad_buffers {c : Call} {p : PackageDecl} {d : Device} (buffers : c.flag 9 = false) (count : field (c.w 2) 0 16 ≤ 4096)
    (list : c.hasList 2 = true) (moves : c.dmaFails = false) :
    startLoad c p d = doLoad c p (Config.packageDigest (fit c.room c.data)) false d := by
  rw [startLoad, buffers, if_neg Bool.false_ne_true, withBuf_ok count (Call.readBuf_ok list le_rfl moves)]

theorem startLoad_unstored {c : Call} {p : PackageDecl} {d : Device} (fromStore : c.flag 9 = true) (empty : d.tiers.t3.packages = []) :
    startLoad c p d = badParam c rsnUnknownHandle d := by
  simp [startLoad, fromStore, empty]

/-! ### PACKAGE_UNLOAD (R270) -/

theorem withPackage_loaded {c : Call} {h : Nat} {p : Package} {d : Device} (k : Package → Device → Device)
    (found : (d.tenant c.tenant).packages.find? (fun q => decide (q.handle = h)) = some p) (ready : p.ready = true) :
    withPackage c h k d = k p d := by
  simp [withPackage, found, ready]

/-- With FORGET the stored copy of a package is gone from tier 3. -/
def forgetCopy (c : Call) (p : Package) (d : Device) : Device :=
  if c.flag 8 then { d with tiers := { d.tiers with t3 := { d.tiers.t3 with
    packages := d.tiers.t3.packages.filter fun k => !(decide (k.tenant = c.tenant.val) && decide (k.digest = p.digest)) } } }
  else d

theorem forgetCopy_tenants (c : Call) (p : Package) (d : Device) : (forgetCopy c p d).tenants = d.tenants := ite_tenants rfl rfl

theorem forgetCopy_scratch (c : Call) (p : Package) (d : Device) : (forgetCopy c p d).scratch = d.scratch := by
  unfold forgetCopy
  split <;> rfl

theorem forgetCopy_kept {c : Call} (keep : c.flag 8 = false) (p : Package) (d : Device) : forgetCopy c p d = d := by
  simp [forgetCopy, keep]

theorem forgetCopy_gone {c : Call} {p : Package} {d : Device} (forget : c.flag 8 = true) :
    ∀ k ∈ (forgetCopy c p d).tiers.t3.packages, k.tenant ≠ c.tenant.val ∨ k.digest ≠ p.digest := by
  intro k hk
  rw [forgetCopy, if_pos forget] at hk
  simpa [Classical.or_iff_not_imp_left] using (List.mem_filter.mp hk).2

/-- The tenant's run in progress runs the package of a handle. -/
def packageInUse (d : Device) (t : TenantId) (h : Nat) : Bool :=
  match (d.tenant t).run with
  | some r => running d t && decide (r.package = some h)
  | none => false

theorem packageInUse_idle {d : Device} {t : TenantId} (idle : running d t = false) (h : Nat) : packageInUse d t h = false := by
  unfold packageInUse
  split
  · simp [idle]
  · rfl

theorem packageInUse_run {d : Device} {t : TenantId} {h : Nat} {r : Run} (run : (d.tenant t).run = some r) (uses : r.package = some h)
    (runs : running d t = true) : packageInUse d t h = true := by
  simp [packageInUse, run, uses, runs]

theorem packageInUse_of_tenants {a b : Device} (same : b.tenants = a.tenants) (t : TenantId) (h : Nat) :
    packageInUse b t h = packageInUse a t h := by
  simp [packageInUse, tenant_of_tenants same, running_of_tenants same]

/-- PACKAGE_UNLOAD of a loaded package answers BUSY, or takes it from its tenant. -/
theorem packageUnload_loaded {c : Call} {p : Package} {d : Device} (ready : p.ready = true)
    (found : (d.tenant c.tenant).packages.find? (fun q => decide (q.handle = field (c.w 1) 0 32)) = some p) :
    packageUnload c d =
      if packageInUse d c.tenant p.handle then finish c .busy 0 d
      else finish c .ok 0 (forgetCopy c p (removePackage c.tenant p.handle d)) :=
  withPackage_loaded _ found ready

end Sys2Proof.Machine
end

section
/-! CERTIFICATE. PACKAGE_LOAD answers a fresh handle with the tensors of its package; PACKAGE_UNLOAD takes both away (R229, R270, R503,
R619). -/

set_option Elab.async false

namespace Sys2Proof.Machine

open Sys2Proof

theorem exec_packageLoad (c : Call) (p : PackageDecl) (s : State) :
    exec (.packageLoad c p) s = done s (runFw c (packageLoad c p) s.dev) := rfl
theorem exec_packageUnload (c : Call) (s : State) : exec (.packageUnload c) s = done s (runFw c (packageUnload c) s.dev) := rfl

theorem loadRefusal_acceptCall (c : Call) (p : PackageDecl) (stored : Bool) (d : Device) :
    loadRefusal c p stored (acceptCall c d) = loadRefusal c p stored d := rfl
theorem newHandle_acceptCall (c : Call) (d : Device) : newHandle (acceptCall c d) = newHandle d := rfl

/-- Settles O24: the lowest free handle is fresh because fewer handles are used than candidates are tried, and what follows the entry of
the package touches scratchpads and models alone. -/
theorem packagesLoadUnderAFreshHandleAndLeave : Obligations.PackagesLoadUnderAFreshHandleAndLeave := by
  unfold Obligations.PackagesLoadUnderAFreshHandleAndLeave
  refine ⟨?loads, ?unstored, ?unloads⟩
  case loads =>
    intro c p s served driving buffers count list moves idle allowed
    obtain ⟨e, loaded, posts⟩ :=
      doLoad_allowed (Config.packageDigest (fit c.room c.data)) ((loadRefusal_acceptCall c p false s.dev).trans allowed)
    rw [newHandle_acceptCall] at loaded posts
    have starts := (startLoad_buffers buffers count list moves).trans posts
    have alone : (startLoad c p (acceptCall c s.dev)).loads = [] := by rw [starts, post_loads, loaded.loads, acceptCall_loads, idle]
    refine completes_of_done (exec_packageLoad c p s) ?_
    rw [runFw_served served, packageLoad_driving driving alone, starts]
    have after := tenant_of_tenants (post_tenants c .ok 0 (leBytes 4 (newHandle s.dev) ++ leBytes 4 0 ++
      (beOf 48 (Config.packageDigest (fit c.room c.data))).take 16) false e)
    obtain ⟨distinct, unused⟩ := loadRefusal_none_tensors allowed
    refine ⟨newHandle s.dev, handle_ne_newHandle s.dev, ?_, post_answered c .ok 0 _ e, fun y declared => ?_, fun t other => ?_⟩
    · rw [after]
      exact loaded.package
    · exact ⟨_, findTensor_declared ((congrArg Tenant.tensors (after c.tenant)).trans loaded.tensors) distinct (unused y declared) declared,
        rfl, rfl, rfl⟩
    · rw [after, loaded.others t other]
      rfl
  case unstored =>
    intro c p s served driving fromStore idle empty
    have starts : startLoad c p (acceptCall c s.dev) = badParam c rsnUnknownHandle (acceptCall c s.dev) := startLoad_unstored fromStore empty
    have alone : (startLoad c p (acceptCall c s.dev)).loads = [] := by
      rw [starts]
      exact (post_loads c .badParam rsnUnknownHandle [] false _).trans idle
    refine completes_of_done (exec_packageLoad c p s) ?_
    rw [runFw_served served, packageLoad_driving driving alone, starts]
    exact ⟨badParam_answered c _ _, badParam_tenants c _ _⟩
  case unloads =>
    intro c s p served held ready named
    have accepted := tenant_of_tenants (acceptCall_tenants c s.dev) c.tenant
    have uses := packageInUse_of_tenants (acceptCall_tenants c s.dev) c.tenant p.handle
    have found : ((acceptCall c s.dev).tenant c.tenant).packages.find? (fun q => decide (q.handle = field (c.w 1) 0 32)) = some p := by
      simp [accepted, held, named]
    refine ⟨fun idle => completes_of_done (exec_packageUnload c s) ?_, ?_⟩
    · rw [runFw_served served, packageUnload_loaded ready found, uses, packageInUse_idle idle, if_neg Bool.false_ne_true]
      have aside := finish_aside c .ok 0 (forgetCopy c p (removePackage c.tenant p.handle (acceptCall c s.dev)))
      have left := tenant_of_tenants ((finish_tenants c .ok 0 _).trans
        (forgetCopy_tenants c p (removePackage c.tenant p.handle (acceptCall c s.dev)))) c.tenant
      rw [removePackage, modTenant_tenant_same, accepted] at left
      refine ⟨finish_answered c .ok 0 _, (congrArg Tenant.packages left).trans ?_, congrArg Tenant.tensors left, fun forget => ?_,
        fun keep => ?_, ?_⟩
      · simp [held]
      · rw [aside.tiers]
        exact forgetCopy_gone forget
      · rw [aside.tiers, forgetCopy_kept keep]
        rfl
      · rw [aside.scratch, forgetCopy_scratch]
        rfl
    · rintro ⟨r, run, same⟩ runs
      refine completes_of_done (exec_packageUnload c s) ?_
      rw [runFw_served served, packageUnload_loaded ready found, uses, packageInUse_run run same runs, if_pos rfl]
      exact ⟨finish_answered c .busy 0 _, finish_tenants c .busy 0 _⟩

end Sys2Proof.Machine
end

section
/-! SUPPORT. What TENSOR_READ answers, and that a command has one outcome (R603, R611, R624). -/

set_option Elab.async false

namespace Sys2Proof.Machine

open Sys2Proof

theorem exec_tensorRead (c : Call) (s : State) : exec (.tensorRead c) s = done s (runFw c (tensorRead c) s.dev) := rfl

/-- A command has one outcome: two properties of its completion hold of one device. -/
theorem Completes.both {i : Instr} {s : State} {P Q : Device → Prop} (h : Completes i s P) (k : Completes i s Q) : ∃ d, P d ∧ Q d := by
  obtain ⟨t, runs, -, p⟩ := h
  obtain ⟨u, runs', -, q⟩ := k
  rw [runs] at runs'
  cases runs'
  exact ⟨t.dev, p, q⟩

/-- A command has one newest answer. -/
theorem Answered.result_unique {c : Call} {st st' : Status} {r r' : Nat} {bs bs' : List Byte} {d : Device}
    (h : Answered c st r bs d) (h' : Answered c st' r' bs' d) : bs = bs' := by
  obtain ⟨k, last, -, -, -, result, -⟩ := h
  obtain ⟨k', last', -, -, -, result', -⟩ := h'
  rw [← result, ← result', Option.some.inj (last.symm.trans last')]

theorem findTensor_of_tenants {a b : Device} (h : b.tenants = a.tenants) (t : TenantId) (id : Nat) : findTensor b t id = findTensor a t id := by
  rw [findTensor, findTensor, tenant_of_tenants h]

theorem withTensor_ready {c : Call} {id : Nat} {x : Tensor} {d : Device} (k : Tensor → Device → Device)
    (found : findTensor d c.tenant id = some x) (ready : x.ready = true) : withTensor c id k d = k x d := by
  simp [withTensor, found, ready]

/-- The bytes of a tensor of which nothing is lost are those that its memory holds. -/
theorem readFree_whole {x : Tensor} (whole : x.lost = []) (off n : Nat) (d : Device) : readFree x off n d = (x.bytes.readN off n, d) := by
  simp [readFree, Tensor.rangeLost, whole]

/-- A list with room takes the bytes, and no tenant changes. -/
theorem withOut_room {c : Call} {w : Fin 8} {bytes : List Byte} (room : bytes.length ≤ c.room) (count : field (c.w w) 0 16 ≤ 4096)
    (list : c.hasList w = true) (moves : c.dmaFails = false) (f : Device → Device) (d : Device) :
    ∃ e, e.tenants = d.tenants ∧ withOut c w bytes f d = f e :=
  ⟨_, by split <;> rfl, withOut_ok count (Call.readBuf_ok list room moves) f d⟩

theorem readResult_of_tenants {a b : Device} (h : b.tenants = a.tenants) (c : Call) (n : Nat) : readResult b c n = readResult a c n := by
  simp [readResult, lastCommitted, tenant_of_tenants h]

/-- TENSOR_READ of a whole tensor outside a stop point answers how many bytes it copied and the last committed step. -/
theorem tensorRead_completes {c : Call} {s : State} {x : Tensor} (served : Served c s.dev) (plain : c.flag 8 = false)
    (found : findTensor s.dev c.tenant (field (c.w 1) 0 32) = some x) (ready : x.ready = true)
    (inside : rangeOk (c.w 2) (c.w 3) x.size = true) (whole : x.lost = []) (room : c.w 3 ≤ c.room) (count : field (c.w 5) 0 16 ≤ 4096)
    (list : c.hasList 5 = true) (moves : c.dmaFails = false) (goes : atStopPoint s.dev c.tenant = false) :
    Completes (.tensorRead c) s (Answered c .ok 0 (readResult s.dev c (c.w 3))) := by
  have accepted := acceptCall_tenants c s.dev
  have found' := (findTensor_of_tenants accepted c.tenant _).trans found
  have goes' := (atStopPoint_of_tenants accepted c.tenant).trans goes
  have committed : (undoTensor (undoLog (acceptCall c s.dev) c.tenant) x).lost = [] := whole
  have length := Mem.readN_length (undoTensor (undoLog (acceptCall c s.dev) c.tenant) x).bytes (c.w 2) (c.w 3)
  obtain ⟨e, same, copies⟩ := withOut_room (length.trans_le room) count list moves
    (fun e => post c .ok 0 (readResult e c (c.w 3)) false e) (acceptCall c s.dev)
  refine completes_of_done (exec_tensorRead c s) ?_
  rw [runFw_served served, tensorRead, plain, if_neg Bool.false_ne_true, withTensor_ready _ found' ready]
  simp only [inside, goes', Bool.not_true, Bool.false_eq_true, if_false, readFree_whole committed, length]
  rw [copies, readResult_of_tenants (same.trans accepted)]
  exact post_answered c .ok 0 _ e

end Sys2Proof.Machine
end

section
/-! CERTIFICATE. TENSOR_CREATE, TENSOR_BIND, TENSOR_READ and RESIDENCY_HINT (R233, R552, R618, R619, R623, R624): refuted. The statement
takes the last committed step of TENSOR_READ for the one before the next step value, which differs before the first commit of a run
that begins above 0 (Table 15-9, R528). -/

set_option Elab.async false

namespace Sys2Proof.Machine

open Sys2Proof

/-- An entry on mailbox 0 for tenant 0, of the first words given and zeros. -/
def firstEntry (ws : List Nat) : Call := { mbx := 0, words := Vector.ofFn fun i => BitVec.ofNat 64 (ws.getD i.val 0) }

/-- The main firmware serves mailboxes, and tenant 0 has a seed, a package without tensors and a host tensor of 64 bytes. -/
def beforeRun : State :=
  { pending := []
    dev := modTenant 0 (fun _ => { isOpen := true, seed := some { value := 1, id := 2 }
                                   packages := [{ handle := 1, decl := { rect := (0, 0, 3, 3) }, digest := 0 }]
                                   tensors := [{ id := 2 ^ 31, size := 64 }] })
      { ({} : Device) with boot := { ({} : Boot) with inReset := false, stage := .main, mbxReady := true } } }

/-- STEP_RUN of the package under run id 1 with first step value 9. -/
def runFromNine : Call := firstEntry [0x30, 1, 1, 9]

/-- STEP_RUN has begun the run, and none of its steps is committed. -/
def begunAtNine : State := { pending := [], dev := runFw runFromNine (stepRun runFromNine) beforeRun.dev }

/-- One command leads from a module that serves mailboxes to the refuting state. -/
theorem stepRun_begunAtNine : exec (.stepRun runFromNine) beforeRun = .next begunAtNine := rfl

/-- TENSOR_READ of one byte of the host tensor, into a list with room for it. -/
def readOne : Call := { firstEntry [0x23, 2 ^ 31, 0, 1, 0x1000, 1] with room := 1 }

theorem readOne_served : Served readOne begunAtNine.dev := by
  unfold Served
  decide +kernel

/-- Refutes O25: STEP_RUN with first step value 9 has begun the run `begunAtNine`, and no step is committed. TENSOR_READ answers all ones
for the last committed step, where the third clause states 8, the next step value less one. -/
theorem not_hostTensorsAreCreatedWrittenAndReadAsCommitted : ¬ Obligations.HostTensorsAreCreatedWrittenAndReadAsCommitted := by
  unfold Obligations.HostTensorsAreCreatedWrittenAndReadAsCommitted
  rintro ⟨-, -, reads, -⟩
  have found : findTensor begunAtNine.dev readOne.tenant (field (readOne.w 1) 0 32) = some { id := 2 ^ 31, size := 64 } := by decide +kernel
  have goes : atStopPoint begunAtNine.dev readOne.tenant = false := by decide +kernel
  have next : (begunAtNine.dev.tenant readOne.tenant).nextStep = 9 := by decide +kernel
  have uncommitted : lastCommitted begunAtNine.dev readOne.tenant = 2 ^ 64 - 1 := by decide +kernel
  have claimed := reads readOne begunAtNine { id := 2 ^ 31, size := 64 } readOne_served (by decide) found rfl (by decide) rfl (by decide)
    (by decide) (by decide) (by decide) rfl goes
  obtain ⟨d, answered, -, stated, -⟩ := (tensorRead_completes readOne_served (by decide) found rfl (by decide) rfl (by decide) (by decide)
    (by decide) rfl goes).both claimed
  have same := answered.result_unique stated
  rw [readResult, uncommitted, next] at same
  exact absurd same (by decide)

end Sys2Proof.Machine
end

section
/-! SUPPORT. What the events of the Gutter leave: the instant, every sticky bit, and the counters that no event counts (R643 to R661). -/

set_option Elab.async false

namespace Sys2Proof.Machine

open Sys2Proof

/-- The counters that an event, its reaction or the end of its cycle may count. -/
def eventCounters : List Counter :=
  [.events, .shadowed, .escalations, .msixSent, .wakeAssertions, .startFails, .fallbacks, .trapsQueued, .wakeAbandoned,
   .pairAssertions, .pairFaultMs]

/-- The second device is at the instant of the first, has its values of a counter, and every sticky bit that is set in it. -/
structure KeepsTally (c : Counter) (a b : Device) : Prop where
  now : b.now = a.now := by rfl
  count : ∀ i, b.count c i = a.count c i := by exact fun _ => rfl
  sticky : ∀ n, a.gutter.sticky.getLsbD n = true → b.gutter.sticky.getLsbD n = true := by exact fun _ set => set

theorem KeepsTally.refl (c : Counter) (a : Device) : KeepsTally c a a := {}

theorem KeepsTally.trans {c : Counter} {a b e : Device} (h : KeepsTally c a b) (k : KeepsTally c b e) : KeepsTally c a e where
  now := k.now.trans h.now
  count i := (k.count i).trans (h.count i)
  sticky n set := k.sticky n (h.sticky n set)

theorem KeepsTally.ite {c : Counter} {a b e : Device} {p : Prop} [Decidable p] (h : KeepsTally c a b) (k : KeepsTally c a e) :
    KeepsTally c a (if p then b else e) := by
  split
  · exact h
  · exact k

theorem KeepsTally.foldl {c : Counter} {α : Type} {f : Device → α → Device} (h : ∀ d x, KeepsTally c d (f d x)) (l : List α)
    (d : Device) : KeepsTally c d (l.foldl f d) :=
  List.foldlRecOn (motive := KeepsTally c d) l f (.refl c d) fun e kept x _ => kept.trans (h e x)

theorem bumpBy_keepsTally {c e : Counter} (other : e ≠ c) (i k : Nat) (d : Device) : KeepsTally c d (bumpBy e i k d) where
  count j := by simp [bumpBy, setCount_count, other]

theorem bump_keepsTally {c e : Counter} (other : e ≠ c) (i : Nat) (d : Device) : KeepsTally c d (bump e i d) :=
  bumpBy_keepsTally other i 1 d

theorem modStep_keepsTally (c : Counter) (t : TenantId) (f : Step → Step) (d : Device) : KeepsTally c d (modStep t f d) := {}

theorem journal_keepsTally (c : Counter) (kind inst : Nat) (d : Device) : KeepsTally c d (journal kind inst d) := .ite {} {}

theorem startAttempt_keepsTally (c : Counter) (k : Slot) (d : Device) : KeepsTally c d (startAttempt k d) := by
  refine (journal_keepsTally c kAttempt k.index d).trans ?_
  cases k <;> exact {}

theorem requiet_keepsTally (c : Counter) (k : ClassId) (d : Device) : KeepsTally c d (requiet k d) := .ite (.ite {} {}) {}

theorem chargeStep_keepsTally (c : Counter) (s : SourceId) (charge : Option TenantId) (d : Device) :
    KeepsTally c d (chargeStep s charge d) := by
  cases charge <;> exact {}

section

variable {c : Counter} (quiet : c ∉ eventCounters)
include quiet

theorem countEvents_keepsTally {e : Counter} (i k : Nat) (d : Device) (event : e ∈ eventCounters := by decide) :
    KeepsTally c d (bumpBy e i k d) :=
  bumpBy_keepsTally (ne_of_mem_of_not_mem event quiet) i k d

theorem countEvent_keepsTally {e : Counter} (i : Nat) (d : Device) (event : e ∈ eventCounters := by decide) :
    KeepsTally c d (bump e i d) := countEvents_keepsTally quiet i 1 d event

/-! ### Messages, restarts and wakes -/

theorem wakeHost_keepsTally (d : Device) : KeepsTally c d (wakeHost d) := .ite (.trans {} (countEvent_keepsTally quiet _ _)) {}

theorem sendMsix_keepsTally (fn : FunctionId) (v : Fin 16) (d : Device) : KeepsTally c d (sendMsix fn v d) := by
  have held : ∀ m, KeepsTally c d (setMsixVec fn v m d) := fun _ => {}
  have sent : KeepsTally c d (msixSent fn v d) := (held _).trans ((countEvent_keepsTally quiet (e := .msixSent) _ _).trans {})
  unfold sendMsix
  refine .ite ((held _).trans (wakeHost_keepsTally quiet _)) ?_
  split
  · exact .ite (held _) sent
  · exact sent

theorem announceState_keepsTally (d : Device) : KeepsTally c d (announceState d) :=
  (sendMsix_keepsTally quiet 0 10 d).trans (.foldl (fun d _ => sendMsix_keepsTally quiet _ _ d) _ _)

theorem passOver_keepsTally (k : Slot) (d : Device) : KeepsTally c d (passOver k d) := by
  unfold passOver
  extract_lets d1 b u d2
  have marked : KeepsTally c d d2 := by
    cases k <;> exact {}
  have counted := marked.trans (countEvent_keepsTally quiet (e := .fallbacks) 0 d2)
  exact (counted.trans (journal_keepsTally c kSlots 0 _)).trans (journal_keepsTally c kUpdate 0 _)

theorem chooseSlot_keepsTally (d : Device) : KeepsTally c d (chooseSlot d).2 := by
  unfold chooseSlot
  split
  · exact .refl c d
  · split
    · exact .refl c d
    · exact passOver_keepsTally quiet _ d

theorem kettleDown_keepsTally (d : Device) : KeepsTally c d (kettleDown d) := by
  have failed : KeepsTally c d (failStart d) := .ite (countEvent_keepsTally quiet _ d) {}
  unfold kettleDown
  exact (failed.trans {}).trans (announceState_keepsTally quiet _)

theorem restartSlot_keepsTally (d : Device) : KeepsTally c d (restartSlot d) := by
  have chosen := chooseSlot_keepsTally quiet d
  unfold restartSlot
  refine .ite {} (.ite (startAttempt_keepsTally c _ d) ?_)
  split
  next k e slot =>
    rw [slot] at chosen
    exact (chosen.trans {}).trans (startAttempt_keepsTally c k _)
  next e slot =>
    rw [slot] at chosen
    exact chosen.trans {}

theorem wakeUp_keepsTally (d : Device) : KeepsTally c d (wakeUp d) := by
  have ended : KeepsTally c d (endIdle d.now d) := by
    unfold endIdle
    split <;> exact {}
  refine ended.trans ?_
  unfold wakeUp
  dsimp only
  split
  · exact (countEvent_keepsTally quiet (e := .wakeAbandoned) _ _).trans {}
  · exact .ite {} {}

/-! ### Reactions and the end of a cycle (R650, R656, R665) -/

theorem beginBlockReset_keepsTally (b : Block) (k : ClassId) (d : Device) : KeepsTally c d (beginBlockReset b k d) := by
  unfold beginBlockReset
  extract_lets w g d1
  have opened : KeepsTally c d d1 := {}
  exact opened.trans (.ite ((kettleDown_keepsTally quiet d1).trans (restartSlot_keepsTally quiet _)) (.refl c d1))

theorem reactMessage_keepsTally (k : ClassId) (charge : Option TenantId) (d : Device) : KeepsTally c d (reactMessage k charge d) := by
  unfold reactMessage
  refine (sendMsix_keepsTally quiet 0 9 d).trans ?_
  cases charge with
  | none => exact .refl c _
  | some t => exact .trans {} (sendMsix_keepsTally quiet _ _ _)

theorem reactTrap_keepsTally (s : SourceId) (d : Device) : KeepsTally c d (reactTrap s d) :=
  .ite (.ite {} (.trans {} (countEvent_keepsTally quiet _ _))) {}

theorem react_keepsTally (s : SourceId) (n inst : Nat) (charge : Option TenantId) (d : Device) :
    KeepsTally c d (react s n inst charge d) := by
  unfold react
  extract_lets k d1 d2 d3
  have message : KeepsTally c d d1 := reactMessage_keepsTally quiet k charge d
  have reset : KeepsTally c d1 d2 := by
    refine .ite ?_ (.refl c d1)
    split
    · exact beginBlockReset_keepsTally quiet _ k d1
    · exact .refl c d1
  have trap : KeepsTally c d2 d3 := .ite ((reactTrap_keepsTally quiet s d2).trans (wakeUp_keepsTally quiet _)) (.refl c d2)
  exact ((message.trans reset).trans trap).trans (.ite {} (.refl c d3))

theorem assertPair_keepsTally (d : Device) : KeepsTally c d (assertPair d) := by
  have counted := countEvent_keepsTally quiet (e := .pairAssertions) 0 d
  exact .ite {} (counted.trans {})

theorem releasePair_keepsTally (d : Device) : KeepsTally c d (releasePair d) := by
  have counted := countEvents_keepsTally quiet (e := .pairFaultMs) 0 ((d.now - d.gutter.pairSince) / ms) d
  exact .ite (counted.trans {}) {}

theorem evalPair_keepsTally (d : Device) : KeepsTally c d (evalPair d) :=
  .ite (assertPair_keepsTally quiet d) (.ite (releasePair_keepsTally quiet d) (.refl c d))

theorem endCycle_keepsTally (d : Device) : KeepsTally c d (endCycle d) :=
  (KeepsTally.foldl (fun d k => requiet_keepsTally c k d) _ d).trans (evalPair_keepsTally quiet _)

/-! ### Events (R643 to R645) -/

theorem reactingEvent_keepsTally (s : SourceId) (insts : List Nat) (charge : Option TenantId) (d : Device) :
    KeepsTally c d (reactingEvent s insts charge d) := by
  unfold reactingEvent
  extract_lets k n esc d1 d2 g d3 d4 d5
  have counted : KeepsTally c d d2 := (countEvents_keepsTally quiet _ _ d).trans (.ite (countEvent_keepsTally quiet _ d1) (.refl c d1))
  have recorded : KeepsTally c d2 d4 := {
    sticky := fun n set => by
      change (d2.gutter.sticky ||| 1#128 <<< s.val).getLsbD n = true
      rw [BitVec.getLsbD_or, set, Bool.true_or] }
  have reacted : KeepsTally c d4 d5 := .ite (react_keepsTally quiet s _ _ charge d4) (.refl c d4)
  exact ((counted.trans recorded).trans reacted).trans (chargeStep_keepsTally c s charge d5)

theorem occur_keepsTally (s : SourceId) (inst : Nat) (charge : Option TenantId) (d : Device) :
    KeepsTally c d (occur s inst charge d) := by
  refine KeepsTally.trans ?_ (endCycle_keepsTally quiet _)
  unfold sourceEvent
  refine .ite ?_ (.refl c d)
  extract_lets cov open_ d1 d2
  have shadowed : KeepsTally c d d1 := countEvents_keepsTally quiet _ _ d
  have charged : KeepsTally c d1 d2 := by
    cases charge <;> exact {}
  exact (shadowed.trans charged).trans (.ite (.refl c d2) (reactingEvent_keepsTally quiet s _ charge d2))

theorem chargeMore_keepsTally (s : SourceId) (t : TenantId) (d : Device) : KeepsTally c d (chargeMore s t d) :=
  .ite (.trans (.trans {} (chargeStep_keepsTally c s (some t) _)) (sendMsix_keepsTally quiet _ _ _)) {}

theorem occurFor_keepsTally (s : SourceId) (inst : Nat) (ts : List TenantId) (d : Device) : KeepsTally c d (occurFor s inst ts d) :=
  (occur_keepsTally quiet s inst ts.head? d).trans (.ite {} (.foldl (fun d t => chargeMore_keepsTally quiet s t d) _ _))

end

end Sys2Proof.Machine
end

section
/-! SUPPORT. What an event raises, and that an event charged to no tenant leaves the tenants alone (R643 to R650). -/

set_option Elab.async false

namespace Sys2Proof.Machine

open Sys2Proof

/-! ### Counting -/

theorem bump_counted (c : Counter) (i : Nat) (d : Device) : Counted c i d (bump c i d) := bumpBy_count c i 1 d

theorem Counted.trans_keepsTally {c : Counter} {i : Nat} {a b e : Device} (h : Counted c i a b) (k : KeepsTally c b e) : Counted c i a e :=
  (k.count i).trans h

theorem Counted.of_count {c : Counter} {i : Nat} {a b e : Device} (same : b.count c i = a.count c i) (h : Counted c i b e) :
    Counted c i a e := by
  rw [Counted, h, same]

/-! ### Raising -/

/-- The second device has the Gutter, the configuration and the span of the first: it takes an event as the first does. -/
structure KeepsGutter (a b : Device) : Prop where
  gutter : b.gutter = a.gutter := by rfl
  cfg : b.cfg = a.cfg := by rfl
  span : b.span = a.span := by rfl

theorem KeepsGutter.trans {a b e : Device} (h : KeepsGutter a b) (k : KeepsGutter b e) : KeepsGutter a e where
  gutter := k.gutter.trans h.gutter
  cfg := k.cfg.trans h.cfg
  span := k.span.trans h.span

theorem KeepsGutter.ite {a b e : Device} {p : Prop} [Decidable p] (h : KeepsGutter a b) (k : KeepsGutter a e) :
    KeepsGutter a (if p then b else e) := by
  split
  · exact h
  · exact k

theorem journal_keepsGutter (kind inst : Nat) (d : Device) : KeepsGutter d (journal kind inst d) := .ite {} {}

theorem Raised.trans_keepsTally {c : Counter} {src inst : Nat} {a b e : Device} (h : Raised src inst a b) (k : KeepsTally c b e) :
    Raised src inst a e :=
  fun init enabled bare => k.sticky src (h init enabled bare)

theorem srcEnabled_of_cfg {a b : Device} (h : b.cfg = a.cfg) (s : Nat) : srcEnabled b s = srcEnabled a s := by
  unfold srcEnabled cfgOr
  rw [h]

theorem shadowed_of_keepsGutter {a b : Device} (h : KeepsGutter a b) (s inst : Nat) : shadowed b s inst = shadowed a s inst := by
  unfold shadowed onlyThrough
  rw [h.gutter, h.span]

theorem occur_raised {a b : Device} (h : KeepsGutter a b) (s : SourceId) (inst : Nat) (charge : Option TenantId) :
    Raised s.val inst a (occur s inst charge b) := by
  intro init enabled bare
  have enabled' : srcEnabled b s.val = true := (srcEnabled_of_cfg h.cfg _).trans enabled
  have bare' : shadowed b s.val inst = false := (shadowed_of_keepsGutter h _ _).trans bare
  rw [(occur_records (h.gutter ▸ init) enabled' bare' charge).sticky, BitVec.getLsbD_or, srcBit_getLsbD]
  simp

theorem Raised.of_keepsGutter {src inst : Nat} {a b e : Device} (h : KeepsGutter a b) (k : Raised src inst b e) : Raised src inst a e :=
  fun init enabled bare => k (h.gutter ▸ init) ((srcEnabled_of_cfg h.cfg _).trans enabled) ((shadowed_of_keepsGutter h _ _).trans bare)

/-! ### Events that touch some tenants -/

theorem chargeMore_aside (s : SourceId) (t : TenantId) (d : Device) : Aside d (chargeMore s t d) :=
  .ite (((gutter_aside _ d).trans (chargeStep_aside s (some t) _)).trans (sendMsix_aside _ _ _)) (.refl d)

theorem occurFor_aside (s : SourceId) (inst : Nat) (ts : List TenantId) (d : Device) : Aside d (occurFor s inst ts d) :=
  (occur_aside s inst ts.head? d).trans (.ite (.refl _) (Aside.foldl _ (fun d t => chargeMore_aside s t d) _ _))

theorem occurFor_raised {a b : Device} (h : KeepsGutter a b) (s : SourceId) (inst : Nat) (ts : List TenantId) :
    Raised s.val inst a (occurFor s inst ts b) := by
  have quiet : Counter.poisonedLines ∉ eventCounters := by decide
  have charged : KeepsTally .poisonedLines (occur s inst ts.head? b) (occurFor s inst ts b) :=
    .ite {} (.foldl (fun d t => chargeMore_keepsTally quiet s t d) _ _)
  exact (occur_raised h s inst ts.head?).trans_keepsTally charged

/-! ### Events charged to no tenant -/

theorem reactingEvent_uncharged_tenants (s : SourceId) (insts : List Nat) (d : Device) :
    (reactingEvent s insts none d).tenants = d.tenants := by
  unfold reactingEvent
  extract_lets k n esc d1 d2 g d3 d4
  have recorded : d4.tenants = d.tenants := ite_tenants (a := bump .escalations s.val d1) rfl rfl
  exact (ite_tenants (react_tenants s _ _ none d4) rfl).trans recorded

@[simp] theorem occur_uncharged_tenants (s : SourceId) (inst : Nat) (d : Device) : (occur s inst none d).tenants = d.tenants := by
  refine (endCycle_tenants _).trans ?_
  unfold sourceEvent
  refine ite_tenants ?_ rfl
  extract_lets cov open_ d1 d2
  split
  · rfl
  · exact (reactingEvent_uncharged_tenants s open_ d2).trans rfl

@[simp] theorem occurFor_uncharged_tenants (s : SourceId) (inst : Nat) (d : Device) : (occurFor s inst [] d).tenants = d.tenants := by
  simp [occurFor]

end Sys2Proof.Machine
end

section
/-! SUPPORT. Tier devices: the slots of their controllers, the start and the end of a retirement, the loss of a device and a corrected
line (R199, R254, R256, R258, R259, R273, R279). -/

set_option Elab.async false

namespace Sys2Proof.Machine

open Sys2Proof

/-! ### The record of a device -/

@[simp] theorem tierDev_modDev (dev : TierDev) (f : MemDevice → MemDevice) (d : Device) :
    tierDev (modDev dev f d) dev = f (tierDev d dev) := by
  cases dev <;> simp [tierDev, modDev, vmod_get]

theorem tierDev_of_tiers {a b : Device} (h : b.tiers = a.tiers) (dev : TierDev) : tierDev b dev = tierDev a dev := by
  cases dev <;> simp [tierDev, h]

theorem modDev_keepsTally (c : Counter) (dev : TierDev) (f : MemDevice → MemDevice) (d : Device) : KeepsTally c d (modDev dev f d) := by
  cases dev <;> exact {}

theorem modDev_keepsGutter (dev : TierDev) (f : MemDevice → MemDevice) (d : Device) : KeepsGutter d (modDev dev f d) := by
  cases dev <;> exact {}

/-! ### A slot of the controller (R199) -/

/-- The second device has the tenants and the Gutter of the first, and its counters apart from those of borrowed slots. -/
structure UsesSlot (a b : Device) : Prop extends KeepsGutter a b where
  tenants : b.tenants = a.tenants := by rfl
  count : ∀ c i, c ≠ .borrowedSlots → b.count c i = a.count c i := by exact fun _ _ _ => rfl

theorem UsesSlot.trans {a b e : Device} (h : UsesSlot a b) (k : UsesSlot b e) : UsesSlot a e where
  toKeepsGutter := h.toKeepsGutter.trans k.toKeepsGutter
  tenants := k.tenants.trans h.tenants
  count c i other := (k.count c i other).trans (h.count c i other)

theorem passSlot_usesSlot (cls unit : Nat) (ready : List Nat) (d : Device) : UsesSlot d (passSlot cls unit ready d).2 := {}

theorem borrowSlot_usesSlot (i : Nat) (d : Device) : UsesSlot d (bump .borrowedSlots i d) where
  count _ _ other := bump_count_other _ _ _ _ _ fun same => other (congrArg Prod.fst same).symm

theorem takeSlot_usesSlot {cls unit : Nat} {t : TenantId} {ready : List Nat} {n : Nat} {d e : Device}
    (slot : takeSlot cls unit t ready n d = some e) : UsesSlot d e := by
  induction n generalizing d with
  | zero => cases slot
  | succ n ih =>
    have passed := passSlot_usesSlot cls unit ready d
    unfold takeSlot at slot
    split at slot
    next u b f user =>
      rw [user] at passed
      split at slot
      next =>
        obtain rfl := Option.some.inj slot
        refine passed.trans ?_
        split
        · exact borrowSlot_usesSlot _ f
        · exact {}
      next => exact passed.trans (ih slot)
    next f user =>
      rw [user] at passed
      exact passed.trans (ih slot)

theorem lineSlot_usesSlot {dev : TierDev} {t : TenantId} {others : List TenantId} {d e : Device}
    (slot : lineSlot dev t others d = some e) : UsesSlot d e := by
  cases dev <;>
  · simp only [lineSlot, useSlots, Option.bind_eq_some_iff, Option.some.injEq] at slot
    obtain ⟨f, taken, rfl⟩ := slot
    exact takeSlot_usesSlot taken

/-! ### Retirement (R254, R258, R273) -/

/-- The counter of what a device retires. -/
def retiredCounter : TierDev → Counter
  | .stack _ => .retiredPages
  | .package _ => .retiredRows

@[simp] theorem startRetire_tenants (dev : TierDev) (row : Nat) (d : Device) : (startRetire dev row d).tenants = d.tenants :=
  ite_tenants rfl (modDev_tenants dev _ d)

theorem startRetire_keepsTally (c : Counter) (dev : TierDev) (row : Nat) (d : Device) : KeepsTally c d (startRetire dev row d) :=
  .ite {} (modDev_keepsTally c dev _ d)

theorem startRetire_keepsGutter (dev : TierDev) (row : Nat) (d : Device) : KeepsGutter d (startRetire dev row d) :=
  .ite {} (modDev_keepsGutter dev _ d)

@[simp] theorem startRetire_poison (dev : TierDev) (row : Nat) (d : Device) :
    (tierDev (startRetire dev row d) dev).poison = (tierDev d dev).poison := by
  unfold startRetire
  dsimp only
  split
  · rfl
  · rw [tierDev_modDev]

/-- A page or row whose retirement has started is retired or being copied. -/
theorem startRetire_starts (dev : TierDev) (row : Nat) (d : Device) :
    row ∈ (tierDev (startRetire dev row d) dev).retired ∨ ∃ c ∈ (tierDev (startRetire dev row d) dev).copying, c.1 = row := by
  unfold startRetire
  dsimp only
  split
  next started => simpa using started
  next => exact .inr ⟨(row, d.now), by simp, rfl⟩

/-- The record of a device whose page or row has been retired, with the pages of it that take spares and the units that go. -/
def MemDevice.retire (pool row : Nat) (pages : List Nat) (m : MemDevice) : MemDevice :=
  let left := pool - m.spareUsed
  { m with
    retired := row :: m.retired, spareUsed := m.spareUsed + (pages.take left).length
    removed := m.removed ++ ((pages.drop left).map (· / 512)).eraseDups.filter fun u => !m.removed.contains u
    copying := m.copying.filter fun c => !decide (c.1 = row) }

theorem retire_eq (dev : TierDev) (row : Nat) (pages : List Nat) (d : Device) : retire dev row pages d =
    journal kCounters 0 (bump (retiredCounter dev) (devInst dev) (modDev dev (MemDevice.retire (sparePool dev) row pages) d)) := by
  cases dev <;> rfl

/-- What the retirement of a page or row does to its device, the counters and the tenants. -/
structure Retires (dev : TierDev) (row : Nat) (a b : Device) : Prop where
  retired : row ∈ (tierDev b dev).retired
  copied : ∀ c ∈ (tierDev b dev).copying, c.1 ≠ row
  counted : Counted (retiredCounter dev) (devInst dev) a b
  tenants : b.tenants = a.tenants
  tally : ∀ c, c ≠ retiredCounter dev → KeepsTally c a b

theorem retire_retires (dev : TierDev) (row : Nat) (pages : List Nat) (d : Device) : Retires dev row d (retire dev row pages d) := by
  rw [retire_eq]
  set e := modDev dev (MemDevice.retire (sparePool dev) row pages) d with changed
  have kept : ∀ c, KeepsTally c d e := fun c => modDev_keepsTally c dev _ d
  have recorded : tierDev (journal kCounters 0 (bump (retiredCounter dev) (devInst dev) e)) dev =
      (tierDev d dev).retire (sparePool dev) row pages :=
    (tierDev_of_tiers ((journal_aside _ _ _).tiers.trans (bump_aside _ _ e).tiers) dev).trans (tierDev_modDev dev _ d)
  refine ⟨?retired, ?copied, ?counted, ?tenants, fun c other => ?tally⟩
  case retired => simp [recorded, MemDevice.retire]
  case copied => simp [recorded, MemDevice.retire]
  case counted =>
    exact (Counted.of_count ((kept _).count _) (bump_counted _ _ e)).trans_keepsTally (journal_keepsTally _ _ _ _)
  case tenants => exact (journal_tenants _ _ _).trans (modDev_tenants dev _ d)
  case tally => exact ((kept c).trans (bump_keepsTally other.symm _ e)).trans (journal_keepsTally c _ _ _)

theorem retirementCopy_idle {dev : TierDev} {row : Nat} {d : Device} (idle : ∀ c ∈ (tierDev d dev).copying, c.1 ≠ row)
    (pages : List Nat) : retirementCopy dev row pages d = d := by
  refine if_neg fun started => ?_
  obtain ⟨c, mem, same⟩ := List.any_eq_true.mp started
  exact idle c mem (of_decide_eq_true same)

theorem retirementCopy_copying {dev : TierDev} {row : Nat} {c : Nat × Nat} {d : Device}
    (copying : (tierDev d dev).copying.find? (fun c => decide (c.1 = row)) = some c) (pages : List Nat) :
    retirementCopy dev row pages d = retire dev row pages d :=
  if_pos (List.any_eq_true.mpr ⟨c, List.mem_of_find?_eq_some copying, List.find?_some copying⟩)

/-! ### A device lost (R256, R260, R279) -/

/-- The loss of a device reported: TIER_STACK_LOST for the tenants that it touches, and the record of the health. -/
def reportLoss (dev : TierDev) (ts : List TenantId) (d : Device) : Device := journal kCounters 0 (occurFor 6 (devInst dev) ts d)

theorem reportLoss_aside (dev : TierDev) (ts : List TenantId) (d : Device) : Aside d (reportLoss dev ts d) :=
  (occurFor_aside 6 _ ts d).trans (journal_aside _ _ _)

/-- The record of a device that is removed from its tier. -/
def MemDevice.remove (m : MemDevice) : MemDevice := { m with health := .lost, copying := [] }

theorem loseDevice_eq (dev : TierDev) (ts : List TenantId) (d : Device) :
    loseDevice dev ts d = if (tierDev d dev).health = .lost then d else reportLoss dev ts (modDev dev MemDevice.remove d) := rfl

theorem loseDevice_keepsTally {c : Counter} (quiet : c ∉ eventCounters) (dev : TierDev) (ts : List TenantId) (d : Device) :
    KeepsTally c d (loseDevice dev ts d) :=
  .ite {} (((modDev_keepsTally c dev _ d).trans (occurFor_keepsTally quiet _ _ ts _)).trans (journal_keepsTally c _ _ _))

theorem loseDevice_tierDev (dev : TierDev) (ts : List TenantId) (d : Device) :
    tierDev (loseDevice dev ts d) dev = if (tierDev d dev).health = .lost then tierDev d dev else (tierDev d dev).remove := by
  rw [loseDevice_eq, apply_ite (tierDev · dev), tierDev_of_tiers (reportLoss_aside dev ts _).tiers, tierDev_modDev]

@[simp] theorem loseDevice_health (dev : TierDev) (ts : List TenantId) (d : Device) :
    (tierDev (loseDevice dev ts d) dev).health = .lost := by
  rw [loseDevice_tierDev]
  split
  · assumption
  · rfl

@[simp] theorem loseDevice_poison (dev : TierDev) (ts : List TenantId) (d : Device) :
    (tierDev (loseDevice dev ts d) dev).poison = (tierDev d dev).poison := by
  rw [loseDevice_tierDev]
  split <;> rfl

theorem loseDevice_tensors (dev : TierDev) (ts : List TenantId) (d : Device) (t : TenantId) :
    ((loseDevice dev ts d).tenant t).tensors = (d.tenant t).tensors := by
  rw [loseDevice_eq]
  split
  · rfl
  · rw [(reportLoss_aside dev ts _).tensors, tenant_of_tenants (modDev_tenants dev _ d)]

@[simp] theorem loseDevice_uncharged_tenants (dev : TierDev) (d : Device) : (loseDevice dev [] d).tenants = d.tenants :=
  ite_tenants rfl (((journal_tenants _ _ _).trans (occurFor_uncharged_tenants 6 _ _)).trans (modDev_tenants dev _ d))

theorem loseDevice_raised {dev : TierDev} {d : Device} (held : (tierDev d dev).health ≠ .lost) (ts : List TenantId) :
    Raised 6 (devInst dev) d (loseDevice dev ts d) := by
  rw [loseDevice_eq, if_neg held]
  exact (occurFor_raised (modDev_keepsGutter dev _ d) 6 _ ts).trans_keepsTally (journal_keepsTally .poisonedLines _ _ _)

theorem checkDevice_keepsTally {c : Counter} (quiet : c ∉ eventCounters) (dev : TierDev) (u : Bool) (d : Device) :
    KeepsTally c d (checkDevice dev u d) := .ite (loseDevice_keepsTally quiet dev [] d) {}

@[simp] theorem checkDevice_tenants (dev : TierDev) (u : Bool) (d : Device) : (checkDevice dev u d).tenants = d.tenants :=
  ite_tenants (loseDevice_uncharged_tenants dev d) rfl

@[simp] theorem checkDevice_poison (dev : TierDev) (u : Bool) (d : Device) :
    (tierDev (checkDevice dev u d) dev).poison = (tierDev d dev).poison := by
  unfold checkDevice
  extract_lets m lost
  cases lost
  · rfl
  · exact loseDevice_poison dev [] d

/-! ### A corrected line (R254, R258, R259) -/

/-- The counter of the corrections of a device. -/
def correctedCounter : TierDev → Counter
  | .stack _ => .t1Corrected
  | .package _ => .t2Corrected

theorem correctedCounter_quiet (dev : TierDev) : correctedCounter dev ∉ eventCounters := by
  cases dev <;> simp [correctedCounter, eventCounters]

theorem blameDevice_keepsTally {c : Counter} (quiet : c ∉ eventCounters) (dev : TierDev) (device row : Nat) (d : Device) :
    KeepsTally c d (blameDevice dev device row d) := by
  cases dev with
  | stack s => exact .refl c d
  | package p =>
    unfold blameDevice
    extract_lets e m rows f
    have blamed : KeepsTally c d e := modDev_keepsTally c _ _ d
    have failed : KeepsTally c e f := modDev_keepsTally c _ _ e
    have reported := (journal_keepsTally c kCounters 0 f).trans (occur_keepsTally quiet 5 p.val none _)
    exact blamed.trans (.ite ((failed.trans reported).trans (checkDevice_keepsTally quiet _ _ _)) (.refl c e))

@[simp] theorem blameDevice_tenants (dev : TierDev) (device row : Nat) (d : Device) :
    (blameDevice dev device row d).tenants = d.tenants := by
  cases dev with
  | stack s => rfl
  | package p => exact ite_tenants (by simp) (modDev_tenants _ _ d)

theorem chargeCorrected_aside (t : Option TenantId) (d : Device) : Aside d (chargeCorrected t d) := by
  cases t with
  | none => exact .refl d
  | some t => exact modStep_aside t _ d

theorem chargeCorrected_keepsTally (c : Counter) (t : Option TenantId) (d : Device) : KeepsTally c d (chargeCorrected t d) := by
  cases t <;> exact {}

/-- A controller correction counts for its device and changes no tensor. -/
theorem lineCorrected_counts (dev : TierDev) (device row : Nat) (t : Option TenantId) (d : Device) :
    Counted (correctedCounter dev) (devInst dev) d (lineCorrected dev device row t d) ∧
      ∀ u : TenantId, ((lineCorrected dev device row t d).tenant u).tensors = (d.tenant u).tensors := by
  unfold lineCorrected
  extract_lets d1 d2 d3
  have quiet := correctedCounter_quiet dev
  have counted : Counted (correctedCounter dev) (devInst dev) d d1 := by
    cases dev <;> exact (bump_counted _ _ d).trans_keepsTally (chargeCorrected_keepsTally _ t _)
  have noted : KeepsTally (correctedCounter dev) d1 d3 :=
    (modDev_keepsTally _ dev _ d1).trans (.ite (startRetire_keepsTally _ dev row d2) (.refl _ d2))
  have kept : d3.tenants = d1.tenants := (ite_tenants (startRetire_tenants dev row d2) rfl).trans (modDev_tenants dev _ d1)
  refine ⟨counted.trans_keepsTally (noted.trans (blameDevice_keepsTally quiet dev device row d3)), fun u => ?_⟩
  rw [tenant_of_tenants ((blameDevice_tenants dev device row d3).trans kept)]
  exact (chargeCorrected_aside t _).tensors u

end Sys2Proof.Machine
end

section
/-! SUPPORT. Uncorrectable lines and units of lost devices: poison, lost bytes, the source raised and the step invalidated (R256, R274
to R279). -/

set_option Elab.async false

namespace Sys2Proof.Machine

open Sys2Proof

/-! ### Lost ranges -/

/-- A tensor of which one more range is lost. -/
def Tensor.lose (off n : Nat) (x : Tensor) : Tensor := { x with lost := (off, n) :: x.lost }

theorem Tensor.rangeLost_lose {n : Nat} (some : 0 < n) (off : Nat) (x : Tensor) : (x.lose off n).rangeLost off n = true := by
  simp [Tensor.rangeLost, Tensor.lose, some]

theorem Tensor.rangeLost_of_subset {x y : Tensor} (more : x.lost ⊆ y.lost) {off n : Nat} (lost : x.rangeLost off n = true) :
    y.rangeLost off n = true := by
  obtain ⟨r, mem, hit⟩ := List.any_eq_true.mp lost
  exact List.any_eq_true.mpr ⟨r, more mem, hit⟩

theorem findTensor_of_tensors {a b : Device} {t : TenantId} (h : (b.tenant t).tensors = (a.tenant t).tensors) (id : Nat) :
    findTensor b t id = findTensor a t id := by
  simp [findTensor, h]

/-- A change of a tensor that keeps its id is found under that id, and leaves every other tensor. -/
theorem findTensor_modTensor {f : Tensor → Tensor} (keeps : ∀ x, (f x).id = x.id) (t u : TenantId) (id n : Nat) (d : Device) :
    findTensor (modTensor t id f d) u n = (findTensor d u n).map fun x => if t = u ∧ n = id then f x else x := by
  have ids : ∀ y : Tensor, (if y.id = id then f y else y).id = y.id := fun y => by
    split
    · exact keeps y
    · rfl
  unfold findTensor modTensor
  rw [modTenant_tenant]
  by_cases same : t = u
  · simp only [same, if_true, true_and, List.find?_map, Function.comp_def, ids]
    cases found : (d.tenant u).tensors.find? fun x => decide (x.id = n) with
    | none => rfl
    | some x =>
      have named : x.id = n := by simpa using List.find?_some found
      simp [named]
  · simp [same]

/-- Every tensor of the first device is in the second, in its mode and with its lost ranges. -/
def KeepsLosses (a b : Device) : Prop :=
  ∀ t id x, findTensor a t id = some x → ∃ y, findTensor b t id = some y ∧ y.mode = x.mode ∧ x.lost ⊆ y.lost

theorem KeepsLosses.of_tensors {a b : Device} (h : ∀ t : TenantId, (b.tenant t).tensors = (a.tenant t).tensors) : KeepsLosses a b :=
  fun t id x found => ⟨x, (findTensor_of_tensors (h t) id).trans found, rfl, List.Subset.refl _⟩

theorem modTensor_lose_keepsLosses (t : TenantId) (id off n : Nat) (d : Device) : KeepsLosses d (modTensor t id (Tensor.lose off n) d) := by
  intro u m x found
  rw [findTensor_modTensor (f := Tensor.lose off n) (fun _ => rfl), found]
  refine ⟨_, rfl, ?_⟩
  split
  · exact ⟨rfl, List.subset_cons_self _ _⟩
  · exact ⟨rfl, List.Subset.refl _⟩

/-! ### An uncorrectable line (R256, R274 to R277) -/

/-- The record of a poisoned line, by what it holds. -/
def poisonRecord (addr row : Nat) : Option TensorAt → PoisonRec
  | some o => { addr := addr, row := row, tenant := o.tenant.val, tensor := o.id, off := o.off / 64 * 64 }
  | none => { addr := addr, row := row, tenant := 4, tensor := 0, off := 0 }

theorem poisonRecord_addr (addr row : Nat) (own : Option TensorAt) : (poisonRecord addr row own).addr = addr := by
  cases own <;> rfl

/-- An uncorrectable line counted and poisoned, and the retirement of its page or row started. -/
def poisonLine (dev : TierDev) (addr row : Nat) (own : Option TensorAt) (d : Device) : Device :=
  startRetire dev row (modDev dev (fun m => { m with
    poison := poisonRecord addr row own :: m.poison.filter fun r => !decide (r.addr = addr)
    uncorrectable := (d.now, row) :: recentBy d hour m.uncorrectable }) (bump .poisonedLines (devInst dev) d))

/-- A line of a tensor lost, and the tier's source raised. -/
def loseBytes (dev : TierDev) (o : TensorAt) (d : Device) : Device :=
  occur (devSource dev).1 (devSource dev).2 (some o.tenant) (modTensor o.tenant o.id (Tensor.lose (o.off / 64 * 64) 64) d)

/-- What an uncorrectable line takes of the tensor that it held, and of the step that read it. -/
def loseLine (dev : TierDev) (own : Option TensorAt) (byStep : Bool) (d : Device) : Device :=
  match own with
  | none => d
  | some o =>
    match findTensor d o.tenant o.id with
    | none => d
    | some x =>
      if x.mode = .readOnly then d
      else if byStep then invalidate o.tenant 0x12 (some (devSource dev).1.val) (loseBytes dev o d) else loseBytes dev o d

theorem lineUncorrectable_eq (dev : TierDev) (addr row : Nat) (own : Option TensorAt) (byStep : Bool) (d : Device) :
    lineUncorrectable dev addr row own byStep d = checkDevice dev true (loseLine dev own byStep (poisonLine dev addr row own d)) := by
  cases own <;> rfl

section

variable (dev : TierDev) (addr row : Nat) (own : Option TensorAt) (byStep : Bool) (d : Device)

@[simp] theorem poisonLine_tenants : (poisonLine dev addr row own d).tenants = d.tenants := by simp [poisonLine]

theorem poisonLine_keepsGutter : KeepsGutter d (poisonLine dev addr row own d) :=
  (KeepsGutter.trans {} (modDev_keepsGutter dev _ (bump .poisonedLines (devInst dev) d))).trans (startRetire_keepsGutter dev row _)

theorem poisonLine_tally (c : Counter) : KeepsTally c (bump .poisonedLines (devInst dev) d) (poisonLine dev addr row own d) :=
  (modDev_keepsTally c dev _ _).trans (startRetire_keepsTally c dev row _)

theorem poisonLine_counted : Counted .poisonedLines (devInst dev) d (poisonLine dev addr row own d) :=
  (bump_counted _ _ d).trans_keepsTally (poisonLine_tally dev addr row own d _)

theorem poisonLine_poisons : ∃ p ∈ (tierDev (poisonLine dev addr row own d) dev).poison, p.addr = addr :=
  ⟨poisonRecord addr row own, by simp [poisonLine], poisonRecord_addr addr row own⟩

theorem invalidate_aside (t : TenantId) (reason : Nat) (src : Option Nat) : Aside d (invalidate t reason src d) := modStep_aside t _ d

theorem loseBytes_tiers (o : TensorAt) : (loseBytes dev o d).tiers = d.tiers := (occur_aside _ _ _ _).tiers.trans (modTensor_tiers _ _ _ d)

theorem loseLine_tiers : (loseLine dev own byStep d).tiers = d.tiers := by
  have lost := fun o => loseBytes_tiers dev d o
  unfold loseLine
  split
  · rfl
  · split
    · rfl
    · split
      · rfl
      · split
        · exact (invalidate_aside _ _ _ _).tiers.trans (lost _)
        · exact lost _

theorem invalidate_keepsTally (c : Counter) (t : TenantId) (reason : Nat) (src : Option Nat) : KeepsTally c d (invalidate t reason src d) :=
  modStep_keepsTally c t _ d

variable {c : Counter} (quiet : c ∉ eventCounters)
include quiet

theorem loseBytes_keepsTally (o : TensorAt) : KeepsTally c d (loseBytes dev o d) := by
  have lost : KeepsTally c d (modTensor o.tenant o.id (Tensor.lose (o.off / 64 * 64) 64) d) := {}
  exact lost.trans (occur_keepsTally quiet _ _ _ _)

theorem loseLine_keepsTally : KeepsTally c d (loseLine dev own byStep d) := by
  have lost := fun o => loseBytes_keepsTally dev d quiet o
  unfold loseLine
  split
  · exact .refl c d
  · split
    · exact .refl c d
    · exact .ite (.refl c d) (.ite ((lost _).trans (invalidate_keepsTally _ c _ _ _)) (lost _))

theorem lineUncorrectable_keepsTally (other : c ≠ .poisonedLines) : KeepsTally c d (lineUncorrectable dev addr row own byStep d) := by
  rw [lineUncorrectable_eq]
  have counted := bump_keepsTally other.symm (devInst dev) d
  have poisoned := counted.trans (poisonLine_tally dev addr row own d c)
  exact (poisoned.trans (loseLine_keepsTally dev own byStep _ quiet)).trans (checkDevice_keepsTally quiet dev true _)

end

/-- An uncorrectable line is counted and poisoned, whatever it held. -/
theorem lineUncorrectable_poisons (dev : TierDev) (addr row : Nat) (own : Option TensorAt) (byStep : Bool) (d : Device) :
    Counted .poisonedLines (devInst dev) d (lineUncorrectable dev addr row own byStep d) ∧
      ∃ p ∈ (tierDev (lineUncorrectable dev addr row own byStep d) dev).poison, p.addr = addr := by
  have quiet : Counter.poisonedLines ∉ eventCounters := by decide
  rw [lineUncorrectable_eq, checkDevice_poison, tierDev_of_tiers (loseLine_tiers dev own byStep _)]
  exact ⟨(poisonLine_counted dev addr row own d).trans_keepsTally
    ((loseLine_keepsTally dev own byStep _ quiet).trans (checkDevice_keepsTally quiet dev true _)), poisonLine_poisons dev addr row own d⟩

theorem lineUncorrectable_free_tenants (dev : TierDev) (addr row : Nat) (byStep : Bool) (d : Device) :
    (lineUncorrectable dev addr row none byStep d).tenants = d.tenants := by
  rw [lineUncorrectable_eq, checkDevice_tenants]
  exact poisonLine_tenants dev addr row none d

theorem invalidate_reason (t : TenantId) (reason : Nat) (src : Option Nat) (d : Device) {st : Step}
    (step : (invalidate t reason src d).stepOf t = some st) : st.reason.isSome = true := by
  rw [invalidate, modStep_stepOf, Option.map_eq_some_iff] at step
  obtain ⟨s, -, rfl⟩ := step
  cases s.reason <;> rfl

theorem loseLine_writable {o : TensorAt} {x : Tensor} {d : Device} (found : findTensor d o.tenant o.id = some x)
    (writable : x.mode ≠ .readOnly) (dev : TierDev) :
    loseLine dev (some o) true d = invalidate o.tenant 0x12 (some (devSource dev).1.val) (loseBytes dev o d) := by
  simp [loseLine, found, writable]

/-- The lost line of a tensor is found lost, with the rest of the tensor as it was. -/
theorem findTensor_loseBytes {o : TensorAt} {x : Tensor} {d : Device} (found : findTensor d o.tenant o.id = some x) (dev : TierDev) :
    findTensor (loseBytes dev o d) o.tenant o.id = some (x.lose (o.off / 64 * 64) 64) := by
  have raised := occur_aside (devSource dev).1 (devSource dev).2 (some o.tenant)
    (modTensor o.tenant o.id (Tensor.lose (o.off / 64 * 64) 64) d)
  rw [loseBytes, findTensor_of_tensors (raised.tensors o.tenant),
    findTensor_modTensor (f := Tensor.lose (o.off / 64 * 64) 64) (fun _ => rfl), found]
  simp

/-- A step that reads an uncorrectable line of a writable tensor raises the tier's source, finds the line lost and the rest of the tensor
as it was, and is invalidated. -/
theorem lineUncorrectable_invalidates {o : TensorAt} {x : Tensor} {d : Device} (found : findTensor d o.tenant o.id = some x)
    (writable : x.mode ≠ .readOnly) (dev : TierDev) (addr row : Nat) :
    let e := lineUncorrectable dev addr row (some o) true d
    Raised (devSource dev).1.val (devSource dev).2 d e ∧ findTensor e o.tenant o.id = some (x.lose (o.off / 64 * 64) 64) ∧
      ∀ st, e.stepOf o.tenant = some st → st.reason.isSome = true := by
  intro e
  have quiet : Counter.poisonedLines ∉ eventCounters := by decide
  set p := poisonLine dev addr row (some o) d
  have found' : findTensor p o.tenant o.id = some x := (findTensor_of_tenants (poisonLine_tenants dev addr row _ d) _ _).trans found
  have ends : e = checkDevice dev true (invalidate o.tenant 0x12 (some (devSource dev).1.val) (loseBytes dev o p)) :=
    (lineUncorrectable_eq dev addr row _ _ d).trans (congrArg _ (loseLine_writable found' writable dev))
  have kept : e.tenants = (invalidate o.tenant 0x12 (some (devSource dev).1.val) (loseBytes dev o p)).tenants :=
    ends ▸ checkDevice_tenants dev true _
  refine ⟨?raised, ?lost, ?invalid⟩
  case raised =>
    have lost : KeepsGutter p (modTensor o.tenant o.id (Tensor.lose (o.off / 64 * 64) 64) p) := {}
    have watched := (poisonLine_keepsGutter dev addr row (some o) d).trans lost
    rw [ends]
    exact (occur_raised watched _ _ _).trans_keepsTally
      ((invalidate_keepsTally _ .poisonedLines _ _ _).trans (checkDevice_keepsTally quiet dev true _))
  case lost =>
    have tensors := (invalidate_aside (loseBytes dev o p) o.tenant 0x12 (some (devSource dev).1.val)).tensors o.tenant
    rw [findTensor_of_tenants kept]
    exact (findTensor_of_tensors tensors _).trans (findTensor_loseBytes found' dev)
  case invalid =>
    intro st step
    rw [stepOf_of_tenants kept] at step
    exact invalidate_reason _ _ _ _ step

/-! ### Units of a lost device (R279) -/

section

variable (dev : TierDev) (u : TensorAt) (d : Device)

theorem loseUnit_keepsTally {c : Counter} (quiet : c ∉ eventCounters) : KeepsTally c d (loseUnit dev u d) := by
  unfold loseUnit
  split
  · exact .refl c d
  · exact .ite (.trans {} (occur_keepsTally quiet _ _ _ _)) (.trans {} (modDev_keepsTally c dev _ _))

theorem loseUnit_health : (tierDev (loseUnit dev u d) dev).health = (tierDev d dev).health := by
  unfold loseUnit
  split
  · rfl
  · dsimp only
    split
    · rw [tierDev_of_tiers (occur_aside _ _ _ _).tiers]
      rfl
    · rw [tierDev_modDev]
      rfl

theorem modUnit_aside (t : TenantId) (tensor index : Nat) (f : RUnit → RUnit) (d : Device) : Aside d (modUnit t tensor index f d) :=
  modTenant_aside t _ (fun _ => by rfl) d

theorem loseUnit_keepsLosses : KeepsLosses d (loseUnit dev u d) := by
  unfold loseUnit
  split
  · exact .of_tensors fun _ => rfl
  · dsimp only
    split
    · exact .of_tensors ((modUnit_aside _ _ _ _ d).trans (occur_aside _ _ _ _)).tensors
    · intro t id x found
      rw [findTensor_of_tenants (modDev_tenants dev _ _)]
      exact modTensor_lose_keepsLosses u.tenant u.id _ _ d t id x found

/-- A unit of a writable tensor on a lost device is lost whole. -/
theorem loseUnit_loses {x : Tensor} (found : findTensor d u.tenant u.id = some x) (writable : x.mode ≠ .readOnly) :
    findTensor (loseUnit dev u d) u.tenant u.id = some (x.lose (u.off / unitBytes * unitBytes) unitBytes) := by
  simp only [loseUnit, found, writable, if_false]
  rw [findTensor_of_tenants (modDev_tenants dev _ _)]
  refine (findTensor_modTensor (f := Tensor.lose (u.off / unitBytes * unitBytes) unitBytes) (fun _ => rfl) _ _ _ _ d).trans ?_
  simp [found]

end

/-! ### TIER_STACK_LOST (R256, R260, R279) -/

/-- What every update of a list keeps, and one of them turns into something that they keep too, holds in the end. -/
theorem foldl_of_mem {α : Type} {f : Device → α → Device} {P Q : Device → Prop} {l : List α} {x : α} (mem : x ∈ l)
    (keeps : ∀ d y, P d → P (f d y)) (turns : ∀ d, P d → Q (f d x)) (stays : ∀ d y, Q d → Q (f d y)) {d : Device} (start : P d) :
    Q (l.foldl f d) := by
  obtain ⟨before, after, rfl⟩ := List.append_of_mem mem
  rw [List.foldl_append, List.foldl_cons]
  have reached : P (before.foldl f d) := List.foldlRecOn before f start fun e held y _ => keeps e y held
  exact List.foldlRecOn after f (turns _ reached) fun e held y _ => stays e y held

/-- The mirror of a tenant from which a step would start is gone. -/
def dropMirror (d : Device) (q : TenantId × Nat) : Device :=
  modTenant q.1 (fun x => { x with mirrors := x.mirrors.filter fun m => !decide (m.next = q.2) }) d

theorem stackLost_eq (dev : TierDev) (held : List TensorAt) (mirrors : List (TenantId × Nat)) (d : Device) :
    stackLost dev held mirrors d = mirrors.foldl dropMirror (held.foldl (fun d u => loseUnit dev u d)
      (loseDevice dev (allTenants.filter fun t => held.any fun u => decide (u.tenant = t)) d)) := rfl

theorem dropMirror_drops (d : Device) (q : TenantId × Nat) : ∀ m ∈ ((dropMirror d q).tenant q.1).mirrors, m.next ≠ q.2 := by
  simp [dropMirror]

theorem dropMirror_mirrors_subset (d : Device) (q : TenantId × Nat) (t : TenantId) :
    ((dropMirror d q).tenant t).mirrors ⊆ (d.tenant t).mirrors := by
  rw [dropMirror, modTenant_tenant]
  split
  · exact fun m mem => List.mem_of_mem_filter mem
  · exact List.Subset.refl _

theorem dropMirror_tensors (d : Device) (q : TenantId × Nat) (t : TenantId) :
    ((dropMirror d q).tenant t).tensors = (d.tenant t).tensors :=
  (modTenant_aside q.1 (fun x => { x with mirrors := x.mirrors.filter fun m => !decide (m.next = q.2) }) (fun _ => rfl) d).tensors t

theorem foldl_dropMirror_tiers (l : List (TenantId × Nat)) (d : Device) : (l.foldl dropMirror d).tiers = d.tiers :=
  List.foldlRecOn (motive := fun e => e.tiers = d.tiers) l dropMirror rfl fun _ same q _ => (modTenant_tiers q.1 _ _).trans same

theorem foldl_loseUnit_health (dev : TierDev) (l : List TensorAt) (d : Device) :
    (tierDev (l.foldl (fun d u => loseUnit dev u d) d) dev).health = (tierDev d dev).health :=
  List.foldlRecOn (motive := fun e => (tierDev e dev).health = (tierDev d dev).health) l _ rfl
    fun e same u _ => (loseUnit_health dev u e).trans same

section

variable (dev : TierDev) (held : List TensorAt) (mirrors : List (TenantId × Nat)) (d : Device)

theorem stackLost_health : (tierDev (stackLost dev held mirrors d) dev).health = .lost := by
  rw [stackLost_eq, tierDev_of_tiers (foldl_dropMirror_tiers mirrors _), foldl_loseUnit_health, loseDevice_health]

theorem stackLost_raised (up : (tierDev d dev).health ≠ .lost) : Raised 6 (devInst dev) d (stackLost dev held mirrors d) := by
  have quiet : Counter.poisonedLines ∉ eventCounters := by decide
  rw [stackLost_eq]
  exact (loseDevice_raised up _).trans_keepsTally
    ((KeepsTally.foldl (fun d u => loseUnit_keepsTally dev u d quiet) held _).trans (.foldl (fun _ _ => {}) mirrors _))

theorem stackLost_mirrors {q : TenantId × Nat} (mem : q ∈ mirrors) :
    ∀ m ∈ ((stackLost dev held mirrors d).tenant q.1).mirrors, m.next ≠ q.2 := by
  rw [stackLost_eq]
  exact foldl_of_mem (P := fun _ => True) (Q := fun e => ∀ m ∈ (e.tenant q.1).mirrors, m.next ≠ q.2) mem (fun _ _ _ => trivial)
    (fun e _ => dropMirror_drops e q) (fun e y gone m kept => gone m (dropMirror_mirrors_subset e y q.1 kept)) trivial

theorem stackLost_units {u : TensorAt} (mem : u ∈ held) {x : Tensor} (found : findTensor d u.tenant u.id = some x)
    (writable : x.mode ≠ .readOnly) : ∃ y, findTensor (stackLost dev held mirrors d) u.tenant u.id = some y ∧
      y.rangeLost (u.off / unitBytes * unitBytes) unitBytes = true := by
  rw [stackLost_eq]
  set Lost : Device → Prop := fun e => ∃ y, findTensor e u.tenant u.id = some y ∧
    y.rangeLost (u.off / unitBytes * unitBytes) unitBytes = true
  have stays : ∀ {a b}, KeepsLosses a b → Lost a → Lost b := fun kept ⟨y, found, lost⟩ =>
    let ⟨z, found', _, more⟩ := kept _ _ y found
    ⟨z, found', Tensor.rangeLost_of_subset more lost⟩
  have mirrored : ∀ e, Lost e → Lost (mirrors.foldl dropMirror e) := fun e lost =>
    List.foldlRecOn mirrors dropMirror lost fun e held q _ => stays (.of_tensors (dropMirror_tensors e q)) held
  refine mirrored _ (foldl_of_mem (P := fun e => ∃ y, findTensor e u.tenant u.id = some y ∧ y.mode ≠ .readOnly) mem ?_ ?_ ?_ ?_)
  · rintro e v ⟨y, found, writable⟩
    obtain ⟨z, found', mode, -⟩ := loseUnit_keepsLosses dev v e _ _ y found
    exact ⟨z, found', mode ▸ writable⟩
  · rintro e ⟨y, found, writable⟩
    exact ⟨_, loseUnit_loses dev u e found writable, Tensor.rangeLost_lose (by decide) _ y⟩
  · exact fun e v => stays (loseUnit_keepsLosses dev v e)
  · exact ⟨x, (findTensor_of_tensors (loseDevice_tensors dev _ d u.tenant) u.id).trans found, writable⟩

end

end Sys2Proof.Machine
end

section
/-! CERTIFICATE. Reads and scrubs of tier lines, recovery of read-only copies, retirement and lost devices (R254, R256, R258, R273 to
R279). -/

set_option Elab.async false

namespace Sys2Proof.Machine

open Sys2Proof

theorem exec_tierRead (o : TensorAt) (others : List TenantId) (a : TierAccess) (s : State) :
    exec (.tierRead o others a) s = done s (tierRead o others a s.dev) := rfl
theorem exec_tierRecovered (dev : TierDev) (addr : Nat) (s : State) :
    exec (.tierRecovered dev addr) s = done s (tierRecovered dev addr s.dev) := rfl
theorem exec_patrolScrub (dev : TierDev) (addr row : Nat) (own : Option TensorAt) (r : LineResult) (s : State) :
    exec (.patrolScrub dev addr row own r) s = done s (patrolScrub dev addr row own r s.dev) := rfl
theorem exec_retirementCopy (dev : TierDev) (row : Nat) (pages : List Nat) (s : State) :
    exec (.retirementCopy dev row pages) s = done s (retirementCopy dev row pages s.dev) := rfl
theorem exec_retirementLockTimeout (dev : TierDev) (row : Nat) (pages : List Nat) (lines : List (Nat × TensorAt)) (s : State) :
    exec (.retirementLockTimeout dev row pages lines) s = done s (retirementTimeout dev row pages lines s.dev) := rfl
theorem exec_tierStackLost (dev : TierDev) (held : List TensorAt) (mirrors : List (TenantId × Nat)) (s : State) :
    exec (.tierStackLost dev held mirrors) s = done s (stackLost dev held mirrors s.dev) := rfl

/-- A meaning that leaves the device as it is answers the state itself. -/
theorem exec_idle {i : Instr} {s : State} {d : Device} (e : exec i s = done s d) (idle : d = s.dev) : exec i s = .next s := by
  rw [e, idle]
  rfl

/-! ### Reads and scrubs (R254, R271, R274) -/

section

variable {dev : TierDev} {o : TensorAt} {others : List TenantId} {d : Device} (up : (tierDev d dev).health ≠ .lost)
include up

theorem tierRead_line_waits (slot : lineSlot dev o.tenant others d = none) (addr row : Nat) (r : LineResult) :
    tierRead o others (.line dev addr row r) d = d := by
  simp [tierRead, up, slot]

theorem tierRead_line_served {e : Device} (slot : lineSlot dev o.tenant others d = some e) (addr row : Nat) (r : LineResult) :
    tierRead o others (.line dev addr row r) d = readLine dev addr row r (some o) true e := by
  simp [tierRead, up, slot]

theorem patrolScrub_present (addr row : Nat) (own : Option TensorAt) (r : LineResult) :
    patrolScrub dev addr row own r d = readLine dev addr row r own false d := by
  simp [patrolScrub, up]

end

/-- No byte of a line that is read is lost already. -/
def LineWhole (own : Option TensorAt) (d : Device) : Prop :=
  ∀ o ∈ own, ∀ x, findTensor d o.tenant o.id = some x → x.rangeLost (o.off / 64 * 64) 64 = false

theorem lineWhole_free (d : Device) : LineWhole none d := fun _ owned => nomatch owned

theorem lineWhole_owned {o : TensorAt} {x : Tensor} {d : Device} (found : findTensor d o.tenant o.id = some x)
    (whole : x.rangeLost (o.off / 64 * 64) 64 = false) : LineWhole (some o) d := by
  intro u same y found'
  obtain rfl := Option.some.inj same
  rwa [← Option.some.inj (found.symm.trans found')]

/-- What the read of such a line does, by what the read finds. -/
def readWhole (dev : TierDev) (addr row : Nat) (own : Option TensorAt) (byStep : Bool) (d : Device) : LineResult → Device
  | .clean => d
  | .corrected device => lineCorrected dev device row (if byStep then own.map (·.tenant) else none) d
  | .uncorrectable => lineUncorrectable dev addr row own byStep d
  | .tagMismatch => lineUncorrectable dev addr row own byStep
      (occur 80 (match dev with | .stack _ => 1 | .package _ => 2) (own.map (·.tenant)) d)

theorem readLine_whole {dev : TierDev} {own : Option TensorAt} {d : Device} (plain : checkInverted d (devSource dev).1 = false)
    (whole : LineWhole own d) (addr row : Nat) (r : LineResult) (byStep : Bool) :
    readLine dev addr row r own byStep d = readWhole dev addr row own byStep d r := by
  unfold readLine
  simp only [plain, Bool.false_eq_true, if_false]
  cases own with
  | none => cases r <;> rfl
  | some o =>
    cases found : findTensor d o.tenant o.id with
    | none =>
      simp only [found, Bool.false_eq_true, if_false]
      cases r <;> rfl
    | some x =>
      simp only [found, whole o rfl x found, Bool.false_eq_true, if_false]
      cases r <;> rfl

/-! ### Recovery and retirement (R273, R275) -/

/-- The poison of a line at an address taken from its device. -/
def MemDevice.unpoison (addr : Nat) (m : MemDevice) : MemDevice := { m with poison := m.poison.filter fun q => !decide (q.addr = addr) }

theorem tierRecovered_sound {dev : TierDev} {addr : Nat} {d : Device}
    (sound : (tierDev d dev).poison.find? (fun r => decide (r.addr = addr) && decide (r.len = 64)) = none) :
    tierRecovered dev addr d = d := by
  simp only [tierRecovered, sound]

/-- The recovery of a line: its poison is gone, the retirement of its page or row starts, and TIER_RECOVERED is raised. -/
def recoverLine (dev : TierDev) (addr row : Nat) (t : TenantId) (d : Device) : Device :=
  occur 4 (devInst dev) (some t) (startRetire dev row (modDev dev (MemDevice.unpoison addr) d))

theorem recoverLine_recovers (dev : TierDev) (addr row : Nat) (t : TenantId) (d : Device) :
    let e := recoverLine dev addr row t d
    (∀ p ∈ (tierDev e dev).poison, p.addr ≠ addr) ∧ Raised 4 (devInst dev) d e ∧
      (row ∈ (tierDev e dev).retired ∨ ∃ c ∈ (tierDev e dev).copying, c.1 = row) := by
  intro e
  have started := startRetire_keepsGutter dev row (modDev dev (MemDevice.unpoison addr) d)
  have record : tierDev e dev = tierDev (startRetire dev row (modDev dev (MemDevice.unpoison addr) d)) dev :=
    tierDev_of_tiers (occur_aside 4 (devInst dev) (some t) _).tiers dev
  rw [record]
  refine ⟨?_, occur_raised ((modDev_keepsGutter dev _ d).trans started) 4 _ _, startRetire_starts dev row _⟩
  simp [MemDevice.unpoison]

theorem tierRecovered_found {dev : TierDev} {addr : Nat} {d : Device} {r : PoisonRec} {t : TenantId} {x : Tensor}
    (poisoned : (tierDev d dev).poison.find? (fun r => decide (r.addr = addr) && decide (r.len = 64)) = some r)
    (tenant : r.tenant = t.val) (found : findTensor d t r.tensor = some x) :
    tierRecovered dev addr d = if x.mode = .readOnly then recoverLine dev addr r.row t d else d := by
  have named : tenantOf r.tenant = some t := by simp [tenantOf, tenant]
  simp only [tierRecovered, poisoned, named, found, decide_eq_true_eq]
  rfl

/-- A copy that is not done by an instant is released: FORCED_RELEASE, with a record in the journal. -/
def releaseLock (limit : Nat) (d : Device) : Device :=
  occur 56 5 none (bump .forcedReleases 0 (journal kForcedRelease 0 (advanceTo limit d)))

section

variable (limit : Nat) (d : Device)

theorem releaseLock_now : (releaseLock limit d).now = max d.now limit := by
  rw [releaseLock, (occur_aside 56 5 none _).now, bump_now, (journal_aside kForcedRelease 0 _).now, advanceTo_now]

theorem releaseLock_counted : Counted .forcedReleases 0 d (releaseLock limit d) := by
  have recorded := journal_keepsTally .forcedReleases kForcedRelease 0 (advanceTo limit d)
  have counted := bump_counted .forcedReleases 0 (journal kForcedRelease 0 (advanceTo limit d))
  unfold releaseLock
  exact .of_count (recorded.count 0) (counted.trans_keepsTally (occur_keepsTally (by decide) 56 5 none _))

theorem releaseLock_raised : Raised 56 5 d (releaseLock limit d) := by
  have late : KeepsGutter d (advanceTo limit d) := {}
  have watched := (late.trans (journal_keepsGutter kForcedRelease 0 _)).trans (e := bump .forcedReleases 0 _) {}
  unfold releaseLock
  exact occur_raised watched 56 5 none

end

/-- The lines that a released copy had still to copy become uncorrectable. -/
def loseLines (dev : TierDev) (row : Nat) (lines : List (Nat × TensorAt)) (d : Device) : Device :=
  lines.foldl (fun d q => lineUncorrectable dev q.1 row (some q.2) false d) d

theorem loseLines_keepsTally {c : Counter} (quiet : c ∉ eventCounters) (other : c ≠ .poisonedLines) (dev : TierDev) (row : Nat)
    (lines : List (Nat × TensorAt)) (d : Device) : KeepsTally c d (loseLines dev row lines d) := by
  unfold loseLines
  refine .foldl (fun e q => ?_) lines d
  exact lineUncorrectable_keepsTally dev q.1 row (some q.2) false e quiet other

theorem retirementTimeout_idle {dev : TierDev} {row : Nat} {d : Device} (idle : ∀ c ∈ (tierDev d dev).copying, c.1 ≠ row)
    (pages : List Nat) (lines : List (Nat × TensorAt)) : retirementTimeout dev row pages lines d = d := by
  have none : (tierDev d dev).copying.find? (fun c => decide (c.1 = row)) = none := by simpa using fun a b mem => idle (a, b) mem
  simp [retirementTimeout, none]

theorem retirementTimeout_copying {dev : TierDev} {row : Nat} {c : Nat × Nat} {d : Device}
    (copying : (tierDev d dev).copying.find? (fun c => decide (c.1 = row)) = some c) (pages : List Nat) (lines : List (Nat × TensorAt)) :
    retirementTimeout dev row pages lines d = retire dev row pages (loseLines dev row lines (releaseLock (c.2 + ms) d)) := by
  simp only [retirementTimeout, copying]
  rfl

/-- What follows the release of a copy keeps the count of releases, the instant and what was raised. -/
theorem retire_loseLines_keepsTally (dev : TierDev) (row : Nat) (pages : List Nat) (lines : List (Nat × TensorAt)) (d : Device) :
    KeepsTally .forcedReleases d (retire dev row pages (loseLines dev row lines d)) := by
  have lost := loseLines_keepsTally (c := .forcedReleases) (by decide) (by decide) dev row lines d
  exact lost.trans ((retire_retires dev row pages _).tally _ (by cases dev <;> simp [retiredCounter]))

/-- Settles O52: `lineSlot_usesSlot` with `lineCorrected_counts` and `lineUncorrectable_invalidates` for a read, `lineUncorrectable_poisons`
for a scrub, `recoverLine_recovers` for a recovery, `retire_retires` for the end of a copy, and the lemmas of `stackLost` for a lost
device. -/
theorem tierLinesAreCorrectedPoisonedRecoveredAndRetired : Obligations.TierLinesAreCorrectedPoisonedRecoveredAndRetired := by
  unfold Obligations.TierLinesAreCorrectedPoisonedRecoveredAndRetired
  refine ⟨fun o others dev addr row s up => ⟨?waits, fun d0 x slot plain found whole => ?read⟩,
    fun dev addr row s => ⟨?absent, fun up plain => ?scrub⟩,
    fun dev addr s => ⟨?sound, fun r t x poisoned tenant found => ?recover⟩,
    fun dev row pages s => ⟨?idle, fun c copying => ?retire⟩, fun dev held mirrors s => ?lost⟩
  case waits => exact fun r none => exec_idle (exec_tierRead _ _ _ s) (tierRead_line_waits up none addr row r)
  case read =>
    have used := lineSlot_usesSlot slot
    have found' : findTensor d0 o.tenant o.id = some x := (findTensor_of_tenants used.tenants _ _).trans found
    have plain' : checkInverted d0 (devSource dev).1 = false := by rwa [checkInverted, used.gutter]
    have reads : ∀ r, exec (.tierRead o others (.line dev addr row r)) s = done s (readWhole dev addr row (some o) true d0 r) := fun r => by
      rw [exec_tierRead, tierRead_line_served up slot, readLine_whole plain' (lineWhole_owned found' whole)]
    refine ⟨completes_of_done (reads .clean) rfl, fun k => completes_of_done (reads (.corrected k)) ?_,
      fun writable => completes_of_done (reads .uncorrectable) ?_⟩
    · obtain ⟨counted, tensors⟩ := lineCorrected_counts dev k row (some o.tenant) d0
      refine ⟨fun t => (tensors t).trans (congrArg Tenant.tensors (tenant_of_tenants used.tenants t)), ?_⟩
      have same := used.count (correctedCounter dev) (devInst dev) (by cases dev <;> simp [correctedCounter])
      cases dev <;> exact .of_count same counted
    · obtain ⟨counted, poisoned⟩ := lineUncorrectable_poisons dev addr row (some o) true d0
      obtain ⟨raised, lost, invalid⟩ := lineUncorrectable_invalidates found' writable dev addr row
      exact ⟨.of_count (used.count _ _ (by decide)) counted, raised.of_keepsGutter used.toKeepsGutter,
        ⟨_, lost, Tensor.rangeLost_lose (by decide) _ x, rfl⟩, invalid, poisoned⟩
  case absent => exact fun gone own r => exec_idle (exec_patrolScrub _ _ _ _ _ s) (if_pos gone)
  case scrub =>
    have scrubs : ∀ r, exec (.patrolScrub dev addr row none r) s = done s (readWhole dev addr row none false s.dev r) := fun r => by
      rw [exec_patrolScrub, patrolScrub_present up, readLine_whole plain (lineWhole_free _)]
    obtain ⟨counted, poisoned⟩ := lineUncorrectable_poisons dev addr row none false s.dev
    exact ⟨scrubs .clean, completes_of_done (scrubs .uncorrectable)
      ⟨counted, poisoned, lineUncorrectable_free_tenants dev addr row false s.dev⟩⟩
  case sound => exact fun none => exec_idle (exec_tierRecovered dev addr s) (tierRecovered_sound none)
  case recover =>
    have recovers := tierRecovered_found poisoned tenant found
    refine ⟨fun writable => exec_idle (exec_tierRecovered dev addr s) (recovers.trans (if_neg writable)),
      fun copy => completes_of_done (exec_tierRecovered dev addr s) ?_⟩
    rw [recovers, if_pos copy]
    exact recoverLine_recovers dev addr r.row t s.dev
  case idle =>
    exact fun idle => ⟨exec_idle (exec_retirementCopy dev row pages s) (retirementCopy_idle idle pages),
      fun lines => exec_idle (exec_retirementLockTimeout dev row pages lines s) (retirementTimeout_idle idle pages lines)⟩
  case retire =>
    refine ⟨completes_of_done (exec_retirementCopy dev row pages s) ?_, fun lines =>
      completes_of_done (exec_retirementLockTimeout dev row pages lines s) ?_⟩
    · rw [retirementCopy_copying copying]
      have retires := retire_retires dev row pages s.dev
      refine ⟨retires.retired, retires.copied, ?_, retires.tenants⟩
      cases dev <;> exact retires.counted
    · rw [retirementTimeout_copying copying]
      have retires := retire_retires dev row pages (loseLines dev row lines (releaseLock (c.2 + ms) s.dev))
      have kept := retire_loseLines_keepsTally dev row pages lines (releaseLock (c.2 + ms) s.dev)
      exact ⟨retires.retired, retires.copied, (releaseLock_counted _ _).trans_keepsTally kept,
        (releaseLock_raised _ _).trans_keepsTally kept, kept.now.trans (releaseLock_now _ _)⟩
  case lost =>
    exact completes_of_done (exec_tierStackLost dev held mirrors s) ⟨stackLost_health dev held mirrors s.dev,
      stackLost_raised dev held mirrors s.dev, fun _ mem => stackLost_mirrors dev held mirrors s.dev mem,
      fun _ mem _ found writable => stackLost_units dev held mirrors s.dev mem found writable⟩

end Sys2Proof.Machine
end

section
/-! SUPPORT. What stays in execution, and what the entropy source's own operations do: seeds that tenants hold, waits and how they end
(R292 to R295, R330 to R334, R602, R603). -/

set_option Elab.async false

namespace Sys2Proof.Machine

open Sys2Proof

/-! ### Commands that stay in execution (R602, R603) -/

/-- The second device has the waiting completions and the started commands of the first on every mailbox. -/
structure KeepsCalls (a b : Device) : Prop where
  overflow : ∀ m : MailboxId, (b.mb m).overflow = (a.mb m).overflow := by exact fun _ => rfl
  calls : ∀ m : MailboxId, (b.mb m).started.map Started.call = (a.mb m).started.map Started.call := by exact fun _ => rfl

theorem KeepsCalls.refl (a : Device) : KeepsCalls a a := {}

theorem KeepsCalls.trans {a b c : Device} (h : KeepsCalls a b) (k : KeepsCalls b c) : KeepsCalls a c where
  overflow m := (k.overflow m).trans (h.overflow m)
  calls m := (k.calls m).trans (h.calls m)

theorem KeepsCalls.ite {a b c : Device} {p : Prop} [Decidable p] (h : KeepsCalls a b) (k : KeepsCalls a c) :
    KeepsCalls a (if p then b else c) := by
  split
  · exact h
  · exact k

theorem KeepsCalls.foldl {α : Type} {f : Device → α → Device} (h : ∀ d x, KeepsCalls d (f d x)) (l : List α) (d : Device) :
    KeepsCalls d (l.foldl f d) :=
  List.foldlRecOn (motive := KeepsCalls d) l f (.refl d) fun e kept x _ => kept.trans (h e x)

theorem Held.trans_keepsCalls {c : Call} {a b e : Device} (h : Held c a b) (k : KeepsCalls b e) : Held c a e := by
  obtain ⟨overflow, x, started, same⟩ := h
  have called : c ∈ (e.mb c.mbx).started.map Started.call := k.calls c.mbx ▸ List.mem_map.mpr ⟨x, started, same⟩
  exact ⟨(k.overflow _).trans overflow, List.mem_map.mp called⟩

/-- A served command is in execution as its body begins. -/
theorem acceptCall_held (c : Call) (d : Device) : Held c d (acceptCall c d) := by
  rw [Held, acceptCall, modMbx_mb_same]
  split
  next present =>
    obtain ⟨y, started, same⟩ := List.any_eq_true.mp present
    exact ⟨rfl, _, List.mem_map_of_mem started, by simp [same]⟩
  · exact ⟨rfl, _, List.mem_append_right _ (List.mem_singleton_self _), rfl⟩

/-! ### Seeds that tenants hold (R292, R293, R543) -/

theorem seedBusy_of_tenants {a b : Device} (h : b.tenants = a.tenants) (t : TenantId) : seedBusy b t = seedBusy a t := by
  simp [seedBusy, Device.inStep, stepOf_of_tenants h, tenant_of_tenants h]

theorem holdSeed_seed (t u : TenantId) (value : BitVec 128) (fresh : Bool) (d : Device) :
    ((holdSeed t value fresh d).tenant u).seed =
      if t = u then some { value := value, id := seedId value, fresh := fresh } else (d.tenant u).seed := by
  have recorded := writeRecord_keepsHoldings recSeed t.val (bytes16 (seedId value) ++ leBytes 1 (b2n fresh))
    (modTenant t (fun x => { x with seed := some { value := value, id := seedId value, fresh := fresh } }) d)
  refine (Tenant.part_of_holdings (recorded.same u) Tenant.seed).trans ?_
  rw [modTenant_tenant]
  split <;> rfl

theorem holdSeed_entropy (t : TenantId) (value : BitVec 128) (fresh : Bool) (d : Device) :
    (holdSeed t value fresh d).entropy = d.entropy :=
  (writeRecord_keepsHoldings recSeed t.val _ _).entropy

theorem seedSet_busy {c : Call} {d : Device} (busy : seedBusy d c.tenant = true) : seedSet c d = finish c .busy 0 d := if_pos busy

theorem seedFresh_busy {c : Call} {d : Device} (busy : seedBusy d c.tenant = true) : seedFresh c d = finish c .busy 0 d := if_pos busy

section

variable {c : Call} {d : Device} (free : seedBusy d c.tenant = false)
include free

theorem seedSet_holds : seedSet c d = post c .ok 0 (bytes16 (seedId (BitVec.ofNat 128 (c.w 1 + 2 ^ 64 * c.w 2)))) false
    (holdSeed c.tenant (BitVec.ofNat 128 (c.w 1 + 2 ^ 64 * c.w 2)) false d) :=
  if_neg (by simp [free])

theorem seedFresh_asks : seedFresh c d = askEntropy c d := if_neg (by simp [free])

theorem finishSeedFresh_holds : finishSeedFresh c d =
    post c .ok 0 (leBytes 16 (freshBits d).1.toNat ++ bytes16 (seedId (freshBits d).1)) false
      (holdSeed c.tenant (freshBits d).1 true (freshBits d).2) :=
  if_neg (by simp [free])

end

/-! ### Commands that wait for bits (R330 to R334) -/

theorem askEntropy_broken {d : Device} (broken : d.entropy.broken = true) (c : Call) : askEntropy c d = finish c .faulted 0 d :=
  if_pos broken

theorem Entropy.up_of_ready {e : Entropy} (ready : e.ready = true) : e.up = true ∧ e.broken = false := by
  simp only [Entropy.ready, Bool.and_eq_true, Bool.not_eq_true'] at ready
  obtain ⟨⟨⟨up, _⟩, working⟩, runs⟩ := ready
  exact ⟨up, by simp [Entropy.broken, working, runs]⟩

/-- SEED_FRESH with the bits of its reseed there gets them, and none waits. -/
theorem askEntropy_seed {c : Call} {d : Device} (opcode : c.opcode = 0x33) (free : seedBusy d c.tenant = false)
    (ready : d.entropy.ready = true) (idle : d.entropy.waits = []) (fresh : d.entropy.reseedDue = false)
    (test : underTest d 20 = false) (bits : 1024 ≤ d.entropy.pool.length) : askEntropy c d = finishSeedFresh c d := by
  have held := (post_aside c .ok 0 (leBytes 16 (freshBits d).1.toNat ++ bytes16 (seedId (freshBits d).1)) false _).entropy.trans
    (holdSeed_entropy c.tenant (freshBits d).1 true (freshBits d).2)
  calc askEntropy c d
    _ = serveEntropy 1 (finishEntropy c d) := askEntropy_at_once ready fresh test (by simpa [bitsNeeded, opcode] using bits) idle
    _ = serveEntropy 1 (finishSeedFresh c d) := by simp [finishEntropy, opcode]
    _ = finishSeedFresh c d := by
      rw [finishSeedFresh_holds free]
      exact serveEntropy_idle 1 ((congrArg Entropy.waits held).trans idle) (congrArg Entropy.reseedDue held)

/-- With fewer bits it waits. -/
theorem askEntropy_waits {c : Call} {d : Device} (opcode : c.opcode = 0x33) (ready : d.entropy.ready = true)
    (idle : d.entropy.waits = []) (fresh : d.entropy.reseedDue = false) (few : d.entropy.pool.length < 1024) :
    askEntropy c d = modEntropy (fun e => { e with waits := [c] }) (bump .seedFreshWaits 0 d) := by
  obtain ⟨up, working⟩ := Entropy.up_of_ready ready
  simp [askEntropy, serveEntropy, modEntropy, bitsNeeded, opcode, up, working, ready, idle, fresh, few]

theorem dropWaits_only {c : Call} {d : Device} (waits : d.entropy.waits = [c]) (st : Status) :
    dropWaits st d = finish c st 0 (modEntropy (fun e => { e with waits := [] }) d) := by
  simp [dropWaits, waits]

theorem startupTimeout_up {d : Device} (up : d.entropy.up = true) : startupTimeout d = d := if_pos (by simp [up])

theorem startupTimeout_waiting {c : Call} {d : Device} (waits : d.entropy.waits = [c]) (starting : d.entropy.up = false)
    (runs : d.boot.inReset = false) :
    startupTimeout d = finish c .timeout 0 (modEntropy (fun e => { e with timedOut := true, waits := [] })
      (advanceTo (d.boot.resetAt + sec) d)) := by
  rw [startupTimeout, if_neg (by simp [starting, runs])]
  exact dropWaits_only (d := modEntropy (fun e => { e with timedOut := true }) (advanceTo (d.boot.resetAt + sec) d)) waits .timeout

theorem seedTimeout_waiting {c : Call} {d : Device} (waits : d.entropy.waits = [c]) (up : d.entropy.up = true) :
    ∃ e, e.tenants = d.tenants ∧ seedTimeout c.mbx c.tag d = finish c .timeout 0 (modEntropy (fun x => { x with waits := [] }) e) := by
  cases h : startedRec d c with
  | none => exact ⟨d, rfl, by simp [seedTimeout, modEntropy, waits, up, h]⟩
  | some x => exact ⟨advanceTo (entropyDue d x) d, rfl, by simp [seedTimeout, modEntropy, waits, up, h]⟩

end Sys2Proof.Machine
end

section
/-! CERTIFICATE. SEED_SET and SEED_FRESH answer BUSY in a step or a generating run, hold the seed otherwise, or wait until a time-out
(R292 to R295, R330, R331, R333, R334). -/

set_option Elab.async false

namespace Sys2Proof.Machine

open Sys2Proof

theorem exec_seedSet (c : Call) (s : State) : exec (.seedSet c) s = done s (runFw c (seedSet c) s.dev) := rfl
theorem exec_seedFresh (c : Call) (s : State) : exec (.seedFresh c) s = done s (runFw c (seedFresh c) s.dev) := rfl
theorem exec_seedFreshStartupTimeout (s : State) : exec .seedFreshStartupTimeout s = done s (startupTimeout s.dev) := rfl
theorem exec_seedFreshTimeout (m : MailboxId) (tag : W32) (s : State) :
    exec (.seedFreshTimeout m tag) s = done s (seedTimeout m tag s.dev) := rfl

/-- Settles O26: `seedSet_holds` and `askEntropy_seed` for a seed that is held, `askEntropy_waits` for one whose bits are not there,
`startupTimeout_waiting` and `seedTimeout_waiting` for the ends of the wait. -/
theorem seedsAreHeldReturnedOrRefused : Obligations.SeedsAreHeldReturnedOrRefused := by
  unfold Obligations.SeedsAreHeldReturnedOrRefused
  refine ⟨fun c s served busy => ?busy, fun c s served free => ?free,
    fun s c waits => ⟨fun starting runs => ?startup, fun up => ?late, fun up => ?done⟩⟩
  case busy =>
    have busy' := (seedBusy_of_tenants (acceptCall_tenants c s.dev) c.tenant).trans busy
    constructor
    · refine completes_of_done (exec_seedSet c s) ?_
      rw [runFw_served served, seedSet_busy busy']
      exact ⟨finish_answered c .busy 0 _, finish_tenants c .busy 0 _⟩
    · refine completes_of_done (exec_seedFresh c s) ?_
      rw [runFw_served served, seedFresh_busy busy']
      exact ⟨finish_answered c .busy 0 _, finish_tenants c .busy 0 _⟩
  case free =>
    have free' := (seedBusy_of_tenants (acceptCall_tenants c s.dev) c.tenant).trans free
    have asks : exec (.seedFresh c) s = done s (askEntropy c (acceptCall c s.dev)) := by
      rw [exec_seedFresh, runFw_served served, seedFresh_asks free']
    refine ⟨completes_of_done (exec_seedSet c s) ?set, fun opcode ready idle fresh test =>
      ⟨fun bits => completes_of_done asks ?bits, fun few => completes_of_done asks ?few⟩,
      fun broken => completes_of_done asks ?broken⟩
    case set =>
      rw [runFw_served served, seedSet_holds free']
      have seed := holdSeed_seed c.tenant
      refine ⟨post_answered c .ok 0 _ _, ?_, fun t other => ?_, ?_⟩
      · rw [tenant_of_tenants (post_tenants ..), seed, if_pos rfl]
      · rw [tenant_of_tenants (post_tenants ..), seed, if_neg other.symm]
        rfl
      · rw [(post_aside ..).entropy, holdSeed_entropy]
        rfl
    case bits =>
      rw [askEntropy_seed opcode free' ready idle fresh test bits, finishSeedFresh_holds free']
      refine ⟨post_answered c .ok 0 _ _, ?_, ?_⟩
      · rw [tenant_of_tenants (post_tenants ..), holdSeed_seed, if_pos rfl]
        rfl
      · rw [(post_aside ..).entropy, holdSeed_entropy]
        exact ⟨rfl, rfl⟩
    case few =>
      rw [askEntropy_waits (d := acceptCall c s.dev) opcode ready idle fresh few]
      exact ⟨(acceptCall_held c s.dev).trans_keepsCalls {}, rfl, rfl⟩
    case broken =>
      rw [askEntropy_broken (d := acceptCall c s.dev) broken]
      exact ⟨finish_answered c .faulted 0 _, finish_tenants c .faulted 0 _⟩
  case startup =>
    refine completes_of_done (exec_seedFreshStartupTimeout s) ?_
    rw [startupTimeout_waiting waits starting runs]
    have kept := finish_aside c .timeout 0 (modEntropy (fun e => { e with timedOut := true, waits := [] })
      (advanceTo (s.dev.boot.resetAt + sec) s.dev))
    refine ⟨finish_answered c .timeout 0 _, ?_, ?_, ?_, finish_tenants c .timeout 0 _⟩
    · rw [kept.entropy]; rfl
    · rw [kept.entropy]; rfl
    · rw [kept.now]; exact Nat.le_max_right _ _
  case late =>
    obtain ⟨e, same, ends⟩ := seedTimeout_waiting waits up
    refine completes_of_done (exec_seedFreshTimeout c.mbx c.tag s) ?_
    rw [ends]
    refine ⟨finish_answered c .timeout 0 _, ?_, (finish_tenants c .timeout 0 _).trans same⟩
    rw [(finish_aside ..).entropy]
    rfl
  case done => exact exec_idle (exec_seedFreshStartupTimeout s) (startupTimeout_up up)

end Sys2Proof.Machine
end

section
/-! SUPPORT. What a block of a source, a reseed and a failed known-answer test do to the entropy source (R324 to R331). -/

set_option Elab.async false

namespace Sys2Proof.Machine

open Sys2Proof

@[simp] theorem modEntropy_entropy (f : Entropy → Entropy) (d : Device) : (modEntropy f d).entropy = f d.entropy := rfl
@[simp] theorem modEntropy_gutter (f : Entropy → Entropy) (d : Device) : (modEntropy f d).gutter = d.gutter := rfl

/-- A completion raises nothing. -/
theorem post_gutter (c : Call) (st : Status) (reason : Nat) (result : List Byte) (more : Bool) (d : Device) :
    (post c st reason result more d).gutter = d.gutter := by
  unfold post
  extract_lets r kr late d1 d2
  have counted : d1.gutter = d.gutter := by unfold d1; split <;> rfl
  have accepted : d2.gutter = d1.gutter := by unfold d2; split <;> [rfl; split] <;> rfl
  exact accepted.trans counted

theorem finish_gutter (c : Call) (st : Status) (reason : Nat) (d : Device) : (finish c st reason d).gutter = d.gutter :=
  post_gutter c st reason [] false d

/-! ### Blocks (R324 to R329) -/

/-- The results of the repetition test and the proportion test are recorded at the source and counted. -/
def testBlock (k : Fin 4) (tested : Option (Bool × Nat) × Bool) (apt : Bool) (d : Device) : Device :=
  let d := modEntropy (fun e => { e with src := vmod e.src k fun s => { s with run := tested.1, ok := !(tested.2 || apt) } }) d
  let d := if tested.2 then bump .rctFails k.val d else d
  if apt then bump .aptFails k.val d else d

/-- The committed conditioning mode takes effect at the source. -/
def takeMode (k : Fin 4) (d : Device) : Device :=
  modEntropy (fun e => { e with src := vmod e.src k fun s => { s with mode := decide (cfgOr d 0x06000001 0 = 1) } }) d

theorem trngBlock_eq {k : Fin 4} {raw : BitVec 1024} {d : Device} {tested : Option (Bool × Nat) × Bool} {apt : Bool}
    (runs : d.boot.inReset = false) (up : d.power.state ≠ .backup) (goes : d.entropy.stopped = false)
    (rct : rctGo raw 1024 0 (d.entropy.src[k.val]'k.isLt).run false = tested) (proportion : decide (795 ≤ aptCount raw) = apt)
    (kat : Bool) :
    trngBlock k raw kat d = takeMode k (if tested.2 || apt then bump .blocksDiscarded k.val (testBlock k tested apt d)
      else goodBlock k raw kat (testBlock k tested apt d)) := by
  obtain ⟨run, hit⟩ := tested
  rw [trngBlock, if_neg (by simp [runs, up, goes])]
  simp only [rct, proportion]
  rfl

section

variable (k : Fin 4) (tested : Option (Bool × Nat) × Bool) (apt : Bool) (d : Device)

/-- The tests change the source's own record and counters. -/
theorem testBlock_entropy : (testBlock k tested apt d).entropy =
    { d.entropy with src := vmod d.entropy.src k fun s => { s with run := tested.1, ok := !(tested.2 || apt) } } := by
  unfold testBlock
  dsimp only
  split <;> split <;> rfl

theorem testBlock_ok : ((testBlock k tested apt d).entropy.src[k.val]'k.isLt).ok = !(tested.2 || apt) := by
  simp [testBlock_entropy, vmod_get]

theorem testBlock_mode : ((testBlock k tested apt d).entropy.src[k.val]'k.isLt).mode = (d.entropy.src[k.val]'k.isLt).mode := by
  simp [testBlock_entropy, vmod_get]

theorem testBlock_tenants : (testBlock k tested apt d).tenants = d.tenants := ite_tenants (ite_tenants rfl rfl) (ite_tenants rfl rfl)

end

theorem takeMode_ok (k : Fin 4) (d : Device) : ((takeMode k d).entropy.src[k.val]'k.isLt).ok = (d.entropy.src[k.val]'k.isLt).ok := by
  simp [takeMode, modEntropy, vmod_get]

/-- A good block during start-up counts. -/
theorem goodBlock_starting {d : Device} (starting : d.entropy.up = false) (k : Fin 4) (raw : BitVec 1024) (kat : Bool) :
    (goodBlock k raw kat d).entropy.src = d.entropy.src ∧ (goodBlock k raw kat d).entropy.startup = d.entropy.startup + 1 ∧
      (goodBlock k raw kat d).entropy.pool = d.entropy.pool := by
  rw [goodBlock, if_pos (by simp [starting])]
  exact ⟨rfl, rfl, rfl⟩

theorem instantiate_instantiated {d : Device} (instantiated : d.entropy.instantiated = true) (kat : Bool) : instantiate kat d = d :=
  if_neg (by simp [instantiated])

/-- A good block after start-up, with no command waiting and no reseed due, fills the pool. -/
theorem goodBlock_fills {d : Device} (up : d.entropy.up = true) (instantiated : d.entropy.instantiated = true)
    (idle : d.entropy.waits = []) (fresh : d.entropy.reseedDue = false) (k : Fin 4) (raw : BitVec 1024) (kat : Bool) :
    (goodBlock k raw kat d).entropy = { d.entropy with
      pool := (d.entropy.pool ++ conditioned (d.entropy.src[k.val]'k.isLt).mode raw).take 2048 } := by
  unfold goodBlock
  extract_lets e vn d1 bits d2 d3 d4
  rw [if_neg (by simp [e, up])]
  have filled : d3.entropy = { d.entropy with pool := (d.entropy.pool ++ bits).take 2048 } := by
    unfold d3 d2
    split <;> rfl
  have held : d4 = d3 := instantiate_instantiated (by rw [filled]; exact instantiated) kat
  rw [serveEntropy_idle _ (by rw [held, filled]; exact idle) (by rw [held, filled]; exact fresh), held, filled]

/-! ### Reseeds (R330) -/

/-- A reseed that is due with its bits there happens, and with no command waiting nothing more. -/
theorem serveEntropy_reseeds {d : Device} (ready : d.entropy.ready = true) (idle : d.entropy.waits = [])
    (test : underTest d 20 = false) (due : d.entropy.reseedDue = true) (bits : 1024 ≤ d.entropy.pool.length) (n : Nat) :
    serveEntropy (n + 1) d = reseed d := by
  rw [serveEntropy, if_neg (by simp [ready, test]), if_pos due, if_pos bits]
  exact serveEntropy_idle n idle rfl

/-- With fewer bits it stays due. -/
theorem serveEntropy_reseed_waits {d : Device} (due : d.entropy.reseedDue = true) (few : d.entropy.pool.length < 1024) (n : Nat) :
    serveEntropy n d = d := by
  cases n <;> simp [serveEntropy, due, few]

/-- A reseed falls due: at once after 2^16 requests, else a second after the last one. -/
def requestReseed (d : Device) : Device :=
  modEntropy (fun e => { e with reseedDue := true })
    (if 65536 ≤ d.entropy.requests then d else advanceTo (d.entropy.reseeded + sec) d)

theorem requestReseed_entropy (d : Device) : (requestReseed d).entropy = { d.entropy with reseedDue := true } := by
  unfold requestReseed
  split <;> rfl

theorem requestReseed_now {d : Device} (early : d.entropy.requests < 65536) : d.entropy.reseeded + sec ≤ (requestReseed d).now := by
  rw [requestReseed, if_neg (Nat.not_le.mpr early)]
  exact Nat.le_max_right _ _

theorem requestReseed_selftest (d : Device) : (requestReseed d).selftest = d.selftest := by
  unfold requestReseed
  split <;> rfl

theorem drbgReseed_ready {d : Device} (ready : d.entropy.ready = true) (idle : d.entropy.waits = []) :
    drbgReseed d = serveEntropy 2 (requestReseed d) := by
  have waits : (requestReseed d).entropy.waits = [] := by rw [requestReseed_entropy]; exact idle
  rw [drbgReseed, if_pos ready]
  change serveEntropy ((requestReseed d).entropy.waits.length + 2) (requestReseed d) = _
  rw [waits]
  rfl

/-! ### Known-answer tests (R331) -/

/-- A failed known-answer test. -/
def katFailed (d : Device) : Device := occur 81 0 none (modEntropy (fun e => { e with failed := true }) d)

theorem drbgKat_fails {d : Device} (ready : d.entropy.ready = true) : drbgKat true d = dropWaits .faulted (katFailed d) :=
  if_pos (by simp [ready])

theorem drbgKat_passes (d : Device) : drbgKat false d = d := if_neg (by simp)

theorem katFailed_entropy (d : Device) : (katFailed d).entropy = { d.entropy with failed := true } := (occur_aside ..).entropy

theorem katFailed_raised (d : Device) : Raised 81 0 d (katFailed d) := occur_raised {} 81 0 none

end Sys2Proof.Machine
end

section
/-! CERTIFICATE. TRNG_BLOCK tests, counts and gathers; DRBG_RESEED takes 1,024 bits or waits; a failed DRBG_KAT faults what waits (R325
to R327, R329 to R331). -/

set_option Elab.async false

namespace Sys2Proof.Machine

open Sys2Proof

theorem exec_trngBlock (k : Fin 4) (raw : BitVec 1024) (kat : Bool) (s : State) :
    exec (.trngBlock k raw kat) s = done s (trngBlock k raw kat s.dev) := rfl
theorem exec_drbgReseed (s : State) : exec .drbgReseed s = done s (drbgReseed s.dev) := rfl
theorem exec_drbgKat (fails : Bool) (s : State) : exec (.drbgKat fails) s = done s (drbgKat fails s.dev) := rfl

/-- Settles O28: `trngBlock_eq` with `goodBlock_starting` and `goodBlock_fills` for a block, `serveEntropy_reseeds` and
`serveEntropy_reseed_waits` for a reseed, `katFailed_entropy` and `dropWaits_only` for a failed test. -/
theorem theEntropySourceTestsGathersAndReseeds : Obligations.TheEntropySourceTestsGathersAndReseeds := by
  unfold Obligations.TheEntropySourceTestsGathersAndReseeds
  refine ⟨fun k raw kat s runs up goes => ?block, fun s ready idle test => ⟨fun bits => ?reseed, fun few => ?due⟩,
    fun s => exec_idle (exec_drbgKat false s) (drbgKat_passes s.dev), fun s c ready waits => ?kat⟩
  case block =>
    dsimp only
    generalize rct : rctGo raw 1024 0 _ false = tested
    generalize proportion : decide (795 ≤ aptCount raw) = apt
    have tests := trngBlock_eq runs up goes rct proportion kat
    have tested' := testBlock_entropy k tested apt s.dev
    refine ⟨fun bad => completes_of_done (exec_trngBlock k raw kat s) ?_,
      fun good starting => completes_of_done (exec_trngBlock k raw kat s) ?_,
      fun good up instantiated idle fresh => completes_of_done (exec_trngBlock k raw kat s) ?_⟩
    · rw [tests, if_pos bad, takeMode_ok]
      refine ⟨(testBlock_ok k tested apt s.dev).trans (by simp [bad]), ?_, ?_, testBlock_tenants k tested apt s.dev⟩
      · exact (congrArg Entropy.pool tested').trans rfl
      · exact (congrArg Entropy.startup tested').trans rfl
    · have down : (testBlock k tested apt s.dev).entropy.up = false := by simpa [tested', Entropy.up] using starting
      obtain ⟨src, startup, pool⟩ := goodBlock_starting down k raw kat
      rw [tests, if_neg (by simp [good]), takeMode_ok, src]
      refine ⟨(testBlock_ok k tested apt s.dev).trans (by simp [good]), ?_, ?_⟩
      · exact startup.trans (by rw [tested'])
      · exact pool.trans (by rw [tested'])
    · have filled := goodBlock_fills (d := testBlock k tested apt s.dev) (by simpa [tested', Entropy.up] using up)
        (by rw [tested']; exact instantiated) (by rw [tested']; exact idle) (by rw [tested']; exact fresh) k raw kat
      rw [testBlock_mode] at filled
      rw [tests, if_neg (by simp [good])]
      refine ⟨(congrArg Entropy.pool filled).trans (by rw [tested']), (congrArg Entropy.absorbed filled).trans (by rw [tested'])⟩
  case reseed =>
    have due := requestReseed_entropy s.dev
    refine completes_of_done (exec_drbgReseed s) ?_
    rw [drbgReseed_ready ready idle, serveEntropy_reseeds (by rw [due]; exact ready) (by rw [due]; exact idle)
      (by rw [underTest, requestReseed_selftest]; exact test) (by rw [due]) (by rw [due]; exact bits) 1]
    exact ⟨(congrArg (fun e : Entropy => e.absorbed ++ e.pool.take 1024) due).trans rfl, rfl,
      (congrArg (fun e : Entropy => e.pool.drop 1024) due).trans rfl, rfl, requestReseed_now⟩
  case due =>
    have due := requestReseed_entropy s.dev
    refine completes_of_done (exec_drbgReseed s) ?_
    rw [drbgReseed_ready ready idle, serveEntropy_reseed_waits (by rw [due]) (by rw [due]; exact few) 2, due]
    exact ⟨rfl, rfl, rfl⟩
  case kat =>
    have failed := katFailed_entropy s.dev
    refine completes_of_done (exec_drbgKat true s) ?_
    rw [drbgKat_fails ready, dropWaits_only (by rw [failed]; exact waits) .faulted]
    have kept := (finish_aside c .faulted 0 (modEntropy (fun e => { e with waits := [] }) (katFailed s.dev))).entropy
    rw [modEntropy_entropy, failed] at kept
    refine ⟨congrArg Entropy.failed kept, congrArg Entropy.waits kept, finish_answered c .faulted 0 _, fun init enabled bare => ?_⟩
    rw [finish_gutter, modEntropy_gutter]
    exact katFailed_raised s.dev init enabled bare

end Sys2Proof.Machine
end

section
/-! SUPPORT. The beginning of a run, and what it, mirrors and records leave of the commands in execution and of the runs (R70, R502,
R528, R545, R551). -/

set_option Elab.async false

namespace Sys2Proof.Machine

open Sys2Proof

/-! ### Records and the commands in execution (R539, R545) -/

theorem bumpBy_keepsCalls (c : Counter) (i k : Nat) (d : Device) : KeepsCalls d (bumpBy c i k d) := {}

theorem wakeHost_keepsCalls (d : Device) : KeepsCalls d (wakeHost d) := .ite {} {}

theorem sendMsix_keepsCalls (fn : FunctionId) (v : Fin 16) (d : Device) : KeepsCalls d (sendMsix fn v d) := by
  have held : ∀ m, KeepsCalls d (setMsixVec fn v m d) := fun _ => {}
  have sent : KeepsCalls d (msixSent fn v d) := {}
  unfold sendMsix
  refine .ite ((held _).trans (wakeHost_keepsCalls _)) ?_
  split
  · exact .ite (held _) sent
  · exact sent

theorem wakeUp_keepsCalls (d : Device) : KeepsCalls d (wakeUp d) := by
  have ended : KeepsCalls d (endIdle d.now d) := by
    unfold endIdle
    split <;> exact {}
  refine ended.trans ?_
  unfold wakeUp
  dsimp only
  split
  · exact {}
  · exact .ite {} {}

theorem reactTrap_keepsCalls (s : SourceId) (d : Device) : KeepsCalls d (reactTrap s d) := .ite (.ite {} {}) {}

theorem reactMessage_keepsCalls (k : ClassId) (charge : Option TenantId) (d : Device) : KeepsCalls d (reactMessage k charge d) := by
  unfold reactMessage
  refine (sendMsix_keepsCalls 0 9 d).trans ?_
  cases charge with
  | none => exact .refl _
  | some t => exact KeepsCalls.trans {} (sendMsix_keepsCalls _ _ _)

theorem drivePair_keepsCalls (fault : Bool) (d : Device) : KeepsCalls d (drivePair fault d) := {}

theorem evalPair_keepsCalls (d : Device) : KeepsCalls d (evalPair d) := by
  have asserted : KeepsCalls d (assertPair d) :=
    .ite (.refl d) (((bumpBy_keepsCalls .pairAssertions 0 1 d).trans (drivePair_keepsCalls true _)).trans {})
  have released : KeepsCalls d (releasePair d) := .ite ((bumpBy_keepsCalls _ _ _ d).trans (drivePair_keepsCalls false _)) (.refl d)
  exact .ite asserted (.ite released (.refl d))

theorem endCycle_keepsCalls (d : Device) : KeepsCalls d (endCycle d) :=
  (KeepsCalls.foldl (fun _ _ => .ite (.ite {} {}) {}) _ d).trans (evalPair_keepsCalls _)

section

variable {s : SourceId} {inst : Nat} (unplaced : ((sourceRow s.val).bind fun r => blockOf r.block inst) = none)
include unplaced

/-- A reaction to a source that stands for no block resets none: in particular it restarts no Kettle. -/
theorem react_keepsCalls (n : Nat) (charge : Option TenantId) (d : Device) : KeepsCalls d (react s n inst charge d) := by
  unfold react
  rw [unplaced]
  extract_lets k d1 d2 d3
  have message : KeepsCalls d d1 := reactMessage_keepsCalls k charge d
  have reset : KeepsCalls d1 d2 := .ite (.refl d1) (.refl d1)
  have trap : KeepsCalls d2 d3 := .ite ((reactTrap_keepsCalls s d2).trans (wakeUp_keepsCalls _)) (.refl d2)
  exact ((message.trans reset).trans trap).trans (.ite {} (.refl d3))

theorem reactingEvent_keepsCalls (d : Device) : KeepsCalls d (reactingEvent s [inst] none d) := by
  unfold reactingEvent
  extract_lets k n esc d1 d2 g d3 d4 d5
  have counted : KeepsCalls d d2 := .ite {} {}
  have recorded : KeepsCalls d2 d4 := {}
  have reacted : KeepsCalls d4 d5 := .ite (react_keepsCalls unplaced n none d4) (.refl d4)
  exact (counted.trans recorded).trans reacted

theorem sourceEvent_keepsCalls (d : Device) : KeepsCalls d (sourceEvent s [inst] none d) := by
  unfold sourceEvent
  refine .ite ?_ (.refl d)
  extract_lets cov open_ d1 d2
  have counted : KeepsCalls d d2 := {}
  refine counted.trans ?_
  split
  · exact .refl d2
  next bare =>
    have alone : open_ = [inst] := by
      unfold open_ at bare ⊢
      rw [List.filter_cons] at bare ⊢
      split at bare
      · exact if_pos ‹_›
      · exact absurd rfl bare
    exact alone ▸ reactingEvent_keepsCalls unplaced d2

theorem condBegin_keepsCalls (d : Device) : KeepsCalls d (condBegin s inst none d) := by
  unfold condBegin
  refine .ite (.refl d) ?_
  extract_lets was g d1
  have present : KeepsCalls d d1 := {}
  exact .ite (present.trans (endCycle_keepsCalls d1))
    ((present.trans (sourceEvent_keepsCalls unplaced d1)).trans (endCycle_keepsCalls _))

end

/-- A record is committed or waits; a stall of the Slate resets no block. -/
theorem writeRecord_keepsCalls (kind tenant : Nat) (body : List Byte) (d : Device) : KeepsCalls d (writeRecord kind tenant body d) := by
  unfold writeRecord putRecord
  dsimp only
  split
  · exact {}
  · exact KeepsCalls.trans {} (condBegin_keepsCalls (s := 50) (inst := 0) rfl _)

/-! ### Mirrors (R70, R71) -/

/-- A tenant apart from its mirrors. -/
def Tenant.sansMirrors (x : Tenant) : Tenant := { x with mirrors := [] }

/-- The second device has the host's side of the first, and every tenant apart from its mirrors. -/
structure KeepsRuns (a b : Device) : Prop where
  host : b.host = a.host := by rfl
  same : ∀ t : TenantId, (b.tenant t).sansMirrors = (a.tenant t).sansMirrors := by exact fun _ => rfl

theorem KeepsRuns.refl (a : Device) : KeepsRuns a a := {}

theorem KeepsRuns.trans {a b c : Device} (h : KeepsRuns a b) (k : KeepsRuns b c) : KeepsRuns a c where
  host := k.host.trans h.host
  same t := (k.same t).trans (h.same t)

theorem KeepsRuns.ite {a b c : Device} {p : Prop} [Decidable p] (h : KeepsRuns a b) (k : KeepsRuns a c) :
    KeepsRuns a (if p then b else c) := by
  split
  · exact h
  · exact k

theorem KeepsRuns.foldl {α : Type} {f : Device → α → Device} (h : ∀ d x, KeepsRuns d (f d x)) (l : List α) (d : Device) :
    KeepsRuns d (l.foldl f d) :=
  List.foldlRecOn (motive := KeepsRuns d) l f (.refl d) fun e kept x _ => kept.trans (h e x)

theorem KeepsCalls.of_host {a b : Device} (h : b.host = a.host) : KeepsCalls a b where
  overflow m := by simp [Device.mb, h]
  calls m := by simp [Device.mb, h]

theorem modTenant_keepsRuns {t : TenantId} {f : Tenant → Tenant} (d : Device)
    (h : ∀ x, (f x).sansMirrors = x.sansMirrors := by exact fun _ => rfl) : KeepsRuns d (modTenant t f d) where
  same u := by
    rw [modTenant_tenant]
    split
    · exact h _
    · rfl

theorem modMirror_keepsRuns (t : TenantId) (f : Mirror → Mirror) (d : Device) : KeepsRuns d (modMirror t f d) := modTenant_keepsRuns d

theorem copyPage_keepsRuns (v : VtileRef) (t : TenantId) (d : Device) : KeepsRuns d (copyPage v t d) := by
  unfold copyPage
  split
  · exact (modMirror_keepsRuns t _ d).trans {}
  · exact .refl d

theorem beginMirror_keepsRuns (t : TenantId) (next : Nat) (d : Device) : KeepsRuns d (beginMirror t next d) := by
  have copied := KeepsRuns.foldl (f := fun d n => (vt d (refOf n)).uncopied.foldl (fun d _ => copyPage (refOf n) t d) d)
    (fun d n => .foldl (fun d _ => copyPage_keepsRuns (refOf n) t d) _ d) (runVtiles d t) d
  have settled : ∀ e, KeepsRuns e (settleMirror t e) := fun e =>
    .ite ((modMirror_keepsRuns t _ e).trans (modTenant_keepsRuns _)) (.refl e)
  have finished : KeepsRuns d (finishMirror t d) := copied.trans (settled _)
  unfold beginMirror
  dsimp only
  split
  · exact finished.trans (modTenant_keepsRuns _)
  · exact .ite (finished.trans (modTenant_keepsRuns _))
      ((finished.trans (modTenant_keepsRuns _)).trans (.foldl (fun _ _ => {}) _ _))

/-! ### What is undone before a run goes on (R551) -/

theorem ite_host {p : Prop} [Decidable p] {a b d : Device} (h : a.host = d.host) (k : b.host = d.host) :
    (if p then a else b).host = d.host := by
  split
  · exact h
  · exact k

theorem foldl_host {α : Type} {f : Device → α → Device} (h : ∀ d x, (f d x).host = d.host) (l : List α) (d : Device) :
    (l.foldl f d).host = d.host :=
  List.foldlRecOn (motive := fun e => e.host = d.host) l f rfl fun e same x _ => (h e x).trans same

theorem copyThrough_host (v : VtileRef) (t : TenantId) (a n : Nat) (d : Device) : (copyThrough v t a n d).host = d.host := by
  unfold copyThrough
  split
  · rfl
  · exact ite_host (foldl_host (fun d _ => (copyPage_keepsRuns v t d).host) _ d) rfl

theorem regather_host (t : TenantId) (v : VtileRef) (base : Nat) (d : Device) : (regather t v base d).host = d.host := by
  unfold regather gather
  extract_lets a lo vals slots d1
  have gathered : d1.host = d.host := by
    unfold d1
    split <;> rfl
  exact (copyThrough_host ..).trans gathered

theorem restoreArea_host (t : TenantId) (m : Mirror) (n : Nat) (d : Device) : (restoreArea t m n d).host = d.host := by
  unfold restoreArea
  split
  · split
    · exact ite_host rfl (regather_host ..)
    · rfl
  · rfl

theorem undoStopped_host (t : TenantId) (d : Device) : (undoStopped t d).host = d.host := by
  unfold undoStopped
  extract_lets undo d1 d2
  have restored : d2.host = d1.host := by
    unfold d2
    split
    · exact foldl_host (fun d n => restoreArea_host t _ n d) _ d1
    · rfl
  exact restored

/-! ### The beginning of a run (R528) -/

/-- In the second device a run has begun: the tenant's run is running with that run id and next step; no command has completed. -/
structure Begins (r : Run) (runId first : Nat) (a b : Device) : Prop extends KeepsCalls a b where
  state : (b.tenant r.call.tenant).runState = .running
  runId : (b.tenant r.call.tenant).runId = some runId
  nextStep : (b.tenant r.call.tenant).nextStep = first
  run : (b.tenant r.call.tenant).run = some r

theorem Begins.trans_keepsRuns {r : Run} {runId first : Nat} {a b e : Device} (h : Begins r runId first a b) (k : KeepsRuns b e) :
    Begins r runId first a e where
  toKeepsCalls := h.toKeepsCalls.trans (.of_host k.host)
  state := (congrArg Tenant.runState (k.same r.call.tenant)).trans h.state
  runId := (congrArg Tenant.runId (k.same r.call.tenant)).trans h.runId
  nextStep := (congrArg Tenant.nextStep (k.same r.call.tenant)).trans h.nextStep
  run := (congrArg Tenant.run (k.same r.call.tenant)).trans h.run

theorem openRun_begins (r : Run) (runId first : Nat) (item : List Byte) (d : Device) :
    Begins r runId first d (openRun r runId first item d) := by
  unfold openRun
  extract_lets t d1 x new same d2
  have undone : d1.host = d.host := by
    unfold d1
    split
    · exact ite_host rfl (undoStopped_host t d)
    · rfl
  have opened : Begins r runId first d d2 := by
    refine { toKeepsCalls := .of_host undone, state := ?_, runId := ?_, nextStep := ?_, run := ?_ } <;>
      exact congrArg _ (modTenant_tenant_same t _ d1)
  split
  · exact opened
  · split
    · exact opened
    · exact opened.trans_keepsRuns (beginMirror_keepsRuns t first d2)

end Sys2Proof.Machine
end

section
/-! SUPPORT. The four commands that begin a run: BUSY while one is in progress, and what each opens when nothing refuses it (R297, R303,
R502, R528, R558, R580). -/

set_option Elab.async false

namespace Sys2Proof.Machine

open Sys2Proof

theorem runCommand_free {c : Call} {d : Device} (idle : running d c.tenant = false) (k : Device → Device) : runCommand c k d = k d :=
  if_neg (by simp [idle])

/-- A run command is refused while a run of its tenant is in progress. -/
theorem runCommand_busy {c : Call} {i : Instr} {s : State} {k : Device → Device} (served : Served c s.dev)
    (runs : running s.dev c.tenant = true) (e : exec i s = done s (runFw c (runCommand c k) s.dev)) :
    Completes i s fun d => Answered c .busy 0 [] d ∧ d.tenants = s.dev.tenants := by
  refine completes_of_done e ?_
  rw [runFw_served served, runCommand, if_pos ((running_of_tenants (acceptCall_tenants c s.dev) c.tenant).trans runs)]
  exact ⟨finish_answered c .busy 0 _, finish_tenants c .busy 0 _⟩

theorem withSeed_held {c : Call} {seed : Seed} {d : Device} (held : (d.tenant c.tenant).seed = some seed) (k : Seed → Device → Device) :
    withSeed c k d = k seed d := by
  simp [withSeed, held]

theorem withModel_found {c : Call} {m : Model} {d : Device} (reason : Nat) (found : findModel d c.tenant (field (c.w 1) 0 32) = some m)
    (k : Model → Device → Device) : withModel c reason k d = k m d := by
  simp [withModel, found]

/-! ### STEP_RUN and DECODE_RUN (R303, R412, R580) -/

/-- The run that STEP_RUN asks for. -/
def stepsRun (c : Call) (p : Package) (seed : Seed) : Run :=
  { call := c, kind := .steps, seed := seed, budget := p.decl.budget, package := some p.handle
    left := if field (c.w 4) 0 32 = 0 then none else some (field (c.w 4) 0 32), period := field (c.w 5) 0 30 * us }

/-- The row parameters that DECODE_RUN asks for. -/
def decodeRow (c : Call) : RowParams :=
  { n := 1, temp := BitVec.ofNat 32 (field (c.w 5) 0 32), topK := field (c.w 6) 0 11
    topP := BitVec.ofNat 32 (field (c.w 5) 32 32), stream := field (c.w 6) 16 8, row := 0 }

/-- The run that DECODE_RUN asks for. -/
def tokensRun (c : Call) (p : Package) (seed : Seed) : Run :=
  { call := c, seed := seed, budget := p.decl.budget, package := some p.handle
    kind := .decode (field (c.w 4) 0 32) (field (c.w 4) 32 4) (decodeRow c).temp.toNat (decodeRow c).topK (decodeRow c).topP.toNat
      (decodeRow c).stream (field (c.w 7) 0 32) (field (c.w 7) 32 32) }

section

variable {c : Call} {d : Device} {p : Package} (idle : running d c.tenant = false)
  (found : (d.tenant c.tenant).packages.find? (fun k => decide (k.handle = field (c.w 1) 0 32)) = some p) (ready : p.ready = true)
include idle found ready

theorem stepRun_badPeriod (paced : field (c.w 5) 0 30 ≠ 0) (outside : field (c.w 5) 0 30 < 1000 ∨ 1000000 < field (c.w 5) 0 30) :
    stepRun c d = badParam c 0 d := by
  rw [stepRun, runCommand_free idle, withPackage_loaded _ found ready]
  exact if_pos ⟨paced, outside⟩

variable {seed : Seed} (held : (d.tenant c.tenant).seed = some seed) (spans : spanRefusal d (List.range p.decl.extent) = none)
include held spans

theorem stepRun_opens (inside : field (c.w 5) 0 30 = 0 ∨ (1000 ≤ field (c.w 5) 0 30 ∧ field (c.w 5) 0 30 ≤ 1000000))
    (values : runValuesOk d c.tenant (c.w 2) (c.w 3) (field (c.w 4) 0 32) = none) :
    stepRun c d = openRun (stepsRun c p seed) (c.w 2) (c.w 3) (commandItem c true false) d := by
  rw [stepRun, runCommand_free idle, withPackage_loaded _ found ready]
  dsimp only
  rw [if_neg (by omega), withSeed_held held, spans, values]
  rfl

theorem decodeRun_opens (drafts : field (c.w 4) 32 4 ≤ 8) (budget : 16 * (field (c.w 4) 32 4 + 1) ≤ p.decl.budget)
    (decodes : p.decl.decodes = true) (row : rowParamsOk (decodeRow c) 65536 = true)
    (input : ∃ x, findTensor d c.tenant (field (c.w 7) 0 32) = some x ∧ x.ready = true)
    (stop : field (c.w 7) 32 32 = 0 ∨ ∃ x, findTensor d c.tenant (field (c.w 7) 32 32) = some x ∧ x.ready = true)
    (values : runValuesOk d c.tenant (c.w 2) (c.w 3) 0 = none) :
    decodeRun c d = openRun (tokensRun c p seed) (c.w 2) (c.w 3) (commandItem c true false) d := by
  obtain ⟨x, named, whole⟩ := input
  have allowed : ¬(8 < field (c.w 4) 32 4 ∨ p.decl.budget < 16 * (field (c.w 4) 32 4 + 1) ∨ ¬p.decl.decodes ∨
      ¬rowParamsOk (decodeRow c) 65536) := by
    simp only [decodes, row, not_true, or_false]
    omega
  rw [decodeRun, runCommand_free idle, withPackage_loaded _ found ready]
  dsimp only
  refine (if_neg allowed).trans ?_
  rw [withTensor_ready _ named whole]
  rcases stop with zero | ⟨y, stops, there⟩
  · rw [if_pos zero, withSeed_held held, spans, values]
    rfl
  · split
    · rw [withSeed_held held, spans, values]
      rfl
    · rw [withTensor_ready _ stops there, withSeed_held held, spans, values]
      rfl

end

/-! ### ANNEAL_RUN (R376 to R381) -/

/-- The run that ANNEAL_RUN asks for with a run description. -/
def sweepsRun (c : Call) (m : Model) (seed : Seed) (bs : List Byte) : Run :=
  { call := c, kind := .anneal m.handle bs (c.flag 8), seed := seed, budget := annealBudget m bs, package := m.package }

theorem annealRun_opens {c : Call} {d : Device} {m : Model} {x : Tensor} {seed : Seed} {bs : List Byte}
    (idle : running d c.tenant = false) (found : findModel d c.tenant (field (c.w 1) 0 32) = some m)
    (named : findTensor d c.tenant (field (c.w 2) 0 32) = some x) (ready : x.ready = true) (whole : x.lost = [])
    (read : x.bytes.readN 0 (min x.size 1320) = bs) (held : (d.tenant c.tenant).seed = some seed) (allowed : runRefusal d m bs = none)
    (spans : spanRefusal d (modelSpans m) = none) (values : runValuesOk d c.tenant (rdRunId bs) (rdStep0 bs) 0 = none) :
    annealRun c d = openRun (sweepsRun c m seed bs) (rdRunId bs) (rdStep0 bs) (commandItem c true false) d := by
  rw [annealRun, runCommand_free idle, withModel_found _ found, withTensor_ready _ named ready]
  simp only [readFree_whole whole, read]
  rw [withSeed_held held]
  simp only [allowed, spans, values]
  rfl

/-! ### REPLAY_BEGIN (R558) -/

/-- What REPLAY_BEGIN asks for. -/
def replayOf (c : Call) : Replay :=
  { first := c.w 2, last := c.w 3, expected := field (c.w 4) 0 32, log := field (c.w 4) 32 32, hosts := field (c.w 5) 0 32
    keepGoing := c.flag 9, stop := if c.w 6 = 2 ^ 64 - 1 then none else some (c.w 6, field (c.w 7) 0 32) }

/-- The run that it asks for when the expected records name no package. -/
def replayRun (c : Call) (seed : Seed) : Run := { call := c, kind := .steps, seed := seed, replay := some (replayOf c) }

/-- The run state stands at the first step of the replay, with the chain of the record before it or the initial one (R558). -/
def ChainStands (c : Call) (seed : Seed) (d : Device) : Prop :=
  let lead := firstExpected d c.tenant (field (c.w 4) 0 32)
  if kindOf lead = recStep ∧ leAt lead 32 8 + 1 = c.w 2 ∧ leAt lead 40 8 = c.w 1 then
    (d.tenant c.tenant).runId = some (c.w 1) ∧ slice lead 128 16 = bytes16 (d.tenant c.tenant).chain
  else (d.tenant c.tenant).runId ≠ some (c.w 1) ∨ (d.tenant c.tenant).chain = chainInit (c.w 1) seed.id

theorem expectedStep_of_expected {p q : Replay} (same : p.expected = q.expected) (d : Device) (t : TenantId) (runId n : Nat) :
    expectedStep d t p runId n = expectedStep d t q runId n := by
  simp [expectedStep, same]

theorem replayOpen_opens {c : Call} {seed : Seed} {d : Device} {p : Replay} {b : List Byte} (expected : p.expected = field (c.w 4) 0 32)
    (order : c.w 2 ≤ c.w 3) (bound : c.w 3 < 2 ^ 48)
    (stands : (d.tenant c.tenant).runId = some (c.w 1) → (d.tenant c.tenant).nextStep = c.w 2) (chain : ChainStands c seed d)
    (found : expectedStep d c.tenant p (c.w 1) (c.w 2) = some b) (unpackaged : slice b 64 16 = List.replicate 16 0)
    (unloaded : (d.tenant c.tenant).packages = []) :
    replayOpen c seed d = openRun (replayRun c seed) (c.w 1) (c.w 2) []
      (writeRecord recReplay c.tenant.val (leBytes 8 (c.w 1) ++ leBytes 8 (c.w 2) ++ leBytes 8 (c.w 3)) d) := by
  have found' : expectedStep d c.tenant (replayOf c) (c.w 1) (c.w 2) = some b :=
    (expectedStep_of_expected expected.symm d c.tenant (c.w 1) (c.w 2)).trans found
  unfold replayOpen
  extract_lets t x runId p' lead led held chainOk
  have leads : led = true ↔ kindOf lead = recStep ∧ leAt lead 32 8 + 1 = c.w 2 ∧ leAt lead 40 8 = c.w 1 := by
    simp [led, p', runId, and_assoc]
  have chained : chainOk = true := by
    unfold ChainStands at chain
    dsimp only at chain
    unfold chainOk
    split at chain
    next record =>
      obtain ⟨mine, same⟩ := chain
      rw [if_pos (leads.mpr record)]
      simpa [held, x, t, runId, mine] using same
    next other =>
      rw [if_neg (mt leads.mp other)]
      simpa [held, x, t, runId] using chain
  have inOrder : ¬(p'.last < p'.first ∨ held = true ∧ x.nextStep ≠ p'.first ∨ ¬chainOk = true) := by
    rintro (late | ⟨mine, elsewhere⟩ | broken)
    · exact absurd late (Nat.not_lt.mpr order)
    · exact elsewhere (stands (of_decide_eq_true mine))
    · exact broken chained
  have empty : x.packages = [] := unloaded
  rw [if_neg inOrder, if_neg (Nat.not_le.mpr bound)]
  simp only [show expectedStep d t p' runId p'.first = some b from found', empty, unpackaged]
  rfl

end Sys2Proof.Machine
end

section
/-! CERTIFICATE. STEP_RUN, DECODE_RUN, ANNEAL_RUN and REPLAY_BEGIN are BUSY during a run and begin theirs otherwise (R297, R303, R502,
R528, R558, R580, R621). -/

set_option Elab.async false

namespace Sys2Proof.Machine

open Sys2Proof

theorem exec_stepRun (c : Call) (s : State) : exec (.stepRun c) s = done s (runFw c (stepRun c) s.dev) := rfl
theorem exec_decodeRun (c : Call) (s : State) : exec (.decodeRun c) s = done s (runFw c (decodeRun c) s.dev) := rfl
theorem exec_annealRun (c : Call) (s : State) : exec (.annealRun c) s = done s (runFw c (annealRun c) s.dev) := rfl
theorem exec_replayBegin (c : Call) (s : State) : exec (.replayBegin c) s = done s (runFw c (replayBegin c) s.dev) := rfl

/-- A run that begins leaves its command in execution. -/
theorem openRun_held {c : Call} {d e : Device} (accepted : KeepsCalls (acceptCall c d) e) (r : Run) (runId first : Nat) (item : List Byte) :
    Held c d (openRun r runId first item e) :=
  (acceptCall_held c d).trans_keepsCalls (accepted.trans (openRun_begins r runId first item e).toKeepsCalls)

/-- Settles O31: `runCommand_busy` for the refusals, `openRun_begins` with the equation of each command for the runs. -/
theorem runCommandsBeginARunOrAreRefused : Obligations.RunCommandsBeginARunOrAreRefused := by
  unfold Obligations.RunCommandsBeginARunOrAreRefused
  refine ⟨fun c s served runs i mem => ?busy, fun c s p seed served idle found ready held spans => ⟨fun paced outside => ?period,
      fun inside values => ?steps, fun drafts budget decodes row input stop values => ?tokens⟩,
    fun c s m x seed served idle found named ready whole held allowed spans values => ?sweeps,
    fun c s p seed b served idle tensors held expected order bound stands chain found unpackaged unloaded => ?replay⟩
  case busy =>
    simp only [List.mem_cons, List.not_mem_nil, or_false] at mem
    rcases mem with rfl | rfl | rfl | rfl
    · exact runCommand_busy served runs (exec_stepRun c s)
    · exact runCommand_busy served runs (exec_decodeRun c s)
    · exact runCommand_busy served runs (exec_annealRun c s)
    · exact runCommand_busy served runs (exec_replayBegin c s)
  case period =>
    refine completes_of_done (exec_stepRun c s) ?_
    rw [runFw_served served, stepRun_badPeriod (d := acceptCall c s.dev) idle found ready paced outside]
    exact ⟨badParam_answered c 0 _, badParam_tenants c 0 _⟩
  case steps =>
    refine completes_of_done (exec_stepRun c s) ?_
    rw [runFw_served served, stepRun_opens (d := acceptCall c s.dev) idle found ready held spans inside values]
    have begins := openRun_begins (stepsRun c p seed) (c.w 2) (c.w 3) (commandItem c true false) (acceptCall c s.dev)
    exact ⟨openRun_held (.refl _) _ _ _ _, begins.state, begins.runId, begins.nextStep, _, begins.run, rfl, rfl, rfl, rfl, rfl, rfl, rfl,
      rfl, rfl⟩
  case tokens =>
    refine completes_of_done (exec_decodeRun c s) ?_
    rw [runFw_served served,
      decodeRun_opens (d := acceptCall c s.dev) idle found ready held spans drafts budget decodes row input stop values]
    have begins := openRun_begins (tokensRun c p seed) (c.w 2) (c.w 3) (commandItem c true false) (acceptCall c s.dev)
    exact ⟨openRun_held (.refl _) _ _ _ _, begins.state, begins.runId, begins.nextStep, _, begins.run, rfl, rfl, rfl, rfl, rfl, _, _, _, _,
      rfl⟩
  case sweeps =>
    refine completes_of_done (exec_annealRun c s) ?_
    rw [runFw_served served, annealRun_opens (d := acceptCall c s.dev) idle found named ready whole rfl held allowed spans values]
    have begins := openRun_begins (sweepsRun c m seed (x.bytes.readN 0 (min x.size 1320)))
      (rdRunId (x.bytes.readN 0 (min x.size 1320))) (rdStep0 (x.bytes.readN 0 (min x.size 1320))) (commandItem c true false)
      (acceptCall c s.dev)
    exact ⟨openRun_held (.refl _) _ _ _ _, begins.state, begins.runId, begins.nextStep, _, begins.run, rfl, rfl, rfl, rfl⟩
  case replay =>
    obtain ⟨x, records, whole⟩ := tensors (field (c.w 4) 0 32) (by simp)
    obtain ⟨y, log, logged⟩ := tensors (field (c.w 4) 32 32) (by simp)
    obtain ⟨z, hosts, hosted⟩ := tensors (field (c.w 5) 0 32) (by simp)
    refine completes_of_done (exec_replayBegin c s) ?_
    rw [runFw_served served, replayBegin, runCommand_free (d := acceptCall c s.dev) idle,
      withTensor_ready (d := acceptCall c s.dev) _ records whole, withTensor_ready (d := acceptCall c s.dev) _ log logged,
      withTensor_ready (d := acceptCall c s.dev) _ hosts hosted, withSeed_held (d := acceptCall c s.dev) held,
      replayOpen_opens (d := acceptCall c s.dev) expected order bound stands chain found unpackaged unloaded]
    have begins := openRun_begins (replayRun c seed) (c.w 1) (c.w 2) []
      (writeRecord recReplay c.tenant.val (leBytes 8 (c.w 1) ++ leBytes 8 (c.w 2) ++ leBytes 8 (c.w 3)) (acceptCall c s.dev))
    exact ⟨openRun_held (writeRecord_keepsCalls _ _ _ _) _ _ _ _, begins.state, begins.runId, begins.nextStep, _, _, begins.run, rfl, rfl,
      rfl, rfl, rfl, rfl⟩

end Sys2Proof.Machine
end

section
/-! SUPPORT. The Strainers: what serving a queue keeps of a Strainer's rows, what admission, blocks, time-outs and fencing do to them, and
which steps they invalidate (R318, R414, R421, R443, R444, R446). -/

set_option Elab.async false

namespace Sys2Proof.Machine

open Sys2Proof

/-! ### Invalid steps (R30) -/

/-- A tenant has a step in progress, and it is invalid. -/
def Invalid (d : Device) (t : TenantId) : Prop := ∃ st, d.stepOf t = some st ∧ st.reason.isSome = true

theorem Invalid.of_tenants {a b : Device} {t : TenantId} (h : Invalid a t) (k : b.tenants = a.tenants) : Invalid b t := by
  rwa [Invalid, stepOf_of_tenants k]

theorem stepOf_of_inStep {d : Device} {t : TenantId} (step : d.inStep t = true) : (d.stepOf t).isSome = true := by
  unfold Device.inStep at step
  split at step
  next st found => simp [found]
  next => cases step

theorem invalidate_isSome (u t : TenantId) (reason : Nat) (src : Option Nat) (d : Device) :
    ((invalidate u reason src d).stepOf t).isSome = (d.stepOf t).isSome := by
  have kept : KeepsCourse d (invalidate u reason src d) := modStep_keepsCourse d
  simpa using congrArg Option.isSome (kept.origin t)

theorem invalidate_invalid {t : TenantId} {d : Device} (step : (d.stepOf t).isSome = true) (reason : Nat) (src : Option Nat) :
    Invalid (invalidate t reason src d) t := by
  obtain ⟨st, found⟩ := Option.isSome_iff_exists.mp ((invalidate_isSome t t reason src d).trans step)
  exact ⟨st, found, invalidate_reason t reason src d found⟩

theorem Invalid.invalidate {t : TenantId} {d : Device} (h : Invalid d t) (u : TenantId) (reason : Nat) (src : Option Nat) :
    Invalid (Machine.invalidate u reason src d) t := by
  by_cases same : u = t
  · obtain ⟨st, step, _⟩ := h
    exact same ▸ invalidate_invalid (by simp [same, step]) reason src
  · have other : (Machine.invalidate u reason src d).tenant t = d.tenant t := (modTenant_tenant u t _ d).trans (if_neg same)
    obtain ⟨st, step, invalid⟩ := h
    exact ⟨st, (congrArg (fun x : Tenant => x.run.bind (·.step)) other).trans step, invalid⟩

/-! ### Serving a Strainer's queue (R443) -/

/-- A row apart from when it was admitted. -/
def RowCtx.unadmitted (r : RowCtx) : RowCtx := { r with admitted := 0 }

/-- The rows that a Strainer holds: those in its contexts and those that wait. -/
def Strainer.rows (x : Strainer) : List RowCtx := x.ctx ++ x.queue

/-- In the second device rows of a Strainer's queue may have taken contexts; its rows are the same, and so are the other Strainers, the
tenants, the scratchpads and the instant. -/
structure ServesQueue (k : StrainerId) (a b : Device) : Prop where
  rows : ((b.strainer k).rows.map RowCtx.unadmitted).Perm ((a.strainer k).rows.map RowCtx.unadmitted)
  result : (b.strainer k).result = (a.strainer k).result
  fenced : (b.strainer k).fenced = (a.strainer k).fenced
  others : ∀ i : StrainerId, i ≠ k → b.strainer i = a.strainer i
  tenants : b.tenants = a.tenants
  scratch : b.scratch = a.scratch
  now : b.now = a.now

theorem ServesQueue.refl (k : StrainerId) (a : Device) : ServesQueue k a a := ⟨.refl _, rfl, rfl, fun _ _ => rfl, rfl, rfl, rfl⟩

theorem ServesQueue.trans {k : StrainerId} {a b c : Device} (h : ServesQueue k a b) (l : ServesQueue k b c) : ServesQueue k a c where
  rows := l.rows.trans h.rows
  result := l.result.trans h.result
  fenced := l.fenced.trans h.fenced
  others i other := (l.others i other).trans (h.others i other)
  tenants := l.tenants.trans h.tenants
  scratch := l.scratch.trans h.scratch
  now := l.now.trans h.now

/-- A row that waits takes a context. -/
def takeContext (k : StrainerId) (r : RowCtx) (d : Device) : Device :=
  modStrainer k (fun x => { x with
    queue := x.queue.eraseP (fun y => decide (y = r)), ctx := x.ctx ++ [{ r with admitted := d.now }] }) d

theorem takeContext_serves {k : StrainerId} {r : RowCtx} {d : Device} (waits : r ∈ (d.strainer k).queue) :
    ServesQueue k d (takeContext k r d) where
  rows := by
    obtain ⟨r', before, after, _, same, queue, erased⟩ :=
      List.exists_of_eraseP (p := fun y => decide (y = r)) waits (decide_eq_true rfl)
    obtain rfl : r' = r := of_decide_eq_true same
    rw [takeContext, modStrainer_strainer_same]
    simp only [Strainer.rows, erased]
    rw [queue]
    simp only [List.map_append, List.map_cons, List.append_assoc, List.singleton_append]
    exact (List.perm_middle (a := r'.unadmitted)).symm.append_left _
  result := by rw [takeContext, modStrainer_strainer_same]
  fenced := by rw [takeContext, modStrainer_strainer_same]
  others i other := by rw [takeContext, modStrainer_strainer, if_neg other.symm]
  tenants := rfl
  scratch := rfl
  now := rfl

/-- A change outside the Strainers, the tenants, the scratchpads and the clock. -/
theorem ServesQueue.of_eq {k : StrainerId} {a b : Device} (strainers : b.strainers = a.strainers) (tenants : b.tenants = a.tenants)
    (scratch : b.scratch = a.scratch) (now : b.now = a.now) : ServesQueue k a b := by
  have same : ∀ i, b.strainer i = a.strainer i := fun i => by simp [Device.strainer, strainers]
  exact ⟨by rw [same], by rw [same], by rw [same], fun i _ => same i, tenants, scratch, now⟩

theorem serveQueue_serves (k : StrainerId) (n : Nat) (d : Device) : ServesQueue k d (serveQueue k n d) := by
  induction n generalizing d with
  | zero => exact .refl k d
  | succ n ih =>
    unfold serveQueue
    extract_lets x ready
    split
    · exact .refl k d
    have passed : ServesQueue k d (passSlot 5 k.val ready d).2 := .of_eq rfl rfl rfl rfl
    have kept : (passSlot 5 k.val ready d).2.strainer k = x := rfl
    split
    next e slot =>
      rw [slot] at passed
      exact passed.trans (ih e)
    next u b e slot =>
      rw [slot] at passed kept
      split
      · exact passed
      next r found =>
        extract_lets e1 e2
        have counted : ServesQueue k e e2 := by
          refine .trans (b := e1) ?_ (.of_eq rfl rfl rfl rfl)
          unfold e1
          split
          · exact .of_eq rfl rfl rfl rfl
          · exact .refl k e
        have waits : r ∈ (e2.strainer k).queue := by
          have same : e2.strainer k = x := by
            unfold e2 e1
            split <;> exact kept
          exact same ▸ List.mem_of_find?_eq_some found
        exact ((passed.trans counted).trans (takeContext_serves waits)).trans (ih _)

/-! ### Admission (R318, R414, R446) -/

/-- The row that asks for a context. -/
def askingRow (t : TenantId) (q : RowParams) (expect group pos size : Nat) (v : VtileRef) (addr : Nat) (d : Device) : RowCtx :=
  { tenant := t.val, params := q, expect := expect, asked := d.now, admitted := d.now, group := group, pos := pos, size := size
    dest := vtNum v, addr := addr }

/-- The place of a row in its group, by which the rows of a step are told apart (R414). -/
def rowTag (q : RowParams) (pos : Nat) : Nat := if q.kind = .group then pos + 1 else 0

/-- A row is noted in its step and waits at a Strainer. -/
def enqueueRow (j : StrainerId) (t : TenantId) (tag : Nat) (r : RowCtx) (d : Device) : Device :=
  modStrainer j (fun x => { x with queue := x.queue ++ [r] })
    (modStep t (fun s => { s with rows := (r.params.stream, r.params.row, tag) :: s.rows }) d)

section

variable {t : TenantId} {p q : RowParams} {pos : Nat} {d : Device} {st : Step} (step : d.stepOf t = some st)
  (started : st.started = true) (goes : st.halted = false) (own : rowParamsOf d t p = q)
include step started goes own

theorem admitRow_misused
    (bad : (rowParamsOk q ((drawKey d t).2.2 / 16) && !repeatsRow st q.stream q.row (rowTag q pos)) = false) (k : StrainerId)
    (e g size : Nat) (v : VtileRef) (addr : Nat) : admitRow k t p e g pos size v addr d = invalidate t 0x17 none d := by
  subst own
  simp only [admitRow, step, started, goes, Bool.not_true, Bool.or_false, Bool.false_eq_true, if_false]
  exact if_pos (by simpa [rowTag, Classical.or_iff_not_imp_left] using bad)

variable (good : (rowParamsOk q ((drawKey d t).2.2 / 16) && !repeatsRow st q.stream q.row (rowTag q pos)) = true)
include good

theorem admitRow_unserved {k : StrainerId} (fenced : serving d k = none) (e g size : Nat) (v : VtileRef) (addr : Nat) :
    admitRow k t p e g pos size v addr d = invalidate t 0x08 none d := by
  subst own
  simp only [admitRow, step, started, goes, Bool.not_true, Bool.or_false, Bool.false_eq_true, if_false, fenced]
  exact if_neg (by simpa [rowTag] using good)

theorem admitRow_served {k j : StrainerId} (serves : serving d k = some j) (e g size : Nat) (v : VtileRef) (addr : Nat) :
    admitRow k t p e g pos size v addr d =
      serveQueue j 512 (enqueueRow j t (rowTag q pos) (askingRow t q e g pos size v addr d) d) := by
  subst own
  simp only [admitRow, step, started, goes, Bool.not_true, Bool.or_false, Bool.false_eq_true, if_false, serves]
  exact if_neg (by simpa [rowTag] using good)

end

theorem enqueueRow_strainer (j i : StrainerId) (t : TenantId) (tag : Nat) (r : RowCtx) (d : Device) :
    (enqueueRow j t tag r d).strainer i =
      if j = i then { d.strainer i with queue := (d.strainer i).queue ++ [r] } else d.strainer i := by
  rw [enqueueRow, modStrainer_strainer]
  rfl

/-- A row that asks for a context has a place at its Strainer, and nothing else changes there. -/
theorem enqueueRow_served (j : StrainerId) (t : TenantId) (tag : Nat) (r : RowCtx) (d : Device) :
    (∃ x ∈ ((serveQueue j 512 (enqueueRow j t tag r d)).strainer j).rows, x.unadmitted = r.unadmitted) ∧
      ((serveQueue j 512 (enqueueRow j t tag r d)).strainer j).rows.length = (d.strainer j).rows.length + 1 := by
  have served := (serveQueue_serves j 512 (enqueueRow j t tag r d)).rows
  rw [enqueueRow_strainer, if_pos rfl] at served
  constructor
  · have mem : r.unadmitted ∈ ((serveQueue j 512 (enqueueRow j t tag r d)).strainer j).rows.map RowCtx.unadmitted :=
      served.mem_iff.mpr (List.mem_map_of_mem (by simp [Strainer.rows]))
    exact List.mem_map.mp mem
  · simpa [Strainer.rows, Nat.add_assoc] using served.length_eq

/-! ### Blocks and completed rows (R421, R425) -/

theorem findRow_mem {d : Device} {t stream row pos : Nat} {k : StrainerId} {r : RowCtx} (found : findRow d t stream row pos = some (k, r)) :
    r ∈ (d.strainer k).ctx := by
  obtain ⟨j, -, at_⟩ := List.exists_of_findSome?_eq_some found
  obtain ⟨x, row, same⟩ := Option.map_eq_some_iff.mp at_
  cases same
  exact List.mem_of_find?_eq_some row

/-- A row with one more block. -/
def RowCtx.gather (r : RowCtx) (b : CandBlock) : RowCtx := { r with blocks := r.blocks ++ [b] }

/-- A block is added to a row in a context. -/
def addBlock (k : StrainerId) (r : RowCtx) (b : CandBlock) (d : Device) : Device :=
  modStrainer k (fun x => { x with ctx := x.ctx.map fun y => if y = r then r.gather b else y }) (bumpBy .candidates k.val b.cands.length d)

/-- The record of the draw of a row whose blocks are all there. -/
def drawnRecord (d : Device) (t : TenantId) (r : RowCtx) : List Byte :=
  rowRecord (rowDraw (rowKept r.params r.blocks) (rowUniform d t r.params.stream r.params.row 0)) false

section

variable {t : TenantId} {stream row pos : Nat} {d : Device} {k : StrainerId} {r : RowCtx}
  (found : findRow d t.val stream row pos = some (k, r))
include found

theorem candidateBlock_full (full : r.expect ≤ r.blocks.length) (b : CandBlock) : candidateBlock t stream row pos b d = d := by
  simp [candidateBlock, found, full]

theorem strainerTimesOut_full (full : r.expect ≤ r.blocks.length) : strainerTimesOut t stream row pos d = d := by
  simp [strainerTimesOut, found, Nat.not_lt.mpr full]

theorem candidateBlock_gathers (lacks : r.blocks.length + 1 < r.expect) (b : CandBlock) :
    candidateBlock t stream row pos b d = addBlock k r b d := by
  have more : ¬r.expect ≤ r.blocks.length := by omega
  have last : ¬r.blocks.length + 1 = r.expect := by omega
  simp [candidateBlock, found, more, last, addBlock, RowCtx.gather]

theorem candidateBlock_completes (last : r.blocks.length + 1 = r.expect) (b : CandBlock) :
    candidateBlock t stream row pos b d = finishRow k t (r.gather b) (addBlock k r b d) := by
  have more : ¬r.expect ≤ r.blocks.length := by omega
  simp [candidateBlock, found, more, last, addBlock, RowCtx.gather]

end

theorem addBlock_strainer (k : StrainerId) (r : RowCtx) (b : CandBlock) (d : Device) : (addBlock k r b d).strainer k =
    { d.strainer k with ctx := (d.strainer k).ctx.map fun y => if y = r then r.gather b else y } := by
  rw [addBlock, modStrainer_strainer_same]
  rfl

theorem rowUniform_of_tenants {a b : Device} (tenants : b.tenants = a.tenants) (span : b.span = a.span) (t : TenantId)
    (stream row j : Nat) : rowUniform b t stream row j = rowUniform a t stream row j := by
  have carried : carriesIndex b = carriesIndex a := by
    funext i
    simp [carriesIndex, span]
  simp [rowUniform, drawKey, carried, tenant_of_tenants tenants, stepOf_of_tenants tenants]

/-- A row that leaves its context leaves its record at the Strainer and in the scratchpad, when its place exists. -/
theorem leaveContext_leaves (k : StrainerId) (r : RowCtx) (record : List Byte) (d : Device) :
    ((leaveContext k r record d).strainer k).result = record ∧
      (leaveContext k r record d).scratch = (landResult r record d).scratch ∧
      (leaveContext k r record d).tenants = d.tenants ∧ (leaveContext k r record d).now = d.now := by
  unfold leaveContext
  extract_lets d1
  have landed : (landResult r record d1).strainers = d1.strainers ∧ (landResult r record d1).tenants = d.tenants ∧
      (landResult r record d1).now = d.now := by
    unfold landResult
    split <;> exact ⟨rfl, rfl, rfl⟩
  obtain ⟨strainers, tenants, now⟩ := landed
  have served := serveQueue_serves k 512 (landResult r record d1)
  refine ⟨served.result.trans ?_, served.scratch.trans ?_, served.tenants.trans tenants, served.now.trans now⟩
  · rw [Device.strainer, strainers]
    exact congrArg Strainer.result (modStrainer_strainer_same k _ d)
  · unfold landResult
    split <;> rfl

theorem landResult_readN {r : RowCtx} {bs : List Byte} {d : Device} (whole : d.scratch.wf = true)
    (place : spadOk r.addr bs.length = true) : (landResult r bs d).scratch.readN (r.dest * 2 ^ 19 + r.addr) bs.length = bs := by
  rw [landResult, if_pos place]
  exact Mem.readN_writeN bs d.scratch _ whole

theorem countRow_aside (t : TenantId) (o : RowOut) (d : Device) : Aside d (countRow t o d) :=
  (bump_aside .rows t.val d).trans ((Aside.ite (bump_aside _ _ _) (.refl _)).trans
    ((Aside.ite (bump_aside _ _ _) (.refl _)).trans (Aside.ite (bump_aside _ _ _) (.refl _))))

theorem countRow_tenants (t : TenantId) (o : RowOut) (d : Device) : (countRow t o d).tenants = d.tenants :=
  ite_tenants (ite_tenants (ite_tenants rfl rfl) (ite_tenants rfl rfl)) (ite_tenants (ite_tenants rfl rfl) (ite_tenants rfl rfl))

theorem roundTokens_aside (t : TenantId) (tokens : List Nat) (empty : Bool) (d : Device) : Aside d (roundTokens t tokens empty d) := by
  unfold roundTokens
  split
  · split
    · exact modStep_aside t _ d
    · exact .refl d
  · exact .refl d

/-- An ordinary row whose blocks are all there leaves the record of its draw. -/
theorem finishRow_draws {k : StrainerId} {t : TenantId} {r : RowCtx} (ordinary : r.params.kind = .ordinary) (d : Device) :
    ∃ e, e.scratch = d.scratch ∧ finishRow k t r d = leaveContext k r (drawnRecord d t r) e := by
  unfold finishRow completeRow
  rw [ordinary, if_neg (by decide), if_neg (by decide)]
  exact ⟨_, ((countRow_aside t _ d).trans (.ite (roundTokens_aside t _ _ _) (.refl _))).scratch, rfl⟩

theorem addBlock_drawnRecord (k : StrainerId) (r : RowCtx) (b : CandBlock) (d : Device) (t : TenantId) (q : RowCtx) :
    drawnRecord (addBlock k r b d) t q = drawnRecord d t q := by
  rw [drawnRecord, rowUniform_of_tenants (a := d) (b := addBlock k r b d) rfl rfl]
  rfl

/-! ### Time-outs (R444) -/

/-- What a time-out of a row does before the row leaves. -/
def timeOut (t : TenantId) (r : RowCtx) (d : Device) : Device :=
  invalidate t 0x07 none (bump .rowTimeouts t.val
    (countRow t (timeoutOut r.params) (advanceTo (r.admitted + strainerTimeout d * us) d)))

theorem strainerTimesOut_lacking {t : TenantId} {stream row pos : Nat} {d : Device} {k : StrainerId} {r : RowCtx}
    (found : findRow d t.val stream row pos = some (k, r)) (lacks : r.blocks.length < r.expect) (single : r.params.kind ≠ .group) :
    strainerTimesOut t stream row pos d = leaveContext k r (rowRecord (timeoutOut r.params) true) (timeOut t r d) := by
  simp [strainerTimesOut, found, lacks, single, timeOut]

theorem timeOut_now (t : TenantId) (r : RowCtx) (d : Device) : r.admitted + strainerTimeout d * us ≤ (timeOut t r d).now := by
  have counted := (countRow_aside t (timeoutOut r.params) (advanceTo (r.admitted + strainerTimeout d * us) d)).now
  exact (Nat.le_max_right d.now _).trans_eq counted.symm

theorem timeOut_invalid {t : TenantId} {r : RowCtx} {d : Device} (step : d.inStep t = true) : Invalid (timeOut t r d) t := by
  have counted := countRow_tenants t (timeoutOut r.params) (advanceTo (r.admitted + strainerTimeout d * us) d)
  refine invalidate_invalid ?_ _ _
  rw [stepOf_of_tenants (a := d) (bump_tenants .. |>.trans counted)]
  exact stepOf_of_inStep step

/-! ### Fencing (R446) -/

theorem foldl_invalidate_aside (l : List TenantId) (reason : Nat) (src : Option Nat) (d : Device) :
    Aside d (l.foldl (fun d t => invalidate t reason src d) d) :=
  Aside.foldl _ (fun d t => invalidate_aside d t reason src) l d

/-- A list of steps is invalidated. -/
theorem foldl_invalidate_invalid {l : List TenantId} {t : TenantId} (mem : t ∈ l) {d : Device} (step : (d.stepOf t).isSome = true)
    (reason : Nat) (src : Option Nat) : Invalid (l.foldl (fun d t => invalidate t reason src d) d) t :=
  foldl_of_mem (P := fun d => (d.stepOf t).isSome = true) (Q := fun d => Invalid d t) mem
    (fun d u there => (invalidate_isSome u t reason src d).trans there)
    (fun _ there => invalidate_invalid there reason src) (fun _ u (invalid : Invalid _ t) => invalid.invalidate u reason src) step

/-- A Strainer is fenced and empty. -/
def fenceOff (k : StrainerId) (d : Device) : Device :=
  modStrainer k (fun x => { x with fenced := true, ctx := [], drafts := [], queue := [] }) d

/-- The second device has the tenants' invalid steps, the Strainer and which others are fenced of the first. -/
structure KeepsFenced (k : StrainerId) (a b : Device) : Prop where
  strainer : b.strainer k = a.strainer k
  fenced : ∀ j : StrainerId, (b.strainer j).fenced = (a.strainer j).fenced
  invalid : ∀ t : TenantId, Invalid a t → Invalid b t

theorem KeepsFenced.refl (k : StrainerId) (a : Device) : KeepsFenced k a a := ⟨rfl, fun _ => rfl, fun _ invalid => invalid⟩

theorem KeepsFenced.trans {k : StrainerId} {a b c : Device} (h : KeepsFenced k a b) (l : KeepsFenced k b c) : KeepsFenced k a c where
  strainer := l.strainer.trans h.strainer
  fenced j := (l.fenced j).trans (h.fenced j)
  invalid t invalid := l.invalid t (h.invalid t invalid)

theorem strainer_of_aside {a b : Device} (h : Aside a b) (j : StrainerId) : b.strainer j = a.strainer j := by
  simp [Device.strainer, h.strainers]

/-- The steps of rows that no Strainer can take are invalidated. -/
theorem refuseRows_keepsFenced (k : StrainerId) (rows : List RowCtx) (d : Device) : KeepsFenced k d
    (rows.foldl (fun d r => match tenantOf r.tenant with | some t => invalidate t 0x08 (some 37) d | none => d) d) := by
  refine List.foldlRecOn (motive := KeepsFenced k d) rows _ (.refl k d) fun e kept r _ => kept.trans ?_
  split
  next t _ =>
    have aside := invalidate_aside e t 0x08 (some 37)
    exact ⟨strainer_of_aside aside k, fun j => congrArg Strainer.fenced (strainer_of_aside aside j),
      fun _ invalid => invalid.invalidate t 0x08 (some 37)⟩
  next => exact .refl k e

theorem serving_unfenced {d : Device} {k j : StrainerId} (fenced : (d.strainer k).fenced = true) (serves : serving d k = some j) :
    j ≠ k := by
  rw [serving, if_pos fenced] at serves
  have up := List.find?_some serves
  rintro rfl
  simp [fenced] at up

/-- The steps with rows in the contexts of a Strainer are invalidated, and it is fenced and empty. -/
def fenceSteps (k : StrainerId) (d : Device) : Device :=
  fenceOff k ((tenantsIn (d.strainer k)).foldl (fun d t => invalidate t 0x08 (some 37) d) d)

/-- The rows that waited then go to another Strainer, or their steps are invalidated. -/
theorem fenceStrainer_keepsFenced (k : StrainerId) (d : Device) : KeepsFenced k (fenceSteps k d) (fenceStrainer k d) := by
  unfold fenceStrainer
  extract_lets x d1 d2
  have off : (d2.strainer k).fenced = true := congrArg Strainer.fenced (modStrainer_strainer_same k _ d1)
  change KeepsFenced k d2 _
  split
  next j serves =>
    have other := serving_unfenced off serves
    have served := serveQueue_serves j 512 (modStrainer j (fun y => { y with queue := y.queue ++ x.queue }) d2)
    refine ⟨?_, fun i => ?_, fun t invalid => invalid.of_tenants served.tenants⟩
    · rw [served.others k other.symm, modStrainer_strainer, if_neg other]
    · by_cases same : i = j
      · rw [same, served.fenced, modStrainer_strainer_same]
      · rw [served.others i same, modStrainer_strainer, if_neg (Ne.symm same)]
  next => exact refuseRows_keepsFenced k x.queue d2

theorem mem_allTenants : ∀ t : TenantId, t ∈ allTenants := by decide

/-- STRAINER_FAULT fences the Strainer and empties it, fences no other, and invalidates the steps with rows in its contexts. -/
theorem strainerFault_fences (k : StrainerId) (d : Device) :
    ((strainerFault k d).strainer k).fenced = true ∧ ((strainerFault k d).strainer k).ctx = [] ∧
      ((strainerFault k d).strainer k).queue = [] ∧
      (∀ j : StrainerId, j ≠ k → ((strainerFault k d).strainer j).fenced = (d.strainer j).fenced) ∧
      ∀ t : TenantId, (∃ r ∈ (d.strainer k).ctx, r.tenant = t.val) → d.inStep t = true → Invalid (strainerFault k d) t := by
  have raised := occur_aside 37 k.val none d
  have tenants := occur_uncharged_tenants 37 k.val d
  unfold strainerFault
  generalize occur 37 k.val none d = e at raised tenants
  have kept := fenceStrainer_keepsFenced k e
  have aside := foldl_invalidate_aside (tenantsIn (e.strainer k)) 0x08 (some 37) e
  have empty : (fenceSteps k e).strainer k = { e.strainer k with fenced := true, ctx := [], drafts := [], queue := [] } := by
    rw [fenceSteps, fenceOff, modStrainer_strainer_same, strainer_of_aside aside]
  rw [kept.strainer, empty]
  refine ⟨rfl, rfl, rfl, fun j other => ?_, fun t ⟨r, row, own⟩ step => kept.invalid t ?_⟩
  · rw [kept.fenced, fenceSteps, fenceOff, modStrainer_strainer, if_neg other.symm, strainer_of_aside aside, strainer_of_aside raised]
  · have mem : t ∈ tenantsIn (e.strainer k) := by
      rw [strainer_of_aside raised]
      exact List.mem_filter.mpr ⟨mem_allTenants t, List.any_eq_true.mpr ⟨r, row, by simp [own]⟩⟩
    exact foldl_invalidate_invalid mem ((congrArg Option.isSome (stepOf_of_tenants tenants t)).trans (stepOf_of_inStep step)) _ _

end Sys2Proof.Machine
end

section
/-! CERTIFICATE. Rows are admitted, gathered, drawn, timed out and fenced off, and their steps invalidated (R318, R414, R421, R425, R443,
R444, R446). -/

set_option Elab.async false

namespace Sys2Proof.Machine

open Sys2Proof

theorem exec_rowAdmission (k : StrainerId) (t : TenantId) (p : RowParams) (e g pos size : Nat) (v : VtileRef) (addr : Nat) (s : State) :
    exec (.rowAdmission k t p e g pos size v addr) s = done s (admitRow k t p e g pos size v addr s.dev) := rfl
theorem exec_candidateBlock (t : TenantId) (stream row pos : Nat) (b : CandBlock) (s : State) :
    exec (.candidateBlock t stream row pos b) s = done s (candidateBlock t stream row pos b s.dev) := rfl
theorem exec_strainerTimeout (t : TenantId) (stream row pos : Nat) (s : State) :
    exec (.strainerTimeout t stream row pos) s = done s (strainerTimesOut t stream row pos s.dev) := rfl
theorem exec_strainerFault (k : StrainerId) (s : State) : exec (.strainerFault k) s = done s (strainerFault k s.dev) := rfl

/-- Settles O36: the equations of `admitRow` with `enqueueRow_served` for admission, `finishRow_draws` with `leaveContext_leaves` for the
last block, `strainerTimesOut_lacking` for a time-out, `strainerFault_fences` for a fault. -/
theorem rowsAreAdmittedGatheredDrawnOrTimedOut : Obligations.RowsAreAdmittedGatheredDrawnOrTimedOut := by
  unfold Obligations.RowsAreAdmittedGatheredDrawnOrTimedOut
  refine ⟨fun k t p e g pos size v addr s st step started goes => ?admission,
    fun t stream row pos b s k r found => ⟨fun lacks => ?gathers, fun last ordinary whole => ?draws, fun lacks single => ?timeout,
      fun full => ⟨exec_idle (exec_candidateBlock ..) (candidateBlock_full found full b),
        exec_idle (exec_strainerTimeout ..) (strainerTimesOut_full found full)⟩⟩,
    fun k s => completes_of_done (exec_strainerFault k s) (strainerFault_fences k s.dev)⟩
  case admission =>
    have there : (s.dev.stepOf t).isSome = true := by simp [step]
    have admits := exec_rowAdmission k t p e g pos size v addr s
    refine ⟨fun bad => completes_of_done admits ?_, fun good fenced => completes_of_done admits ?_,
      fun j good serves => completes_of_done admits ?_⟩
    · rw [admitRow_misused step started goes rfl bad]
      exact ⟨(invalidate_aside ..).strainers, invalidate_invalid there _ _⟩
    · rw [admitRow_unserved step started goes rfl good fenced]
      exact ⟨(invalidate_aside ..).strainers, invalidate_invalid there _ _⟩
    · rw [admitRow_served step started goes rfl good serves]
      have served := serveQueue_serves j 512 (enqueueRow j t (rowTag (rowParamsOf s.dev t p) pos)
        (askingRow t (rowParamsOf s.dev t p) e g pos size v addr s.dev) s.dev)
      obtain ⟨⟨r, held, same⟩, count⟩ := enqueueRow_served j t (rowTag (rowParamsOf s.dev t p) pos)
        (askingRow t (rowParamsOf s.dev t p) e g pos size v addr s.dev) s.dev
      refine ⟨⟨r, held, ?_⟩, count, fun i other => ?_, served.scratch⟩
      · exact ⟨congrArg RowCtx.tenant same, congrArg RowCtx.params same, congrArg RowCtx.expect same, congrArg RowCtx.blocks same,
          congrArg RowCtx.dest same, congrArg RowCtx.addr same⟩
      · rw [served.others i other, enqueueRow_strainer, if_neg other.symm]
  case gathers =>
    refine completes_of_done (exec_candidateBlock t stream row pos b s) ?_
    rw [candidateBlock_gathers found lacks, addBlock_strainer]
    exact ⟨List.mem_map.mpr ⟨r, findRow_mem found, if_pos rfl⟩, rfl, rfl⟩
  case draws =>
    obtain ⟨e, scratch, draws⟩ := finishRow_draws (k := k) (t := t) (r := r.gather b) ordinary (addBlock k r b s.dev)
    refine completes_of_done (exec_candidateBlock t stream row pos b s) ?_
    rw [candidateBlock_completes found last, draws, addBlock_drawnRecord]
    obtain ⟨result, landed, -, -⟩ := leaveContext_leaves k (r.gather b) (drawnRecord s.dev t (r.gather b)) e
    refine ⟨result, fun place => ?_⟩
    rw [landed]
    exact landResult_readN (r := r.gather b) (scratch ▸ whole) place
  case timeout =>
    refine completes_of_done (exec_strainerTimeout t stream row pos s) ?_
    rw [strainerTimesOut_lacking found lacks single]
    obtain ⟨result, -, tenants, now⟩ := leaveContext_leaves k r (rowRecord (timeoutOut r.params) true) (timeOut t r s.dev)
    exact ⟨result, (timeOut_now t r s.dev).trans_eq now.symm, fun step => (timeOut_invalid step).of_tenants tenants⟩

end Sys2Proof.Machine
end

section
/-! SUPPORT. What a message over a Ridge port changes: the port's queue, replay buffer, credits and turn of side fields, the
arbitration of its tenants, two counters and what has left the module. -/
set_option Elab.async false

namespace Sys2Proof.Machine

open Sys2Proof

/-- The counters that sending a flit moves. -/
def sendCounters : List Counter := [.ridgeFlits, .borrowedSlots]

/-- A port without what sending moves. -/
def Ridge.link (r : Ridge) : Ridge :=
  { r with txq := [], txSeq := 0, replay := [], credits := Vector.replicate 10 0, sentMgmt := [], side := (false, 0) }

/-- The device but for the ports, the arbitration, the counters and the outputs of another one. -/
def sentFrom (a b : Device) : Device := { a with ridge := b.ridge, fabric := b.fabric, counters := b.counters, out := b.out }

/-- What has been sent changes nothing but `sendCounters`, the outputs, the arbitration and what `Ridge.link` leaves out of a port. -/
structure Sends (a b : Device) : Prop where
  same : b = sentFrom a b := by rfl
  links : ∀ q, (b.port q).link = (a.port q).link := by exact fun _ => rfl
  count : ∀ c, c ∉ sendCounters → ∀ i, b.count c i = a.count c i := by exact fun _ _ _ => rfl

theorem Sends.refl (a : Device) : Sends a a := {}

theorem Sends.trans {a b e : Device} (h : Sends a b) (k : Sends b e) : Sends a e where
  same := k.same.trans (congrArg (sentFrom · e) h.same :)
  links q := (k.links q).trans (h.links q)
  count c other i := (k.count c other i).trans (h.count c other i)

theorem Sends.ite {a b e : Device} {p : Prop} [Decidable p] (h : Sends a b) (k : Sends a e) : Sends a (if p then b else e) := by
  split
  · exact h
  · exact k

theorem Sends.now {a b : Device} (h : Sends a b) : b.now = a.now := (congrArg Device.now h.same :)
theorem Sends.tenants {a b : Device} (h : Sends a b) : b.tenants = a.tenants := (congrArg Device.tenants h.same :)
theorem Sends.span {a b : Device} (h : Sends a b) : b.span = a.span := (congrArg Device.span h.same :)
theorem Sends.host {a b : Device} (h : Sends a b) : b.host = a.host := (congrArg Device.host h.same :)
theorem Sends.gutter {a b : Device} (h : Sends a b) : b.gutter = a.gutter := (congrArg Device.gutter h.same :)
theorem Sends.cfg {a b : Device} (h : Sends a b) : b.cfg = a.cfg := (congrArg Device.cfg h.same :)
theorem Sends.coeffs {a b : Device} (h : Sends a b) : b.coeffs = a.coeffs := (congrArg Device.coeffs h.same :)
theorem Sends.tenant {a b : Device} (h : Sends a b) (t : TenantId) : b.tenant t = a.tenant t := tenant_of_tenants h.tenants t
theorem Sends.mb {a b : Device} (h : Sends a b) (m : MailboxId) : b.mb m = a.mb m := congrArg (fun x : HostLink => x.mbx[m.val]) h.host

theorem Sends.keepsGutter {a b : Device} (h : Sends a b) : KeepsGutter a b := { gutter := h.gutter, cfg := h.cfg, span := h.span }

theorem Sends.keepsTally {c : Counter} (other : c ∉ sendCounters) {a b : Device} (h : Sends a b) : KeepsTally c a b where
  now := h.now
  count := h.count c other
  sticky _ set := h.gutter ▸ set

theorem Sends.keepsCalls {a b : Device} (h : Sends a b) : KeepsCalls a b := .of_host h.host

theorem emit_sends (o : Output) (d : Device) : Sends d (emit o d) := {}

theorem bump_sends {c : Counter} (known : c ∈ sendCounters) (i : Nat) (d : Device) : Sends d (bump c i d) where
  count e other j := bump_count_other _ _ _ _ _ fun same => other ((Prod.mk.inj same).1 ▸ known)

theorem modPort_sends {p : PortId} {f : Ridge → Ridge} {d : Device} (linked : (f (d.port p)).link = (d.port p).link) :
    Sends d (modPort p f d) where
  links q := by
    rw [modPort_port]
    split
    · subst q
      exact linked
    · rfl

theorem passSlot_sends (cls unit : Nat) (ready : List Nat) (d : Device) : Sends d (passSlot cls unit ready d).2 := {}

theorem nextSide_link (r : Ridge) : (nextSide r).2.link = r.link := by
  unfold nextSide
  split <;> rfl

theorem putFlit_sends (p : PortId) (f : Flit) (d : Device) : Sends d (putFlit p f d) :=
  (modPort_sends (nextSide_link _)).trans (emit_sends ..)

theorem putLink_sends (p : PortId) (bytes : List Byte) (d : Device) : Sends d (putLink p bytes d) := emit_sends ..

theorem dataTurn_sends (p : PortId) (ready : List Nat) : ∀ (n : Nat) (d : Device), Sends d (dataTurn p ready n d).2
  | 0, d => .refl d
  | n + 1, d => by
    have passes := passSlot_sends 6 (p.val * 2) ready d
    unfold dataTurn
    split
    · next u b e found =>
      rw [found] at passes
      exact passes.trans (.ite (bump_sends (by decide) _ _) (.refl _))
    · next e found =>
      rw [found] at passes
      exact passes.trans (dataTurn_sends p ready n e)

theorem sendFlit_sends (p : PortId) (f : Flit) (c : Fin 10) (d : Device) : Sends d (sendFlit p f c d) := by
  refine .trans (.trans (modPort_sends rfl) (.ite (.refl _) (bump_sends (by decide) _ _))) (putFlit_sends ..)

theorem sendNext_sends {p : PortId} {d e : Device} (sent : sendNext p d = some e) : Sends d e := by
  simp only [sendNext] at sent
  split at sent
  · contradiction
  split at sent
  · cases sent
    exact sendFlit_sends ..
  split at sent
  · contradiction
  split at sent
  · contradiction
  split at sent
  · next t e' turned =>
    obtain ⟨x, -, rfl⟩ := Option.map_eq_some_iff.mp sent
    have passes := dataTurn_sends p ([0, 1, 2, 3].filter fun t => (tenantFlit d p t).isSome) 64 d
    rw [turned] at passes
    exact passes.trans (sendFlit_sends ..)
  · contradiction

theorem pumpGo_sends (p : PortId) : ∀ (n : Nat) (d : Device), Sends d (pumpGo p n d)
  | 0, d => .refl d
  | n + 1, d => by
    unfold pumpGo
    split
    · next e sent => exact (sendNext_sends sent).trans (pumpGo_sends p n e)
    · exact .refl d

theorem pump_sends (p : PortId) (d : Device) : Sends d (pump p d) := pumpGo_sends ..

theorem queueBytes_sends (p : PortId) (vc : Option Nat) (all : List Byte) (d : Device) : Sends d (queueBytes p vc all d) :=
  .trans (modPort_sends rfl) (pump_sends p _)

theorem sendMessage_sends (p : PortId) (src dst : Nat) (vc : Option Nat) (kind : LinkMsg) (args : List Nat) (body : List Byte)
    (d : Device) : Sends d (sendMessage p src dst vc kind args body d) := (emit_sends ..).trans (queueBytes_sends ..)

theorem sendData_sends (dst vc handle : Nat) (kind : LinkMsg) (args : List Nat) (body : List Byte) (d : Device) :
    Sends d (sendData dst vc handle kind args body d) := by
  unfold sendData
  split
  · exact sendMessage_sends ..
  · exact .refl d

theorem sendMgmt_sends (dst : Nat) (kind : LinkMsg) (args : List Nat) (body : List Byte) (d : Device) :
    Sends d (sendMgmt dst kind args body d) := by
  unfold sendMgmt
  split
  · exact sendMessage_sends ..
  · exact .refl d

theorem sendProbe_sends (t : TenantId) (d : Device) : Sends d (sendProbe t d) := by
  unfold sendProbe
  split
  · exact .refl d
  split
  · dsimp only
    split
    · exact sendMgmt_sends ..
    · exact .refl d
  · exact .refl d

end Sys2Proof.Machine
end

section
/-! SUPPORT. The lock-step pair: what a change of it, an event charged to its tenant and the messages to the partner leave of it (R504 to
R509). -/
set_option Elab.async false

namespace Sys2Proof.Machine

open Sys2Proof

theorem exec_pairCompareSet (c : Call) (s : State) : exec (.pairCompareSet c) s = done s (runFw c (pairSet c) s.dev) := rfl
theorem exec_pairDigest (partner : BitVec 128) (run : W32) (m : PairMsg) (s : State) :
    exec (.pairDigest partner run m) s = done s (pairDigest partner run.toNat m s.dev) := rfl
theorem exec_pairProbe (partner : BitVec 128) (run : W32) (mid : Nat) (chain own : BitVec 128) (s : State) :
    exec (.pairProbe partner run mid chain own) s = done s (pairProbe partner run.toNat mid chain own s.dev) := rfl
theorem exec_pairWaitTimeout (t : TenantId) (s : State) : exec (.pairWaitTimeout t) s = done s (pairWaitTimeout t s.dev) := rfl

/-! ### Changes of a pair -/

theorem modPair_pair {t : TenantId} {d : Device} {p : Pair} (paired : (d.tenant t).pair = some p) (f : Pair → Pair) :
    ((modPair t f d).tenant t).pair = some (f p) := by simp [modPair, paired]

theorem Sends.pair {a b : Device} (h : Sends a b) (t : TenantId) : (b.tenant t).pair = (a.tenant t).pair :=
  congrArg Tenant.pair (h.tenant t)

/-- An event leaves a tenant's pair alone, also one that is charged to the tenant. -/
theorem occur_pair (s : SourceId) (inst : Nat) (charge : Option TenantId) (d : Device) (t : TenantId) :
    ((occur s inst charge d).tenant t).pair = (d.tenant t).pair :=
  Tenant.part_of_holdings (((sourceEvent_keepsHoldings s [inst] charge d).trans (endCycle_keeps _)).same t) Tenant.pair

theorem pairTenant_paired {d : Device} {partner : BitVec 128} {run : Nat} {t : TenantId} {p : Pair}
    (named : pairTenant d partner run = some t) (paired : (d.tenant t).pair = some p) : p.partner = partner ∧ p.runId % 2 ^ 32 = run := by
  simpa [paired] using List.find?_some named

/-! ### PAIR_COMPARE_SET -/

theorem endPair_unpaired {t : TenantId} {d : Device} (none : (d.tenant t).pair = none) : endPair t d = d := by simp [endPair, none]

theorem endPair_pair (t : TenantId) (d : Device) : ((endPair t d).tenant t).pair = none := by
  unfold endPair
  split
  · assumption
  · rw [tenant_of_tenants (post_tenants ..), modTenant_tenant_same]

/-- The 128-bit key of PAIR_COMPARE_SET is 0 exactly where its two words are. -/
theorem pairKey_eq_zero (c : Call) : BitVec.ofNat 128 (c.w 4 + c.w 5 * 2 ^ 64) = 0 ↔ c.w 4 + c.w 5 * 2 ^ 64 = 0 := by
  have low : c.w 4 < 2 ^ 64 := BitVec.isLt _
  have high : c.w 5 < 2 ^ 64 := BitVec.isLt _
  have fits : c.w 4 + c.w 5 * 2 ^ 64 < 2 ^ 128 := by omega
  rw [← BitVec.toNat_inj, BitVec.toNat_ofNat, Nat.mod_eq_of_lt fits]
  rfl

/-- The pair that PAIR_COMPARE_SET sets where the tenant has none. -/
def newPair (c : Call) : Pair :=
  { call := c, runId := c.w 1, partner := BitVec.ofNat 128 (c.w 2 + c.w 3 * 2 ^ 64), key := BitVec.ofNat 128 (c.w 4 + c.w 5 * 2 ^ 64)
    every := field (c.w 6) 0 9, timing := bitAt (c.w 6) 16 }

/-- The tenant's pair is set, and its announcement goes to the partner. -/
def announcePair (c : Call) (m : Member) (p : Pair) (d : Device) : Device :=
  let e := modTenant c.tenant (fun x => { x with pair := some p }) d
  sendMgmt m.lowest .pairDigest [c.w 1 % 2 ^ 32, 2 ^ 32 - 1, (runningImage e).arith] (beOf 48 (pairPackage e c.tenant)) e

section

variable {c : Call} {d : Device}

theorem pairSet_ends (zero : c.w 1 = 0) : pairSet c d = finish c .ok 0 (endPair c.tenant d) := if_pos zero

theorem pairSet_bad (run : c.w 1 ≠ 0) (bad : c.w 4 + c.w 5 * 2 ^ 64 = 0 ∨ field (c.w 6) 0 9 = 0 ∨ 256 < field (c.w 6) 0 9 ∨
    (d.tenant c.tenant).runId ≠ some (c.w 1)) : pairSet c d = badParam c 0 d := by
  have refused : BitVec.ofNat 128 (c.w 4 + c.w 5 * 2 ^ 64) = 0 ∨ !within 1 256 (field (c.w 6) 0 9) ∨
      (d.tenant c.tenant).runId ≠ some (c.w 1) := by
    rw [pairKey_eq_zero]
    obtain zero | zero | large | other := bad
    · exact .inl zero
    · exact .inr (.inl (by simp [within, zero]))
    · exact .inr (.inl (by simp [within, large]))
    · exact .inr (.inr other)
  exact (if_neg run).trans (if_pos refused)

variable {m : Member} (run : c.w 1 ≠ 0) (key : c.w 4 + c.w 5 * 2 ^ 64 ≠ 0) (low : 1 ≤ field (c.w 6) 0 9)
  (high : field (c.w 6) 0 9 ≤ 256) (runs : (d.tenant c.tenant).runId = some (c.w 1))
  (found : d.span.peers.find? (fun m => decide (m.serial = BitVec.ofNat 128 (c.w 2 + c.w 3 * 2 ^ 64))) = some m)
  (route : routeTo d m.lowest ≠ [])
include run key low high runs found route

theorem pairSet_checked : pairSet c d =
    if d.span.arithMixed then finish c .spanMismatch 0x31 d
    else
      let phases := match (d.tenant c.tenant).pair with
        | some p => if p.runId = c.w 1 then p.phases else 0
        | none => 0
      formPair c.tenant (announcePair c m { newPair c with phases := phases, equalTo := phases } (endPair c.tenant d)) := by
  have accepted : ¬(BitVec.ofNat 128 (c.w 4 + c.w 5 * 2 ^ 64) = 0 ∨ !within 1 256 (field (c.w 6) 0 9) ∨
      (d.tenant c.tenant).runId ≠ some (c.w 1)) := by
    simp only [pairKey_eq_zero, key, within, low, high, runs]
    simp
  have routed : ¬(routeTo d m.lowest).isEmpty = true := by simpa using route
  unfold pairSet
  extract_lets t k partner every
  rw [if_neg run, if_neg accepted, found]
  exact if_neg routed

theorem pairSet_mixed (mixed : d.span.arithMixed = true) : pairSet c d = finish c .spanMismatch 0x31 d :=
  (pairSet_checked run key low high runs found route).trans (if_pos mixed)

theorem pairSet_announces (alike : d.span.arithMixed = false) (none : (d.tenant c.tenant).pair = none) :
    pairSet c d = formPair c.tenant (announcePair c m (newPair c) d) := by
  rw [pairSet_checked run key low high runs found route, alike, none, endPair_unpaired none]
  rfl

end

theorem announcePair_pair (c : Call) (m : Member) (p : Pair) (d : Device) : ((announcePair c m p d).tenant c.tenant).pair = some p := by
  rw [announcePair, (sendMgmt_sends ..).pair, modTenant_tenant_same]

theorem announcePair_span (c : Call) (m : Member) (p : Pair) (d : Device) : (announcePair c m p d).span = d.span := (sendMgmt_sends ..).span

theorem announcePair_keepsCalls (c : Call) (m : Member) (p : Pair) (d : Device) : KeepsCalls d (announcePair c m p d) :=
  .trans {} (sendMgmt_sends ..).keepsCalls

theorem formPair_unoffered {t : TenantId} {d : Device} {p : Pair} (paired : (d.tenant t).pair = some p) (none : d.span.pairOffers = []) :
    formPair t d = d := by simp [formPair, paired, none]

/-! ### The partner's announcement -/

/-- The partner's announcement is noted among the offers. -/
def noteOffer (partner : BitVec 128) (run : Nat) (package : BitVec 384) (arith : Nat) (d : Device) : Device :=
  modSpan (fun s => { s with pairOffers :=
    (partner, run, package, arith) :: s.pairOffers.filter fun o => !(decide (o.1 = partner) && decide (o.2.1 = run)) }) d

theorem pairDigest_set (partner : BitVec 128) (run : Nat) (package : BitVec 384) (arith : Nat) (d : Device) :
    pairDigest partner run (.set package arith) d =
      match pairTenant d partner run with
      | some t => formPair t (noteOffer partner run package arith d)
      | none => noteOffer partner run package arith d := rfl

theorem formPair_offered {partner : BitVec 128} {run : Nat} {d : Device} {t : TenantId} {p : Pair}
    (named : pairTenant d partner run = some t) (paired : (d.tenant t).pair = some p) (waits : p.formed = false)
    (free : d.span.pairOffers = []) :
    ((formPair t (noteOffer partner run (pairPackage d t) (runningImage d).arith d)).tenant t).pair = some { p with formed := true } := by
  obtain ⟨rfl, rfl⟩ := pairTenant_paired named paired
  generalize noted : noteOffer p.partner (p.runId % 2 ^ 32) (pairPackage d t) (runningImage d).arith d = e
  have paired' : (e.tenant t).pair = some p := noted ▸ paired
  have offered : e.span.pairOffers.find? (fun o => decide (o.1 = p.partner) && decide (o.2.1 = p.runId % 2 ^ 32)) =
      some (p.partner, p.runId % 2 ^ 32, pairPackage d t, (runningImage d).arith) := by
    simp [← noted, noteOffer, modSpan, free]
  unfold formPair
  rw [paired']
  dsimp only
  rw [if_neg (by simp [waits]), offered]
  dsimp only
  rw [if_neg (not_not.mpr (noted ▸ rfl)), if_neg (not_not.mpr (noted ▸ rfl))]
  exact modPair_pair (d := modSpan _ e) paired' _

/-! ### Comparing -/

/-- A comparison counts, and one of phase ends that differ with TIMING counts as such too. -/
def countCompare (t : TenantId) (p : Pair) (cycles theirs : Nat) (d : Device) : Device :=
  if p.timing && !decide (cycles = theirs) then bump .pairTimingDiff t.val (bump .pairCompares t.val d) else bump .pairCompares t.val d

theorem countCompare_counted (t : TenantId) (p : Pair) (cycles theirs : Nat) (d : Device) :
    Counted .pairCompares t.val d (countCompare t p cycles theirs d) :=
  (bump_counted ..).trans_keepsTally (.ite (bump_keepsTally (by decide) _ _) (.refl _ _))

theorem countCompare_tenants (t : TenantId) (p : Pair) (cycles theirs : Nat) (d : Device) :
    (countCompare t p cycles theirs d).tenants = d.tenants := ite_tenants rfl rfl

theorem countCompare_keepsGutter (t : TenantId) (p : Pair) (cycles theirs : Nat) (d : Device) :
    KeepsGutter d (countCompare t p cycles theirs d) := .ite {} {}

/-- The pair's mismatch: the phase has its digests, and a bisection begins where it is not the first phase that may differ. -/
def startBisection (t : TenantId) (f : Nat) (p : Pair) (dp own : BitVec 128) (d : Device) : Device :=
  if p.equalTo = f then modPair t (fun p => { p with found := some (f, dp, own) }) d
  else sendProbe t (modPair t (fun p => { p with bisect := some (p.equalTo, f), found := some (f, dp, own) }) d)

section

variable {t : TenantId} {f : Nat} {d : Device} {p : Pair} {dp c ch own : BitVec 128} {k cy : Nat}
  (paired : (d.tenant t).pair = some p) (held : p.at f = some (dp, c, k))
include paired held

theorem comparePair_equal (same : c = ch) : comparePair t f (ch, own, cy) d =
    modPair t (fun p => { p with equalTo := max p.equalTo (f + 1) }) (countCompare t p k cy d) := by
  unfold comparePair
  rw [paired]
  dsimp only
  rw [held]
  exact if_pos same

theorem comparePair_differs (other : c ≠ ch) : comparePair t f (ch, own, cy) d =
    startBisection t f p dp own (diverge t 1 (countCompare t p k cy d)) := by
  unfold comparePair
  rw [paired]
  dsimp only
  rw [held]
  exact if_neg other

end

/-- A divergence leaves the pair with its STATE and with no value to compare. -/
theorem diverge_pair {t : TenantId} {d : Device} {p : Pair} (paired : (d.tenant t).pair = some p) (state : Nat) :
    ((diverge t state d).tenant t).pair = some { p with state := state, own := [], theirs := [] } :=
  (occur_pair ..).trans (modPair_pair paired _)

theorem diverge_raised {a b : Device} (h : KeepsGutter a b) (t : TenantId) (state : Nat) : Raised 99 t.val a (diverge t state b) :=
  occur_raised (.trans h {}) 99 t.val (some t)

theorem diverge_keepsTally (t : TenantId) (state : Nat) (d : Device) : KeepsTally .pairCompares d (diverge t state d) :=
  .trans {} (occur_keepsTally (by decide) ..)

theorem diverge_now (t : TenantId) (state : Nat) (d : Device) : (diverge t state d).now = d.now := (occur_aside ..).now

theorem startBisection_keepsTally (t : TenantId) (f : Nat) (p : Pair) (dp own : BitVec 128) (d : Device) :
    KeepsTally .pairCompares d (startBisection t f p dp own d) :=
  .ite {} (.trans {} ((sendProbe_sends ..).keepsTally (by decide)))

theorem startBisection_pair {t : TenantId} {d : Device} {q : Pair} (paired : (d.tenant t).pair = some q) (f : Nat) (p : Pair)
    (dp own : BitVec 128) :
    ∃ r, ((startBisection t f p dp own d).tenant t).pair = some r ∧ r.state = q.state ∧ r.own = q.own ∧ r.found = some (f, dp, own) ∧
      (p.equalTo ≠ f → r.bisect = some (q.equalTo, f)) := by
  unfold startBisection
  split
  next first => exact ⟨_, modPair_pair paired _, rfl, rfl, rfl, fun later => absurd first later⟩
  next => exact ⟨_, ((sendProbe_sends ..).pair t).trans (modPair_pair paired _), rfl, rfl, rfl, fun _ => rfl⟩

theorem settlePair_empty {t : TenantId} {d : Device} {p : Pair} (paired : (d.tenant t).pair = some p) (none : p.own = []) (n : Nat) :
    settlePair t n d = d := by cases n <;> simp [settlePair, paired, none]

/-- The pair's only own value meets the partner's of the same phase. -/
theorem settlePair_meets {t : TenantId} {f since : Nat} {v : BitVec 128 × BitVec 128 × Nat} {d : Device} {p : Pair}
    (paired : (d.tenant t).pair = some p) (own : p.own = [(f, since)]) (theirs : p.theirs = [(f, v)]) (n : Nat) :
    settlePair t (n + 1) d = settlePair t n (comparePair t f v (modPair t (fun p => { p with
      own := p.own.filter fun x => !decide (x.1 = f), theirs := p.theirs.filter fun x => !decide (x.1 = f) }) d)) := by
  have met : assoc p.theirs f = some v := by simp [assoc, theirs]
  rw [settlePair, paired]
  dsimp only
  rw [own]
  dsimp only
  rw [met]

/-- A pair with no value that waits to be compared. -/
def Pair.met (p : Pair) : Pair := { p with own := [], theirs := [] }

theorem pairDigest_digest_unpaired {partner : BitVec 128} {run : Nat} {d : Device} (none : pairTenant d partner run = none) (f : Nat)
    (ch own : BitVec 128) (cy : Nat) : pairDigest partner run (.digest f ch own cy) d = d := by simp [pairDigest, none]

/-- The partner's value of a phase whose own value waits is compared with it, in a device that differs from the first in the pair's
waiting values only. -/
theorem pairDigest_meets {partner : BitVec 128} {run : Nat} {d : Device} {t : TenantId} {p : Pair} {f since : Nat}
    (named : pairTenant d partner run = some t) (paired : (d.tenant t).pair = some p) (formed : p.formed = true) (equal : p.state = 0)
    (waits : p.own = [(f, since)]) (none : p.theirs = []) (ch own : BitVec 128) (cy : Nat) :
    ∃ e, pairDigest partner run (.digest f ch own cy) d = settlePair t 63 (comparePair t f (ch, own, cy) e) ∧ KeepsGutter d e ∧
      KeepsTally .pairCompares d e ∧ (e.tenant t).pair = some p.met := by
  have taken := modPair_pair paired fun p => { p with theirs := p.theirs ++ [(f, ch, own, cy)] }
  have cleared := modPair_pair taken fun p => { p with
    own := p.own.filter fun x => !decide (x.1 = f), theirs := p.theirs.filter fun x => !decide (x.1 = f) }
  refine ⟨_, ?_, ?gutter, ?tally, cleared.trans (by simp [Pair.met, waits, none])⟩
  case gutter => exact {}
  case tally => exact {}
  rw [← settlePair_meets taken waits (by simp [none]) 63]
  simp [pairDigest, named, paired, formed, equal]

/-! ### Probes -/

/-- The bisection goes on over a range, or ends where the range is empty. -/
def narrowBisection (t : TenantId) (lo hi : Nat) (d : Device) : Device :=
  if lo = hi then modPair t (fun p => { p with bisect := none }) d
  else sendProbe t (modPair t (fun p => { p with bisect := some (lo, hi) }) d)

theorem narrowBisection_pair {t : TenantId} {d : Device} {p : Pair} (paired : (d.tenant t).pair = some p) (lo hi : Nat) :
    ((narrowBisection t lo hi d).tenant t).pair = some { p with bisect := if lo = hi then none else some (lo, hi) } := by
  unfold narrowBisection
  split
  · exact modPair_pair paired _
  · exact ((sendProbe_sends ..).pair t).trans (modPair_pair paired _)

theorem pairProbe_unpaired {partner : BitVec 128} {run : Nat} {d : Device} (none : pairTenant d partner run = none) (mid : Nat)
    (ch own : BitVec 128) : pairProbe partner run mid ch own d = d := by simp [pairProbe, none]

section

variable {partner : BitVec 128} {run mid lo hi k : Nat} {ch own dp c : BitVec 128} {d : Device} {t : TenantId} {p : Pair}
  (named : pairTenant d partner run = some t) (paired : (d.tenant t).pair = some p) (bisects : p.bisect = some (lo, hi))
  (held : p.at mid = some (dp, c, k))
include named paired bisects held

theorem pairProbe_elsewhere (other : mid ≠ (lo + hi) / 2) : pairProbe partner run mid ch own d = d := by
  simp [pairProbe, named, paired, bisects, held, other]

theorem pairProbe_equal (there : mid = (lo + hi) / 2) (same : c = ch) :
    pairProbe partner run mid ch own d = narrowBisection t (mid + 1) hi d := by
  simp only [pairProbe, narrowBisection, named, paired, bisects, held, same, if_neg (not_not.mpr there), if_true]

theorem pairProbe_differs (there : mid = (lo + hi) / 2) (other : c ≠ ch) : pairProbe partner run mid ch own d =
    narrowBisection t lo mid (modPair t (fun p => { p with found := some (mid, dp, own) }) d) := by
  simp only [pairProbe, narrowBisection, named, paired, bisects, held, other, if_neg (not_not.mpr there), if_false]

end

/-! ### PAIR_WAIT -/

theorem pairWaitTimeout_unpaired {t : TenantId} {d : Device} (none : (d.tenant t).pair = none) : pairWaitTimeout t d = d := by
  simp [pairWaitTimeout, none]

theorem pairWaitTimeout_empty {t : TenantId} {d : Device} {p : Pair} (paired : (d.tenant t).pair = some p) (none : p.own = []) :
    pairWaitTimeout t d = d := by simp [pairWaitTimeout, paired, none]

theorem pairWaitTimeout_waits {t : TenantId} {d : Device} {p : Pair} {f since : Nat} {rest : List (Nat × Nat)}
    (paired : (d.tenant t).pair = some p) (waits : p.own = (f, since) :: rest) :
    pairWaitTimeout t d = diverge t 2 (advanceTo (since + pairWait d) d) := by simp [pairWaitTimeout, paired, waits]

/-- Settles O57: `pairSet_ends`, `pairSet_bad`, `pairSet_mixed` and `pairSet_announces` for the command, `formPair_offered` for the
partner's announcement, `pairDigest_meets` for a value of a phase, `narrowBisection_pair` for a probe and `diverge_pair` for a late
partner. -/
theorem lockStepPairsCompareAndBisect : Obligations.LockStepPairsCompareAndBisect := by
  unfold Obligations.LockStepPairsCompareAndBisect
  refine ⟨fun c s served => ?set, fun partner run pk ar s => ?announced, fun partner run f ch own cy s => ?digest,
    fun partner run mid ch own s => ?probe, fun t s => ?late⟩
  case set =>
    have sets : exec (.pairCompareSet c) s = done s (pairSet c (acceptCall c s.dev)) :=
      (exec_pairCompareSet c s).trans (congrArg (done s) (runFw_served served _))
    refine ⟨fun zero => completes_of_done sets ?_, fun run bad => completes_of_done sets ?_,
      fun m run key low high runs found route =>
        ⟨fun mixed => completes_of_done sets ?_, fun alike none free => completes_of_done sets ?_⟩⟩
    · rw [pairSet_ends zero]
      exact ⟨finish_answered .., (congrArg Tenant.pair (tenant_of_tenants (finish_tenants ..) _)).trans (endPair_pair ..)⟩
    · rw [pairSet_bad (d := acceptCall c s.dev) run bad]
      exact ⟨badParam_answered .., badParam_tenants ..⟩
    · rw [pairSet_mixed (d := acceptCall c s.dev) run key low high runs found route mixed]
      exact ⟨finish_answered .., finish_tenants ..⟩
    · rw [pairSet_announces (d := acceptCall c s.dev) run key low high runs found route alike none,
        formPair_unoffered (announcePair_pair ..) ((congrArg Span.pairOffers (announcePair_span c m _ (acceptCall c s.dev))).trans free)]
      have held := (acceptCall_held c s.dev).trans_keepsCalls (announcePair_keepsCalls c m (newPair c) _)
      exact ⟨held, newPair c, announcePair_pair .., rfl, rfl, rfl, rfl, rfl⟩
  case announced =>
    refine ⟨fun none => completes_of_done (exec_pairDigest ..) ?_,
      fun t p named paired waits package arith free => completes_of_done (exec_pairDigest ..) ?_⟩
    · rw [pairDigest_set, none]
      exact ⟨List.mem_cons_self, rfl⟩
    · rw [pairDigest_set, named, package, arith]
      exact formPair_offered named paired waits free
  case digest =>
    refine ⟨fun none => exec_idle (exec_pairDigest ..) (pairDigest_digest_unpaired none ..),
      fun t p since dp c k named paired formed equal waits none held => completes_of_done (exec_pairDigest ..) ?_⟩
    obtain ⟨e, meets, gutter, tally, cleared⟩ := pairDigest_meets named paired formed equal waits none ch own cy
    have counted : Counted .pairCompares t.val s.dev (countCompare t p.met k cy e) :=
      .of_count (tally.count _) (countCompare_counted ..)
    have compared : ((countCompare t p.met k cy e).tenant t).pair = some p.met :=
      (congrArg Tenant.pair (tenant_of_tenants (countCompare_tenants ..) t)).trans cleared
    rw [meets]
    by_cases same : c = ch
    · have moved := modPair_pair compared fun p => { p with equalTo := max p.equalTo (f + 1) }
      rw [comparePair_equal cleared held same, settlePair_empty moved rfl]
      exact ⟨counted, fun _ => ⟨_, moved, equal, rfl, rfl⟩, fun other => absurd same other⟩
    · have apart := diverge_pair compared 1
      obtain ⟨q, pair, state, empty, found, bisect⟩ := startBisection_pair apart f p.met dp own
      rw [comparePair_differs cleared held same, settlePair_empty pair empty]
      have tallied := startBisection_keepsTally t f p.met dp own (diverge t 1 (countCompare t p.met k cy e))
      refine ⟨(counted.trans_keepsTally (diverge_keepsTally t 1 _)).trans_keepsTally tallied, fun equal => absurd equal same,
        fun _ => ⟨⟨q, pair, state, found, bisect⟩, ?_⟩⟩
      exact (diverge_raised (gutter.trans (countCompare_keepsGutter ..)) t 1).trans_keepsTally tallied
  case probe =>
    refine ⟨fun none => exec_idle (exec_pairProbe ..) (pairProbe_unpaired none ..), fun t p lo hi dp c k named paired bisects held =>
      ⟨fun other => exec_idle (exec_pairProbe ..) (pairProbe_elsewhere named paired bisects held other),
        fun there same => completes_of_done (exec_pairProbe ..) ?_, fun there other => completes_of_done (exec_pairProbe ..) ?_⟩⟩
    · rw [pairProbe_equal named paired bisects held there same]
      exact ⟨_, narrowBisection_pair paired _ _, rfl, rfl⟩
    · rw [pairProbe_differs named paired bisects held there other]
      exact ⟨_, narrowBisection_pair (modPair_pair paired _) _ _, rfl, rfl⟩
  case late =>
    refine ⟨fun none => exec_idle (exec_pairWaitTimeout t s) (pairWaitTimeout_unpaired none),
      fun p paired none => exec_idle (exec_pairWaitTimeout t s) (pairWaitTimeout_empty paired none),
      fun p f since rest paired waits => completes_of_done (exec_pairWaitTimeout t s) ?_⟩
    rw [pairWaitTimeout_waits paired waits]
    exact ⟨⟨_, diverge_pair (d := advanceTo _ _) paired 2, rfl, rfl, rfl⟩, diverge_now .., diverge_raised {} t 2⟩

end Sys2Proof.Machine
end

section
/-! SUPPORT. A Ridge port in training, retraining and lane sparing: its lanes, what leaves and raises, and what an event leaves of the
windows and the stored coefficients (R464, R470 to R476, R662). -/
set_option Elab.async false

namespace Sys2Proof.Machine

open Sys2Proof

theorem exec_presenceDetect (p : PortId) (lanes : Fin 23) (s : State) :
    exec (.presenceDetect p lanes) s = done s (presenceDetect p lanes.val s.dev) := rfl
theorem exec_trainingComplete (p : PortId) (serial : BitVec 128) (pp : Fin 8) (iface : Nat) (bad : List (Fin 22)) (sb : Bool)
    (s : State) : exec (.trainingComplete p serial pp iface bad sb) s =
      done s (trainingComplete p serial pp.val iface (bad.map (·.val)) sb s.dev) := rfl
theorem exec_warmTrainingTimeout (p : PortId) (s : State) : exec (.warmTrainingTimeout p) s = done s (warmTimeout p s.dev) := rfl
theorem exec_coldTrainingTimeout (p : PortId) (s : State) : exec (.coldTrainingTimeout p) s = done s (coldTimeout p s.dev) := rfl
theorem exec_laneFailure (p : PortId) (l : Fin 22) (s : State) : exec (.laneFailure p l) s = done s (laneFailure p l.val s.dev) := rfl
theorem exec_laneSwapReq (p : PortId) (f sp : Fin 22) (s : State) :
    exec (.laneSwapReq p f sp) s = done s (laneSwapReq p f.val sp.val s.dev) := rfl
theorem exec_laneSwapDone (p : PortId) (f sp : Fin 22) (s : State) :
    exec (.laneSwapDone p f sp) s = done s (laneSwapDone p f.val sp.val s.dev) := rfl
theorem exec_laneAck (p : PortId) (k : BitVec 8) (f sp : Fin 22) (s : State) :
    exec (.laneAck p k f sp) s = done s (laneAck p k.toNat f.val sp.val s.dev) := rfl
theorem exec_spareDeskew (p : PortId) (s : State) : exec (.spareDeskew p) s = done s (spareDeskew p s.dev) := rfl
theorem exec_laneSwapTakeover (p : PortId) (s : State) : exec (.laneSwapTakeover p) s = done s (laneTakeover p s.dev) := rfl
theorem exec_linkMessageRepeat (p : PortId) (s : State) : exec (.linkMessageRepeat p) s = done s (linkRepeat p s.dev) := rfl
theorem exec_retrainReq (p : PortId) (cause w : BitVec 8) (s : State) :
    exec (.retrainReq p cause w) s = done s (retrainReq p cause.toNat w.toNat s.dev) := rfl

theorem port_of_ridge {a b : Device} (h : b.ridge = a.ridge) (p : PortId) : b.port p = a.port p := by simp [Device.port, h]

theorem Sends.foldl {α : Type} {f : Device → α → Device} (h : ∀ d x, Sends d (f d x)) (l : List α) (d : Device) :
    Sends d (l.foldl f d) :=
  List.foldlRecOn (motive := Sends d) l f (.refl d) fun e sent x _ => sent.trans (h e x)

theorem sendHello_sends (p : PortId) (d : Device) : Sends d (sendHello p d) := sendMessage_sends ..

/-! ### Lanes -/

theorem retireLane_getLsbD (l i : Nat) (r : Ridge) :
    (retireLane l r).badLanes.getLsbD i = (r.badLanes.getLsbD i || (decide (i < 22) && decide (i = l))) := by
  rw [retireLane, BitVec.getLsbD_or, BitVec.getLsbD_shiftLeft, BitVec.getLsbD_one]
  grind

theorem retireLane_bad (l : Fin 22) (r : Ridge) : (retireLane l.val r).badLanes.getLsbD l.val = true := by
  simp [retireLane_getLsbD]

theorem retireLanes_retrainReq (bad : List Nat) (r : Ridge) : (bad.foldl (fun r l => retireLane l r) r).retrainReq = r.retrainReq :=
  List.foldlRecOn (motive := fun x : Ridge => x.retrainReq = r.retrainReq) bad _ rfl fun _ same _ _ => same

/-- A failing lane that carries a position was no spare before it became an erasure. -/
theorem spareLanes_erasing {l : Nat} {r : Ridge} (active : l ∈ r.lanes) :
    spareLanes { r with erasures := r.erasures ++ [l] } = spareLanes r := by
  refine List.filter_congr fun x _ => ?_
  by_cases same : x = l <;> simp [same, active]

/-! ### The marks of the steps and the fencing of a port -/

/-- The device but for the tenants of another one. -/
def tenantsFrom (a b : Device) : Device := { a with tenants := b.tenants }

/-- A retry, retrain or swap marks steps and changes no other part of the device. -/
theorem noteRidge_same (d : Device) : noteRidge d = tenantsFrom d (noteRidge d) :=
  List.foldlRecOn (motive := fun e => e = tenantsFrom d e) (boundInStep d) (fun d t => setFlag t 5 d) (b := d) rfl
    fun _ same t _ => (congrArg (setFlag t 5) same :)

theorem noteRidge_ridge (d : Device) : (noteRidge d).ridge = d.ridge := (congrArg Device.ridge (noteRidge_same d) :)
theorem noteRidge_out (d : Device) : (noteRidge d).out = d.out := (congrArg Device.out (noteRidge_same d) :)
theorem noteRidge_port (p : PortId) (d : Device) : (noteRidge d).port p = d.port p := port_of_ridge (noteRidge_ridge d) p
theorem noteRidge_keepsGutter (d : Device) : KeepsGutter d (noteRidge d) where
  gutter := (congrArg Device.gutter (noteRidge_same d) :)
  cfg := (congrArg Device.cfg (noteRidge_same d) :)
  span := (congrArg Device.span (noteRidge_same d) :)
theorem noteRidge_keepsTally (c : Counter) (d : Device) : KeepsTally c d (noteRidge d) where
  now := (congrArg Device.now (noteRidge_same d) :)
  count i := (congrArg (·.count c i) (noteRidge_same d) :)
  sticky _ set := (noteRidge_keepsGutter d).gutter ▸ set

/-- A fenced port is idle, with no swap in progress. -/
theorem fencePort_port (p : PortId) (d : Device) : (fencePort p d).port p =
    { d.port p with state := .fenced, activeLanes := 0, swaps := [], copies := [], retrainReq := none } := by
  rw [fencePort, port_of_ridge (occur_aside ..).ridge, modPort_port_same]

theorem fencePort_raised {a b : Device} (h : KeepsGutter a b) (p : PortId) : Raised 19 p.val a (fencePort p b) :=
  occur_raised (h.trans {}) 19 p.val none

theorem fencePort_tenants (p : PortId) (d : Device) : (fencePort p d).tenants = d.tenants := occur_uncharged_tenants ..

theorem fencePort_now (p : PortId) (d : Device) : (fencePort p d).now = d.now := (occur_aside ..).now

/-! ### Retraining -/

theorem enterRetrain_idle {p : PortId} {d : Device} (idle : (d.port p).state ≠ .active) (cause width : Nat) (tell : Bool) :
    enterRetrain p cause width tell d = d := if_pos idle

/-- The port asks its peer to retrain, or has been asked to. -/
def tellRetrain (p : PortId) (cause width : Nat) (tell : Bool) (d : Device) : Device :=
  if tell then putLink p [5, 0, BitVec.ofNat 8 cause, BitVec.ofNat 8 width] d else d

theorem tellRetrain_ridge (p : PortId) (cause width : Nat) (tell : Bool) (d : Device) :
    (tellRetrain p cause width tell d).ridge = d.ridge := by cases tell <;> rfl

theorem tellRetrain_counters (p : PortId) (cause width : Nat) (tell : Bool) (d : Device) :
    (tellRetrain p cause width tell d).counters = d.counters := by cases tell <;> rfl

section

variable {p : PortId} {d : Device} (active : (d.port p).state = .active) (cause width : Nat) (tell : Bool)
include active

theorem enterRetrain_active : enterRetrain p cause width tell d = noteRidge (bump .ridgeRetrains p.val (modPort p (fun r => { r with
    state := .retrain, since := (tellRetrain p cause width tell d).now, warmTry := true, retrainReq := some (cause, width), swaps := []
    copies := [] }) (tellRetrain p cause width tell d))) := if_neg (not_not.mpr active)

theorem enterRetrain_port : (enterRetrain p cause width tell d).port p = { d.port p with
    state := .retrain, since := (tellRetrain p cause width tell d).now, warmTry := true, retrainReq := some (cause, width), swaps := []
    copies := [] } := by
  rw [enterRetrain_active active, noteRidge_port, port_of_ridge (bump_ridge ..), modPort_port_same,
    port_of_ridge (tellRetrain_ridge ..)]

theorem enterRetrain_counted : Counted .ridgeRetrains p.val d (enterRetrain p cause width tell d) := by
  have told : (tellRetrain p cause width tell d).count .ridgeRetrains p.val = d.count .ridgeRetrains p.val := by
    simp [Device.count, tellRetrain_counters]
  rw [enterRetrain_active active]
  refine Counted.trans_keepsTally ?_ (noteRidge_keepsTally _ _)
  exact .of_count (b := modPort p _ (tellRetrain p cause width tell d)) told (bump_counted ..)

end

/-! ### What an event leaves of the windows and the coefficients -/

/-- An event that resets no block opens no window, and none touches the stored coefficients. -/
structure KeepsWindows (a b : Device) : Prop where
  initDone : b.gutter.initDone = a.gutter.initDone := by rfl
  shadows : b.gutter.shadows = a.gutter.shadows := by rfl
  coeffs : b.coeffs = a.coeffs := by rfl

theorem KeepsWindows.refl (a : Device) : KeepsWindows a a := {}

theorem KeepsWindows.trans {a b c : Device} (h : KeepsWindows a b) (k : KeepsWindows b c) : KeepsWindows a c where
  initDone := k.initDone.trans h.initDone
  shadows := k.shadows.trans h.shadows
  coeffs := k.coeffs.trans h.coeffs

theorem KeepsWindows.ite {a b c : Device} {p : Prop} [Decidable p] (h : KeepsWindows a b) (k : KeepsWindows a c) :
    KeepsWindows a (if p then b else c) := by
  split
  · exact h
  · exact k

theorem KeepsWindows.foldl {α : Type} {f : Device → α → Device} (h : ∀ d x, KeepsWindows d (f d x)) (l : List α) (d : Device) :
    KeepsWindows d (l.foldl f d) :=
  List.foldlRecOn (motive := KeepsWindows d) l f (.refl d) fun e kept x _ => kept.trans (h e x)

theorem sendMsix_keepsWindows (fn : FunctionId) (v : Fin 16) (d : Device) : KeepsWindows d (sendMsix fn v d) := by
  have held : ∀ m, KeepsWindows d (setMsixVec fn v m d) := fun _ => {}
  have sent : KeepsWindows d (msixSent fn v d) := {}
  unfold sendMsix
  refine .ite ((held _).trans (.ite {} {})) ?_
  split
  · exact .ite (held _) sent
  · exact sent

theorem wakeUp_keepsWindows (d : Device) : KeepsWindows d (wakeUp d) := by
  have ended : KeepsWindows d (endIdle d.now d) := by
    unfold endIdle
    split <;> exact {}
  refine ended.trans ?_
  unfold wakeUp
  dsimp only
  split
  · exact {}
  · exact .ite {} {}

theorem evalPair_keepsWindows (d : Device) : KeepsWindows d (evalPair d) := .ite (.ite {} {}) (.ite (.ite {} {}) {})

theorem endCycle_keepsWindows (d : Device) : KeepsWindows d (endCycle d) :=
  (KeepsWindows.foldl (fun _ _ => .ite (.ite {} {}) {}) _ d).trans (evalPair_keepsWindows _)

section

variable {s : SourceId} (unplaced : ∀ inst, ((sourceRow s.val).bind fun r => blockOf r.block inst) = none)
include unplaced

theorem react_keepsWindows (n inst : Nat) (d : Device) : KeepsWindows d (react s n inst none d) := by
  unfold react
  rw [unplaced inst]
  extract_lets k d1 d2 d3
  have message : KeepsWindows d d1 := sendMsix_keepsWindows 0 9 d
  have reset : KeepsWindows d1 d2 := .ite (.refl d1) (.refl d1)
  have trapped : KeepsWindows d2 (reactTrap s d2) := .ite (.ite {} {}) {}
  have trap : KeepsWindows d2 d3 := .ite (trapped.trans (wakeUp_keepsWindows _)) (.refl d2)
  exact ((message.trans reset).trans trap).trans (.ite {} (.refl d3))

theorem occur_keepsWindows (inst : Nat) (d : Device) : KeepsWindows d (occur s inst none d) := by
  refine KeepsWindows.trans ?_ (endCycle_keepsWindows _)
  unfold sourceEvent
  refine .ite ?_ (.refl d)
  extract_lets cov open_ d1 d2
  have counted : KeepsWindows d d2 := {}
  refine counted.trans (.ite (.refl d2) ?_)
  unfold reactingEvent
  extract_lets k n esc d3 d4 g d5 d6 d7
  have tallied : KeepsWindows d2 d4 := .ite {} {}
  have recorded : KeepsWindows d4 d6 := {}
  have reacted : KeepsWindows d6 d7 := .ite (react_keepsWindows unplaced n _ d6) (.refl d6)
  exact (tallied.trans recorded).trans reacted

end

theorem Raised.of_keepsWindows {src inst : Nat} {a b e : Device} (h : KeepsWindows a b) (cfg : b.cfg = a.cfg) (span : b.span = a.span)
    (k : Raised src inst b e) : Raised src inst a e := by
  have covered : shadowed b src inst = shadowed a src inst := by
    unfold shadowed onlyThrough
    rw [h.shadows, span]
  exact fun init enabled bare => k (h.initDone.trans init) ((srcEnabled_of_cfg cfg _).trans enabled) (covered.trans bare)

/-! ### Presence and training -/

theorem presenceDetect_idle {p : PortId} {lanes : Nat} {d : Device} (idle : (d.port p).state ≠ .detect ∨ lanes < 10) :
    presenceDetect p lanes d = d := if_neg fun ⟨detects, enough⟩ => idle.elim (absurd detects) (by omega)

/-- Training has ended with these findings: the port is ACTIVE on the lanes. -/
structure TrainedAs (serial : BitVec 128) (peerPort iface : Nat) (lanes : List Nat) (sideband : Bool) (r : Ridge) : Prop where
  state : r.state = .active := by rfl
  peerSerial : r.peerSerial = serial := by rfl
  peerPort : r.peerPort = peerPort := by rfl
  peerIface : r.peerIface = iface := by rfl
  sideband : r.sideband = sideband := by rfl
  activeLanes : r.activeLanes = lanes.length := by rfl
  lanes : r.lanes = lanes := by rfl

theorem TrainedAs.of_link {serial : BitVec 128} {peerPort iface : Nat} {lanes : List Nat} {sideband : Bool} {r q : Ridge}
    (h : TrainedAs serial peerPort iface lanes sideband r) (same : q.link = r.link) : TrainedAs serial peerPort iface lanes sideband q where
  state := (congrArg Ridge.state same :).trans h.state
  peerSerial := (congrArg Ridge.peerSerial same :).trans h.peerSerial
  peerPort := (congrArg Ridge.peerPort same :).trans h.peerPort
  peerIface := (congrArg Ridge.peerIface same :).trans h.peerIface
  sideband := (congrArg Ridge.sideband same :).trans h.sideband
  activeLanes := (congrArg Ridge.activeLanes same :).trans h.activeLanes
  lanes := (congrArg Ridge.lanes same :).trans h.lanes

theorem journal_coeffs (kind inst : Nat) (d : Device) : (journal kind inst d).coeffs = d.coeffs := by
  unfold journal
  split <;> rfl

/-- The end of a training: the port is ACTIVE as both ends report, the coefficients are stored, and a failed sideband is raised. -/
theorem trained_leaves (p : PortId) (serial : BitVec 128) (peerPort iface : Nat) (lanes : List Nat) (sideband : Bool) (d : Device) :
    TrainedAs serial peerPort iface lanes sideband ((trained p serial peerPort iface lanes sideband d).port p) ∧
      { port := p.val, serial := serial, peerPort := peerPort } ∈ (trained p serial peerPort iface lanes sideband d).coeffs ∧
      (sideband = false → Raised 21 p.val d (trained p serial peerPort iface lanes sideband d)) := by
  unfold trained
  extract_lets r again ok idx d1 d2 d3 d4 d5 d6 d7
  have opened : TrainedAs serial peerPort iface lanes sideband (d1.port p) := by
    unfold d1
    rw [modPort_port_same]
    exact {}
  have cleared : TrainedAs serial peerPort iface lanes sideband (d2.port p) := by
    unfold d2
    split
    · exact opened
    · rw [modPort_port_same]
      exact { state := opened.state, peerSerial := opened.peerSerial, peerPort := opened.peerPort, peerIface := opened.peerIface,
              sideband := opened.sideband, activeLanes := opened.activeLanes, lanes := opened.lanes }
  have width : KeepsWindows d3 d4 := .ite (occur_keepsWindows (s := 20) (fun _ => rfl) _ _) (.refl d3)
  have side : KeepsWindows d4 d5 := .ite (.refl d4) (occur_keepsWindows (s := 21) (fun _ => rfl) _ _)
  have aside : Aside d3 d5 := .trans (.ite (occur_aside ..) (.refl d3)) (.ite (.refl d4) (occur_aside ..))
  have kept : d5.ridge = d2.ridge := aside.ridge.trans (journal_aside ..).ridge
  have stored : { port := p.val, serial := serial, peerPort := peerPort } ∈ d3.coeffs :=
    (journal_coeffs ..).symm ▸ List.mem_cons_self
  have sends : Sends d5 (pump p d7) :=
    ((Sends.foldl (fun _ _ => putFlit_sends ..) _ d5).trans (.ite (sendHello_sends ..) (.refl d6))).trans (pump_sends p d7)
  have reset : KeepsGutter d d2 := KeepsGutter.trans (b := d1) {} (.ite {} {})
  have asBefore : KeepsGutter d d3 := reset.trans (.trans {} (journal_keepsGutter ..))
  refine ⟨cleared.of_link ((sends.links p).trans (congrArg Ridge.link (port_of_ridge kept p))), ?_, fun broken => ?_⟩
  · rw [sends.coeffs, side.coeffs, width.coeffs]
    exact stored
  · have event : d5 = occur 21 p.val none d4 := if_neg (by simp [broken])
    have halved : Aside d3 d4 := .ite (occur_aside ..) (.refl d3)
    have raised : Raised 21 p.val d3 d5 := by
      rw [event]
      exact .of_keepsWindows width halved.cfg halved.span (occur_raised {} 21 p.val none)
    exact (raised.of_keepsGutter asBefore).trans_keepsTally (sends.keepsTally (c := .events) (by decide))

/-- The lanes that did not train are retired. -/
def retireBad (p : PortId) (bad : List Nat) (d : Device) : Device := modPort p (fun r => bad.foldl (fun r l => retireLane l r) r) d

theorem retireBad_port (p : PortId) (bad : List Nat) (d : Device) :
    (retireBad p bad d).port p = bad.foldl (fun r l => retireLane l r) (d.port p) := modPort_port_same ..

/-- The peer was asked to retrain at half width. -/
def Ridge.halfAsked (r : Ridge) : Bool := match r.retrainReq with | some (_, w) => decide (w = 10) | none => false

theorem Ridge.halfAsked_iff (r : Ridge) : r.halfAsked = true ↔ ∃ c, r.retrainReq = some (c, 10) := by
  unfold Ridge.halfAsked
  split
  next c w asked => simp [asked]
  next none => simp [none]

section

variable {p : PortId} {serial : BitVec 128} {peerPort iface : Nat} {bad left : List Nat} {sideband : Bool} {d : Device}

theorem trainingComplete_idle (idle : (d.port p).training = false) : trainingComplete p serial peerPort iface bad sideband d = d :=
  if_pos (by simp [idle])

variable (training : (d.port p).training = true) (good : goodLanes (bad.foldl (fun r l => retireLane l r) (d.port p)) = left)
include training good

theorem trainingComplete_fences (few : left.length < 10) :
    trainingComplete p serial peerPort iface bad sideband d = fencePort p (retireBad p bad d) := by
  rw [← good, ← retireBad_port] at few
  exact (if_neg (by simp [training])).trans (if_pos few)

theorem trainingComplete_trains (enough : 10 ≤ left.length) : trainingComplete p serial peerPort iface bad sideband d =
    trained p serial peerPort iface (left.take (if left.length < 20 || (d.port p).halfAsked then 10 else 20)) sideband
      (retireBad p bad d) := by
  rw [← good, ← retireBad_port] at enough ⊢
  exact (if_neg (by simp [training])).trans (if_neg (Nat.not_lt.mpr enough))

end

/-- A training goes on half the lanes or on the full width, as many as are needed. -/
theorem trainedWidth {left : List Nat} {half : Bool} (few : left.length < 20 → half = true) (enough : 10 ≤ left.length) :
    (left.take (if half then 10 else 20)).length = if half then 10 else 20 := by
  cases half
  · have full : 20 ≤ left.length := by simpa using few
    simpa using full
  · simpa using enough

/-! ### Time-outs of a training -/

section

variable {p : PortId} {d : Device}

theorem warmTimeout_idle (idle : (d.port p).training = false ∨ (d.port p).warmTry = false) : warmTimeout p d = d :=
  if_neg (by obtain idle | idle := idle <;> simp [idle])

theorem warmTimeout_cold (training : (d.port p).training = true) (warm : (d.port p).warmTry = true) :
    warmTimeout p d = modPort p (fun r => { r with warmTry := false, since := max d.now ((d.port p).since + 20 * ms) })
      (advanceTo ((d.port p).since + 20 * ms) d) := if_pos (by simp [training, warm])

theorem coldTimeout_idle (idle : (d.port p).training = false ∨ (d.port p).warmTry = true) : coldTimeout p d = d :=
  if_neg (by obtain idle | idle := idle <;> simp [idle])

/-- A port that trains for the first time is taken down. -/
def downPort (p : PortId) (d : Device) : Device := occur 19 p.val none (modPort p (fun r => { r with state := .down, activeLanes := 0 }) d)

theorem downPort_port (p : PortId) (d : Device) : (downPort p d).port p = { d.port p with state := .down, activeLanes := 0 } := by
  rw [downPort, port_of_ridge (occur_aside ..).ridge, modPort_port_same]

theorem downPort_now (p : PortId) (d : Device) : (downPort p d).now = d.now := (occur_aside ..).now

theorem downPort_raised {a b : Device} (h : KeepsGutter a b) (p : PortId) : Raised 19 p.val a (downPort p b) :=
  occur_raised (h.trans {}) 19 p.val none

theorem coldTimeout_ends (training : (d.port p).training = true) (cold : (d.port p).warmTry = false) :
    coldTimeout p d = if (d.port p).state = .retrain then fencePort p (advanceTo ((d.port p).since + 500 * ms) d)
      else downPort p (advanceTo ((d.port p).since + 500 * ms) d) := if_pos (by simp [training, cold])

end

/-! ### Failing lanes -/

section

variable {p : PortId} {l : Nat} {d : Device}

theorem laneFailure_idle (idle : (d.port p).state ≠ .active ∨ l ∈ (d.port p).erasures ∨ (d.port p).badLanes.getLsbD l = true) :
    laneFailure p l d = d := if_pos (by obtain idle | idle | idle := idle <;> simp [idle])

/-- The failing lane is an erasure. -/
def eraseLane (p : PortId) (l : Nat) (d : Device) : Device := noteRidge (modPort p (fun r => { r with erasures := r.erasures ++ [l] }) d)

theorem eraseLane_port (p : PortId) (l : Nat) (d : Device) :
    (eraseLane p l d).port p = { d.port p with erasures := (d.port p).erasures ++ [l] } := by
  rw [eraseLane, noteRidge_port, modPort_port_same]

theorem eraseLane_keepsGutter (p : PortId) (l : Nat) (d : Device) : KeepsGutter d (eraseLane p l d) :=
  .trans {} (noteRidge_keepsGutter _)

theorem eraseLane_keepsTally (c : Counter) (p : PortId) (l : Nat) (d : Device) : KeepsTally c d (eraseLane p l d) :=
  .trans {} (noteRidge_keepsTally c _)

variable (active : (d.port p).state = .active) (sound : l ∉ (d.port p).erasures) (good : (d.port p).badLanes.getLsbD l = false)
include active sound good

/-- A lane that carries no position, nor is to, is retired. -/
theorem laneFailure_unused (unused : l ∉ (d.port p).lanes) (unasked : ∀ x ∈ (d.port p).swaps, x.spare ≠ l ∨ x.taken = true) :
    laneFailure p l d = modPort p (retireLane l) d := by
  have none : (d.port p).swaps.find? (fun s => decide (s.spare = l) && !s.taken) = none := by
    refine List.find?_eq_none.mpr fun x swap => ?_
    obtain other | taken := unasked x swap
    · simp [other]
    · simp [taken]
  simp [laneFailure, active, sound, good, unused, none]

variable (used : l ∈ (d.port p).lanes)
include used

theorem laneFailure_used : laneFailure p l d = match spareLanes (d.port p) with
    | q :: _ => askSwap p l q (modPort p (fun r => { r with swaps := r.swaps ++ [{ failing := l, spare := q }] }) (eraseLane p l d))
    | [] =>
      if (goodLanes (retireLane l (d.port p))).length < 10 then fencePort p (modPort p (retireLane l) (eraseLane p l d))
      else enterRetrain p 1 10 true (modPort p (retireLane l) (eraseLane p l d)) := by
  have spares : spareLanes ((eraseLane p l d).port p) = spareLanes (d.port p) := by rw [eraseLane_port, spareLanes_erasing used]
  have left : goodLanes ((modPort p (retireLane l) (eraseLane p l d)).port p) = goodLanes (retireLane l (d.port p)) := by
    rw [modPort_port_same, eraseLane_port]
    rfl
  rw [laneFailure, if_neg (by simp [active, sound, good]), if_neg (by simp [used])]
  change (match spareLanes ((eraseLane p l d).port p) with
    | q :: _ => _
    | [] => if (goodLanes ((modPort p (retireLane l) (eraseLane p l d)).port p)).length < 10 then _ else _) = _
  rw [spares, left]
  rfl

end

/-! ### The messages of a swap -/

theorem putLink_out (p : PortId) (bytes : List Byte) (d : Device) : (putLink p bytes d).out.length = d.out.length + 1 := rfl

section

variable {p : PortId} {failing spare : Nat} {d : Device}

theorem laneSwapReq_idle (idle : (d.port p).state ≠ .active) : laneSwapReq p failing spare d = d := if_pos idle

theorem laneSwapDone_idle (idle : (d.port p).state ≠ .active) : laneSwapDone p failing spare d = d := if_pos idle

variable (active : (d.port p).state = .active)
include active

theorem laneSwapReq_active : laneSwapReq p failing spare d = answerLane p 2 failing spare (modPort p (fun r => { r with
    copies := r.copies.filter (fun c => !decide (c.1 = failing)) ++ [(failing, spare)] }) d) := if_neg (not_not.mpr active)

theorem laneSwapDone_active : laneSwapDone p failing spare d = answerLane p 3 failing spare (modPort p (fun r => retireLane failing { r with
    copies := r.copies.filter fun c => !decide (c = (failing, spare))
    undriven := if r.undriven.contains failing then r.undriven else failing :: r.undriven }) d) := if_neg (not_not.mpr active)

end

theorem askSwap_port (p q : PortId) (failing spare : Nat) (d : Device) : (askSwap p failing spare d).port q = d.port q := rfl

theorem answerLane_port (p q : PortId) (kind failing spare : Nat) (d : Device) :
    (answerLane p kind failing spare d).port q = d.port q := rfl

/-- The swaps of a port after the answer to a message of theirs. -/
def ackedSwaps (kind failing spare : Nat) (swaps : List LaneSwap) : List LaneSwap :=
  if kind = 2 then swaps.map fun s => if s.failing = failing ∧ s.spare = spare then { s with acked := true } else s
  else if kind = 3 then swaps.filter fun s => !(decide (s.failing = failing) && decide (s.spare = spare) && s.taken)
  else swaps

theorem laneAck_port (p : PortId) (kind failing spare : Nat) (d : Device) :
    (laneAck p kind failing spare d).port p = { d.port p with swaps := ackedSwaps kind failing spare (d.port p).swaps } :=
  modPort_port_same ..

theorem ackedSwaps_req {failing spare : Nat} {swaps : List LaneSwap} {x : LaneSwap} (swap : x ∈ ackedSwaps 2 failing spare swaps)
    (lane : x.failing = failing) (onto : x.spare = spare) : x.acked = true := by
  obtain ⟨s, -, rfl⟩ := List.mem_map.mp swap
  by_cases same : s.failing = failing ∧ s.spare = spare
  · rw [if_pos same]
  · rw [if_neg same] at lane onto
    exact absurd ⟨lane, onto⟩ same

theorem ackedSwaps_done {failing spare : Nat} {swaps : List LaneSwap} {x : LaneSwap} (swap : x ∈ ackedSwaps 3 failing spare swaps) :
    ¬(x.failing = failing ∧ x.spare = spare ∧ x.taken = true) := by
  have kept := (List.mem_filter.mp (swap : x ∈ swaps.filter _)).2
  rintro ⟨lane, onto, taken⟩
  simp [lane, onto, taken] at kept

theorem ackedSwaps_other {kind : Nat} (req : kind ≠ 2) (done : kind ≠ 3) (failing spare : Nat) (swaps : List LaneSwap) :
    ackedSwaps kind failing spare swaps = swaps := (if_neg req).trans (if_neg done)

theorem spareDeskew_port (p : PortId) (d : Device) : (spareDeskew p d).port p =
    { d.port p with swaps := (d.port p).swaps.map fun s => if s.acked then { s with deskewed := true } else s } := modPort_port_same ..

/-! ### Takeovers -/

/-- A deskewed spare takes the place of its failing lane. -/
def takeOver (p : PortId) (d : Device) (s : LaneSwap) : Device :=
  putLink p [3, 0, BitVec.ofNat 8 s.failing, BitVec.ofNat 8 s.spare] (bump .laneSwaps p.val (modPort p (fun r => retireLane s.failing {
    r with
    lanes := r.lanes.map fun l => if l = s.failing then s.spare else l
    erasures := r.erasures.filter fun l => !decide (l = s.failing)
    swaps := r.swaps.map fun x => if x = s then { x with taken := true } else x }) d))

theorem takeOver_port (p : PortId) (s : LaneSwap) (d : Device) : (takeOver p d s).port p = retireLane s.failing { d.port p with
    lanes := (d.port p).lanes.map fun l => if l = s.failing then s.spare else l
    erasures := (d.port p).erasures.filter fun l => !decide (l = s.failing)
    swaps := (d.port p).swaps.map fun x => if x = s then { x with taken := true } else x } := modPort_port_same ..

/-- The failing lanes of the swaps are retired and no erasures, the width is as it was, and a message for each has left. -/
structure TakenOver (p : PortId) (l : List LaneSwap) (a b : Device) : Prop where
  retired : ∀ i, i < 22 → ((a.port p).badLanes.getLsbD i = true ∨ ∃ x ∈ l, x.failing = i) → (b.port p).badLanes.getLsbD i = true
  erasures : ∀ i ∈ (b.port p).erasures, i ∈ (a.port p).erasures ∧ ∀ x ∈ l, x.failing ≠ i
  width : (b.port p).lanes.length = (a.port p).lanes.length
  out : b.out.length = a.out.length + l.length

theorem takeOver_takenOver (p : PortId) (s : LaneSwap) (d : Device) : TakenOver p [s] d (takeOver p d s) where
  retired i low bad := by
    rw [takeOver_port, retireLane_getLsbD]
    obtain bad | ⟨x, swap, rfl⟩ := bad
    · simp [bad]
    · simp [List.mem_singleton.mp swap] at low ⊢
      simp [low]
  erasures i erased := by
    rw [takeOver_port] at erased
    obtain ⟨before, other⟩ := List.mem_filter.mp (erased : i ∈ (d.port p).erasures.filter _)
    refine ⟨before, fun x swap same => ?_⟩
    simp [← same, List.mem_singleton.mp swap] at other
  width := by
    rw [takeOver_port]
    exact List.length_map _
  out := rfl

theorem TakenOver.cons {p : PortId} {s : LaneSwap} {l : List LaneSwap} {a b c : Device} (h : TakenOver p [s] a b) (k : TakenOver p l b c) :
    TakenOver p (s :: l) a c where
  retired i low bad := by
    refine k.retired i low ?_
    obtain bad | ⟨x, swap, same⟩ := bad
    · exact .inl (h.retired i low (.inl bad))
    · obtain rfl | later := List.mem_cons.mp swap
      · exact .inl (h.retired i low (.inr ⟨x, List.mem_singleton_self x, same⟩))
      · exact .inr ⟨x, later, same⟩
  erasures i erased := by
    obtain ⟨between, later⟩ := k.erasures i erased
    obtain ⟨before, first⟩ := h.erasures i between
    exact ⟨before, List.forall_mem_cons.mpr ⟨first s (List.mem_singleton_self s), later⟩⟩
  width := k.width.trans h.width
  out := by
    have first : b.out.length = a.out.length + 1 := h.out
    rw [k.out, first, List.length_cons]
    omega

theorem takeOvers_takenOver (p : PortId) : ∀ (l : List LaneSwap) (d : Device), TakenOver p l d (l.foldl (takeOver p) d)
  | [], d => ⟨fun _ _ bad => bad.elim id (by simp), by simp, rfl, rfl⟩
  | s :: l, d => (takeOver_takenOver p s d).cons (takeOvers_takenOver p l _)

section

variable {p : PortId} {d : Device}

theorem laneTakeover_idle (idle : (d.port p).state ≠ .active ∨ ((d.port p).swaps.filter fun s => s.deskewed && !s.taken) = []) :
    laneTakeover p d = d := if_pos (by obtain idle | idle := idle <;> simp [idle])

theorem laneTakeover_ready {ready : List LaneSwap} (same : ((d.port p).swaps.filter fun s => s.deskewed && !s.taken) = ready)
    (active : (d.port p).state = .active) (some : ready ≠ []) : laneTakeover p d = noteRidge (ready.foldl (takeOver p) d) := by
  subst same
  exact if_neg (by simpa [active] using some)

/-- A message of a swap without its answer leaves again. -/
def repeatSwap (p : PortId) (d : Device) (s : LaneSwap) : Device :=
  if s.taken then putLink p [3, 0, BitVec.ofNat 8 s.failing, BitVec.ofNat 8 s.spare] d
  else if s.acked then d else askSwap p s.failing s.spare d

theorem repeatSwap_ridge (p : PortId) (d : Device) (s : LaneSwap) : (repeatSwap p d s).ridge = d.ridge := by
  unfold repeatSwap
  split <;> [rfl; split] <;> rfl

theorem repeatSwap_out (p : PortId) (d : Device) (s : LaneSwap) :
    (repeatSwap p d s).out.length = d.out.length + if s.taken || !s.acked then 1 else 0 := by
  unfold repeatSwap
  cases s.taken <;> cases s.acked <;> rfl

theorem repeatSwaps_ridge (p : PortId) (l : List LaneSwap) (d : Device) : (l.foldl (repeatSwap p) d).ridge = d.ridge :=
  List.foldlRecOn (motive := fun e : Device => e.ridge = d.ridge) l _ rfl fun _ same _ _ => (repeatSwap_ridge ..).trans same

theorem repeatSwaps_out (p : PortId) (l : List LaneSwap) (d : Device) :
    (l.foldl (repeatSwap p) d).out.length = d.out.length + (l.filter fun s => s.taken || !s.acked).length := by
  induction l generalizing d with
  | nil => rfl
  | cons s l ih =>
    rw [List.foldl_cons, ih, repeatSwap_out, List.filter_cons]
    split
    · rw [List.length_cons]
      omega
    · rfl

theorem linkRepeat_idle (idle : (d.port p).state ≠ .active) : linkRepeat p d = d := if_pos idle

theorem linkRepeat_active (active : (d.port p).state = .active) : linkRepeat p d = (d.port p).swaps.foldl (repeatSwap p) d :=
  if_neg (not_not.mpr active)

end

theorem retrainReq_unknown {cause width : Nat} (half : width ≠ 10) (full : width ≠ 20) (p : PortId) (d : Device) :
    retrainReq p cause width d = bump .protoErrors p.val d := if_neg (by simp [half, full])

theorem retrainReq_enters {cause width : Nat} (known : width = 10 ∨ width = 20) (p : PortId) (d : Device) :
    retrainReq p cause width d = enterRetrain p cause width false d := if_pos known

/-- Settles O53: `trained_leaves` and `fencePort_port` for the end of a training, `warmTimeout_cold` and `coldTimeout_ends` for its
time-outs, `laneFailure_used` for a failing lane, `takeOvers_takenOver` for a takeover, `enterRetrain_port` for a retrain. -/
theorem ridgePortsTrainRetrainAndSwapLanes : Obligations.RidgePortsTrainRetrainAndSwapLanes := by
  unfold Obligations.RidgePortsTrainRetrainAndSwapLanes
  refine ⟨fun p lanes s => ?presence, fun p serial pp iface bad sb s => ?training, fun p s => ?timeouts, fun p l s => ?failure,
    fun p f sp s => ?swaps, fun p k f sp s => ?ack, fun p s => ?takeover, fun p cause w s => ?retrain⟩
  case presence =>
    refine ⟨fun idle => exec_idle (exec_presenceDetect p lanes s) (presenceDetect_idle idle),
      fun detects enough => completes_of_done (exec_presenceDetect p lanes s) ?_⟩
    rw [presenceDetect, if_pos ⟨detects, enough⟩]
    refine ⟨by rw [modPort_port_same], by rw [modPort_port_same], fun q other => ?_⟩
    rw [modPort_port, if_neg other.symm]
  case training =>
    intro left half
    have halves : (decide (left.length < 20) || (s.dev.port p).halfAsked) = true ↔ half := by
      simp [half, (s.dev.port p).halfAsked_iff]
    refine ⟨fun idle => exec_idle (exec_trainingComplete ..) (trainingComplete_idle idle),
      fun training few => completes_of_done (exec_trainingComplete ..) ?_,
      fun training enough => completes_of_done (exec_trainingComplete ..) ?_⟩
    · rw [trainingComplete_fences training rfl few]
      exact ⟨congrArg Ridge.state (fencePort_port ..), congrArg Ridge.activeLanes (fencePort_port ..), fencePort_raised {} p,
        fencePort_tenants ..⟩
    · rw [trainingComplete_trains training rfl enough]
      generalize width : (decide (left.length < 20) || (s.dev.port p).halfAsked) = narrow at halves
      obtain ⟨trained, stored, raised⟩ := trained_leaves p serial pp.val iface (left.take (if narrow then 10 else 20)) sb
        (retireBad p (bad.map (·.val)) s.dev)
      have count := trainedWidth (left := left) (half := narrow) (fun few => by simp [← width, few]) enough
      refine ⟨trained.state, trained.peerSerial, trained.peerPort, trained.peerIface, trained.sideband, fun asked => ?_,
        fun full => ?_, ⟨_, stored, rfl, rfl, rfl⟩, fun broken => (raised broken).of_keepsGutter {}⟩
      · obtain rfl := halves.mpr asked
        exact ⟨trained.activeLanes.trans count, trained.lanes⟩
      · obtain rfl : narrow = false := by simpa using mt halves.mp full
        exact ⟨trained.activeLanes.trans count, trained.lanes⟩
  case timeouts =>
    intro r
    refine ⟨fun idle => exec_idle (exec_warmTrainingTimeout p s) (warmTimeout_idle idle),
      fun training warm => completes_of_done (exec_warmTrainingTimeout p s) ?_,
      fun idle => exec_idle (exec_coldTrainingTimeout p s) (coldTimeout_idle idle),
      fun training cold => completes_of_done (exec_coldTrainingTimeout p s) ?_⟩
    · rw [warmTimeout_cold training warm, modPort_port_same]
      exact ⟨rfl, rfl, rfl, rfl⟩
    · rw [coldTimeout_ends training cold]
      split
      · exact ⟨congrArg Ridge.state (fencePort_port ..), congrArg Ridge.activeLanes (fencePort_port ..), fencePort_now ..,
          fencePort_raised {} p⟩
      · exact ⟨congrArg Ridge.state (downPort_port ..), congrArg Ridge.activeLanes (downPort_port ..), downPort_now ..,
          downPort_raised {} p⟩
  case failure =>
    intro r
    refine ⟨fun idle => exec_idle (exec_laneFailure p l s) (laneFailure_idle idle), fun active sound good =>
      ⟨fun q rest used spare => completes_of_done (exec_laneFailure p l s) ?_,
        fun used none enough => completes_of_done (exec_laneFailure p l s) ?_,
        fun used none few => completes_of_done (exec_laneFailure p l s) ?_,
        fun unused unasked => completes_of_done (exec_laneFailure p l s) ?_⟩⟩
    · rw [laneFailure_used active sound good used, spare, askSwap_port, modPort_port_same, eraseLane_port]
      exact ⟨rfl, rfl, active⟩
    · have there : ((modPort p (retireLane l.val) (eraseLane p l.val s.dev)).port p).state = .active := by
        rw [modPort_port_same, eraseLane_port]
        exact active
      have counted := enterRetrain_counted there 1 10 true
      rw [laneFailure_used active sound good used, none]
      dsimp only
      rw [if_neg (Nat.not_lt.mpr enough), enterRetrain_port there, modPort_port_same, eraseLane_port]
      exact ⟨rfl, rfl, retireLane_bad l _, .of_count ((eraseLane_keepsTally _ p l.val s.dev).count _) counted⟩
    · rw [laneFailure_used active sound good used, none]
      dsimp only
      rw [if_pos few]
      exact ⟨congrArg Ridge.state (fencePort_port ..), fencePort_raised (.trans (eraseLane_keepsGutter ..) {}) p⟩
    · rw [laneFailure_unused active sound good unused unasked, modPort_port_same]
  case swaps =>
    refine ⟨fun idle =>
        ⟨exec_idle (exec_laneSwapReq ..) (laneSwapReq_idle idle), exec_idle (exec_laneSwapDone ..) (laneSwapDone_idle idle)⟩,
      fun active => ⟨completes_of_done (exec_laneSwapReq ..) ?_, completes_of_done (exec_laneSwapDone ..) ?_⟩⟩
    · rw [laneSwapReq_active active, answerLane_port, modPort_port_same]
      exact ⟨by simp, rfl, rfl⟩
    · rw [laneSwapDone_active active, answerLane_port, modPort_port_same]
      refine ⟨?_, ?_, retireLane_bad f _, rfl⟩
      · simp [retireLane]
      · change f.val ∈ if (s.dev.port p).undriven.contains f.val then _ else _
        split
        next there => exact List.contains_iff_mem.mp there
        next => exact List.mem_cons_self
  case ack =>
    refine completes_of_done (exec_laneAck p k f sp s) ?_
    rw [laneAck_port]
    refine ⟨?_, ?_, fun req done => ?_, rfl⟩
    · rintro rfl x swap
      exact ackedSwaps_req swap
    · rintro rfl x swap
      exact ackedSwaps_done swap
    · rw [ackedSwaps_other (by simpa using mt BitVec.eq_of_toNat_eq req) (by simpa using mt BitVec.eq_of_toNat_eq done)]
  case takeover =>
    refine ⟨completes_of_done (exec_spareDeskew p s) ?_, fun idle => exec_idle (exec_laneSwapTakeover p s) (laneTakeover_idle idle),
      fun active some => completes_of_done (exec_laneSwapTakeover p s) ?_,
      fun idle => exec_idle (exec_linkMessageRepeat p s) (linkRepeat_idle idle),
      fun active => completes_of_done (exec_linkMessageRepeat p s) ?_⟩
    · rw [spareDeskew_port]
      refine ⟨fun x swap acked => ?_, rfl⟩
      obtain ⟨y, -, rfl⟩ := List.mem_map.mp swap
      by_cases answered : y.acked = true
      · rw [if_pos answered]
      · rw [if_neg answered] at acked
        exact absurd acked answered
    · rw [laneTakeover_ready rfl active some, noteRidge_port, noteRidge_out]
      have taken := takeOvers_takenOver p ((s.dev.port p).swaps.filter fun x => x.deskewed && !x.taken) s.dev
      refine ⟨fun x swap => ?_, fun x swap erased => (taken.erasures _ erased).2 x swap rfl, taken.width, taken.out⟩
      by_cases low : x.failing < 22
      · rw [taken.retired _ low (.inr ⟨x, swap, rfl⟩), decide_eq_true low]
      · rw [BitVec.getLsbD_of_ge _ _ (Nat.le_of_not_lt low), decide_eq_false low]
    · rw [linkRepeat_active active]
      exact ⟨repeatSwaps_ridge .., repeatSwaps_out ..⟩
  case retrain =>
    refine ⟨fun half full => completes_of_done (exec_retrainReq p cause w s) ?_, fun known =>
      ⟨fun idle => exec_idle (exec_retrainReq p cause w s) ?_, fun active => completes_of_done (exec_retrainReq p cause w s) ?_⟩⟩
    · rw [retrainReq_unknown half full]
      exact ⟨bump_counted .., rfl⟩
    · rw [retrainReq_enters known, enterRetrain_idle idle]
    · have counted := enterRetrain_counted active cause.toNat w.toNat false
      rw [retrainReq_enters known, enterRetrain_port active]
      exact ⟨rfl, rfl, counted, rfl⟩

end Sys2Proof.Machine
end

section
/-! SUPPORT. What the boundary and the start of a step, the end of a run and everything on the way leave of the time, the span, the
sticky bits and the counters of barriers and forced releases (R31, R485, R622, R634). -/
set_option Elab.async false

namespace Sys2Proof.Machine

open Sys2Proof

/-- The counters of what a barrier's end counts. -/
def barrierCounters : List Counter := [.barriers, .forcedReleases]

/-- Time, the span and `barrierCounters` are as they were, and no sticky bit falls. -/
structure KeepsBarriers (a b : Device) : Prop where
  now : b.now = a.now := by rfl
  span : b.span = a.span := by rfl
  count : ∀ c ∈ barrierCounters, ∀ i, b.count c i = a.count c i := by exact fun _ _ _ => rfl
  sticky : ∀ n, a.gutter.sticky.getLsbD n = true → b.gutter.sticky.getLsbD n = true := by exact fun _ set => set

theorem KeepsBarriers.refl (a : Device) : KeepsBarriers a a := {}

theorem KeepsBarriers.trans {a b e : Device} (h : KeepsBarriers a b) (k : KeepsBarriers b e) : KeepsBarriers a e where
  now := k.now.trans h.now
  span := k.span.trans h.span
  count c known i := (k.count c known i).trans (h.count c known i)
  sticky n set := k.sticky n (h.sticky n set)

theorem KeepsBarriers.ite {a b e : Device} {p : Prop} [Decidable p] (h : KeepsBarriers a b) (k : KeepsBarriers a e) :
    KeepsBarriers a (if p then b else e) := by
  split
  · exact h
  · exact k

theorem KeepsBarriers.foldl {α : Type} {f : Device → α → Device} (h : ∀ d x, KeepsBarriers d (f d x)) (l : List α) (d : Device) :
    KeepsBarriers d (l.foldl f d) :=
  List.foldlRecOn (motive := KeepsBarriers d) l f (.refl d) fun e kept x _ => kept.trans (h e x)

theorem KeepsBarriers.keepsTally {a b : Device} (h : KeepsBarriers a b) {c : Counter} (known : c ∈ barrierCounters) :
    KeepsTally c a b where
  now := h.now
  count := h.count c known
  sticky := h.sticky

theorem Aside.keepsBarriers {a b : Device} (h : Aside a b) (k : ∀ c ∈ barrierCounters, KeepsTally c a b) : KeepsBarriers a b where
  now := h.now
  span := h.span
  count c known := (k c known).count
  sticky := (k .barriers (by decide)).sticky

theorem Sends.keepsBarriers {a b : Device} (h : Sends a b) : KeepsBarriers a b where
  now := h.now
  span := h.span
  count c known := h.count c (by revert c; decide)
  sticky _ set := h.gutter ▸ set

theorem barrierCounters_quiet : ∀ c ∈ barrierCounters, c ∉ eventCounters := by decide

/-! ### Updates of one part, counts, events and completions -/

theorem modCtx_keepsBarriers (c : ContextId) (f : Context → Context) (d : Device) : KeepsBarriers d (modCtx c f d) := {}
theorem modTenant_keepsBarriers (t : TenantId) (f : Tenant → Tenant) (d : Device) : KeepsBarriers d (modTenant t f d) := {}
theorem modVt_keepsBarriers (v : VtileRef) (f : VtileState → VtileState) (d : Device) : KeepsBarriers d (modVt v f d) := {}

theorem bumpBy_keepsBarriers (c : Counter) (i k : Nat) (d : Device) (other : c ∉ barrierCounters := by decide) :
    KeepsBarriers d (bumpBy c i k d) where
  count e known := (bumpBy_keepsTally (c := e) (by rintro rfl; exact other known) i k d).count

theorem bump_keepsBarriers (c : Counter) (i : Nat) (d : Device) (other : c ∉ barrierCounters := by decide) :
    KeepsBarriers d (bump c i d) := bumpBy_keepsBarriers c i 1 d other

theorem journal_keepsBarriers (kind inst : Nat) (d : Device) : KeepsBarriers d (journal kind inst d) :=
  (journal_aside ..).keepsBarriers fun c _ => journal_keepsTally c ..

theorem endCycle_keepsBarriers (d : Device) : KeepsBarriers d (endCycle d) :=
  (endCycle_aside d).keepsBarriers fun c known => endCycle_keepsTally (barrierCounters_quiet c known) d

theorem occur_keepsBarriers (s : SourceId) (inst : Nat) (charge : Option TenantId) (d : Device) :
    KeepsBarriers d (occur s inst charge d) :=
  (occur_aside ..).keepsBarriers fun c known => occur_keepsTally (barrierCounters_quiet c known) ..

theorem sourceEvent_keepsBarriers (s : SourceId) (insts : List Nat) (charge : Option TenantId) (d : Device) :
    KeepsBarriers d (sourceEvent s insts charge d) := by
  unfold sourceEvent
  refine .ite ?_ (.refl d)
  extract_lets cov open_ d1 d2
  have counted : KeepsBarriers d d1 := bumpBy_keepsBarriers .shadowed _ _ d
  have charged : KeepsBarriers d1 d2 := by
    cases charge <;> exact {}
  have reacted : KeepsBarriers d2 (reactingEvent s open_ charge d2) :=
    (reactingEvent_aside ..).keepsBarriers fun c known => reactingEvent_keepsTally (barrierCounters_quiet c known) ..
  exact (counted.trans charged).trans (.ite (.refl d2) reacted)

theorem condBegin_keepsBarriers (s : SourceId) (inst : Nat) (charge : Option TenantId) (d : Device) :
    KeepsBarriers d (condBegin s inst charge d) := by
  unfold condBegin
  refine .ite (.refl d) ?_
  extract_lets was g d1
  have present : KeepsBarriers d d1 := {}
  exact .ite (present.trans (endCycle_keepsBarriers d1)) (present.trans (occur_keepsBarriers s inst charge d1))

theorem post_keepsBarriers (c : Call) (st : Status) (reason : Nat) (result : List Byte) (more : Bool) (d : Device) :
    KeepsBarriers d (post c st reason result more d) := by
  unfold post
  extract_lets r kr late d1 d2
  have counted : KeepsBarriers d d1 := .ite (bump_keepsBarriers ..) (.refl d)
  have accepted : KeepsBarriers d1 d2 := .ite (bump_keepsBarriers ..) (.ite (bump_keepsBarriers ..) (.refl d1))
  exact (counted.trans accepted).trans {}

theorem finish_keepsBarriers (c : Call) (st : Status) (reason : Nat) (d : Device) : KeepsBarriers d (finish c st reason d) :=
  post_keepsBarriers c st reason [] false d

/-! ### Records and frames that bind (R539, R545, R577) -/

theorem writeRecord_keepsBarriers (kind tenant : Nat) (body : List Byte) (d : Device) :
    KeepsBarriers d (writeRecord kind tenant body d) := by
  unfold writeRecord putRecord
  dsimp only
  split
  · exact .trans {} (bump_keepsBarriers ..)
  · exact .trans {} (condBegin_keepsBarriers 50 0 none _)

theorem bindFrames_keepsBarriers (t : TenantId) (n by_ : Nat) (d : Device) : KeepsBarriers d (bindFrames t n by_ d).2 :=
  (KeepsBarriers.foldl (fun _ _ => .trans {} (bump_keepsBarriers ..)) _ d).trans (.foldl (fun d _ => writeRecord_keepsBarriers _ _ _ d) _ _)

/-! ### The tenant scope of a commit (R587, R634) -/

theorem checkStop_keepsBarriers (c : ContextId) (d : Device) : KeepsBarriers d (checkStop c d) := by
  unfold checkStop
  refine .ite ?_ (.refl d)
  split
  · exact .trans {} (post_keepsBarriers ..)
  · exact {}

theorem flushCtx_keepsBarriers (c : ContextId) (d : Device) : KeepsBarriers d (flushCtx c d).2 := by
  have counted : ∀ gone torn, KeepsBarriers d (bumpBy .framesTorn c.val torn (bumpBy .framesFlushed c.val gone d)) := fun gone torn =>
    (bumpBy_keepsBarriers ..).trans (bumpBy_keepsBarriers ..)
  exact (counted _ _).trans (.trans {} (checkStop_keepsBarriers c _))

theorem dropRing_keepsBarriers (i : ContextId) (d : Device) : KeepsBarriers d (dropRing i d) := by
  unfold dropRing
  split <;> exact {}

theorem assoc_filter {α β : Type} [DecidableEq α] {keep : α × β → Bool} {k : α} (kept : ∀ b, keep (k, b) = true)
    (l : List (α × β)) :
    assoc (l.filter keep) k = assoc l k := by
  induction l with
  | nil => rfl
  | cons p l ih =>
    obtain ⟨a, b⟩ := p
    by_cases same : a = k
    · subst same
      simp [kept, assoc]
    · rw [List.filter_cons]
      split <;> simp [assoc, same, ih]

/-- Counters that are kept are found as before. -/
theorem keepCounters_count {keep : Counter → Nat → Bool} {c : Counter} {i : Nat} (kept : keep c i = true) (d : Device) :
    (keepCounters keep d).count c i = d.count c i :=
  congrArg (·.getD 0) (assoc_filter (fun _ => kept) d.counters)

theorem resetCtxCounters_keepsBarriers (i : ContextId) (d : Device) : KeepsBarriers d (resetCtxCounters i d) where
  count c known j := by
    have apart : ∀ c ∈ barrierCounters, c.info.scope ≠ 3 := by decide
    exact keepCounters_count (by simp [apart c known]) d

theorem applyDescriptor_keepsBarriers (i : ContextId) (x : Descriptor) (d : Device) : KeepsBarriers d (applyDescriptor i x d) := by
  unfold applyDescriptor
  refine .ite (.refl d) ?_
  extract_lets d1 d2 t id us d3
  have dropped : KeepsBarriers d d2 :=
    ((flushCtx_keepsBarriers i d).trans (dropRing_keepsBarriers i _)).trans (resetCtxCounters_keepsBarriers i d1)
  exact dropped.trans (.ite ((modTenant_keepsBarriers t _ d2).trans (modCtx_keepsBarriers i _ d3)) (modCtx_keepsBarriers i _ d2))

theorem applyDescriptors_keepsBarriers (t : TenantId) (d : Device) : KeepsBarriers d (applyDescriptors t d) := by
  unfold applyDescriptors
  refine KeepsBarriers.trans (.foldl (fun d q => ?_) _ d) {}
  split
  · exact applyDescriptor_keepsBarriers _ _ d
  · exact .refl d

theorem settleCommits_keepsBarriers (d : Device) : KeepsBarriers d (settleCommits d) :=
  .trans {} (.foldl (fun d _ => .ite (post_keepsBarriers _ _ _ _ _ d) (post_keepsBarriers _ _ _ _ _ d)) _ _)

theorem applyTenantScope_keepsBarriers (t : TenantId) (d : Device) : KeepsBarriers d (applyTenantScope t d) := by
  unfold applyTenantScope
  refine .ite (.ite ?_ (.trans {} (.foldl (fun d _ => post_keepsBarriers _ _ _ _ _ d) _ _))) (.refl d)
  have applied := (applyDescriptors_keepsBarriers t d).trans (journal_keepsBarriers kApplied (1 + t.val) _)
  exact (applied.trans {}).trans (settleCommits_keepsBarriers _)

theorem cutPulse_keepsBarriers (d : Device) : KeepsBarriers d (cutPulse d) := by
  unfold cutPulse
  split <;> exact {}

theorem applyLater_keepsBarriers (d : Device) : KeepsBarriers d (applyLater d) := .ite {} (.trans {} (cutPulse_keepsBarriers _))

/-! ### FRAME_SYNC_OUT (R586) -/

theorem startPulse_keepsBarriers (d : Device) : KeepsBarriers d (startPulse d) := by
  unfold startPulse
  split
  · exact .ite (bump_keepsBarriers ..) {}
  · exact {}

/-- A pulse that has ended ended no later than now. -/
theorem settlePulse_keepsBarriers (d : Device) : KeepsBarriers d (settlePulse d) := by
  unfold settlePulse
  split
  next t until_ =>
    split
    next past =>
      have ended : endPulse d = emit (.syncOut false) { advanceTo t d with
          pins := { d.pins with syncOut := false }, time := { (advanceTo t d).time with pulseEnd := none } } := by
        rw [endPulse, until_]
        rfl
      rw [ended]
      exact { now := Nat.max_eq_left past }
    next => exact .refl d
  next => exact .refl d

/-! ### The start of a step (R78, R224, R729 to R732) -/

theorem countDivisor_keepsBarriers (d : Device) : KeepsBarriers d (countDivisor d) := by
  unfold countDivisor
  extract_lets n above d1
  have counted : KeepsBarriers d d1 := .ite (bumpBy_keepsBarriers ..) (.ite (bumpBy_keepsBarriers ..) (.refl d))
  exact counted.trans {}

theorem changeDivisor_keepsBarriers (d : Device) : KeepsBarriers d (changeDivisor d) := by
  unfold changeDivisor
  extract_lets d1 c d2 d3 waits
  have counted : KeepsBarriers d d1 := countDivisor_keepsBarriers d
  have changed : KeepsBarriers d1 d2 := {}
  have noted : KeepsBarriers d2 d3 := .foldl (fun d t => .ite {} (.refl d)) _ d2
  exact ((counted.trans changed).trans noted).trans (.foldl (fun d _ => post_keepsBarriers _ _ _ _ _ d) _ d3)

theorem switchEpoch_keepsBarriers (t : TenantId) (d : Device) : KeepsBarriers d (switchEpoch t d) := by
  unfold switchEpoch
  dsimp only
  split
  · have switched : ∀ e, KeepsBarriers e (cutPlanned e) := fun e => .trans {} (bumpBy_keepsBarriers ..)
    exact (KeepsBarriers.trans {} (switched _)).trans (bump_keepsBarriers ..)
  · exact .refl d

theorem endIdle_keepsBarriers (t : Nat) (d : Device) : KeepsBarriers d (endIdle t d) := by
  unfold endIdle
  split <;> exact {}

theorem reloadImage_keepsBarriers (d : Device) (t : TenantId) : KeepsBarriers d (reloadImage d t) := by
  unfold reloadImage
  split
  · exact .refl d
  · exact .foldl (fun d _ => .ite (.foldl (fun _ _ => {}) _ d) (.refl d)) _ d

theorem beginStep_keepsBarriers (t : TenantId) (d : Device) : KeepsBarriers d (beginStep t d) := by
  unfold beginStep
  extract_lets d1 d2 d3 d4 free wait d5 why
  have point : KeepsBarriers d (divisorPoint (endIdle d.now d)) :=
    (endIdle_keepsBarriers d.now d).trans (.ite (changeDivisor_keepsBarriers _) (.refl _))
  have switched : KeepsBarriers d d1 := point.trans (switchEpoch_keepsBarriers t _)
  have reset : KeepsBarriers d1 d2 :=
    (reloadImage_keepsBarriers d1 t).trans (.foldl (fun d _ => modVt_keepsBarriers _ _ d) _ _)
  have emptied : KeepsBarriers d2 d3 := modTenant_keepsBarriers t _ d2
  have annealed : KeepsBarriers d3 d4 := by
    unfold d4
    split
    · exact modTenant_keepsBarriers t _ d3
    · exact .refl d3
  have released : KeepsBarriers d4 d5 := modTenant_keepsBarriers t _ d4
  exact ((((switched.trans reset).trans emptied).trans annealed).trans released).trans (modTenant_keepsBarriers t _ d5)

theorem createStep_keepsBarriers (t : TenantId) (r : Run) (d : Device) : KeepsBarriers d (createStep t r d) := by
  unfold createStep
  extract_lets n d1 paced mine d2
  have applied : KeepsBarriers d d2 := (applyTenantScope_keepsBarriers t d).trans (.ite (applyLater_keepsBarriers d1) (.refl d1))
  have bound := bindFrames_keepsBarriers t n d2.now d2
  generalize bindFrames t n d2.now d2 = frames at bound
  obtain ⟨es, d3⟩ := frames
  dsimp only
  have created : ∀ f, KeepsBarriers d (modRun t f d3) := fun _ => (applied.trans bound).trans (modTenant_keepsBarriers t _ d3)
  exact .ite ((created _).trans ((settlePulse_keepsBarriers _).trans (startPulse_keepsBarriers _))) (created _)

/-! ### Mirrors (R70, R71) -/

theorem copyPage_keepsBarriers (v : VtileRef) (t : TenantId) (d : Device) : KeepsBarriers d (copyPage v t d) := by
  unfold copyPage
  split
  · exact (modTenant_keepsBarriers t _ d).trans (modVt_keepsBarriers v _ _)
  · exact .refl d

theorem spadWrite_keepsBarriers (v : VtileRef) (t : TenantId) (a : Nat) (bs : List Byte) (d : Device) :
    KeepsBarriers d (spadWrite v t a bs d) := by
  have copied : KeepsBarriers d (copyThrough v t a bs.length d) := by
    unfold copyThrough
    split
    · exact .refl d
    · exact .ite (.foldl (fun d _ => copyPage_keepsBarriers v t d) _ d) (.refl d)
  exact copied.trans {}

theorem finishMirror_keepsBarriers (t : TenantId) (d : Device) : KeepsBarriers d (finishMirror t d) := by
  have copied := KeepsBarriers.foldl (f := fun d n => (vt d (refOf n)).uncopied.foldl (fun d _ => copyPage (refOf n) t d) d)
    (fun d n => .foldl (fun d _ => copyPage_keepsBarriers (refOf n) t d) _ d) (runVtiles d t) d
  have completed : ∀ e, KeepsBarriers e (settleMirror t e) := fun e =>
    .ite ((modTenant_keepsBarriers t _ e).trans (modTenant_keepsBarriers t _ _)) (.refl e)
  exact copied.trans (completed _)

theorem beginMirror_keepsBarriers (t : TenantId) (next : Nat) (d : Device) : KeepsBarriers d (beginMirror t next d) := by
  have mirrored : ∀ f, KeepsBarriers d (modTenant t f (finishMirror t d)) := fun _ =>
    (finishMirror_keepsBarriers t d).trans (modTenant_keepsBarriers t _ _)
  unfold beginMirror
  dsimp only
  split
  · exact mirrored _
  · exact .ite (mirrored _) ((mirrored _).trans (.foldl (fun d _ => modVt_keepsBarriers _ _ d) _ _))

theorem regather_keepsBarriers (t : TenantId) (v : VtileRef) (base : Nat) (d : Device) : KeepsBarriers d (regather t v base d) := by
  unfold regather gather
  extract_lets a lo vals slots d1
  have gathered : KeepsBarriers d d1 := by
    unfold d1
    split <;> exact {}
  exact (gathered.trans (modTenant_keepsBarriers t _ d1)).trans (spadWrite_keepsBarriers _ t _ _ _)

theorem restoreArea_keepsBarriers (t : TenantId) (m : Mirror) (n : Nat) (d : Device) : KeepsBarriers d (restoreArea t m n d) := by
  unfold restoreArea
  split
  · split
    · exact .ite (.refl d) (.trans {} (regather_keepsBarriers t _ _ _))
    · exact .refl d
  · exact {}

/-! ### Checkpoints and writes that waited (R551, R623) -/

theorem undoStopped_keepsBarriers (t : TenantId) (d : Device) : KeepsBarriers d (undoStopped t d) := by
  unfold undoStopped
  extract_lets undo d1 d2
  have undone : KeepsBarriers d d1 := modTenant_keepsBarriers t _ d
  have restored : KeepsBarriers d1 d2 := by
    unfold d2
    split
    · exact .foldl (fun d n => restoreArea_keepsBarriers t _ n d) _ d1
    · exact .refl d1
  exact (undone.trans restored).trans (modTenant_keepsBarriers t _ d2)

theorem ckptDone_keepsBarriers (c : Call) (t : TenantId) (bs : List Byte) (slot : Nat) (d : Device) :
    KeepsBarriers d (ckptDone c t bs slot d) :=
  ((writeRecord_keepsBarriers _ _ _ d).trans (.trans {} (bump_keepsBarriers ..))).trans (post_keepsBarriers ..)

theorem capture_keepsBarriers (c : Call) (t : TenantId) (d : Device) : KeepsBarriers d (capture c t d) := by
  have refused : ∀ st, KeepsBarriers d (finish c st 0 d) := fun st => finish_keepsBarriers c st 0 d
  unfold capture withOut
  refine .ite (.ite (refused _) ?_) (.ite (refused _) ?_)
  · split
    · exact (KeepsBarriers.ite (.refl d) {}).trans (ckptDone_keepsBarriers c t _ 0 _)
    · exact post_keepsBarriers _ _ _ _ _ d
    · exact post_keepsBarriers _ _ _ _ _ d
  · split
    · exact refused _
    · exact .trans (.trans {} (bumpBy_keepsBarriers ..)) (ckptDone_keepsBarriers c t _ _ _)

theorem serveCheckpoints_keepsBarriers (t : TenantId) (d : Device) : KeepsBarriers d (serveCheckpoints t d) := by
  refine (modTenant_keepsBarriers t _ d).trans (.foldl (fun d k => ?_) _ _)
  unfold captureStopped
  split
  · exact .ite (finish_keepsBarriers ..) ((undoStopped_keepsBarriers t d).trans (capture_keepsBarriers _ t _))
  · exact capture_keepsBarriers _ t d

theorem landBind_keepsBarriers (c : Call) (id : Nat) (bs : List Byte) (d : Device) : KeepsBarriers d (landBind c id bs d) := by
  unfold landBind
  extract_lets d1 d2
  have written : KeepsBarriers d d1 := .ite (.refl d) {}
  have counted : KeepsBarriers d1 d2 := by
    unfold d2
    split
    · exact .ite (bumpBy_keepsBarriers ..) (.refl d1)
    · exact .refl d1
  exact ((written.trans counted).trans (modTenant_keepsBarriers _ _ d2)).trans (post_keepsBarriers ..)

theorem landBinds_keepsBarriers (t : TenantId) (d : Device) : KeepsBarriers d (landBinds t d) :=
  (modTenant_keepsBarriers t _ d).trans (.foldl (fun d c => landBind_keepsBarriers c _ _ d) _ _)

/-! ### The end of a run (R29, R200, R622) -/

theorem applyShares_keepsBarriers (s : Nat × List (BitVec 64)) (d : Device) : KeepsBarriers d (applyShares s d) := by
  unfold applyShares
  extract_lets d1 d2
  have shared : KeepsBarriers d d1 := .foldl (fun _ _ => {}) _ d
  have credited : KeepsBarriers d1 d2 := .foldl (fun _ _ => {}) _ d1
  exact (shared.trans credited).trans (.trans {} (journal_keepsBarriers ..))

theorem resumeRun_keepsBarriers (t : TenantId) (d : Device) : KeepsBarriers d (resumeRun t d) := by
  unfold resumeRun
  split
  · exact .refl d
  · refine .ite ?_ (.refl d)
    have counted : ∀ k, KeepsBarriers d (bumpBy .skippedBoundaries t.val k (bumpBy .drainSkipped t.val k (bump .lateSteps t.val d))) :=
      fun k => ((bump_keepsBarriers ..).trans (bumpBy_keepsBarriers ..)).trans (bumpBy_keepsBarriers ..)
    exact (counted _).trans ((modTenant_keepsBarriers t _ _).trans (occur_keepsBarriers ..))

theorem tryShares_keepsBarriers (d : Device) : KeepsBarriers d (tryShares d) := by
  unfold tryShares
  dsimp only
  split
  · exact .refl d
  · have applied := applyShares_keepsBarriers
    refine ((applied _ d).trans (.trans {} (settleCommits_keepsBarriers _))).trans (.foldl (fun d t => ?_) _ _)
    exact .ite (.refl d) (resumeRun_keepsBarriers t d)

theorem afterRun_keepsBarriers (t : TenantId) (d : Device) : KeepsBarriers d (afterRun t d) := by
  unfold afterRun
  extract_lets d1 d2 d3
  have landed : KeepsBarriers d (landBinds t d1) := (serveCheckpoints_keepsBarriers t d).trans (landBinds_keepsBarriers t d1)
  have applied : KeepsBarriers d d2 := landed.trans (applyTenantScope_keepsBarriers t _)
  have later : KeepsBarriers d2 d3 := .ite (.refl d2) ((cutPulse_keepsBarriers d2).trans (applyLater_keepsBarriers _))
  exact (applied.trans later).trans (tryShares_keepsBarriers d3)

theorem endRun_keepsBarriers (t : TenantId) (st : RunState) (d : Device) : KeepsBarriers d (endRun t st d) := by
  unfold endRun
  extract_lets swept d1
  have based : KeepsBarriers d d1 := by
    unfold d1
    split
    · exact modTenant_keepsBarriers t _ d
    · exact .refl d
  exact ((based.trans (modTenant_keepsBarriers t _ d1)).trans (modTenant_keepsBarriers t _ _)).trans (afterRun_keepsBarriers t _)

theorem postAnneal_keepsBarriers (t : TenantId) (r : Run) (st : Status) (reason : Nat) (aborted : Bool) (d : Device) :
    KeepsBarriers d (postAnneal t r st reason aborted d) := by
  unfold postAnneal
  split <;> exact post_keepsBarriers _ _ _ _ _ d

theorem stopRun_keepsBarriers (t : TenantId) (st : Status) (reason : Nat) (d : Device) : KeepsBarriers d (stopRun t st reason d) := by
  unfold stopRun
  split
  · exact .refl d
  next r _ =>
    refine .ite (KeepsBarriers.trans ?_ (endRun_keepsBarriers t .none _)) (.refl d)
    split
    · exact postAnneal_keepsBarriers t r st reason false d
    · exact finish_keepsBarriers ..

/-! ### Replayed steps (R559) -/

theorem applyItem_keepsBarriers (t : TenantId) (d : Device) (x : Bool × List Byte) : KeepsBarriers d (applyItem t d x) := by
  unfold applyItem
  extract_lets d1 id bs
  have logged : KeepsBarriers d d1 := modTenant_keepsBarriers t _ d
  refine logged.trans (.ite ?_ ((modTenant_keepsBarriers t _ d1).trans (modTenant_keepsBarriers t _ _)))
  split
  · exact modTenant_keepsBarriers t _ d1
  · exact .refl d1

theorem replayMismatch_keepsBarriers (t : TenantId) (r : Run) (p : Replay) (n code : Nat) (d : Device) :
    KeepsBarriers d (replayMismatch t r p n code d) := by
  unfold replayMismatch
  extract_lets stop d1 d2 d3
  have counted : KeepsBarriers d d1 := (bump_keepsBarriers ..).trans (bump_keepsBarriers ..)
  have posted : KeepsBarriers d1 d2 := post_keepsBarriers ..
  have skipped : KeepsBarriers d2 d3 := (modTenant_keepsBarriers t _ d2).trans (modTenant_keepsBarriers t _ _)
  exact ((counted.trans posted).trans skipped).trans (.ite (endRun_keepsBarriers t .none d3) (beginMirror_keepsBarriers t _ d3))

theorem createReplay_keepsBarriers (t : TenantId) (r : Run) (p : Replay) (d : Device) : KeepsBarriers d (createReplay t r p d) := by
  unfold createReplay
  extract_lets n
  generalize replayManifest d t p n = manifest
  obtain ⟨es, used⟩ := manifest
  dsimp only
  generalize replayItems d t p = logged
  obtain ⟨items, took⟩ := logged
  have applied : ∀ f, KeepsBarriers d (items.foldl (applyItem t) (modRun t f d)) := fun _ =>
    (modTenant_keepsBarriers t _ d).trans (.foldl (applyItem_keepsBarriers t) items _)
  have mismatched : ∀ f code, KeepsBarriers d (replayMismatch t r p n code (items.foldl (applyItem t) (modRun t f d))) :=
    fun f _ => (applied f).trans (replayMismatch_keepsBarriers ..)
  split
  · exact mismatched _ _
  · exact .ite (mismatched _ _) (.ite (mismatched _ _) ((applied _).trans (modTenant_keepsBarriers t _ _)))

/-! ### Steps that wait at a barrier (R404, R485, R557) -/

theorem invalidate_keepsBarriers (t : TenantId) (reason : Nat) (src : Option Nat) (d : Device) :
    KeepsBarriers d (invalidate t reason src d) := modTenant_keepsBarriers t _ d

theorem abortWait_keepsBarriers (t : TenantId) (d : Device) : KeepsBarriers d (abortWait t d) := by
  unfold abortWait
  split
  · exact .refl d
  next r _ =>
    extract_lets d1 d2
    have waits : KeepsBarriers d d1 := modTenant_keepsBarriers t _ d
    have begun : ∀ e, KeepsBarriers e (invalidate t 0x09 (some 98) (beginStep t e)) := fun e =>
      (beginStep_keepsBarriers t e).trans (invalidate_keepsBarriers ..)
    have created : KeepsBarriers d1 d2 := by
      unfold d2
      split
      · exact createReplay_keepsBarriers ..
      · exact createStep_keepsBarriers ..
    exact waits.trans (.ite (created.trans (.ite (begun d2) (.refl d2))) (begun d1))

theorem compareRun_keepsBarriers (t : TenantId) (differ : Bool) (d : Device) : KeepsBarriers d (compareRun t differ d) := by
  unfold compareRun
  split
  · exact .refl d
  · exact (modTenant_keepsBarriers t _ d).trans (.ite (stopRun_keepsBarriers ..) (.refl _))

end Sys2Proof.Machine
end

section
/-! SUPPORT. Messages of a barrier over the sideband or in-band, and what they and the end of a barrier leave of it (R481 to R485). -/
set_option Elab.async false

namespace Sys2Proof.Machine

open Sys2Proof

/-! ### Barriers in progress -/

theorem barrierOf_number {d : Device} {n : Nat} {b : Barrier} (found : barrierOf d n = some b) : b.number = n := by
  simpa using List.find?_some found

/-- A change of a barrier is a change of the one in progress, or of a new one. -/
theorem barrierOf_modBarrier (n : Nat) {f : Barrier → Barrier} (same : ∀ b, (f b).number = b.number) (d : Device) :
    barrierOf (modBarrier n f d) n = some (f ((barrierOf d n).getD { number := n })) := by
  have number : (f ((barrierOf d n).getD { number := n })).number = n := by
    rw [same]
    cases found : barrierOf d n with
    | none => rfl
    | some b => exact barrierOf_number found
  have others : (d.span.barriers.filter fun x => !decide (x.number = n)).find? (fun b => decide (b.number = n)) = none :=
    List.find?_eq_none.mpr fun x other => by simpa using (List.mem_filter.mp other).2
  unfold modBarrier
  rw [barrierOf, List.find?_append, others, Option.none_or, List.find?_singleton, if_pos (by simpa using number)]

/-- Barrier n is over. -/
def endBarrier (n : Nat) (d : Device) : Device :=
  modSpan (fun s => { s with barriers := s.barriers.filter fun x => !decide (x.number = n) }) d

theorem barrierOf_endBarrier (n : Nat) (d : Device) : barrierOf (endBarrier n d) n = none :=
  List.find?_eq_none.mpr fun x other => by simpa using (List.mem_filter.mp other).2

theorem barrierOf_of_span {a b : Device} (h : b.span = a.span) (n : Nat) : barrierOf b n = barrierOf a n := by simp [barrierOf, h]

/-! ### Messages of a barrier (R481, R484) -/

/-- A barrier apart from whether a message of it went in-band. -/
def Barrier.sansInband (b : Barrier) : Barrier := { b with inband := false }

/-- The device but for the barriers, the ports, the arbitration, the counters and the outputs of another one. -/
def signalledFrom (a b : Device) : Device := { sentFrom a b with span := { a.span with barriers := b.span.barriers } }

/-- Messages of barrier n have been sent: they change what sending changes, and mark the barrier when they go in-band. -/
structure Signals (n : Nat) (a b : Device) : Prop where
  same : b = signalledFrom a b := by rfl
  count : ∀ c, c ∉ sendCounters → ∀ i, b.count c i = a.count c i := by exact fun _ _ _ => rfl
  kept : ∀ x, barrierOf a n = some x → ∃ y, barrierOf b n = some y ∧ y.sansInband = x.sansInband := by
    exact fun x found => ⟨x, found, rfl⟩

theorem Signals.refl (n : Nat) (a : Device) : Signals n a a := {}

theorem Signals.trans {n : Nat} {a b e : Device} (h : Signals n a b) (k : Signals n b e) : Signals n a e where
  same := k.same.trans (congrArg (signalledFrom · e) h.same :)
  count c other i := (k.count c other i).trans (h.count c other i)
  kept x found := by
    obtain ⟨y, between, same⟩ := h.kept x found
    obtain ⟨z, after, same'⟩ := k.kept y between
    exact ⟨z, after, same'.trans same⟩

theorem Signals.foldl {n : Nat} {α : Type} {f : Device → α → Device} (h : ∀ d x, Signals n d (f d x)) (l : List α) (d : Device) :
    Signals n d (l.foldl f d) :=
  List.foldlRecOn (motive := Signals n d) l f (.refl n d) fun e sent x _ => sent.trans (h e x)

theorem Sends.signals {a b : Device} (h : Sends a b) (n : Nat) : Signals n a b where
  same := by
    have span : ({ a.span with barriers := b.span.barriers } : Span) = a.span := by rw [h.span]
    exact h.same.trans (congrArg (fun s => { sentFrom a b with span := s }) span.symm)
  count := h.count
  kept x found := ⟨x, (barrierOf_of_span h.span n).trans found, rfl⟩

theorem Signals.now {n : Nat} {a b : Device} (h : Signals n a b) : b.now = a.now := (congrArg Device.now h.same :)
theorem Signals.tenants {n : Nat} {a b : Device} (h : Signals n a b) : b.tenants = a.tenants := (congrArg Device.tenants h.same :)
theorem Signals.gutter {n : Nat} {a b : Device} (h : Signals n a b) : b.gutter = a.gutter := (congrArg Device.gutter h.same :)

theorem Signals.keepsTally {n : Nat} {a b : Device} (h : Signals n a b) {c : Counter} (other : c ∉ sendCounters) : KeepsTally c a b where
  now := h.now
  count := h.count c other
  sticky _ set := h.gutter ▸ set

/-- A message of a barrier goes over the sideband, or in-band with the barrier marked. -/
theorem sideband_signals (dst : Nat) (kind : LinkMsg) (n : Nat) (d : Device) : Signals n d (sideband dst kind n d) := by
  unfold sideband
  split
  · exact .refl n d
  next p _ =>
    split
    · exact (emit_sends ..).signals n
    · have sent := (sendMessage_sends p (selfIndex d) dst none kind [n, selfIndex d] [] d).signals n
      refine sent.trans { kept := fun x found => ⟨{ x with inband := true }, ?_, rfl⟩ }
      rw [barrierOf_modBarrier, found]
      · rfl
      · exact fun _ => rfl

theorem sendRelease_signals (n : Nat) (d : Device) : Signals n d (sendRelease n d) :=
  .foldl (fun d c => (sideband_signals c .release n d).trans (sideband_signals c .releaseCopy n _)) _ d

/-- The release of a barrier in progress without one sets its instant. -/
theorem releaseBarrier_sets {n : Nat} {d : Device} {b : Barrier} (found : barrierOf d n = some b) (at_ : Nat) :
    ∃ x, barrierOf (releaseBarrier n at_ d) n = some x ∧ x.arrived = b.arrived ∧ (b.releaseAt = none → x.releaseAt = some at_) := by
  obtain ⟨y, sent, same⟩ := (sendRelease_signals n d).kept b found
  have arrived : y.arrived = b.arrived := (congrArg Barrier.arrived same :)
  have release : y.releaseAt = b.releaseAt := (congrArg Barrier.releaseAt same :)
  refine ⟨_, barrierOf_modBarrier n ?_ _, ?_, fun unreleased => ?_⟩
  · exact fun _ => rfl
  · rw [sent]
    exact arrived
  · rw [sent]
    simp [release, unreleased]

/-- A try to go on with a barrier leaves its arrivals as they are. -/
theorem tryBarrier_arrived {n : Nat} {d : Device} {b : Barrier} (found : barrierOf d n = some b) :
    ∃ x, barrierOf (tryBarrier n d) n = some x ∧ x.arrived = b.arrived := by
  unfold tryBarrier
  rw [found]
  dsimp only
  split
  · split
    · obtain ⟨x, released, arrived, -⟩ := releaseBarrier_sets found (d.now + (d.span.lMax - d.span.lSelf))
      exact ⟨x, released, arrived⟩
    · obtain ⟨y, sent, same⟩ := (sideband_signals (parentOf d (selfIndex d)) .arrive n d).kept b found
      exact ⟨y, sent, (congrArg Barrier.arrived same :)⟩
  · exact ⟨b, found, rfl⟩

/-- An ARRIVE of a barrier that is not over is noted. -/
theorem arrive_notes {n src : Nat} {d : Device} (formed : d.span.formed = true) (goes : barrierOver d n = false) :
    ∃ b, barrierOf (arrive n src d) n = some b ∧ src ∈ b.arrived := by
  obtain ⟨x, tried, arrived⟩ := tryBarrier_arrived (barrierOf_modBarrier n (f := fun b => { b with
    arrived := if b.arrived.contains src then b.arrived else b.arrived ++ [src] }) (fun _ => rfl) d)
  have notes : arrive n src d = tryBarrier n (modBarrier n (fun b => { b with
      arrived := if b.arrived.contains src then b.arrived else b.arrived ++ [src] }) d) := by simp [arrive, formed, goes]
  refine ⟨x, notes ▸ tried, ?_⟩
  rw [arrived]
  dsimp only
  split
  next there => exact List.contains_iff_mem.mp there
  next => exact List.mem_append_right _ (List.mem_singleton_self src)

section

variable {n : Nat} {d : Device} {b : Barrier} (found : barrierOf d n = some b) (reached : b.reached.isSome = true)
  (unreleased : b.releaseAt = none)
include found reached unreleased

theorem release_reached : release n d = releaseBarrier n (d.now + (d.span.lMax - d.span.lSelf)) d := by
  simp [release, found, reached, unreleased]

theorem releaseCopy_reached : releaseCopy n d = releaseBarrier n (d.now + (d.span.lMax - d.span.lSelf) - 20) d := by
  simp [releaseCopy, found, reached, unreleased]

end

/-! ### The end of a barrier (R483, R485) -/

/-- ABORT goes on to the children. -/
def sendAbort (n : Nat) (d : Device) : Device := (children d).foldl (fun d c => sideband c .abort n d) d

theorem sendAbort_signals (n : Nat) (d : Device) : Signals n d (sendAbort n d) := .foldl (fun d c => sideband_signals c .abort n d) _ d

theorem abortBarrier_idle {n : Nat} {d : Device} (none : barrierOf d n = none) : abortBarrier n d = d := by simp [abortBarrier, none]

theorem abortBarrier_found {n : Nat} {d : Device} {b : Barrier} (found : barrierOf d n = some b) :
    abortBarrier n d = (b.tenants.filterMap tenantOf).foldl (fun d t => abortWait t d) (endBarrier n (sendAbort n d)) := by
  rw [abortBarrier, found]
  rfl

/-- An aborted barrier is over. -/
theorem abortBarrier_over (n : Nat) (d : Device) : barrierOf (abortBarrier n d) n = none := by
  cases found : barrierOf d n with
  | none => rw [abortBarrier_idle found, found]
  | some b =>
    have waits := KeepsBarriers.foldl (fun d t => abortWait_keepsBarriers t d) (b.tenants.filterMap tenantOf) (endBarrier n (sendAbort n d))
    rw [abortBarrier_found found, barrierOf_of_span waits.span, barrierOf_endBarrier]

theorem abortBarrier_keepsTally {c : Counter} (known : c ∈ barrierCounters) (n : Nat) (d : Device) :
    KeepsTally c d (abortBarrier n d) := by
  have other : c ∉ sendCounters := by revert c; decide
  cases found : barrierOf d n with
  | none =>
    rw [abortBarrier_idle found]
    exact .refl c d
  | some b =>
    have waits := KeepsBarriers.foldl (fun d t => abortWait_keepsBarriers t d) (b.tenants.filterMap tenantOf) (endBarrier n (sendAbort n d))
    rw [abortBarrier_found found]
    exact ((sendAbort_signals n d).keepsTally other).trans (.trans {} (waits.keepsTally known))

/-- A tenant's wait at the barrier is over, and charged to it. -/
def chargeWait (b : Barrier) (wait : Nat) (d : Device) (t : TenantId) : Device :=
  bumpBy .barrierWaitCycles t.val wait (modRun t (fun r => { r with
    barrier := none, released := true, barrierWait := r.barrierWait + wait, inband := r.inband || b.inband }) d)

theorem chargeWait_keepsBarriers (b : Barrier) (wait : Nat) (d : Device) (t : TenantId) : KeepsBarriers d (chargeWait b wait d t) :=
  (modTenant_keepsBarriers t _ d).trans (bumpBy_keepsBarriers ..)

/-- A barrier counts as in-band when a message of it went so. -/
def countInband (b : Barrier) (d : Device) : Device := if b.inband then bump .barrierInband 0 d else d

theorem countInband_keepsBarriers (b : Barrier) (d : Device) : KeepsBarriers d (countInband b d) := .ite (bump_keepsBarriers ..) (.refl d)

section

variable {n at_ : Nat} {d : Device} {b : Barrier} (found : barrierOf d n = some b) (released : b.releaseAt = some at_)
include found released

theorem localRelease_eq : localRelease n d = (b.tenants.filterMap tenantOf).foldl
    (chargeWait b (gridCycles d.clocks.divisor (max d.now at_ - b.reached.getD (max d.now at_))))
    (endBarrier n (bump .barriers 0 (countInband b (advanceTo at_ d)))) := by
  unfold localRelease
  rw [found]
  dsimp only
  rw [released]
  rfl

/-- A local release ends the barrier at its instant and counts it. -/
theorem localRelease_ends : barrierOf (localRelease n d) n = none ∧ (localRelease n d).now = max d.now at_ ∧
    Counted .barriers 0 d (localRelease n d) := by
  rw [localRelease_eq found released]
  generalize gridCycles d.clocks.divisor _ = wait
  have inband := countInband_keepsBarriers b (advanceTo at_ d)
  have goes := KeepsBarriers.foldl (chargeWait_keepsBarriers b wait) (b.tenants.filterMap tenantOf)
    (endBarrier n (bump .barriers 0 (countInband b (advanceTo at_ d))))
  have counted : Counted .barriers 0 d (endBarrier n (bump .barriers 0 (countInband b (advanceTo at_ d)))) :=
    .of_count (inband.count .barriers (by decide) 0) (bump_counted ..)
  exact ⟨(barrierOf_of_span goes.span n).trans (barrierOf_endBarrier ..), goes.now.trans inband.now,
    counted.trans_keepsTally (goes.keepsTally (by decide))⟩

end

/-! ### Indices handed over at a barrier (R498, R501) -/

/-- The runs' state of an index leaves for its new carrier. -/
def sendStates (runs : List TenantId) (q : Nat × Nat) (d : Device) : Device :=
  runs.foldl (fun d t => sendData q.2 (2 * t.val + 1) q.1 .stateMove [q.1, 0] (stateOf d t q.1) d) d

theorem sendStates_sends (runs : List TenantId) (q : Nat × Nat) (d : Device) : Sends d (sendStates runs q d) :=
  .foldl (fun _ _ => sendData_sends ..) runs d

/-- An index has gone to its new carrier. -/
def handOver (runs : List TenantId) (d : Device) (q : Nat × Nat) : Device :=
  modSpan (fun s => { s with
    carried := s.carried &&& ~~~(1#16 <<< q.1)
    peers := s.peers.map fun m => if bitAt m.indices q.2 then { m with indices := m.indices ||| 2 ^ q.1 } else m }) (sendStates runs q d)

/-- Every planned index has been handed over. -/
def handedOver (d : Device) : Device :=
  modSpan (fun s => { s with moves := [] }) (d.span.moves.foldl (handOver (allTenants.filter fun t => running d t && spanBound d t)) d)

theorem sendMoves_eq (d : Device) : sendMoves d = match (handedOver d).span.leaving with
    | none => handedOver d
    | some c => post c .ok 0 (leBytes 2 (maskOf ((d.span.moves.foldl (handOver (allTenants.filter fun t => running d t && spanBound d t))
        d).span.moves.map (·.1))).toNat) false (leaveSpan (handedOver d)) := rfl

theorem handOver_keepsTally {c : Counter} (other : c ∉ sendCounters) (runs : List TenantId) (d : Device) (q : Nat × Nat) :
    KeepsTally c d (handOver runs d q) := ((sendStates_sends runs q d).keepsTally other).trans {}

theorem handOver_barriers (runs : List TenantId) (d : Device) (q : Nat × Nat) : (handOver runs d q).span.barriers = d.span.barriers :=
  (congrArg Span.barriers (sendStates_sends runs q d).span :)

theorem handedOver_keepsTally {c : Counter} (other : c ∉ sendCounters) (d : Device) : KeepsTally c d (handedOver d) :=
  (KeepsTally.foldl (handOver_keepsTally other _) d.span.moves d).trans {}

theorem handedOver_barriers (d : Device) : (handedOver d).span.barriers = d.span.barriers :=
  List.foldlRecOn (motive := fun e : Device => e.span.barriers = d.span.barriers) d.span.moves
    (handOver (allTenants.filter fun t => running d t && spanBound d t)) (b := d) rfl
    fun _ same q _ => (handOver_barriers _ _ q).trans same

theorem sendMoves_keepsTally {c : Counter} (known : c ∈ barrierCounters) (d : Device) : KeepsTally c d (sendMoves d) := by
  have moved := handedOver_keepsTally (c := c) (by revert c; decide) d
  rw [sendMoves_eq]
  split
  · exact moved
  · exact moved.trans (.trans {} ((post_keepsBarriers ..).keepsTally known))

theorem sendMoves_over {n : Nat} {d : Device} (ended : barrierOf d n = none) : barrierOf (sendMoves d) n = none := by
  rw [sendMoves_eq]
  split
  · rw [barrierOf, handedOver_barriers]
    exact ended
  · rw [barrierOf_of_span (post_keepsBarriers ..).span]
    rfl

/-! ### BARRIER_LOCAL_RELEASE and BARRIER_TIMEOUT -/

section

variable {n : Nat} {d : Device}

theorem barrierLocalRelease_idle (none : barrierOf d n = none) (differ : Bool) : barrierLocalRelease n differ d = d := by
  simp [barrierLocalRelease, none]

theorem barrierTimesOut_idle (none : barrierOf d n = none) : barrierTimesOut n d = d := by simp [barrierTimesOut, none]

theorem arriveRepeat_idle (none : barrierOf d n = none) : arriveRepeat n d = d := by simp [arriveRepeat, none]

variable {b : Barrier} (found : barrierOf d n = some b)
include found

theorem arriveRepeat_signals : Signals n d (arriveRepeat n d) := by
  unfold arriveRepeat
  rw [found]
  dsimp only
  split
  · exact sideband_signals ..
  · exact .refl n d

theorem barrierLocalRelease_unreleased (unreleased : b.releaseAt = none) (differ : Bool) : barrierLocalRelease n differ d = d := by
  simp [barrierLocalRelease, found, unreleased]

theorem barrierLocalRelease_ends {at_ : Nat} (released : b.releaseAt = some at_) (differ : Bool) :
    barrierOf (barrierLocalRelease n differ d) n = none ∧ (barrierLocalRelease n differ d).now = max d.now at_ ∧
      Counted .barriers 0 d (barrierLocalRelease n differ d) := by
  obtain ⟨ended, now, counted⟩ := localRelease_ends found released
  have compared := KeepsBarriers.foldl (fun d t => compareRun_keepsBarriers t differ d) (b.tenants.filterMap tenantOf) (localRelease n d)
  unfold barrierLocalRelease
  rw [found]
  dsimp only
  rw [if_neg (by simp [released])]
  generalize (b.tenants.filterMap tenantOf).foldl (fun d t => compareRun t differ d) (localRelease n d) = e at compared
  have ended' : barrierOf e n = none := (barrierOf_of_span compared.span n).trans ended
  have counted' := counted.trans_keepsTally (compared.keepsTally (by decide))
  split
  · exact ⟨ended', compared.now.trans now, counted'⟩
  · have moved := sendMoves_keepsTally (c := .barriers) (by decide) e
    exact ⟨sendMoves_over ended', (moved.now.trans compared.now).trans now, counted'.trans_keepsTally moved⟩

theorem barrierTimesOut_early (early : b.reached = none ∨ isLeader d = false ∨ b.releaseAt.isSome = true) :
    barrierTimesOut n d = d := by
  unfold barrierTimesOut
  rw [found]
  dsimp only
  split
  · rfl
  next t reached =>
    refine if_neg ?_
    obtain none | member | released := early
    · rw [reached] at none
      contradiction
    · simp [member]
    · simp [Option.isSome_iff_ne_none.mp released]

end

/-- An event of several instances sets the sticky bit for each that no window covers. -/
theorem sourceEvent_raised {i : Nat} {insts : List Nat} (there : i ∈ insts) (s : SourceId) (charge : Option TenantId) (d : Device) :
    Raised s.val i d (sourceEvent s insts charge d) := by
  intro init enabled bare
  unfold sourceEvent
  rw [if_pos (by simp [init, enabled])]
  extract_lets cov open_ d1 d2
  have opens : open_.isEmpty = false := by
    have mem : i ∈ open_ := List.mem_filter.mpr ⟨there, by simp [bare]⟩
    simpa using List.ne_nil_of_mem mem
  rw [if_neg (by simp [opens]), (reactingEvent_records s open_ charge d2).sticky, BitVec.getLsbD_or, srcBit_getLsbD]
  simp

/-- The members whose ARRIVE is missing are named, and the forced release is journalled. -/
def nameMissing (b : Barrier) (d : Device) : Device :=
  journal kForcedRelease 0 (endCycle (sourceEvent 98 ((children d).filter fun c => !b.arrived.contains c)
    (b.tenants.filterMap tenantOf).head? d))

theorem nameMissing_keepsBarriers (b : Barrier) (d : Device) : KeepsBarriers d (nameMissing b d) :=
  ((sourceEvent_keepsBarriers 98 _ _ d).trans (endCycle_keepsBarriers _)).trans (journal_keepsBarriers ..)

theorem nameMissing_raised {b : Barrier} {d : Device} {c : Nat} (child : c ∈ children d) (missing : c ∉ b.arrived) :
    Raised 98 c d (nameMissing b d) := by
  have named : c ∈ (children d).filter fun c => !b.arrived.contains c := List.mem_filter.mpr ⟨child, by simpa using missing⟩
  have event := sourceEvent_raised named 98 (b.tenants.filterMap tenantOf).head? d
  exact (event.trans_keepsTally (endCycle_keepsTally (c := .barriers) (by decide) _)).trans_keepsTally (journal_keepsTally .barriers ..)

theorem releaseEvent_now (kind : Nat) (charge : Option TenantId) (d : Device) : (releaseEvent kind charge d).now = d.now :=
  (occur_aside ..).now

theorem releaseEvent_counted (kind : Nat) (charge : Option TenantId) (d : Device) :
    Counted .forcedReleases 0 d (releaseEvent kind charge d) :=
  (bump_counted ..).trans_keepsTally (occur_keepsTally (by decide) ..)

theorem releaseEvent_keepsTally (kind : Nat) (charge : Option TenantId) (d : Device) :
    KeepsTally .barriers d (releaseEvent kind charge d) := (bump_keepsTally (by decide) ..).trans (occur_keepsTally (by decide) ..)

/-- The leader's ABORT releases the barrier, and the members whose ARRIVE is missing are named. -/
def forceBarrier (n : Nat) (b : Barrier) (d : Device) : Device :=
  abortBarrier n (releaseEvent 4 (b.tenants.filterMap tenantOf).head? (nameMissing b d))

theorem forceBarrier_now (n : Nat) (b : Barrier) (d : Device) : (forceBarrier n b d).now = d.now :=
  (abortBarrier_keepsTally (c := .barriers) (by decide) ..).now.trans ((releaseEvent_now ..).trans (nameMissing_keepsBarriers b d).now)

theorem forceBarrier_counted (n : Nat) (b : Barrier) (d : Device) : Counted .forcedReleases 0 d (forceBarrier n b d) := by
  have tallied := (nameMissing_keepsBarriers b d).count .forcedReleases (by decide) 0
  exact ((releaseEvent_counted ..).of_count tallied).trans_keepsTally (abortBarrier_keepsTally (by decide) ..)

theorem forceBarrier_raised {n : Nat} {b : Barrier} {d : Device} {c : Nat} (child : c ∈ children d) (missing : c ∉ b.arrived) :
    Raised 98 c d (forceBarrier n b d) :=
  ((nameMissing_raised child missing).trans_keepsTally (releaseEvent_keepsTally ..)).trans_keepsTally
    (abortBarrier_keepsTally (c := .barriers) (by decide) ..)

theorem barrierTimesOut_forces {n at_ : Nat} {d : Device} {b : Barrier} (found : barrierOf d n = some b) (reached : b.reached = some at_)
    (leads : isLeader d = true) (unreleased : b.releaseAt = none) :
    barrierTimesOut n d = forceBarrier n b (advanceTo (at_ + barrierTimeout d) d) := by
  unfold barrierTimesOut
  rw [found]
  dsimp only
  rw [reached]
  exact if_pos (by simp [leads, unreleased])

/-! ### Sideband CRC and ECHO (R481, R483, R484) -/

theorem onSideband_bad {kind : LinkMsg} {n src : Nat} {crc : BitVec 8} (bad : ¬crc.toNat = crc8 (sidebandBody kind n src) 24 0)
    (p : PortId) (k : Device → Device) (d : Device) : onSideband p kind n src (some crc) k d = bump .sidebandCrc p.val d := if_neg bad

theorem onSideband_good {kind : LinkMsg} {n src : Nat} {crc : BitVec 8} (good : crc.toNat = crc8 (sidebandBody kind n src) 24 0)
    (p : PortId) (k : Device → Device) (d : Device) : onSideband p kind n src (some crc) k d = k d := if_pos good

theorem arrive_unformed {d : Device} (unformed : d.span.formed = false) (n src : Nat) : arrive n src d = d := if_pos (by simp [unformed])

/-- The port towards the parent depends on no measurement. -/
theorem parentPort_modPort {p : PortId} {f : Ridge → Ridge} {d : Device} (state : (f (d.port p)).state = (d.port p).state)
    (cabling : (f (d.port p)).cablingOk = (d.port p).cablingOk) (serial : (f (d.port p)).peerSerial = (d.port p).peerSerial) :
    parentPort (modPort p f d) = parentPort d := by
  have group : ∀ i, groupTo (modPort p f d) i = groupTo d i := fun i => by
    have active : ∀ q : PortId, ((modPort p f d).port q).state = (d.port q).state ∧
        ((modPort p f d).port q).cablingOk = (d.port q).cablingOk ∧
        ((modPort p f d).port q).peerSerial = (d.port q).peerSerial := fun q => by
      rw [modPort_port]
      split
      · subst q
        exact ⟨state, cabling, serial⟩
      · exact ⟨rfl, rfl, rfl⟩
    unfold groupTo
    rw [show memberAt (modPort p f d) i = memberAt d i from rfl]
    split
    · rfl
    · simp only [active]
  unfold parentPort
  rw [group]
  rfl

section

variable {p : PortId} {d : Device}

theorem echoReply_idle (none : (d.port p).echoSent = none) (above : Nat) : echoReply p above d = d := by simp [echoReply, none]

/-- Half the round trip is the latency to the peer. -/
def noteEcho (p : PortId) (t : Nat) (d : Device) : Device :=
  modPort p (fun r => { r with echo := some ((d.now - t) / 2), echoSent := none, sideband := true }) d

theorem noteEcho_port (p : PortId) (t : Nat) (d : Device) : (noteEcho p t d).port p =
    { d.port p with echo := some ((d.now - t) / 2), echoSent := none, sideband := true } := modPort_port_same ..

theorem echoReply_notes {t : Nat} (sent : (d.port p).echoSent = some t) (above : Nat) : echoReply p above d =
    if parentPort d = some p then modSpan (fun s => { s with lSelf := (d.now - t) / 2 + above }) (noteEcho p t d) else noteEcho p t d := by
  have parent : parentPort (noteEcho p t d) = parentPort d := parentPort_modPort rfl rfl rfl
  rw [← parent, echoReply, sent]
  rfl

theorem echoMeasurement_idle (none : parentPort d = none) : echoMeasurement d = d := by simp [echoMeasurement, none]

/-- A probe without an answer fails the sideband. -/
def failSideband (p : PortId) (d : Device) : Device :=
  if (d.port p).echoSent.isSome && (d.port p).sideband then occur 21 p.val none (modPort p (fun r => { r with sideband := false }) d) else d

theorem failSideband_now (p : PortId) (d : Device) : (failSideband p d).now = d.now := by
  unfold failSideband
  split
  · exact (occur_aside ..).now
  · rfl

theorem failSideband_span (p : PortId) (d : Device) : (failSideband p d).span = d.span := by
  unfold failSideband
  split
  · exact (occur_aside ..).span
  · rfl

theorem failSideband_fails (unanswered : (d.port p).echoSent.isSome = true) (works : (d.port p).sideband = true) :
    ((failSideband p d).port p).sideband = false ∧ Raised 21 p.val d (failSideband p d) := by
  have failed : failSideband p d = occur 21 p.val none (modPort p (fun r => { r with sideband := false }) d) :=
    if_pos (by simp [unanswered, works])
  rw [failed, port_of_ridge (occur_aside ..).ridge, modPort_port_same]
  exact ⟨rfl, occur_raised {} 21 p.val none⟩

theorem echoMeasurement_probes (parent : parentPort d = some p) : echoMeasurement d =
    emit (.ridge p.val .echo [sidebandWord .echo 0 (selfIndex d)] [])
      (modPort p (fun r => { r with echoSent := some d.now }) (failSideband p d)) := by
  have same : selfIndex (failSideband p d) = selfIndex d :=
    congrArg (fun s : Span => (indicesOf s.carried.toNat).headD 0) (failSideband_span p d)
  rw [← same, ← failSideband_now p d, echoMeasurement, parent]
  rfl

end

theorem exec_arrive (p : PortId) (n : BitVec 16) (src : SpanIndex) (crc : Option (BitVec 8)) (s : State) : exec (.arrive p n src crc) s =
    done s (onSideband p .arrive n.toNat src.val crc (arrive n.toNat src.val) s.dev) := rfl
theorem exec_release (p : PortId) (n : BitVec 16) (src : SpanIndex) (crc : Option (BitVec 8)) (s : State) :
    exec (.release p n src crc) s = done s (onSideband p .release n.toNat src.val crc (release n.toNat) s.dev) := rfl
theorem exec_releaseCopy (p : PortId) (n : BitVec 16) (src : SpanIndex) (crc : Option (BitVec 8)) (s : State) :
    exec (.releaseCopy p n src crc) s = done s (onSideband p .releaseCopy n.toNat src.val crc (releaseCopy n.toNat) s.dev) := rfl
theorem exec_abort (p : PortId) (n : BitVec 16) (src : SpanIndex) (crc : Option (BitVec 8)) (s : State) :
    exec (.abort p n src crc) s = done s (onSideband p .abort n.toNat src.val crc (abortBarrier n.toNat) s.dev) := rfl
theorem exec_echo (p : PortId) (n : BitVec 16) (src : SpanIndex) (crc : Option (BitVec 8)) (s : State) :
    exec (.echo p n src crc) s = done s (onSideband p .echo n.toNat src.val crc (echo p n.toNat) s.dev) := rfl
theorem exec_echoReply (p : PortId) (n : BitVec 16) (src : SpanIndex) (crc : Option (BitVec 8)) (above : Nat) (s : State) :
    exec (.echoReply p n src crc above) s = done s (onSideband p .echoReply n.toNat src.val crc (echoReply p above) s.dev) := rfl
theorem exec_arriveRepeat (n : BitVec 16) (s : State) : exec (.arriveRepeat n) s = done s (arriveRepeat n.toNat s.dev) := rfl
theorem exec_barrierLocalRelease (n : BitVec 16) (differ : Bool) (s : State) :
    exec (.barrierLocalRelease n differ) s = done s (barrierLocalRelease n.toNat differ s.dev) := rfl
theorem exec_barrierTimeout (n : BitVec 16) (s : State) : exec (.barrierTimeout n) s = done s (barrierTimesOut n.toNat s.dev) := rfl
theorem exec_echoMeasurement (s : State) : exec .echoMeasurement s = done s (echoMeasurement s.dev) := rfl

/-- Settles O56: `onSideband_bad` for a wrong CRC, `arrive_notes` and `releaseBarrier_sets` for ARRIVE and RELEASE, `abortBarrier_over`
for ABORT and a time-out, `localRelease_ends` for the local release, `echoReply_notes` and `failSideband_fails` for the latency. -/
theorem barriersReleaseAbortAndMeasure : Obligations.BarriersReleaseAbortAndMeasure := by
  unfold Obligations.BarriersReleaseAbortAndMeasure
  refine ⟨fun p n src crc s => ?messages, fun n s none => ⟨exec_idle (exec_arriveRepeat n s) (arriveRepeat_idle none),
    fun x => exec_idle (exec_barrierLocalRelease n x s) (barrierLocalRelease_idle none x),
    exec_idle (exec_barrierTimeout n s) (barrierTimesOut_idle none)⟩, fun n b s found => ?progress, fun s => ?measurement⟩
  case messages =>
    intro good counted
    have bad : ∀ {kind : LinkMsg} (k : Device → Device), ¬good kind →
        done s (onSideband p kind n.toNat src.val (some crc) k s.dev) = counted := fun k wrong =>
      congrArg (done s) (onSideband_bad wrong p k s.dev)
    have taken : ∀ {kind : LinkMsg} (k : Device → Device), good kind →
        done s (onSideband p kind n.toNat src.val (some crc) k s.dev) = done s (k s.dev) := fun k right =>
      congrArg (done s) (onSideband_good right p k s.dev)
    refine ⟨bad _, bad _, bad _, bad _, bad _, fun _ => bad _,
      fun right unformed => exec_idle (taken _ right) (arrive_unformed unformed ..),
      fun right formed goes => completes_of_done (taken _ right) (arrive_notes formed goes),
      fun b found reached unreleased =>
        ⟨fun right => completes_of_done (taken _ right) ?_, fun right => completes_of_done (taken _ right) ?_⟩,
      fun right => completes_of_done (taken _ right) (abortBarrier_over ..), fun right => completes_of_done (taken _ right) ⟨rfl, rfl⟩,
      fun above right => ⟨fun none => exec_idle (taken _ right) (echoReply_idle none above),
        fun t sent => completes_of_done (taken _ right) ?_⟩⟩
    · obtain ⟨x, there, -, instant⟩ := releaseBarrier_sets found (s.dev.now + (s.dev.span.lMax - s.dev.span.lSelf))
      rw [release_reached found reached unreleased]
      exact ⟨x, there, instant unreleased⟩
    · obtain ⟨x, there, -, instant⟩ := releaseBarrier_sets found (s.dev.now + (s.dev.span.lMax - s.dev.span.lSelf) - 20)
      rw [releaseCopy_reached found reached unreleased]
      exact ⟨x, there, instant unreleased⟩
    · have noted := noteEcho_port p t s.dev
      rw [echoReply_notes sent]
      split
      · exact ⟨congrArg Ridge.echo noted, congrArg Ridge.echoSent noted, congrArg Ridge.sideband noted, fun _ => rfl⟩
      · next other =>
        exact ⟨congrArg Ridge.echo noted, congrArg Ridge.echoSent noted, congrArg Ridge.sideband noted,
          fun parent => absurd parent other⟩
  case progress =>
    refine ⟨completes_of_done (exec_arriveRepeat n s) ?_, fun x =>
      ⟨fun unreleased => exec_idle (exec_barrierLocalRelease n x s) (barrierLocalRelease_unreleased found unreleased x),
        fun at_ released => completes_of_done (exec_barrierLocalRelease n x s) (barrierLocalRelease_ends found released x)⟩,
      fun early => exec_idle (exec_barrierTimeout n s) (barrierTimesOut_early found early),
      fun at_ reached leads unreleased => completes_of_done (exec_barrierTimeout n s) ?_⟩
    · have sent := arriveRepeat_signals found
      obtain ⟨y, there, same⟩ := sent.kept b found
      exact ⟨sent.tenants, sent.now, y, there, (congrArg Barrier.arrived same :), (congrArg Barrier.releaseAt same :)⟩
    · rw [barrierTimesOut_forces found reached leads unreleased]
      have late : KeepsGutter s.dev (advanceTo (at_ + barrierTimeout s.dev) s.dev) := {}
      have counted := forceBarrier_counted n.toNat b (advanceTo (at_ + barrierTimeout s.dev) s.dev)
      exact ⟨abortBarrier_over .., forceBarrier_now .., counted.of_count (a := s.dev) rfl,
        fun c child missing => (forceBarrier_raised (d := advanceTo _ s.dev) child missing).of_keepsGutter late⟩
  case measurement =>
    refine ⟨fun none => exec_idle (exec_echoMeasurement s) (echoMeasurement_idle none),
      fun p parent => completes_of_done (exec_echoMeasurement s) ?_⟩
    rw [echoMeasurement_probes parent]
    refine ⟨congrArg Ridge.echoSent (modPort_port_same ..), rfl, fun unanswered works => ?_⟩
    obtain ⟨failed, raised⟩ := failSideband_fails unanswered works
    exact ⟨(congrArg Ridge.sideband (modPort_port_same ..)).trans failed, raised⟩

end Sys2Proof.Machine
end

section
/-! SUPPORT. A span that forms, commits, loses members and ends: what each part changes of the span, and what it leaves of the ports
(R492 to R502). -/
set_option Elab.async false

namespace Sys2Proof.Machine

open Sys2Proof

theorem exec_spanForm (c : Call) (s : State) : exec (.spanForm c) s = done s (runFw c (spanForm c) s.dev) := rfl
theorem exec_spanLeave (c : Call) (able : Bool) (s : State) :
    exec (.spanLeave c able) s = done s (runFw c (spanLeave c able) s.dev) := rfl
theorem exec_spanHello (p : PortId) (h : Hello) (s : State) : exec (.spanHello p h) s = done s (spanHello p h s.dev) := rfl
theorem exec_spanCommit (k : SpanCommit) (s : State) : exec (.spanCommit k) s = done s (spanCommit k s.dev) := rfl
theorem exec_formTimeout (s : State) : exec .formTimeout s = done s (formTimesOut s.dev) := rfl
theorem exec_spanHeartbeat (serial dg : BitVec 128) (ix : BitVec 16) (lat lm : Nat) (s : State) :
    exec (.spanHeartbeat serial dg ix lat lm) s = done s (spanHeartbeat serial dg ix lat lm s.dev) := rfl
theorem exec_heartbeatSend (s : State) : exec .heartbeatSend s = done s (heartbeatSend s.dev) := rfl
theorem exec_spanExpel (s : State) : exec .spanExpel s = done s (spanExpel s.dev) := rfl
theorem exec_spanMemberLost (i : SpanIndex) (s : State) : exec (.spanMemberLost i) s = done s (memberLost i.val s.dev) := rfl
theorem exec_timeSync (time : Nat) (s : State) : exec (.timeSync time) s = done s (timeSync time s.dev) := rfl

/-! ### The ports and the span -/

/-- The ports and the span are as they were. -/
structure KeepsNetwork (a b : Device) : Prop where
  ridge : b.ridge = a.ridge := by rfl
  span : b.span = a.span := by rfl

theorem KeepsNetwork.refl (a : Device) : KeepsNetwork a a := {}

theorem KeepsNetwork.trans {a b c : Device} (h : KeepsNetwork a b) (k : KeepsNetwork b c) : KeepsNetwork a c where
  ridge := k.ridge.trans h.ridge
  span := k.span.trans h.span

theorem KeepsNetwork.ite {a b c : Device} {p : Prop} [Decidable p] (h : KeepsNetwork a b) (k : KeepsNetwork a c) :
    KeepsNetwork a (if p then b else c) := by
  split
  · exact h
  · exact k

theorem KeepsNetwork.foldl {α : Type} {f : Device → α → Device} (h : ∀ d x, KeepsNetwork d (f d x)) (l : List α) (d : Device) :
    KeepsNetwork d (l.foldl f d) :=
  List.foldlRecOn (motive := KeepsNetwork d) l f (.refl d) fun e kept x _ => kept.trans (h e x)

theorem Aside.keepsNetwork {a b : Device} (h : Aside a b) : KeepsNetwork a b := { ridge := h.ridge, span := h.span }

theorem adjustRun_keepsNetwork (t : TenantId) (runs : List (Nat × Nat)) (d : Device) : KeepsNetwork d (adjustRun t runs d) := by
  have recorded : ∀ body, KeepsNetwork d (writeRecord recAdjust t.val body d) := fun body => by
    unfold writeRecord putRecord
    dsimp only
    split
    · exact {}
    · exact .trans {} (condBegin_aside ..).keepsNetwork
  unfold adjustRun
  dsimp only
  split
  · exact .refl d
  · exact .ite (.refl d) ((recorded _).trans {})

/-! ### The commit (R493, R494) -/

/-- What a member takes of the span from a commit. -/
def memberSpan (k : SpanCommit) (d : Device) : Span :=
  let own := (assoc k.members d.boot.serial).getD 0
  let others := k.members.filter fun q => !decide (q.1 = d.boot.serial)
  let peer := fun q : BitVec 128 × BitVec 16 =>
    let m := (d.span.peers.find? fun m => decide (m.serial = q.1)).getD
      { serial := q.1, indices := 0, digest := k.digest, arith := 0, iface := k.iface }
    { m with indices := q.2.toNat, heard := d.now }
  { d.span with
    formed := true, partitioned := false, leader := k.leader.val, arithMixed := k.arithMixed, iface := k.iface, lMax := k.lMax
    peers := others.map peer, carried := if d.span.formed then d.span.carried else own
    members := others.foldl (fun m q => m ||| q.2) 0 ||| own, committed := k.members.map fun q => (indicesOf q.2.toNat).headD 0
    nextBarrier := if d.span.formed then d.span.nextBarrier else 0, barriers := if d.span.formed then d.span.barriers else [] }

theorem applyCommit_keepsNetwork (k : SpanCommit) (d : Device) : KeepsNetwork (modSpan (fun _ => memberSpan k d) d) (applyCommit k d) := by
  unfold applyCommit
  extract_lets own others held peer late d1 lead d2 by_ d3
  have taken : KeepsNetwork (modSpan (fun _ => memberSpan k d) d) d1 := {}
  have adjusted : KeepsNetwork d1 d2 := .ite (.refl d1) (.foldl (fun d t => adjustRun_keepsNetwork t _ d) _ d1)
  have stepped : KeepsNetwork d2 d3 := .ite (.refl d2) {}
  exact (taken.trans adjusted).trans (.ite (.refl d2) (stepped.trans {}))

theorem applyCommit_span (k : SpanCommit) (d : Device) : (applyCommit k d).span = memberSpan k d := (applyCommit_keepsNetwork k d).span

theorem applyCommit_ridge (k : SpanCommit) (d : Device) : (applyCommit k d).ridge = d.ridge := (applyCommit_keepsNetwork k d).ridge

theorem formDone_forming {c : Call} {since : Nat} {d : Device} (forming : d.span.forming = some (c, since)) (st : Status) (reason : Nat)
    (result : List Byte) :
    formDone st reason result d = post c st reason result false (modSpan (fun s => { s with forming := none }) d) := by
  simp [formDone, forming]

theorem sendCommit_sends (k : SpanCommit) (m : Member) (d : Device) : Sends d (sendCommit k m d) := by
  unfold sendCommit
  split
  · exact .refl d
  · exact sendMessage_sends ..

theorem Sends.state {a b : Device} (h : Sends a b) (p : PortId) : (b.port p).state = (a.port p).state :=
  (congrArg Ridge.state (h.links p) :)

/-- A span has formed by a commit and SPAN_FORM has completed. -/
structure Forms (c : Call) (k : SpanCommit) (a b : Device) : Prop where
  done : Finished c .ok b
  span : ∃ e moves, b.span = { memberSpan k e with forming := none, moves := moves } ∧ e.span.record = a.span.record ∧
    e.span.digest = a.span.digest
  states : ∀ p, (b.port p).state = (a.port p).state

/-- The commit, and the indices that are to go back to a late member. -/
def takeCommit (k : SpanCommit) (back : List (Nat × Nat)) (d : Device) : Device :=
  modSpan (fun s => { s with moves := s.moves ++ back }) (applyCommit k d)

theorem takeCommit_forms {c : Call} {since : Nat} {a d : Device} (forming : d.span.forming = some (c, since))
    (record : d.span.record = a.span.record) (digest : d.span.digest = a.span.digest) (states : ∀ p, (d.port p).state = (a.port p).state)
    (k : SpanCommit) (back : List (Nat × Nat)) (result : List Byte) : Forms c k a (formDone .ok 0 result (takeCommit k back d)) := by
  have span : (takeCommit k back d).span = { memberSpan k d with moves := (memberSpan k d).moves ++ back } := by
    rw [takeCommit, modSpan, applyCommit_span]
  have waits : (takeCommit k back d).span.forming = some (c, since) := (congrArg Span.forming span).trans forming
  rw [formDone_forming waits]
  have kept := post_aside c .ok 0 result false (modSpan (fun s => { s with forming := none }) (takeCommit k back d))
  refine ⟨⟨_, _, post_answered ..⟩, ⟨d, (memberSpan k d).moves ++ back, ?_, record, digest⟩, fun p => ?_⟩
  · rw [kept.span, modSpan, span]
  · rw [port_of_ridge kept.ridge]
    exact (congrArg Ridge.state (port_of_ridge (applyCommit_ridge k d) p)).trans (states p)

theorem takeCommit_nil (k : SpanCommit) (d : Device) : takeCommit k [] d = applyCommit k d := by simp [takeCommit, modSpan]

/-- The device in which a leader has told the modules present of its commit. -/
def commitTold (d : Device) : Device :=
  d.span.peers.foldl (fun e m => sendCommit (commitOf (modSpan (fun s => { s with commitNumber := s.commitNumber + 1 }) d)
    (admitted (present d))) m e) (modSpan (fun s => { s with commitNumber := s.commitNumber + 1 }) d)

theorem commitTold_sends (d : Device) :
    Sends (modSpan (fun s => { s with commitNumber := s.commitNumber + 1 }) d) (commitTold d) := .foldl (fun _ _ => sendCommit_sends ..) _ _

/-- What a leader commits. -/
def ownCommit (d : Device) : SpanCommit :=
  commitOf (modSpan (fun s => { s with commitNumber := s.commitNumber + 1 }) d) (admitted (present d))

theorem commitSpan_eq (d : Device) :
    commitSpan d = formDone .ok 0 (formResult (applyCommit (ownCommit d) (commitTold d))) (applyCommit (ownCommit d) (commitTold d)) := rfl

theorem commitSpan_forms {c : Call} {since : Nat} {d : Device} (forming : d.span.forming = some (c, since)) :
    Forms c (ownCommit d) d (commitSpan d) := by
  have told := commitTold_sends d
  rw [commitSpan_eq, ← takeCommit_nil]
  exact takeCommit_forms (a := d) ((congrArg Span.forming told.span).trans forming) (congrArg Span.record told.span :)
    (congrArg Span.digest told.span :) (fun p => told.state p) _ [] _

section

variable {c : Call} {k : SpanCommit} {a b : Device} (h : Forms c k a b)
include h

theorem Forms.formed : b.span.formed = true := by
  obtain ⟨e, moves, span, -, -⟩ := h.span
  rw [span]
  rfl

theorem Forms.forming : b.span.forming = none := by
  obtain ⟨e, moves, span, -, -⟩ := h.span
  rw [span]

theorem Forms.record : b.span.record = a.span.record := by
  obtain ⟨e, moves, span, record, -⟩ := h.span
  rw [span]
  exact record

theorem Forms.digest : b.span.digest = a.span.digest := by
  obtain ⟨e, moves, span, -, digest⟩ := h.span
  rw [span]
  exact digest

theorem Forms.levels : b.span.leader = k.leader.val ∧
    b.span.lMax = k.lMax ∧ b.span.iface = k.iface ∧ b.span.arithMixed = k.arithMixed := by
  obtain ⟨e, moves, span, -, -⟩ := h.span
  rw [span]
  exact ⟨rfl, rfl, rfl, rfl⟩

end

theorem tryForm_unasked {d : Device} (none : d.span.forming = none) : tryForm d = d := if_neg (by simp [none])

/-- A try to form waits or commits. -/
theorem tryForm_cases (d : Device) : tryForm d = d ∨ tryForm d = commitSpan d := by
  unfold tryForm
  split
  · exact .inr rfl
  · exact .inl rfl

/-! ### SPAN_FORM -/

/-- The span with a record in force. -/
def takeRecord (b : List Byte) (d : Device) : Device :=
  modSpan (fun x => { x with record := b, digest := sha384First16 b, topology := leAt b 8 1 }) d

/-- SPAN_FORM waits for the modules. -/
def beginForming (c : Call) (b : List Byte) (d : Device) : Device :=
  modSpan (fun s => { s with forming := some (c, d.now), peers := [], arrivals := [], partitioned := false }) (takeRecord b d)

/-- A cabled port starts to train, or greets. -/
def openPort (d : Device) (p : PortId) : Device :=
  match (d.port p).state with
  | .down => modPort p (fun r => { r with state := .detect, since := d.now }) d
  | .fenced => modPort p (fun r => { r with state := .detect, since := d.now }) d
  | .active => sendHello p d
  | _ => d

theorem openPort_span (d : Device) (p : PortId) : (openPort d p).span = d.span := by
  unfold openPort
  split
  · rfl
  · rfl
  · exact (sendHello_sends ..).span
  · rfl

theorem openPort_down {d : Device} {p : PortId} (down : (d.port p).state = .down) : ((openPort d p).port p).state = .detect := by
  simp only [openPort, down, modPort_port_same]

/-- Opening a port leaves the state of another one, and of one that already detects. -/
theorem openPort_state {d : Device} {p q : PortId} (h : q ≠ p ∨ (d.port p).state = .detect) :
    ((openPort d q).port p).state = (d.port p).state := by
  have apart : (d.port q).state ≠ .detect → ∀ f, ((modPort q f d).port p).state = (d.port p).state := fun opens f => by
    have other : q ≠ p := h.elim id fun detects same => opens (same ▸ detects)
    rw [modPort_port, if_neg other]
  unfold openPort
  split
  next down => exact apart (by simp [down]) _
  next fenced => exact apart (by simp [fenced]) _
  next => exact (sendHello_sends q d).state p
  next => rfl

theorem openPorts_detect {p : PortId} (l : List PortId) {d : Device} (detects : (d.port p).state = .detect) :
    ((l.foldl openPort d).port p).state = .detect :=
  List.foldlRecOn (motive := fun e : Device => (e.port p).state = .detect) l openPort detects fun _ detects _ _ =>
    (openPort_state (.inr detects)).trans detects

theorem openPorts_down {p : PortId} {l : List PortId} {d : Device} (there : p ∈ l) (down : (d.port p).state = .down) :
    ((l.foldl openPort d).port p).state = .detect := by
  induction l generalizing d with
  | nil => exact absurd there List.not_mem_nil
  | cons q l ih =>
    by_cases same : q = p
    · subst same
      exact openPorts_detect l (openPort_down down)
    · have later := (List.mem_cons.mp there).resolve_left fun first => same first.symm
      exact ih later ((openPort_state (.inl same)).trans down)

/-- The cabled ports of this module start to train. -/
def openPorts (d : Device) : Device := (allPorts.filter fun p => bitAt (ownPorts d) p.val).foldl openPort d

theorem openPorts_span (d : Device) : (openPorts d).span = d.span :=
  List.foldlRecOn (motive := fun e : Device => e.span = d.span) _ openPort (b := d) rfl fun _ same p _ => (openPort_span _ p).trans same

section

variable {c : Call} {b : List Byte} {d : Device} {own : List Nat} (short : field (c.w 2) 0 16 ≤ 4096) (buffer : c.readBuf 2 544 = .ok b)
  (mine : recordIndices (takeRecord b d) d.boot.serial = own)
include short buffer mine

theorem spanForm_bad (bad : recordOk b = false ∨ own = [] ∨ 2 < own.length) : spanForm c d = badParam c 0 d := by
  refine (withBuf_ok short buffer _ d).trans (if_pos ?_)
  rw [show recordIndices (modSpan _ d) d.boot.serial = own from mine]
  obtain bad | none | many := bad
  · simp [bad]
  · simp [none]
  · simp [many]

variable (sound : recordOk b = true) (carries : own ≠ []) (few : own.length ≤ 2)
include sound carries few

theorem spanForm_checked : spanForm c d = if d.span.formed || d.span.forming.isSome then finish c .busy 0 d
    else if own.length = 2 ∧ goodCount d < 9216 then finish c .noResource 0 d
    else tryForm (openPorts (beginForming c b d)) := by
  refine (withBuf_ok short buffer _ d).trans ((if_neg ?_).trans ?_)
  · rw [show recordIndices (modSpan _ d) d.boot.serial = own from mine]
    simp [sound, carries, few]
  · rw [show recordIndices (modSpan _ d) d.boot.serial = own from mine]
    rfl

theorem spanForm_busy (busy : d.span.formed = true ∨ d.span.forming.isSome = true) : spanForm c d = finish c .busy 0 d :=
  (spanForm_checked short buffer mine sound carries few).trans (if_pos (by simpa using busy))

theorem spanForm_begins (apart : d.span.formed = false) (unasked : d.span.forming = none)
    (enough : own.length = 2 → 9216 ≤ goodCount d) : spanForm c d = tryForm (openPorts (beginForming c b d)) := by
  rw [spanForm_checked short buffer mine sound carries few, if_neg (by simp [apart, unasked]),
    if_neg fun ⟨two, lacks⟩ => absurd (enough two) (Nat.not_le.mpr lacks)]

end

/-- What a module has of its span once SPAN_FORM has begun, be the span formed or not. -/
theorem tryForm_begun (c : Call) (b : List Byte) (d : Device) :
    ((tryForm (openPorts (beginForming c b d))).span.record = b ∧
      (tryForm (openPorts (beginForming c b d))).span.digest = sha384First16 b) ∧
    ((tryForm (openPorts (beginForming c b d))).span.forming = some (c, d.now) ∨
      (tryForm (openPorts (beginForming c b d))).span.formed = true) ∧
    ∀ p, ((tryForm (openPorts (beginForming c b d))).port p).state = ((openPorts (beginForming c b d)).port p).state := by
  have span : (openPorts (beginForming c b d)).span = (beginForming c b d).span := openPorts_span _
  have waits : (openPorts (beginForming c b d)).span.forming = some (c, d.now) := congrArg Span.forming span
  obtain idle | commits := tryForm_cases (openPorts (beginForming c b d))
  · rw [idle]
    exact ⟨⟨congrArg Span.record span, congrArg Span.digest span⟩, .inl waits, fun _ => rfl⟩
  · have forms := commitSpan_forms waits
    rw [commits]
    exact ⟨⟨forms.record.trans (congrArg Span.record span), forms.digest.trans (congrArg Span.digest span)⟩,
      .inr forms.formed, forms.states⟩

/-! ### SPAN_HELLO and SPAN_COMMIT -/

section

variable {p : PortId} {h : Hello} {d : Device}

theorem spanHello_idle (apart : d.span.formed = false) (unasked : d.span.forming = none) : spanHello p h d = d :=
  if_pos (by simp [apart, unasked])

variable (joins : d.span.formed = true ∨ d.span.forming.isSome = true)
include joins

theorem spanHello_stranger (other : h.spanId.toNat ≠ spanId d) :
    spanHello p h d = bump .protoErrors p.val (modPort p (fun r => { r with cablingOk := false }) d) :=
  (if_neg (by obtain formed | forming := joins <;> simp [*, Option.isSome_iff_ne_none.mp])).trans (if_pos other)

end

/-- A hello passes on over the other ports. -/
def floodHello (p : PortId) (h : Hello) (lowest : Nat) (d : Device) : Device :=
  (allPorts.filter fun q => !decide (q = p) && decide ((d.port q).state = .active)).foldl (fun d q =>
    sendMessage q lowest 0 none .spanHello
      ([spanId d % 2 ^ 32, 0, spanId d, h.indices.toNat, h.arith, h.iface, h.time] ++ h.runs.flatMap fun r => [r.1, r.2])
      (bytes16 h.digest) d) d

theorem floodHello_sends (p : PortId) (h : Hello) (lowest : Nat) (d : Device) : Sends d (floodHello p h lowest d) :=
  .foldl (fun _ _ => sendMessage_sends ..) _ d

/-- A module that greets after the commit waits among the arrivals. -/
def noteArrival (p : PortId) (h : Hello) (d : Device) : Device :=
  modSpan (fun s => { s with arrivals := s.arrivals.filter (fun x => !decide (x.serial = h.serial)) ++ [helloMember h p d] }) d

theorem spanHello_arrives {p : PortId} {h : Hello} {d : Device} (formed : d.span.formed = true) (unasked : d.span.forming = none)
    (same : h.spanId.toNat = spanId d) (other : h.serial ≠ d.boot.serial) (new : ∀ m ∈ d.span.peers, m.serial ≠ h.serial) :
    (spanHello p h d).span = (noteArrival p h d).span := by
  have strange : (d.span.peers.any fun x => decide (x.serial = h.serial)) = false := by simpa using new
  have notes : spanHello p h d = tryForm (
      if (d.span.peers ++ d.span.arrivals).any fun x => decide (x.serial = h.serial) then noteArrival p h d
      else floodHello p h (helloMember h p d).lowest (noteArrival p h d)) := by
    rw [spanHello, if_neg (by simp [formed]), if_neg (not_not.mpr same), if_neg other]
    simp only [formed, strange, if_true, if_false, Bool.false_eq_true]
    rfl
  have kept : ∀ e : Device, e.span = (noteArrival p h d).span → (tryForm e).span = (noteArrival p h d).span := fun e span =>
    (congrArg Device.span (tryForm_unasked ((congrArg Span.forming span).trans unasked))).trans span
  rw [notes]
  refine kept _ ?_
  split
  · rfl
  · exact (floodHello_sends ..).span

section

variable {k : SpanCommit} {d : Device}

theorem spanCommit_idle (apart : d.span.formed = false) (unasked : d.span.forming = none) : spanCommit k d = d :=
  if_pos (by simp [apart, unasked])

variable {c : Call} {since : Nat} (apart : d.span.formed = false) (forming : d.span.forming = some (c, since))
include apart forming

theorem spanCommit_forms (named : d.boot.serial ∈ k.members.map (·.1)) : Forms c k d (spanCommit k d) := by
  have member : (k.members.any fun q => decide (q.1 = d.boot.serial)) = true := by
    obtain ⟨q, there, same⟩ := List.mem_map.mp named
    exact List.any_eq_true.mpr ⟨q, there, by simp [same]⟩
  have takes : spanCommit k d = formDone .ok 0 (formResult (takeCommit k [] d)) (takeCommit k [] d) := by
    rw [spanCommit, if_neg (by simp [forming]), if_pos member]
    simp only [apart, if_false, Bool.false_eq_true]
    rfl
  rw [takes]
  exact takeCommit_forms (a := d) forming rfl rfl (fun _ => rfl) k [] _

theorem spanCommit_refuses (unnamed : d.boot.serial ∉ k.members.map (·.1)) (other : k.digest ≠ d.span.digest) : spanCommit k d =
    post c .spanMismatch 0x30 [] false (modSpan (fun s => { s with forming := none }) (occur 96 0 none d)) := by
  have stranger : (k.members.any fun q => decide (q.1 = d.boot.serial)) = false := by
    refine List.any_eq_false.mpr fun q there => ?_
    simpa using fun same => unnamed (List.mem_map.mpr ⟨q, there, same⟩)
  have waits : (occur 96 0 none d).span.forming = some (c, since) := (congrArg Span.forming (occur_aside ..).span).trans forming
  rw [spanCommit, if_neg (by simp [forming]), if_neg (by simp [stranger]), if_neg (by simp [apart])]
  simp only [decide_eq_false other, Bool.not_false, Bool.true_or, if_true]
  exact formDone_forming waits ..

end

/-! ### FORM_TIMEOUT -/

section

variable {d : Device} {c : Call} {since : Nat}

theorem formTimesOut_idle (none : d.span.forming = none) : formTimesOut d = d := by simp [formTimesOut, none]

variable (forming : d.span.forming = some (c, since))
include forming

theorem formTimesOut_few (few : (admitted (present d)).length < minMembers d) : formTimesOut d =
    post c .timeout 0 [] false (modSpan (fun s => { s with peers := [], forming := none }) (advanceTo (since + formTimeout d) d)) := by
  have waits : (advanceTo (since + formTimeout d) d).span.forming = some (c, since) := forming
  rw [formTimesOut, forming]
  refine (if_pos few).trans ?_
  rw [formDone_forming (c := c) (since := since) (by exact waits)]
  rfl

theorem formTimesOut_enough (enough : minMembers d ≤ (admitted (present d)).length) (leads : leadsPresent d = true) :
    formTimesOut d = commitSpan (advanceTo (since + formTimeout d) d) := by
  rw [formTimesOut, forming]
  exact (if_neg (Nat.not_lt.mpr enough)).trans (if_pos leads)

end

/-! ### Heartbeats (R496, R497) -/

theorem dropUncarried_keepsBarriers (d : Device) : KeepsBarriers d (dropUncarried d) :=
  .foldl (fun d _ => .ite (invalidate_keepsBarriers ..) (.refl d)) allTenants d

theorem leaveSpan_keepsTally (c : Counter) (d : Device) : KeepsTally c d (leaveSpan d) := {}

/-- A removed member is a peer no more, and its indices are uncarried. -/
theorem removeMember_span (m : Member) (d : Device) :
    (removeMember m d).span.peers = d.span.peers.filter (fun x => !decide (x.serial = m.serial)) ∧
      (removeMember m d).span.members = d.span.members &&& ~~~(BitVec.ofNat 16 m.indices) ∧
      (removeMember m d).span.formed = d.span.formed := by
  unfold removeMember
  extract_lets d1 d2
  have led : d2.span.peers = d1.span.peers ∧ d2.span.members = d1.span.members ∧ d2.span.formed = d1.span.formed := by
    unfold d2
    split <;> exact ⟨rfl, rfl, rfl⟩
  rw [(dropUncarried_keepsBarriers d2).span]
  exact led

theorem removeMember_keepsTally (c : Counter) (known : c ∈ barrierCounters) (m : Member) (d : Device) :
    KeepsTally c d (removeMember m d) :=
  .trans (.trans {} (.ite {} {})) ((dropUncarried_keepsBarriers _).keepsTally known)

/-- The leader tells an expelled member. -/
def tellExpelled (m : Member) (d : Device) : Device :=
  if isLeader d then sendMgmt m.lowest .spanExpel [spanId d % 2 ^ 32, 0x30] [] d else d

theorem tellExpelled_sends (m : Member) (d : Device) : Sends d (tellExpelled m d) := .ite (sendMgmt_sends ..) (.refl d)

section

variable {serial dg : BitVec 128} {ix : BitVec 16} {lat lm : Nat} {d : Device}

theorem spanHeartbeat_idle (idle : (d.span.peers.find? fun m => decide (m.serial = serial)) = none ∨ d.span.formed = false) :
    spanHeartbeat serial dg ix lat lm d = d := by
  unfold spanHeartbeat
  obtain unknown | apart := idle
  · rw [unknown]
  · split
    · rfl
    · exact if_pos (by simp [apart])

/-- A member whose heartbeat came is noted with its latency and indices. -/
def noteHeartbeat (serial : BitVec 128) (ix : BitVec 16) (lat lm : Nat) (m : Member) (d : Device) : Device :=
  modSpan (fun s => { s with members := s.peers.foldl (fun m x => m ||| BitVec.ofNat 16 x.indices) s.carried }) (modSpan (fun s => { s with
    peers := s.peers.map fun x => if x.serial = serial then
        { x with heard := d.now, indices := ix.toNat &&& (65535 - s.carried.toNat), latency := lat } else x
    lMax := if bitAt m.indices d.span.leader then lm else s.lMax }) d)

variable {m : Member} (found : (d.span.peers.find? fun m => decide (m.serial = serial)) = some m) (formed : d.span.formed = true)
include found formed

theorem spanHeartbeat_notes (same : dg = d.span.digest) : spanHeartbeat serial dg ix lat lm d = if isLeader d then
      modSpan (fun s => { s with lMax := (s.peers.map (·.latency)).foldl max s.lSelf }) (noteHeartbeat serial ix lat lm m d)
    else noteHeartbeat serial ix lat lm m d := by
  rw [spanHeartbeat, found]
  dsimp only
  rw [if_neg (by simp [formed]), if_neg (not_not.mpr same)]
  rfl

theorem spanHeartbeat_expels (other : dg ≠ d.span.digest) (follows : bitAt m.indices d.span.leader = false) :
    spanHeartbeat serial dg ix lat lm d = removeMember m (tellExpelled m d) := by
  rw [spanHeartbeat, found]
  dsimp only
  rw [if_neg (by simp [formed]), if_pos other, if_neg (by simp [follows])]
  rfl

end

theorem noteHeartbeat_peers {serial : BitVec 128} {ix : BitVec 16} {lat lm : Nat} {m : Member} {d : Device} {x : Member}
    (peer : x ∈ (noteHeartbeat serial ix lat lm m d).span.peers) (same : x.serial = serial) : x.heard = d.now ∧ x.latency = lat := by
  obtain ⟨y, -, rfl⟩ := List.mem_map.mp peer
  by_cases its : y.serial = serial
  · rw [if_pos its]
    exact ⟨rfl, rfl⟩
  · rw [if_neg its] at same
    exact absurd same its

/-! ### HEARTBEAT_SEND and SPAN_EXPEL -/

/-- The heartbeat has gone to every other member. -/
def beat (d : Device) : Device :=
  let e := modSpan (fun s => { s with heartbeat := d.span.heartbeat + 1 }) d
  e.span.peers.foldl (fun e m => sendMgmt m.lowest .spanHeartbeat [spanId e % 2 ^ 32, d.span.heartbeat % 2 ^ 32, (runningImage d).arith,
    (runningImage d).iface, e.span.carried.toNat, e.span.lSelf, e.span.lMax] (bytes16 e.span.digest) e) e

theorem beat_sends (d : Device) : Sends (modSpan (fun s => { s with heartbeat := d.span.heartbeat + 1 }) d) (beat d) :=
  .foldl (fun _ _ => sendMgmt_sends ..) _ _

/-- The leader's time has gone to every other member. -/
def tellTime (n : Nat) (d : Device) : Device :=
  d.span.peers.foldl (fun d m => sendMgmt m.lowest .timeSync [n % 2 ^ 32, 0, moduleTime d] [] d) d

theorem tellTime_sends (n : Nat) (d : Device) : Sends d (tellTime n d) := .foldl (fun _ _ => sendMgmt_sends ..) _ d

section

variable {d : Device}

theorem heartbeatSend_idle (apart : d.span.formed = false) : heartbeatSend d = d := if_pos (by simp [apart])

theorem heartbeatSend_formed (formed : d.span.formed = true) : heartbeatSend d =
    if isLeader (beat d) then admitArrivals (tellTime d.span.heartbeat (beat d)) else beat d := if_neg (by simp [formed])

/-- The leader admits what has arrived; the span goes on. -/
theorem admitArrivals_span (formed : d.span.formed = true) :
    (admitArrivals d).span.arrivals = [] ∧ (admitArrivals d).span.formed = true ∧
    (admitArrivals d).span.heartbeat = d.span.heartbeat := by
  unfold admitArrivals
  extract_lets base ok refused number free new back d1 self k d2
  split
  next none => exact ⟨List.isEmpty_iff.mp none, formed, rfl⟩
  next =>
    have told : Sends d1 d2 := .foldl (fun _ _ => sendCommit_sends ..) _ d1
    have joined : (applyCommit k d2).span = memberSpan k d2 := applyCommit_span k d2
    refine ⟨?_, ?_, ?_⟩
    · exact (congrArg Span.arrivals joined).trans (congrArg Span.arrivals told.span)
    · exact congrArg Span.formed joined
    · exact (congrArg Span.heartbeat joined).trans (congrArg Span.heartbeat told.span :)

theorem spanExpel_idle (apart : d.span.formed = false) : spanExpel d = d := if_neg (by simp [apart])

theorem spanExpel_leaves (formed : d.span.formed = true) : spanExpel d = dropUncarried (leaveSpan (occur 96 0 none d)) := if_pos formed

end

/-! ### SPAN_MEMBER_LOST (R498, R499) -/

theorem Signals.formed {n : Nat} {a b : Device} (h : Signals n a b) : b.span.formed = a.span.formed :=
  (congrArg (fun e : Device => e.span.formed) h.same :)

theorem abortBarrier_formed (n : Nat) (d : Device) : (abortBarrier n d).span.formed = d.span.formed := by
  cases found : barrierOf d n with
  | none => rw [abortBarrier_idle found]
  | some b =>
    have waits := KeepsBarriers.foldl (fun d t => abortWait_keepsBarriers t d) (b.tenants.filterMap tenantOf) (endBarrier n (sendAbort n d))
    rw [abortBarrier_found found, waits.span]
    exact (sendAbort_signals n d).formed

/-- The barriers that waited on a lost member end. -/
def abortStuck (m : Member) (d : Device) : Device :=
  (if isLeader d then waitingOn d m.lowest else []).foldl (fun d n => abortBarrier n d) d

theorem abortStuck_formed (m : Member) (d : Device) : (abortStuck m d).span.formed = d.span.formed :=
  List.foldlRecOn (motive := fun e : Device => e.span.formed = d.span.formed) _ (fun d n => abortBarrier n d) (b := d) rfl
    fun _ same n _ => (abortBarrier_formed n _).trans same

theorem abortStuck_keepsTally (m : Member) (d : Device) : KeepsTally .barriers d (abortStuck m d) :=
  .foldl (fun d n => abortBarrier_keepsTally (by decide) n d) _ d

/-- The rest of a split span goes on, or this module leaves it. -/
def settlePartition (d : Device) : Device :=
  if partGoesOn d then d else modSpan (fun s => { s with partitioned := true }) (leaveSpan d)

section

variable {i : Nat} {d : Device}

theorem memberLost_idle (idle : memberAt d i = none ∨ d.span.formed = false) : memberLost i d = d := by
  unfold memberLost
  obtain unknown | apart := idle
  · rw [unknown]
  · split
    · rfl
    · exact if_pos (by simp [apart])

theorem memberLost_removes {m : Member} (found : memberAt d i = some m) (formed : d.span.formed = true) : memberLost i d =
    settlePartition (removeMember m (abortStuck m (occur 97 m.lowest none (advanceTo (m.heard + 10 * ms) d)))) := by
  rw [memberLost, found]
  dsimp only
  rw [if_neg (by simp [formed])]
  rfl

/-- A lost member is a peer no more; the part that does not go on has left the span. -/
theorem settlePartition_leaves (m : Member) (formed : d.span.formed = true) (gone : ∀ x ∈ d.span.peers, x.serial ≠ m.serial) :
    (∀ x ∈ (settlePartition d).span.peers, x.serial ≠ m.serial) ∧ KeepsTally .barriers d (settlePartition d) ∧
      ((settlePartition d).span.formed = false →
        (settlePartition d).span.partitioned = true ∧ (settlePartition d).span.carried = 0) := by
  unfold settlePartition
  split
  · exact ⟨gone, .refl _ d, fun apart => absurd formed (by simp [apart])⟩
  · exact ⟨fun x peer => absurd peer List.not_mem_nil, (leaveSpan_keepsTally .barriers d).trans {}, fun _ => ⟨rfl, rfl⟩⟩

end

/-! ### SPAN_LEAVE (R500, R501) -/

theorem handOver_plans (runs : List TenantId) (d : Device) (q : Nat × Nat) :
    (handOver runs d q).span.moves = d.span.moves ∧ (handOver runs d q).span.leaving = d.span.leaving := by
  have sent := (sendStates_sends runs q d).span
  exact ⟨(congrArg Span.moves sent :), (congrArg Span.leaving sent :)⟩

theorem handOvers_plans (runs : List TenantId) (l : List (Nat × Nat)) (d : Device) :
    (l.foldl (handOver runs) d).span.moves = d.span.moves ∧ (l.foldl (handOver runs) d).span.leaving = d.span.leaving :=
  List.foldlRecOn (motive := fun e : Device => e.span.moves = d.span.moves ∧ e.span.leaving = d.span.leaving) l (handOver runs)
    ⟨rfl, rfl⟩ fun e same q _ => ⟨(handOver_plans runs e q).1.trans same.1, (handOver_plans runs e q).2.trans same.2⟩

/-- A module that leaves hands every index over and is a member no more. -/
theorem sendMoves_leaving {c : Call} {d : Device} (leaving : d.span.leaving = some c) :
    sendMoves d = post c .ok 0 (leBytes 2 (maskOf (d.span.moves.map (·.1))).toNat) false (leaveSpan (handedOver d)) := by
  obtain ⟨moves, same⟩ := handOvers_plans (allTenants.filter fun t => running d t && spanBound d t) d.span.moves d
  have waits : (handedOver d).span.leaving = some c := same.trans leaving
  rw [sendMoves_eq, waits, moves]

/-- The takers that a SPAN_LEAVE names, each with its index. -/
def leavePairs (w : Nat) : List (Nat × Nat) :=
  (if bitAt w 8 then [(field w 0 4, field w 4 4)] else []) ++ (if bitAt w 24 then [(field w 16 4, field w 20 4)] else [])

/-- A taker stays within two indices. -/
def takerOk (d : Device) (pairs : List (Nat × Nat)) (q : Nat × Nat) : Bool :=
  match d.span.peers.find? fun m => decide (m.lowest = q.2) with
  | some m => decide ((indicesOf m.indices).length + (pairs.filter fun x => decide (x.2 = q.2)).length ≤ 2)
  | none => false

theorem spanLeave_eq (c : Call) (able : Bool) (d : Device) : spanLeave c able d =
    if !d.span.formed || !decide (maskOf ((leavePairs (c.w 1)).map (·.1)) = d.span.carried) ||
        !decide ((leavePairs (c.w 1)).map (·.1)).Nodup then badParam c 0 d
    else if d.span.leaving.isSome then finish c .busy 0 d
    else if !able || !(leavePairs (c.w 1)).all (takerOk d (leavePairs (c.w 1))) then finish c .noResource 0 d
    else tryMoves (modSpan (fun s => { s with leaving := some c, moves := s.moves ++ leavePairs (c.w 1) }) d) := rfl

section

variable {c : Call} {able : Bool} {d : Device} {pairs : List (Nat × Nat)} (named : leavePairs (c.w 1) = pairs)
include named

theorem spanLeave_bad (bad : d.span.formed = false ∨ maskOf (pairs.map (·.1)) ≠ d.span.carried ∨ ¬(pairs.map (·.1)).Nodup) :
    spanLeave c able d = badParam c 0 d := by
  rw [spanLeave_eq, named]
  refine if_pos ?_
  obtain apart | other | twice := bad
  · simp [apart]
  · simp [other]
  · simp [twice]

variable (formed : d.span.formed = true) (all : maskOf (pairs.map (·.1)) = d.span.carried) (once : (pairs.map (·.1)).Nodup)
include formed all once

theorem spanLeave_checked : spanLeave c able d = if d.span.leaving.isSome then finish c .busy 0 d
    else if !able || !pairs.all (takerOk d pairs) then finish c .noResource 0 d
    else tryMoves (modSpan (fun s => { s with leaving := some c, moves := s.moves ++ pairs }) d) := by
  rw [spanLeave_eq, named]
  exact if_neg (by simp [formed, all, once])

theorem spanLeave_busy (busy : d.span.leaving.isSome = true) : spanLeave c able d = finish c .busy 0 d :=
  (spanLeave_checked named formed all once).trans (if_pos busy)

theorem spanLeave_unable (stays : d.span.leaving = none) (unable : able = false) : spanLeave c able d = finish c .noResource 0 d := by
  rw [spanLeave_checked named formed all once, if_neg (by simp [stays]), if_pos (by simp [unable])]

theorem spanLeave_leaves (stays : d.span.leaving = none) (can : able = true) (some : pairs ≠ []) (idle : d.span.moves = [])
    (takers : ∀ q ∈ pairs, ∃ m, d.span.peers.find? (fun m => decide (m.lowest = q.2)) = .some m ∧
      (indicesOf m.indices).length + (pairs.filter fun x => decide (x.2 = q.2)).length ≤ 2)
    (rests : ∀ t : TenantId, running d t = false) : ∃ e, spanLeave c able d =
      post c .ok 0 (leBytes 2 d.span.carried.toNat) false (leaveSpan e) := by
  have takes : pairs.all (takerOk d pairs) = true := by
    refine List.all_eq_true.mpr fun q there => ?_
    obtain ⟨m, found, fits⟩ := takers q there
    rw [takerOk, found]
    exact decide_eq_true fits
  rw [spanLeave_checked named formed all once, if_neg (by simp [stays]), if_neg (by simp [can, takes])]
  generalize planned : modSpan (fun s => { s with leaving := Option.some c, moves := s.moves ++ pairs }) d = e
  have moves : e.span.moves = pairs := by simp [← planned, modSpan, idle]
  have leaving : e.span.leaving = Option.some c := by simp [← planned, modSpan]
  have still : ∀ t : TenantId, running e t = false := fun t => planned ▸ rests t
  have goes : tryMoves e = sendMoves e := if_neg (by simp [moves, some, still])
  rw [goes, sendMoves_leaving leaving, moves, all]
  exact ⟨_, rfl⟩

end

/-! ### TIME_SYNC (R574, R575) -/

theorem slewed_begun (t : Nat) : slewed (t, 0) t = 0 := by simp [slewed]

/-- The module time after a step is the module time moved by it. -/
theorem moduleTime_stepTime {d : Device} (set : 0 < moduleTime d) (k : Int) :
    moduleTime (stepTime k d) = (Int.ofNat (moduleTime d) + k).toNat := by
  have before : Int.ofNat (moduleTime d) = Int.ofNat d.now + d.time.shift + slewed d.time.slew d.now := by
    unfold moduleTime moduleTimeAt at set ⊢
    exact Int.toNat_of_nonneg (by omega)
  have after : moduleTime (stepTime k d) =
      (Int.ofNat d.now + (d.time.shift + slewed d.time.slew d.now + k) + slewed (d.now, 0) d.now).toNat := rfl
  rw [after, slewed_begun, before]
  congr 1
  ring

section

variable {time : Nat} {d : Device}

theorem timeSync_idle (idle : d.span.formed = false ∨ isLeader d = true) : timeSync time d = d :=
  if_neg (by obtain apart | leads := idle <;> simp [*])

variable (formed : d.span.formed = true) (follows : isLeader d = false)
include formed follows

theorem timeSync_follows : timeSync time d = discipline (-(Int.ofNat time - Int.ofNat (moduleTime d)))
    (modSpan (fun s => { s with syncOffset := Int.ofNat time - Int.ofNat (moduleTime d) }) d) := if_pos (by simp [formed, follows])

end

/-- An offset of 1 µs or more steps the module time. -/
theorem discipline_steps {offset : Int} (large : offset ≤ -1000 ∨ 1000 ≤ offset) (d : Device) :
    moduleTime (discipline offset d) = moduleTime (stepTime (-offset) d) := by
  have small : (decide (-1000 < offset) && decide (offset < 1000)) = false := by
    rw [Bool.and_eq_false_iff, decide_eq_false_iff_not, decide_eq_false_iff_not]
    omega
  unfold discipline
  extract_lets s good d1 tb d2
  have stepped : d2 = bump .timeSteps 0 (stepTime (-offset) d) := (if_neg (by simp [s, small])).trans (if_neg (by simp [s, small]))
  refine Eq.trans (b := moduleTime d2) rfl ?_
  rw [stepped]
  rfl

/-- A discipline sets the time and changes no part of the span. -/
theorem discipline_sets (offset : Int) (d : Device) : (discipline offset d).span = d.span ∧
    (discipline offset d).time.lastRef = some d.now ∧ (discipline offset d).backup.rtcLost = false := by
  unfold discipline
  extract_lets s good d1 tb d2
  have stepped : d1.span = d.span ∧ d1.now = d.now := by
    unfold d1
    split <;> exact ⟨rfl, rfl⟩
  have slews : d2.span = d1.span ∧ d2.now = d1.now := by
    unfold d2
    split <;> exact ⟨rfl, rfl⟩
  exact ⟨slews.1.trans stepped.1, congrArg some (slews.2.trans stepped.2), rfl⟩

/-- Settles O55: `tryForm_begun` for SPAN_FORM, `spanHello_arrives` for a hello, `takeCommit_forms` and `commitSpan_forms` for the commits,
`removeMember_span` and `settlePartition_leaves` for members that go, `sendMoves_leaving` for SPAN_LEAVE and `moduleTime_stepTime` for
the time. -/
theorem spansFormLiveAndEnd : Obligations.SpansFormLiveAndEnd := by
  unfold Obligations.SpansFormLiveAndEnd
  refine ⟨fun c b s served short buffer => ?form, fun p h s => ?hello, fun k s => ?commit, fun s => ?late,
    fun serial dg ix lat lm s => ?heartbeat, fun s => ?beat, fun i s => ?lost, fun c able s served => ?leave, fun time s => ?sync⟩
  case form =>
    intro e own
    have forms : exec (.spanForm c) s = done s (spanForm c (acceptCall c s.dev)) :=
      (exec_spanForm c s).trans (congrArg (done s) (runFw_served served _))
    have mine : recordIndices (takeRecord b (acceptCall c s.dev)) (acceptCall c s.dev).boot.serial = own := rfl
    refine ⟨fun bad => completes_of_done forms ?_, fun sound carries few busy => completes_of_done forms ?_,
      fun sound carries few apart unasked enough => completes_of_done forms ?_⟩
    · rw [spanForm_bad short buffer mine bad]
      exact ⟨badParam_answered .., (badParam_aside ..).span⟩
    · rw [spanForm_busy short buffer mine sound carries few busy]
      exact ⟨finish_answered .., (finish_aside ..).span⟩
    · rw [spanForm_begins short buffer mine sound carries few apart unasked enough]
      obtain ⟨⟨record, digest⟩, waits, states⟩ := tryForm_begun c b (acceptCall c s.dev)
      refine ⟨record, digest, waits, fun p cabled down => (states p).trans ?_⟩
      exact openPorts_down (List.mem_filter.mpr ⟨List.mem_finRange p, cabled⟩) down
  case hello =>
    refine ⟨fun ⟨apart, unasked⟩ => exec_idle (exec_spanHello p h s) (spanHello_idle apart unasked),
      fun joins other => completes_of_done (exec_spanHello p h s) ?_,
      fun formed unasked same other new => completes_of_done (exec_spanHello p h s) ?_⟩
    · rw [spanHello_stranger joins other]
      exact ⟨congrArg Ridge.cablingOk (modPort_port_same ..), bump_counted .., rfl⟩
    · rw [spanHello_arrives formed unasked same other new]
      exact ⟨⟨helloMember h p s.dev, List.mem_append_right _ (List.mem_singleton_self _), rfl, rfl, rfl⟩, rfl⟩
  case commit =>
    refine ⟨fun ⟨apart, unasked⟩ => exec_idle (exec_spanCommit k s) (spanCommit_idle apart unasked), fun c since apart forming =>
      ⟨fun named => completes_of_done (exec_spanCommit k s) ?_, fun unnamed other => completes_of_done (exec_spanCommit k s) ?_⟩⟩
    · have forms := spanCommit_forms apart forming named
      obtain ⟨leader, lMax, iface, arith⟩ := forms.levels
      exact ⟨forms.done, forms.formed, leader, lMax, iface, arith, forms.forming⟩
    · have raised := occur_raised (a := s.dev) (b := s.dev) {} 96 0 none
      have event : (occur 96 0 none s.dev).span = s.dev.span := (occur_aside ..).span
      rw [spanCommit_refuses apart forming unnamed other]
      generalize occur 96 0 none s.dev = e at raised event
      have kept := (post_aside c .spanMismatch 0x30 [] false (modSpan (fun x => { x with forming := none }) e)).span
      refine ⟨post_answered .., (congrArg Span.formed kept).trans ((congrArg Span.formed event).trans apart),
        congrArg Span.forming kept, fun init enabled bare => ?_⟩
      rw [post_gutter]
      exact raised init enabled bare
  case late =>
    refine ⟨fun none => exec_idle (exec_formTimeout s) (formTimesOut_idle none), fun c since forming =>
      ⟨fun few => completes_of_done (exec_formTimeout s) ?_, fun enough leads => completes_of_done (exec_formTimeout s) ?_⟩⟩
    · rw [formTimesOut_few forming few]
      have kept := post_aside c .timeout 0 [] false
        (modSpan (fun s => { s with peers := [], forming := none }) (advanceTo (since + formTimeout s.dev) s.dev))
      exact ⟨post_answered .., congrArg Span.forming kept.span, congrArg Span.peers kept.span, kept.now⟩
    · have forms := commitSpan_forms (d := advanceTo (since + formTimeout s.dev) s.dev) forming
      rw [formTimesOut_enough forming enough leads]
      exact ⟨forms.done, forms.formed, forms.forming⟩
  case heartbeat =>
    intro found
    refine ⟨fun idle => exec_idle (exec_spanHeartbeat ..) (spanHeartbeat_idle idle), fun m known formed =>
      ⟨fun same => completes_of_done (exec_spanHeartbeat ..) ?_, fun other follows => completes_of_done (exec_spanHeartbeat ..) ?_⟩⟩
    · rw [spanHeartbeat_notes known formed same]
      split
      · next leads => exact ⟨fun x => noteHeartbeat_peers (m := m) (lm := lm), fun member => absurd leads (by simp [member])⟩
      · exact ⟨fun x => noteHeartbeat_peers, fun _ leader => if_pos leader⟩
    · have serial : m.serial = serial := by simpa using List.find?_some known
      obtain ⟨peers, members, -⟩ := removeMember_span m (tellExpelled m s.dev)
      rw [spanHeartbeat_expels known formed other follows, peers, members, (tellExpelled_sends m s.dev).span]
      exact ⟨fun x peer same => absurd (List.mem_filter.mp peer).2 (by simp [same, serial]), rfl⟩
  case beat =>
    refine ⟨fun apart => ⟨exec_idle (exec_heartbeatSend s) (heartbeatSend_idle apart),
        exec_idle (exec_spanExpel s) (spanExpel_idle apart)⟩,
      fun formed => ⟨completes_of_done (exec_heartbeatSend s) ?_, completes_of_done (exec_spanExpel s) ?_⟩⟩
    · have sent := (beat_sends s.dev).span
      have told := (tellTime_sends s.dev.span.heartbeat (beat s.dev)).span.trans sent
      have leads : isLeader (beat s.dev) = isLeader s.dev := (congrArg (fun x : Span => x.carried.getLsbD x.leader) sent :)
      rw [heartbeatSend_formed formed, leads]
      split
      · obtain ⟨arrivals, goes, number⟩ := admitArrivals_span ((congrArg Span.formed told).trans formed)
        exact ⟨number.trans (congrArg Span.heartbeat told), fun _ => arrivals, goes⟩
      · next member => exact ⟨congrArg Span.heartbeat sent, fun leads => absurd leads member, (congrArg Span.formed sent).trans formed⟩
    · have dropped := dropUncarried_keepsBarriers (leaveSpan (occur 96 0 none s.dev))
      have kept := (leaveSpan_keepsTally .barriers _).trans (dropped.keepsTally (c := .barriers) (by decide))
      rw [spanExpel_leaves formed, dropped.span]
      exact ⟨rfl, rfl, rfl, (occur_raised (a := s.dev) (b := s.dev) {} 96 0 none).trans_keepsTally kept⟩
  case lost =>
    refine ⟨fun idle => exec_idle (exec_spanMemberLost i s) (memberLost_idle idle),
      fun m found formed => completes_of_done (exec_spanMemberLost i s) ?_⟩
    rw [memberLost_removes found formed]
    have raised := occur_raised (a := s.dev) (b := advanceTo (m.heard + 10 * ms) s.dev) {} 97 m.lowest none
    have event := occur_aside 97 m.lowest none (advanceTo (m.heard + 10 * ms) s.dev)
    generalize occur 97 m.lowest none (advanceTo (m.heard + 10 * ms) s.dev) = e at raised event
    have stuck := (abortStuck_keepsTally m e).trans (removeMember_keepsTally .barriers (by decide) m _)
    obtain ⟨peers, -, goes⟩ := removeMember_span m (abortStuck m e)
    have still := (goes.trans (abortStuck_formed m e)).trans ((congrArg Span.formed event.span).trans formed)
    obtain ⟨gone, settled, left⟩ := settlePartition_leaves m still fun x peer same =>
      absurd (List.mem_filter.mp (peers ▸ peer)).2 (by simp [same])
    have kept := stuck.trans settled
    exact ⟨gone, kept.now.trans event.now, raised.trans_keepsTally kept, left⟩
  case leave =>
    intro w pairs
    have leaves : exec (.spanLeave c able) s = done s (spanLeave c able (acceptCall c s.dev)) :=
      (exec_spanLeave c able s).trans (congrArg (done s) (runFw_served served _))
    have named : leavePairs (c.w 1) = pairs := rfl
    refine ⟨fun bad => completes_of_done leaves ?_, fun formed all once => ⟨fun busy => completes_of_done leaves ?_,
      fun stays unable => completes_of_done leaves ?_, fun stays can some idle takers rests => completes_of_done leaves ?_⟩⟩
    · rw [spanLeave_bad (d := acceptCall c s.dev) named bad]
      exact ⟨badParam_answered .., (badParam_aside ..).span⟩
    · rw [spanLeave_busy (d := acceptCall c s.dev) named formed all once busy]
      exact ⟨finish_answered .., (finish_aside ..).span⟩
    · rw [spanLeave_unable (d := acceptCall c s.dev) named formed all once stays unable]
      exact ⟨finish_answered .., (finish_aside ..).span⟩
    · obtain ⟨e, left⟩ := spanLeave_leaves (d := acceptCall c s.dev) named formed all once stays can some idle takers rests
      rw [left]
      have kept := (post_aside c .ok 0 (leBytes 2 s.dev.span.carried.toNat) false (leaveSpan e)).span
      exact ⟨post_answered .., congrArg Span.formed kept, congrArg Span.carried kept, congrArg Span.leaving kept⟩
  case sync =>
    refine ⟨fun idle => exec_idle (exec_timeSync time s) (timeSync_idle idle),
      fun formed follows => completes_of_done (exec_timeSync time s) ?_⟩
    rw [timeSync_follows formed follows]
    generalize noted : modSpan (fun x => { x with syncOffset := Int.ofNat time - Int.ofNat (moduleTime s.dev) }) s.dev = e
    obtain ⟨span, ref, known⟩ := discipline_sets (-(Int.ofNat time - Int.ofNat (moduleTime s.dev))) e
    have same : moduleTime e = moduleTime s.dev := noted ▸ rfl
    refine ⟨(congrArg Span.syncOffset span).trans (noted ▸ rfl), ref.trans (noted ▸ rfl), known, fun set large => ?_⟩
    simp only [Int.ofNat_eq_natCast]
    rw [discipline_steps (by omega), moduleTime_stepTime (same ▸ set), same]
    simp only [Int.ofNat_eq_natCast]
    omega

end Sys2Proof.Machine
end

section
/-! SUPPORT. Sensor contexts: what an event, a completion and the end of a STOP leave of a context, and what beginning, filling, ending,
dropping, landing and releasing a frame make of it (R566 to R573, R578, R588, R589). -/

set_option Elab.async false

namespace Sys2Proof.Machine

open Sys2Proof

theorem Aside.ctx {a b : Device} (h : Aside a b) (c : ContextId) : b.ctx c = a.ctx c := by simp [Device.ctx, h.intake]

theorem modCtx_ctx_other {c e : ContextId} (other : e ≠ c) (f : Context → Context) (d : Device) : (modCtx c f d).ctx e = d.ctx e := by
  rw [modCtx_ctx, if_neg other.symm]

/-! ### The end of a STOP (R588) -/

/-- A context apart from its state and the STOP that waits. -/
def Context.sansStop (x : Context) : Context := { x with state := .disabled, stopCall := none }

/-- A part that does not look at the state or the STOP is the same in contexts that differ in those alone. -/
theorem Context.part_of_sansStop {α : Type} {x y : Context} (same : x.sansStop = y.sansStop) (part : Context → α)
    (blind : ∀ z, part z = part z.sansStop := by exact fun _ => rfl) : part x = part y := by
  rw [blind x, same, ← blind y]

theorem checkStop_idle {c : ContextId} {d : Device} (goes : (d.ctx c).state ≠ .stopping) : checkStop c d = d :=
  if_neg (by simp [goes])

theorem modCtx_sansStop {c : ContextId} {f : Context → Context} (keeps : ∀ x, (f x).sansStop = x.sansStop) (e : ContextId)
    (d : Device) :
    ((modCtx c f d).ctx e).sansStop = (d.ctx e).sansStop := by
  rw [modCtx_ctx]
  split
  · exact keeps _
  · rfl

/-- A context in which a STOP has ended. -/
def Context.stopped (x : Context) : Context := { x with state := .enabled, stopCall := none }

/-- What may end a STOP changes nothing, or the state of the context, with the completion of the STOP. -/
theorem checkStop_cases (c : ContextId) (d : Device) : checkStop c d = d ∨
    Aside (modCtx c Context.stopped d) (checkStop c d) ∧ (checkStop c d).tenants = d.tenants := by
  unfold checkStop
  dsimp only
  split
  · refine .inr ?_
    split
    · exact ⟨post_aside .., post_tenants ..⟩
    · exact ⟨.refl _, rfl⟩
  · exact .inl rfl

theorem checkStop_sansStop (c e : ContextId) (d : Device) : ((checkStop c d).ctx e).sansStop = (d.ctx e).sansStop := by
  obtain idle | ⟨ended, -⟩ := checkStop_cases c d
  · rw [idle]
  · exact (congrArg Context.sansStop (ended.ctx e)).trans (modCtx_sansStop (f := Context.stopped) (fun _ => rfl) e d)

theorem checkStop_ctx_other {c e : ContextId} (other : e ≠ c) (d : Device) : (checkStop c d).ctx e = d.ctx e := by
  obtain idle | ⟨ended, -⟩ := checkStop_cases c d
  · rw [idle]
  · exact (ended.ctx e).trans (modCtx_ctx_other other Context.stopped d)

@[simp] theorem checkStop_tenants (c : ContextId) (d : Device) : (checkStop c d).tenants = d.tenants := by
  obtain idle | ⟨-, tenants⟩ := checkStop_cases c d
  · rw [idle]
  · exact tenants

@[simp] theorem checkStop_now (c : ContextId) (d : Device) : (checkStop c d).now = d.now := by
  obtain idle | ⟨ended, -⟩ := checkStop_cases c d
  · rw [idle]
  · exact ended.now

theorem goes_of_started {c : ContextId} {d : Device} (started : (d.ctx c).state = .started) : (d.ctx c).state ≠ .stopping := by
  simp [started]

theorem takesBytes_started {x : Context} (started : x.state = .started) : takesBytes x = true := by simp [takesBytes, started]

/-! ### Drops (R567, R571, R572) -/

/-- A context that has noted a drop. -/
def Context.noted (x : Context) : Context := { x with gap := true }

/-- A drop counted and reported, before a STOP that waits for it ends. -/
def reportDrop (c : ContextId) (why : DropWhy) (d : Device) : Device :=
  occur 23 c.val (some (ctxTenant d c)) (modCtx c Context.noted (bump why.counter c.val d))

theorem ctxTenant_noted (c : ContextId) (why : DropWhy) (d : Device) :
    ctxTenant (modCtx c Context.noted (bump why.counter c.val d)) c = ctxTenant d c := by
  simp only [ctxTenant, modCtx_ctx_same]
  rfl

theorem noteDrop_eq (c : ContextId) (why : DropWhy) (d : Device) : noteDrop c why d = checkStop c (reportDrop c why d) := by
  rw [reportDrop, ← ctxTenant_noted c why d]
  rfl

theorem reportDrop_aside (c : ContextId) (why : DropWhy) (d : Device) :
    Aside (modCtx c Context.noted (bump why.counter c.val d)) (reportDrop c why d) :=
  occur_aside ..

theorem reportDrop_ctx (c : ContextId) (why : DropWhy) (d : Device) : (reportDrop c why d).ctx c = (d.ctx c).noted :=
  ((reportDrop_aside c why d).ctx c).trans (modCtx_ctx_same ..)

/-- Without a STOP that waits, a drop sets GAP alone in its context. -/
theorem noteDrop_running {c : ContextId} {d : Device} (goes : (d.ctx c).state ≠ .stopping) (why : DropWhy) :
    noteDrop c why d = reportDrop c why d := by
  rw [noteDrop_eq, checkStop_idle]
  rwa [reportDrop_ctx]

theorem noteDrop_sansStop (c : ContextId) (why : DropWhy) (d : Device) :
    ((noteDrop c why d).ctx c).sansStop = (d.ctx c).noted.sansStop := by
  rw [noteDrop_eq, checkStop_sansStop, reportDrop_ctx]

theorem noteDrop_now (c : ContextId) (why : DropWhy) (d : Device) : (noteDrop c why d).now = d.now := by
  rw [noteDrop_eq, checkStop_now]
  exact (reportDrop_aside c why d).now

theorem noteDrop_tensors (c : ContextId) (why : DropWhy) (d : Device) :
    (noteDrop c why d).tenants.map (·.tensors) = d.tenants.map (·.tensors) := by
  rw [noteDrop_eq, checkStop_tenants]
  exact Vector.ext fun i bound => by simpa [Device.tenant] using (reportDrop_aside c why d).tensors ⟨i, bound⟩

/-- A context whose frame in progress is dropped. -/
def Context.dropped (x : Context) : Context :=
  match x.current with
  | none => x
  | some _ => { x with current := none, fifo := 0, discarding := true, gap := true }

@[simp] theorem Context.dropped_parts (x : Context) : x.dropped.state = x.state ∧ x.dropped.frameSeq = x.frameSeq ∧
    x.dropped.ring = x.ring ∧ x.dropped.head = x.head := by
  unfold dropped
  split <;> exact ⟨rfl, rfl, rfl, rfl⟩

theorem Context.dropped_gap {x : Context} (open_ : x.current.isSome = true) : x.dropped.gap = true := by
  obtain ⟨f, current⟩ := Option.isSome_iff_exists.mp open_
  simp [dropped, current]

theorem dropCurrent_some {c : ContextId} {d : Device} {f : SensorFrame} (current : (d.ctx c).current = some f) (why : DropWhy) :
    dropCurrent c why d = noteDrop c why (modCtx c (fun x => { x with current := none, fifo := 0, discarding := true }) d) := by
  simp [dropCurrent, current]

theorem dropCurrent_ctx {c : ContextId} {d : Device} (goes : (d.ctx c).state ≠ .stopping) (why : DropWhy) :
    (dropCurrent c why d).ctx c = (d.ctx c).dropped := by
  cases current : (d.ctx c).current with
  | none => simp [dropCurrent, Context.dropped, current]
  | some f =>
    rw [dropCurrent_some current, noteDrop_running (by rwa [modCtx_ctx_same]), reportDrop_ctx, modCtx_ctx_same]
    simp [Context.dropped, Context.noted, current]

theorem dropCurrent_clock {c : ContextId} {d : Device} (goes : (d.ctx c).state ≠ .stopping) (why : DropWhy) :
    (dropCurrent c why d).now = d.now ∧ (dropCurrent c why d).time = d.time := by
  cases current : (d.ctx c).current with
  | none => simp [dropCurrent, current]
  | some f =>
    rw [dropCurrent_some current, noteDrop_running (by rwa [modCtx_ctx_same])]
    exact ⟨(reportDrop_aside ..).now, (reportDrop_aside ..).time⟩

theorem dropCurrent_raised {c : ContextId} {d : Device} {f : SensorFrame} (goes : (d.ctx c).state ≠ .stopping)
    (current : (d.ctx c).current = some f) (why : DropWhy) : Raised 23 c.val d (dropCurrent c why d) := by
  rw [dropCurrent_some current, noteDrop_running (by rwa [modCtx_ctx_same])]
  exact occur_raised {} 23 c.val _

/-! ### Frames that begin, fill and end (R566 to R571, R573) -/

/-- The frame that a context begins at a root time, with the stamp of that time. -/
def Context.fresh (x : Context) (at_ stamp : Nat) : SensorFrame :=
  { seq := x.frameSeq, stamp := stamp, bytes := [], first := at_, off := x.head }

/-- A context in which a frame has begun. -/
def Context.opened (x : Context) (at_ stamp : Nat) : Context :=
  { x with current := some (x.fresh at_ stamp), frameSeq := (x.frameSeq + 1) % 2 ^ 32, discarding := false }

theorem beginFrame_ctx (c : ContextId) (at_ : Nat) (d : Device) :
    (beginFrame c at_ d).ctx c = (d.ctx c).opened at_ (moduleTimeAt d at_) := modCtx_ctx_same ..

/-- Bytes that FRAME_MAX, the ring and the FIFO allow are added to the frame in progress. -/
theorem storeBytes_fits {c : ContextId} {d : Device} {f : SensorFrame} {bs : List Byte} {fifo : Nat} (current : (d.ctx c).current = some f)
    (whole : f.bytes.length + bs.length ≤ (d.ctx c).desc.frameMax) (room : ringUsed (d.ctx c) + bs.length ≤ (d.ctx c).desc.ringBytes)
    (few : fifo ≤ fifoLimit) :
    storeBytes c bs fifo d = modCtx c (fun x => { x with current := some { f with bytes := f.bytes ++ bs }, fifo := fifo }) d := by
  simp [storeBytes, current, Nat.not_lt.mpr whole, Nat.not_lt.mpr room, Nat.not_lt.mpr few]

/-- A frame that begins with bytes that fit holds those bytes. -/
theorem storeBytes_beginFrame {c : ContextId} {d : Device} {bs : List Byte} {fifo : Nat} (at_ : Nat)
    (whole : bs.length ≤ (d.ctx c).desc.frameMax)
    (room : ((d.ctx c).ring.map fun f => f.bytes.length).sum + bs.length ≤ (d.ctx c).desc.ringBytes) (few : fifo ≤ fifoLimit) :
    (storeBytes c bs fifo (beginFrame c at_ d)).ctx c = { (d.ctx c).opened at_ (moduleTimeAt d at_) with
      current := some { (d.ctx c).fresh at_ (moduleTimeAt d at_) with bytes := bs }, fifo := fifo } := by
  have opened := beginFrame_ctx c at_ d
  have current := congrArg Context.current opened
  rw [storeBytes_fits current (by simpa [opened, Context.opened, Context.fresh] using whole)
    (by simpa [opened, ringUsed, Context.opened, Context.fresh] using room) few, modCtx_ctx_same, opened]
  rfl

/-- The frame in progress ends at the end of the ring. -/
theorem endFrame_ends {c : ContextId} {d : Device} {f : SensorFrame} (current : (d.ctx c).current = some f) :
    ((endFrame c d).ctx c).current = none ∧ ((endFrame c d).ctx c).ring = (d.ctx c).ring ++ [f] := by
  simp [endFrame, current]

/-! ### Landing (R572) -/

theorem Tensor.write_whole {x : Tensor} (whole : x.lost = []) (off : Nat) (bs : List Byte) :
    x.write off bs = { x with bytes := x.bytes.writeN off bs, lost := [] } := by
  simp [Tensor.write, whole]

/-- The bytes of a frame that does not wrap stand in the tensor of its ring. -/
theorem writeRing_stands {c : ContextId} {f : SensorFrame} {d : Device} {id : Nat} {x : Tensor} (ring : (d.ctx c).tensor = some id)
    (found : findTensor d (ctxTenant d c) id = some x) (whole : x.lost = []) (canonical : x.bytes.wf = true)
    (fits : f.off + f.bytes.length ≤ (d.ctx c).desc.ringBytes) :
    ∃ y, findTensor (writeRing c f d) (ctxTenant d c) id = some y ∧ y.bytes.readN f.off f.bytes.length = f.bytes := by
  have all : f.bytes.length ≤ (d.ctx c).desc.ringBytes - f.off := by omega
  have written : writeRing c f d = modTensor (ctxTenant d c) id (fun y => (y.write f.off f.bytes).write 0 []) d := by
    simp [writeRing, ring, List.take_of_length_le all, List.drop_of_length_le all]
  rw [written, findTensor_modTensor (f := fun y => (y.write f.off f.bytes).write 0 []) (fun _ => rfl), found]
  refine ⟨_, rfl, ?_⟩
  beta_reduce
  rw [if_pos ⟨rfl, rfl⟩, Tensor.write_whole whole, Tensor.write_whole rfl]
  exact Mem.readN_writeN f.bytes x.bytes f.off canonical

theorem writeRing_ctx (c e : ContextId) (f : SensorFrame) (d : Device) : (writeRing c f d).ctx e = d.ctx e := by
  unfold writeRing
  dsimp only
  split <;> rfl

/-- A context in which a frame has landed. -/
def Context.land (f : SensorFrame) (at_ : Nat) (x : Context) : Context :=
  { x with ring := x.ring.map (fun y => if y.seq = f.seq then { y with landed := some at_ } else y), lastLanded := some f.seq, fifo := 0 }

section

variable {c : ContextId} {d : Device} {f : SensorFrame} (found : (d.ctx c).ring.find? (fun f => f.landed.isNone) = some f)
include found

theorem frameLanded_found (at_ : Nat) : frameLanded c at_ d =
    checkStop c (bump .framesLanded c.val (modCtx c (Context.land f at_) (writeRing c f (advanceTo at_ d)))) := by
  have same : ((advanceTo at_ d).ctx c).ring.find? (fun f => f.landed.isNone) = some f := found
  simp only [frameLanded, same]
  rfl

theorem frameLanded_sansStop (at_ : Nat) : ((frameLanded c at_ d).ctx c).sansStop = ((d.ctx c).land f at_).sansStop := by
  rw [frameLanded_found found, checkStop_sansStop]
  exact congrArg Context.sansStop ((modCtx_ctx_same ..).trans (congrArg (Context.land f at_) (writeRing_ctx ..)))

theorem frameLanded_tenants (at_ : Nat) : (frameLanded c at_ d).tenants = (writeRing c f (advanceTo at_ d)).tenants := by
  rw [frameLanded_found found, checkStop_tenants]
  rfl

theorem land_mem (at_ : Nat) : ∃ g ∈ ((d.ctx c).land f at_).ring, g.seq = f.seq ∧ g.landed = some at_ :=
  ⟨_, List.mem_map_of_mem (List.mem_of_find?_eq_some found), by simp⟩

/-- A frame that has not landed in time leaves the ring. -/
theorem frameTimesOut_found : frameTimesOut c d = noteDrop c .timeout
    (modCtx c (fun x => { x with ring := x.ring.filter fun y => !(decide (y.seq = f.seq) && y.landed.isNone) })
      (advanceTo (f.first + frameTimeout (d.ctx c)) d)) := by
  simp [frameTimesOut, found]

end

/-! ### Release (R578) -/

theorem frameRelease_ring (c : ContextId) (d : Device) : ((frameRelease c d).ctx c).ring =
    ((d.ctx c).ring.map fun f => { f with released := f.released || (frameDone d (ctxTenant d c) f && hostDone (d.ctx c) f) }).dropWhile
      fun f => f.released := by
  simp [frameRelease]

end Sys2Proof.Machine
end

section
/-! CERTIFICATE. INTAKE_CONFIGURE stages a descriptor; START, STOP, FLUSH and RELEASE act on the context that they name (R578, R587 to
R589). -/

set_option Elab.async false

namespace Sys2Proof.Machine

open Sys2Proof

theorem exec_intakeConfigure (c : Call) (s : State) : exec (.intakeConfigure c) s = done s (runFw c (intakeConfigure c) s.dev) := rfl
theorem exec_intakeStart (c : Call) (s : State) : exec (.intakeStart c) s = done s (runFw c (intakeStart c) s.dev) := rfl
theorem exec_intakeStop (c : Call) (s : State) : exec (.intakeStop c) s = done s (runFw c (intakeStop c) s.dev) := rfl
theorem exec_intakeFlush (c : Call) (s : State) : exec (.intakeFlush c) s = done s (runFw c (intakeFlush c) s.dev) := rfl
theorem exec_intakeRelease (c : Call) (s : State) : exec (.intakeRelease c) s = done s (runFw c (intakeRelease c) s.dev) := rfl

/-! ### The context that INTAKE_CONTROL names -/

section

variable {c : Call} {d : Device} (h : field (c.w 1) 0 5 < 24)

theorem withContext_disabled (disabled : (d.ctx ⟨_, h⟩).state = .disabled) (k : ContextId → Device → Device) :
    withContext c k d = badParam c 0 d := by
  simp [withContext, h, disabled]

theorem withContext_foreign (able : (d.ctx ⟨_, h⟩).state ≠ .disabled) (tenant : c.mbx.val < 8)
    (foreign : (d.ctx ⟨_, h⟩).desc.tenant ≠ c.tenant.val) (k : ContextId → Device → Device) :
    withContext c k d = finish c .notOwner 0 d := by
  simp [withContext, h, able, tenant, foreign]

theorem withContext_own (able : (d.ctx ⟨_, h⟩).state ≠ .disabled) (own : c.mbx = 8 ∨ (d.ctx ⟨_, h⟩).desc.tenant = c.tenant.val)
    (k : ContextId → Device → Device) : withContext c k d = k ⟨_, h⟩ d := by
  have allowed : ¬(c.mbx.val < 8 ∧ (d.ctx ⟨_, h⟩).desc.tenant ≠ c.tenant.val) := by
    rintro ⟨tenant, foreign⟩
    obtain host | mine := own
    · simp [host] at tenant
    · exact foreign mine
  simp only [withContext, dif_pos h, if_neg able, if_neg allowed]

/-- A served INTAKE_CONTROL command of any kind completes as `withContext` has it. -/
theorem intakeControl_completes {s : State} {P : Device → Prop} (served : Served c s.dev)
    (holds : ∀ k, P (withContext c k (acceptCall c s.dev))) :
    ∀ i ∈ [Instr.intakeStart c, .intakeStop c, .intakeFlush c, .intakeRelease c], Completes i s P := by
  simp only [List.forall_mem_cons, List.not_mem_nil, false_implies, implies_true, and_true]
  refine ⟨completes_of_done (exec_intakeStart c s) ?_, completes_of_done (exec_intakeStop c s) ?_,
    completes_of_done (exec_intakeFlush c s) ?_, completes_of_done (exec_intakeRelease c s) ?_⟩ <;>
  · rw [runFw_served served]
    exact holds _

end

/-! ### Their completions -/

theorem controlDone_answered (c : Call) (i : ContextId) (st : Status) (d : Device) :
    Answered c st 0 (controlResult (d.ctx i)) (controlDone c i st d) := post_answered ..

theorem controlDone_aside (c : Call) (i : ContextId) (st : Status) (d : Device) : Aside d (controlDone c i st d) := post_aside ..

/-- A context of which START has begun the frames anew. -/
def Context.start (x : Context) : Context :=
  { x with state := .started, frameSeq := 0, expect := none, discarding := false, hostReleased := none }

/-- A context whose frame in progress and unbound frames are flushed. -/
def Context.flush (x : Context) : Context :=
  { x with
    current := none, fifo := 0, discarding := x.discarding || x.current.isSome, torn := x.torn || unlanded x
    gap := x.gap || decide (0 < (x.ring.filter fun f => f.landed.isSome && f.bound.isNone).length)
    ring := x.ring.filter fun f => f.bound.isSome }

theorem flushCtx_sansStop (i : ContextId) (d : Device) : ((flushCtx i d).2.ctx i).sansStop = (d.ctx i).flush.sansStop := by
  refine (checkStop_sansStop ..).trans ?_
  rw [modCtx_ctx_same]
  rfl

theorem flushCtx_ctx_other {i j : ContextId} (other : j ≠ i) (d : Device) : (flushCtx i d).2.ctx j = d.ctx j :=
  (checkStop_ctx_other other _).trans (modCtx_ctx_other other _ _)

/-- RELEASE sets how far the host has released a context, and no tenant. -/
theorem frameRelease_release (i : ContextId) (n : Nat) (d : Device) :
    ((frameRelease i (modCtx i (fun x => x.release n) d)).ctx i).hostReleased = some n ∧
      ((frameRelease i (modCtx i (fun x => x.release n) d)).ctx i).lastLanded = (d.ctx i).lastLanded := by
  simp [frameRelease, Context.release]

section

variable {c : Call} {d : Device} (h : field (c.w 1) 0 5 < 24) (own : c.mbx = 8 ∨ (d.ctx ⟨_, h⟩).desc.tenant = c.tenant.val)
include own

theorem intakeStart_enabled (enabled : (d.ctx ⟨_, h⟩).state = .enabled) :
    intakeStart c d = controlDone c ⟨_, h⟩ .ok (modCtx ⟨_, h⟩ Context.start d) := by
  rw [intakeStart, withContext_own h (by simp [enabled]) own, enabled]
  rfl

theorem intakeStart_started (started : (d.ctx ⟨_, h⟩).state = .started) : intakeStart c d = controlDone c ⟨_, h⟩ .ok d := by
  rw [intakeStart, withContext_own h (by simp [started]) own, started]

theorem intakeStart_stopping (stopping : (d.ctx ⟨_, h⟩).state = .stopping) : intakeStart c d = finish c .busy 0 d := by
  rw [intakeStart, withContext_own h (by simp [stopping]) own, stopping]

theorem intakeStop_stopping (stopping : (d.ctx ⟨_, h⟩).state = .stopping) : intakeStop c d = finish c .busy 0 d := by
  rw [intakeStop, withContext_own h (by simp [stopping]) own, stopping]

theorem intakeStop_waits (started : (d.ctx ⟨_, h⟩).state = .started) (lands : unlanded (d.ctx ⟨_, h⟩) = true) :
    intakeStop c d = modCtx ⟨_, h⟩ (fun x => { x with state := .stopping, stopCall := some c }) d := by
  simp [intakeStop, withContext_own h (by simp [started]) own, started, lands]

theorem intakeStop_ends (started : (d.ctx ⟨_, h⟩).state = .started) (landed : unlanded (d.ctx ⟨_, h⟩) = false) :
    intakeStop c d = controlDone c ⟨_, h⟩ .ok (modCtx ⟨_, h⟩ (fun x => { x with state := .enabled }) d) := by
  simp [intakeStop, withContext_own h (by simp [started]) own, started, landed]

variable (able : (d.ctx ⟨_, h⟩).state ≠ .disabled)
include able

theorem intakeFlush_able : intakeFlush c d =
    controlDone c ⟨_, h⟩ (if unlanded (d.ctx ⟨_, h⟩) then .flushed else .ok) (flushCtx ⟨_, h⟩ d).2 := by
  rw [intakeFlush, withContext_own h able own]
  rfl

theorem intakeRelease_able : intakeRelease c d = controlDone c ⟨_, h⟩ .ok
    (frameRelease ⟨_, h⟩ (modCtx ⟨_, h⟩ (fun x => x.release (field (c.w 2) 0 32)) d)) := by
  rw [intakeRelease, withContext_own h able own]

end

/-! ### INTAKE_CONFIGURE (R587) -/

/-- The tenant of a descriptor. -/
def Descriptor.owner (x : Descriptor) : TenantId := ⟨x.tenant % 4, Nat.mod_lt _ (by decide)⟩

/-- A descriptor staged for a context. -/
def stageDescriptor (i : Nat) (x : Descriptor) (d : Device) : Device :=
  journal kStaged x.owner.val { d with intake := { d.intake with staged := assocSet d.intake.staged i x } }

/-- INTAKE_CONFIGURE of mailbox 8 with a valid descriptor of an open tenant, with no other context on its source and no commit that
waits. -/
theorem intakeConfigure_stages {c : Call} {d : Device} (h : field (c.w 1) 0 5 < 24) (host : c.mbx = 8)
    (isOpen : (d.tenant (descriptorOf c).owner).isOpen = true) (kind : field (c.w 1) 24 2 ≠ 3)
    (valid : descriptorOk (descriptorOf c) = true)
    (alone : ∀ j : ContextId, j ≠ ⟨_, h⟩ → (d.ctx j).state = .disabled) (none : d.commits = []) :
    intakeConfigure c d = post c .ok 0
      (leBytes 4 (ringId (stageDescriptor (field (c.w 1) 0 5) (descriptorOf c) d) (descriptorOf c).owner ⟨_, h⟩)) false
      (stageDescriptor (field (c.w 1) 0 5) (descriptorOf c) d) := by
  have free : allContexts.any (fun j => !decide (j = ⟨_, h⟩) && !decide ((d.ctx j).state = .disabled) &&
      sameSource (d.ctx j).desc (descriptorOf c)) = false := by
    refine List.any_eq_false.mpr fun j _ => ?_
    by_cases same : j = ⟨_, h⟩
    · simp [same]
    · simp [alone j same]
  have idle : commitPending d (.tenant (descriptorOf c).owner) = false := by simp [commitPending, none]
  have shown : ¬c.mbx.val < 8 := by simp [host]
  unfold intakeConfigure
  refine (dif_pos h).trans ((if_neg fun foreign => shown foreign.1).trans ((if_neg ?_).trans ((if_neg ?_).trans
    ((if_neg fun taken => ?_).trans ((if_neg ?_).trans rfl)))))
  · simpa [Descriptor.owner] using isOpen
  · simp [kind, valid]
  · exact absurd taken.2 (by simp [free])
  · simpa [Descriptor.owner] using idle

/-- Settles O38: `intakeConfigure_stages` for the descriptor, `withContext_disabled` and `withContext_foreign` for what is refused, and a
lemma for each state in which a control command finds its context; `checkStop_sansStop` shows what a FLUSH that ends a STOP keeps. That
START of a started context does nothing is the model's choice (log entry 90). -/
theorem intakeCommandsActOnTheirContext : Obligations.IntakeCommandsActOnTheirContext := by
  unfold Obligations.IntakeCommandsActOnTheirContext
  refine ⟨fun c s h served host isOpen kind valid alone none => completes_of_done (exec_intakeConfigure c s) ?configure,
    fun c s h served => ⟨fun disabled => intakeControl_completes served fun k => ?disabled,
      fun able tenant foreign => intakeControl_completes served fun k => ?foreign, fun own => ?_⟩⟩
  case configure =>
    have staged : (stageDescriptor (field (c.w 1) 0 5) (descriptorOf c) (acceptCall c s.dev)).intake =
        { s.dev.intake with staged := assocSet s.dev.intake.staged (field (c.w 1) 0 5) (descriptorOf c) } := (journal_aside ..).intake
    rw [runFw_served served, intakeConfigure_stages (d := acceptCall c s.dev) h host isOpen kind valid alone none]
    refine ⟨⟨_, _, post_answered ..⟩, ?_, ?_, ?_⟩
    · rw [(post_aside ..).intake, staged, assoc_set, if_pos rfl]
    · rw [(post_aside ..).intake, staged]
    · exact (post_tenants ..).trans (journal_tenants ..)
  case disabled =>
    rw [withContext_disabled (d := acceptCall c s.dev) h disabled]
    exact ⟨badParam_answered .., (badParam_aside ..).intake⟩
  case foreign =>
    rw [withContext_foreign (d := acceptCall c s.dev) h able tenant foreign]
    exact ⟨finish_answered .., (finish_aside ..).intake⟩
  intro i x
  let d := acceptCall c s.dev
  have starts := (exec_intakeStart c s).trans (congrArg (done s) (runFw_served served _))
  have stops := (exec_intakeStop c s).trans (congrArg (done s) (runFw_served served _))
  have flushes := (exec_intakeFlush c s).trans (congrArg (done s) (runFw_served served _))
  have releases := (exec_intakeRelease c s).trans (congrArg (done s) (runFw_served served _))
  refine ⟨fun enabled => completes_of_done starts ?start, fun started => completes_of_done starts ?again,
    fun stopping => ⟨completes_of_done starts ?startBusy, completes_of_done stops ?stopBusy⟩,
    fun started lands => completes_of_done stops ?waits, fun started landed => completes_of_done stops ?ends,
    fun able => completes_of_done flushes ?flush, fun able => completes_of_done releases ?release⟩
  case start =>
    have answered := controlDone_answered c i .ok (modCtx i Context.start d)
    have ctx := ((controlDone_aside c i .ok (modCtx i Context.start d)).ctx i).trans (modCtx_ctx_same ..)
    rw [modCtx_ctx_same] at answered
    rw [intakeStart_enabled (d := d) h own enabled, ctx]
    exact ⟨answered, rfl, rfl, rfl⟩
  case again =>
    rw [intakeStart_started (d := d) h own started]
    exact ⟨controlDone_answered .., (controlDone_aside ..).intake⟩
  case startBusy =>
    rw [intakeStart_stopping (d := d) h own stopping]
    exact ⟨finish_answered .., (finish_aside ..).intake⟩
  case stopBusy =>
    rw [intakeStop_stopping (d := d) h own stopping]
    exact ⟨finish_answered .., (finish_aside ..).intake⟩
  case waits =>
    rw [intakeStop_waits (d := d) h own started lands, modCtx_ctx_same]
    exact ⟨acceptCall_held c s.dev, rfl, rfl, rfl⟩
  case ends =>
    have answered := controlDone_answered c i .ok (modCtx i (fun x => { x with state := .enabled }) d)
    have ctx := ((controlDone_aside c i .ok (modCtx i (fun x => { x with state := .enabled }) d)).ctx i).trans (modCtx_ctx_same ..)
    rw [modCtx_ctx_same] at answered
    rw [intakeStop_ends (d := d) h own started landed, ctx]
    exact ⟨answered, rfl, rfl⟩
  case flush =>
    have flushed := flushCtx_sansStop i d
    have answered := controlDone_answered c i (if unlanded x then .flushed else .ok) (flushCtx i d).2
    have aside := controlDone_aside c i (if unlanded x then .flushed else .ok) (flushCtx i d).2
    rw [Context.part_of_sansStop flushed controlResult] at answered
    rw [intakeFlush_able (d := d) h own able]
    refine ⟨answered, ?_, ?_, fun j other => (aside.ctx j).trans (flushCtx_ctx_other other d)⟩
    · exact (congrArg Context.current (aside.ctx i)).trans (Context.part_of_sansStop flushed Context.current)
    · exact (congrArg Context.ring (aside.ctx i)).trans (Context.part_of_sansStop flushed Context.ring)
  case release =>
    obtain ⟨released, last⟩ := frameRelease_release i (field (c.w 2) 0 32) d
    generalize freed : frameRelease i (modCtx i (fun x => x.release (field (c.w 2) 0 32)) d) = e at released last
    have answered := controlDone_answered c i .ok e
    rw [controlResult, last] at answered
    rw [intakeRelease_able (d := d) h own able, freed]
    refine ⟨answered, (congrArg Context.hostReleased ((controlDone_aside ..).ctx i)).trans released, ?_⟩
    exact (post_tenants ..).trans (freed ▸ rfl)

end Sys2Proof.Machine
end

section
/-! CERTIFICATE. Frames begin, gather their bytes, end, land, time out and are released (R565 to R569, R571 to R573, R578). -/

set_option Elab.async false

namespace Sys2Proof.Machine

open Sys2Proof

theorem exec_csiFrameStart (p vc : Fin 16) (at_ : Nat) (s : State) :
    exec (.csiFrameStart p vc at_) s = done s (csiStart p.val vc.val at_ s.dev) := rfl
theorem exec_csiLongPacket (p vc : Fin 16) (dt : Fin 64) (bs : List Byte) (err : Bool) (fifo at_ : Nat) (s : State) :
    exec (.csiLongPacket p vc dt bs err fifo at_) s = done s (csiPacket p.val vc.val dt.val bs err fifo at_ s.dev) := rfl
theorem exec_csiFrameEnd (p vc : Fin 16) (at_ : Nat) (s : State) :
    exec (.csiFrameEnd p vc at_) s = done s (csiEnd p.val vc.val at_ s.dev) := rfl
theorem exec_avtpPdu (p : Fin 4) (st : W64) (q : BitVec 8) (bs : List Byte) (m : Bool) (fifo at_ : Nat) (s : State) :
    exec (.avtpPdu p st q bs m fifo at_) s = done s (avtpPdu p.val st q bs m fifo at_ s.dev) := rfl
theorem exec_udpDatagram (p : Fin 4) (v6 : Bool) (a : BitVec 128) (dp : BitVec 16) (bs : List Byte) (fifo at_ : Nat) (s : State) :
    exec (.udpDatagram p v6 a dp bs fifo at_) s = done s (udpDatagram p.val v6 a dp bs fifo at_ s.dev) := rfl
theorem exec_ethFrameDiscard (p : Fin 4) (s : State) : exec (.ethFrameDiscard p) s = done s (bump .ethDiscards p.val s.dev) := rfl
theorem exec_frameLanded (c : ContextId) (at_ : Nat) (s : State) : exec (.frameLanded c at_) s = done s (frameLanded c at_ s.dev) := rfl
theorem exec_frameTimeout (c : ContextId) (s : State) : exec (.frameTimeout c) s = done s (frameTimesOut c s.dev) := rfl
theorem exec_frameRelease (c : ContextId) (s : State) : exec (.frameRelease c) s = done s (frameRelease c s.dev) := rfl

/-! ### CSI-2 (R566, R567) -/

section

variable {port vc at_ : Nat} {d : Device} {c : ContextId}

/-- What CSI_FRAME_START leaves in a started context: the frame in progress dropped, and a frame begun. -/
theorem csiStart_begins (found : ctxOf d .csi port vc (fun _ => true) = some c) (started : (d.ctx c).state = .started) :
    (csiStart port vc at_ d).ctx c = (d.ctx c).dropped.opened at_ (moduleTimeAt d at_) ∧
      (csiStart port vc at_ d).now = max d.now at_ := by
  have goes := goes_of_started (d := advanceTo at_ d) started
  have same : ctxOf (advanceTo at_ d) .csi port vc (fun _ => true) = some c := found
  have dropped : (dropCurrent c .error (advanceTo at_ d)).ctx c = (d.ctx c).dropped := dropCurrent_ctx goes .error
  obtain ⟨now, time⟩ := dropCurrent_clock goes .error
  have takes : accepting (d.ctx c).dropped = true := by simp [accepting, started]
  have begun : csiStart port vc at_ d = beginFrame c at_ (dropCurrent c .error (advanceTo at_ d)) := by
    simp [csiStart, same, dropped, takes]
  rw [begun, beginFrame_ctx, dropped]
  refine ⟨?_, now⟩
  simp only [moduleTimeAt, time, advanceTo_time]

theorem csiEnd_ends {f : SensorFrame} (found : ctxOf d .csi port vc (fun _ => true) = some c) (current : (d.ctx c).current = some f) :
    csiEnd port vc at_ d = endFrame c (advanceTo at_ d) := by
  have same : ctxOf (advanceTo at_ d) .csi port vc (fun _ => true) = some c := found
  have progress : ((advanceTo at_ d).ctx c).current = some f := current
  simp [csiEnd, same, progress]

variable {dt fifo : Nat} {bs : List Byte}

theorem csiPacket_unsupported (unknown : csiTypes.contains dt = false) :
    csiPacket port vc dt bs false fifo at_ d = bump .csiUnsupported port (advanceTo at_ d) :=
  if_pos (by rw [unknown]; rfl)

variable (started : (d.ctx c).state = .started)
include started

theorem csiPacket_stores (known : csiTypes.contains dt = true) (found : ctxOf d .csi port vc (fun m => bitAt m dt) = some c) :
    csiPacket port vc dt bs false fifo at_ d = storeBytes c bs fifo (advanceTo at_ d) := by
  have same : ctxOf (advanceTo at_ d) .csi port vc (fun m => false || bitAt m dt) = some c := found
  have takes : takesBytes ((advanceTo at_ d).ctx c) = true := takesBytes_started started
  simp only [csiPacket, known, same, takes]
  rfl

theorem csiPacket_drops (found : ctxOf d .csi port vc (fun _ => true) = some c) :
    csiPacket port vc dt bs true fifo at_ d = dropCurrent c .error (advanceTo at_ d) := by
  have same : ctxOf (advanceTo at_ d) .csi port vc (fun m => true || bitAt m dt) = some c := found
  have takes : takesBytes ((advanceTo at_ d).ctx c) = true := takesBytes_started started
  simp only [csiPacket, same, takes]
  rfl

end

/-! ### Ethernet (R565, R567) -/

section

variable {port at_ fifo : Nat} {d : Device} {c : ContextId} {bs : List Byte}

theorem avtpPdu_unmatched {stream : W64} (none : ctxOf d .avtp port stream.toNat (fun _ => true) = none) (q : BitVec 8) (m : Bool) :
    avtpPdu port stream q bs m fifo at_ d = bump .ethDiscards port (advanceTo at_ d) := by
  have same : ctxOf (advanceTo at_ d) .avtp port stream.toNat (fun _ => true) = .none := none
  simp [avtpPdu, same]

/-- A context that expects a sequence number next. -/
def expectNext (c : ContextId) (q : BitVec 8) (d : Device) : Device :=
  modCtx c (fun x => { x with expect := some ((q.toNat + 1) % 256) }) d

/-- The first PDU of a frame begins it and fills it; the M bit ends it. -/
theorem avtpPdu_begins {stream : W64} {q : BitVec 8} (found : ctxOf d .avtp port stream.toNat (fun _ => true) = some c)
    (started : (d.ctx c).state = .started) (empty : (d.ctx c).current = none) (takes : (d.ctx c).discarding = false)
    (next : seqMissing (d.ctx c) q.toNat = false) {e : Device}
    (stored : storeBytes c bs fifo (beginFrame c at_ (expectNext c q (advanceTo at_ d))) = e)
    (open_ : (e.ctx c).current.isSome = true) (m : Bool) :
    avtpPdu port stream q bs m fifo at_ d = if m then endFrame c e else e := by
  have same : ctxOf (advanceTo at_ d) .avtp port stream.toNat (fun _ => true) = some c := found
  have kept : (advanceTo at_ d).ctx c = d.ctx c := rfl
  unfold expectNext at stored
  simp [avtpPdu, same, kept, takesBytes_started started, started, next, empty, takes, accepting, stored, open_]

/-- A datagram of a context without fixed lengths and counters is a frame of its own. -/
theorem udpDatagram_frames {v6 : Bool} {a : BitVec 128} {dp : BitVec 16}
    (found : ctxOf d .udp port a.toNat (fun m => decide (m = dp.toNat + b2n v6 * 65536)) = some c) (started : (d.ctx c).state = .started)
    (single : (d.ctx c).desc.frameLen = 0) (unchecked : (d.ctx c).desc.seqCheck = false) {e : Device}
    (stored : storeBytes c bs fifo (beginFrame c at_ (advanceTo at_ d)) = e) (open_ : (e.ctx c).current.isSome = true) :
    udpDatagram port v6 a dp bs fifo at_ d = endFrame c e := by
  have same : ctxOf (advanceTo at_ d) .udp port a.toNat (fun m => decide (m = dp.toNat + b2n v6 * 65536)) = some c := found
  have kept : (advanceTo at_ d).ctx c = d.ctx c := rfl
  simp [udpDatagram, same, kept, takesBytes_started started, single, unchecked, stored, open_]

end

/-- Settles O39: `csiStart_begins` and the lemmas on packets for the frames' bytes, `storeBytes_beginFrame` for what a frame holds,
`writeRing_stands` for the ring tensor, and `checkStop_sansStop` for what a STOP that ends leaves. The codes of
the data types and a source that is its virtual channel alone are the model's choices (log entries 28 and 90). -/
theorem framesAreGatheredLandedAndReleased : Obligations.FramesAreGatheredLandedAndReleased := by
  unfold Obligations.FramesAreGatheredLandedAndReleased
  refine ⟨fun p vc at_ s c found => ⟨fun started => completes_of_done (exec_csiFrameStart p vc at_ s) ?start,
      fun f current => completes_of_done (exec_csiFrameEnd p vc at_ s) ?csiEnd⟩,
    fun p vc dt bs fifo at_ s => ⟨fun unknown => completes_of_done (exec_csiLongPacket ..) ?unsupported,
      fun c f known found started current whole room few => completes_of_done (exec_csiLongPacket ..) ?stores,
      fun c f found started current => completes_of_done (exec_csiLongPacket ..) ?drops⟩,
    fun p st q bs fifo at_ s => ⟨fun none m => completes_of_done (exec_avtpPdu ..) ?unmatched,
      fun c found started empty takes next whole room few => ?avtp⟩,
    fun p v6 a dp bs fifo at_ s c found started single unchecked whole room few => completes_of_done (exec_udpDatagram ..) ?udp,
    fun p s => completes_of_done (exec_ethFrameDiscard p s) ⟨bump_counted .ethDiscards p.val s.dev, rfl⟩,
    fun c at_ s f found => ⟨completes_of_done (exec_frameLanded c at_ s) ?landed, completes_of_done (exec_frameTimeout c s) ?timeout⟩,
    fun c s => ⟨fun all => completes_of_done (exec_frameRelease c s) ⟨?released, rfl⟩,
      fun f rest ring kept busy => completes_of_done (exec_frameRelease c s) ?waits⟩⟩
  case start =>
    obtain ⟨begun, now⟩ := csiStart_begins (at_ := at_) found started
    obtain ⟨-, seq, ring, head⟩ := Context.dropped_parts (s.dev.ctx c)
    rw [begun, now]
    refine ⟨?_, ?_, ring, fun open_ => Context.dropped_gap open_, le_max_right _ _⟩
    · simp [Context.opened, Context.fresh]
    · simp [Context.opened]
  case csiEnd =>
    rw [csiEnd_ends found current]
    obtain ⟨empty, ring⟩ := endFrame_ends (d := advanceTo at_ s.dev) current
    exact ⟨empty, ring, rfl⟩
  case unsupported =>
    rw [csiPacket_unsupported unknown]
    exact ⟨bump_counted .csiUnsupported p.val (advanceTo at_ s.dev), rfl⟩
  case stores =>
    rw [csiPacket_stores started known found, storeBytes_fits (d := advanceTo at_ s.dev) current whole room few, modCtx_ctx_same]
    exact ⟨rfl, rfl⟩
  case drops =>
    have goes := goes_of_started (d := advanceTo at_ s.dev) started
    have raised := dropCurrent_raised goes current .error
    have dropped := dropCurrent_ctx goes .error
    have same : (advanceTo at_ s.dev).ctx c = s.dev.ctx c := rfl
    rw [csiPacket_drops started found]
    refine ⟨?_, ?_, ?_, raised⟩ <;> simp [dropped, same, Context.dropped, current]
  case unmatched =>
    rw [avtpPdu_unmatched none]
    exact ⟨bump_counted .ethDiscards p.val (advanceTo at_ s.dev), rfl⟩
  case avtp =>
    generalize stored : storeBytes c bs fifo (beginFrame c at_ (expectNext c q (advanceTo at_ s.dev))) = e
    have expects : (expectNext c q (advanceTo at_ s.dev)).ctx c = { s.dev.ctx c with expect := some ((q.toNat + 1) % 256) } :=
      modCtx_ctx_same ..
    have holds := storeBytes_beginFrame (c := c) (d := expectNext c q (advanceTo at_ s.dev)) (bs := bs) (fifo := fifo) at_
      (by simpa [expects] using whole) (by simpa [expects] using room) few
    rw [stored, expects] at holds
    have gathers := avtpPdu_begins found started empty takes next stored (by rw [holds]; rfl)
    refine ⟨completes_of_done (exec_avtpPdu ..) ?_, completes_of_done (exec_avtpPdu ..) ?_⟩
    · rw [gathers false, if_neg (by simp), holds]
      exact ⟨⟨_, rfl, rfl, rfl⟩, rfl⟩
    · obtain ⟨ended, ring⟩ := endFrame_ends (congrArg Context.current holds)
      rw [gathers true, if_pos rfl]
      exact ⟨ended, _, ring.trans (by rw [holds]; rfl), rfl, rfl⟩
  case udp =>
    generalize stored : storeBytes c bs fifo (beginFrame c at_ (advanceTo at_ s.dev)) = e
    have holds := storeBytes_beginFrame (d := advanceTo at_ s.dev) (fifo := fifo) at_ whole room few
    rw [stored] at holds
    obtain ⟨-, ring⟩ := endFrame_ends (congrArg Context.current holds)
    rw [udpDatagram_frames found started single unchecked stored (by rw [holds]; rfl)]
    exact ⟨_, ring.trans (by rw [holds]; rfl), rfl, rfl, rfl⟩
  case landed =>
    have lands := frameLanded_sansStop found at_
    refine ⟨Context.part_of_sansStop lands Context.lastLanded, ?_, fun id x ring named whole canonical fits => ?_⟩
    · rw [Context.part_of_sansStop lands Context.ring]
      exact land_mem found at_
    · rw [findTensor_of_tenants (frameLanded_tenants found at_)]
      exact writeRing_stands (d := advanceTo at_ s.dev) ring named whole canonical fits
  case timeout =>
    rw [frameTimesOut_found found]
    have drops := noteDrop_sansStop c .timeout
      (modCtx c (fun x => { x with ring := x.ring.filter fun y => !(decide (y.seq = f.seq) && y.landed.isNone) })
        (advanceTo (f.first + frameTimeout (s.dev.ctx c)) s.dev))
    rw [modCtx_ctx_same] at drops
    refine ⟨fun g mem same => ?_, Context.part_of_sansStop drops Context.gap, ?_, noteDrop_tensors ..⟩
    · rw [Context.part_of_sansStop drops Context.ring] at mem
      have late := (List.mem_filter.mp mem).2
      simpa [same, Option.isSome_iff_ne_none] using late
    · rw [noteDrop_now]
      exact le_max_right _ _
  case released =>
    rw [frameRelease_ring, List.dropWhile_eq_nil_iff]
    intro g mem
    obtain ⟨f, ringed, rfl⟩ := List.mem_map.mp mem
    obtain ⟨done_, free⟩ := all f ringed
    simp [done_, free]
  case waits =>
    have holds : (frameDone s.dev (ctxTenant s.dev c) f && hostDone (s.dev.ctx c) f) = false := Bool.and_eq_false_iff.mpr busy
    rw [frameRelease_ring, ring, List.map_cons, holds, kept, List.dropWhile_cons_of_neg (by simp)]
    exact ⟨by simp, by simp [← kept]⟩

end Sys2Proof.Machine
end

section
/-! SUPPORT. The time base, the edges and pulses of FRAME_SYNC and the conditions of the Gutter: what a reference, an edge, a pulse and a
condition that begins or ends make of them (R574, R575, R582, R584, R586, R643, R646, R773). -/

set_option Elab.async false

namespace Sys2Proof.Machine

open Sys2Proof

/-! ### The time base (R574, R773) -/

/-- A discipline takes no time, and slews away an offset below 1 µs. -/
theorem discipline_slews (offset : Int) (d : Device) : (discipline offset d).now = d.now ∧
    (discipline offset d).time.slew = (d.now, if -1000 < offset ∧ offset < 1000 then -offset else 0) := by
  unfold discipline
  by_cases small : -1000 < offset ∧ offset < 1000
  · simp [small]
  · have large : (decide (-1000 < offset) && decide (offset < 1000)) = false := by simpa using small
    simp only [large, if_neg small]
    exact ⟨rfl, rfl⟩

/-- The time of an edge of TIME_PPS that is accepted. -/
def acceptEdge (at_ : Nat) (d : Device) : Device :=
  bump .ppsAccepted 0 { advanceTo at_ d with time := { d.time with lastPps := some at_ } }

section

variable {at_ : Nat} {d : Device} (runs : d.boot.inReset = false)
include runs

theorem timePpsEdge_rejected (early : ppsAccepts d at_ = false) : timePpsEdge at_ d = bump .ppsRejected 0 (advanceTo at_ d) := by
  have same : ppsAccepts (advanceTo at_ d) at_ = false := early
  simp [timePpsEdge, runs, same]

theorem timePpsEdge_accepted (due : ppsAccepts d at_ = true) :
    timePpsEdge at_ d = if timeSource d = .pps then ppsDiscipline (acceptEdge at_ d) else acceptEdge at_ d := by
  have same : ppsAccepts (advanceTo at_ d) at_ = true := due
  simp only [timePpsEdge, runs, same]
  rfl

theorem gptpMessage_running (port : Nat) (offset : Int) : gptpMessage port offset at_ d =
    if timeSource d = .gptp ∧ gptpPort d = port then discipline offset (advanceTo at_ d) else advanceTo at_ d := by
  simp only [gptpMessage, runs]
  rfl

end

/-- TIME_SET taken, with what is known of the date. -/
def takeSet (lost : Bool) (d : Device) : Device :=
  { d with time := { d.time with timeSet := none }, backup := { d.backup with rtcLost := lost } }

theorem moduleTime_takeSet (lost : Bool) (d : Device) : moduleTime (takeSet lost d) = moduleTime d := rfl

theorem takeSet_discipline (lost : Bool) (offset : Int) (d : Device) : (takeSet lost (discipline offset d)).now = d.now ∧
    (takeSet lost (discipline offset d)).time.timeSet = none ∧ (takeSet lost (discipline offset d)).time.lastRef = some d.now :=
  ⟨(discipline_slews offset d).1, rfl, (discipline_sets offset d).2.1⟩

theorem ppsDiscipline_eq (d : Device) : ppsDiscipline d = takeSet (d.backup.rtcLost && d.time.timeSet.isNone)
    (discipline (Int.ofNat (moduleTime d) - Int.ofNat (ppsSecond d * sec)) d) := rfl

/-- An edge that finds the module time off by 1 µs or more steps it to the second that it marks. -/
theorem ppsDiscipline_steps {d : Device} (set : 0 < moduleTime d)
    (far : moduleTime d + 1000 ≤ ppsSecond d * sec ∨ ppsSecond d * sec + 1000 ≤ moduleTime d) :
    moduleTime (ppsDiscipline d) = ppsSecond d * sec := by
  have stepped := discipline_steps (offset := Int.ofNat (moduleTime d) - Int.ofNat (ppsSecond d * sec))
    (by simp only [Int.ofNat_eq_natCast]; omega) d
  rw [ppsDiscipline_eq, moduleTime_takeSet, stepped, moduleTime_stepTime set]
  simp only [Int.ofNat_eq_natCast]
  omega

theorem ppsDiscipline_sets (d : Device) : (ppsDiscipline d).now = d.now ∧ (ppsDiscipline d).time.timeSet = none ∧
    (ppsDiscipline d).time.lastRef = some d.now := by
  rw [ppsDiscipline_eq]
  exact takeSet_discipline ..

theorem timeLockAcquired_due {d : Device} {t r : Nat} (good : d.time.goodSince = some t) (ref : d.time.lastRef = some r)
    (free : d.time.locked = false) (long : t + 7 * sec ≤ r) : timeLockAcquired d =
      { advanceTo (t + 8 * sec) d with time := { d.time with locked := true, holdover := false } } := by
  simp [timeLockAcquired, good, ref, free, Nat.not_lt.mpr long]

theorem timeLockAcquired_early {d : Device} {t r : Nat} (good : d.time.goodSince = some t) (ref : d.time.lastRef = some r)
    (short : r < t + 7 * sec) : timeLockAcquired d = d := by
  simp [timeLockAcquired, good, ref, short]

/-- The time base in holdover, before TIME_LOCK is raised. -/
def holdTime (r : Nat) (d : Device) : Device :=
  let e := advanceTo (r + 10 * sec) d
  { e with time := { e.time with locked := false, holdover := true, goodSince := none } }

theorem timeLockLost_locked {d : Device} {r : Nat} (ref : d.time.lastRef = some r) (locked : d.time.locked = true) :
    timeLockLost d = occur 65 0 none (holdTime r d) := by
  rw [timeLockLost, ref]
  exact if_pos locked

/-! ### FRAME_SYNC (R582, R584, R586) -/

theorem tenantOf_eq {n : Nat} {t : TenantId} (named : n = t.val) : tenantOf n = some t := by
  subst named
  exact dif_pos t.isLt

/-- The next nominal boundary of a run that no edge has moved. -/
theorem nominalAhead_next {r : Run} (still : r.moved = none) : nominalAhead r 0 = r.nominal := by
  have kept : ∀ l : List (Nat × Nat × Nat), l.foldl
      (fun (best : Nat × Nat) x => if best.1 < x.1 ∧ x.1 ≤ 0 then (x.1, x.2.1) else best) (0, r.nominal) = (0, r.nominal) :=
    List.foldl_fixed' fun x => if_neg fun both => by omega
  rw [nominalAhead, still]
  exact (congrArg (fun q : Nat × Nat => q.2 + (0 - q.1) * r.period) (kept r.ahead)).trans (by simp)

theorem frameSyncEdge_unpaced {at_ : Nat} {d : Device} (free : syncPaced d = false) :
    frameSyncEdge at_ d = bump .syncIgnored 0 (advanceTo at_ d) := by
  have same : syncPaced (advanceTo at_ d) = false := free
  simp [frameSyncEdge, same]

/-- A run whose next boundary an edge moves. -/
def Run.pull (target falls : Nat) (r : Run) : Run := { r with moved := some falls, anchor := target }

section

variable {d : Device} {t : TenantId} {r : Run} (paced : syncPaced d = true) (named : syncTenant d = t.val) (run : (d.tenant t).run = some r)
  (begun : r.begun = true)
include paced named run begun

theorem frameSyncEdge_moves {at_ : Nat} (alone : spanBound d t = false) (next : nearestAhead r (at_ / 10 * 10 + syncOffset d) = 0)
    (still : r.moved = none) (near : absDiff (at_ / 10 * 10 + syncOffset d) r.nominal ≤ min (r.period / 4) (5 * ms)) :
    frameSyncEdge at_ d = bump .syncAccepted 0 (modRun t
      (Run.pull (at_ / 10 * 10 + syncOffset d) (max (at_ / 10 * 10 + syncOffset d) (at_ / 10 * 10 + 200))) (advanceTo at_ d)) := by
  have tenant : tenantOf (syncTenant (advanceTo at_ d)) = some t := tenantOf_eq named
  have paced' : syncPaced (advanceTo at_ d) = true := paced
  have run' : ((advanceTo at_ d).tenant t).run = some r := run
  have alone' : spanBound (advanceTo at_ d) t = false := alone
  have offset : syncOffset (advanceTo at_ d) = syncOffset d := rfl
  simp only [frameSyncEdge, paced', if_true, tenant, run', begun, alone', offset, next, nominalAhead_next still, still, Bool.not_true,
    Bool.false_and, Bool.or_self, Bool.false_eq_true, if_false, Option.isSome_none, if_neg (Nat.not_lt.mpr near)]
  rfl

/-- The instant of a pulse, whose boundary is noted. -/
def noteCadence (at_ n : Nat) (d : Device) : Device :=
  let e := advanceTo at_ d
  { e with time := { e.time with lastCadence := some n } }

/-- The pulse of a boundary starts where none runs. -/
theorem cadencePulse_starts (cadence : syncCadence d = true) (low : d.time.pulseEnd = none) :
    ∃ at_ n, cadencePulse d = startPulse (noteCadence at_ n d) := by
  have settled : ∀ at_, settlePulse (advanceTo at_ d) = advanceTo at_ d := fun at_ => by
    simp [settlePulse, low]
  simp only [cadencePulse, paced, cadence, Bool.and_self, if_true, tenantOf_eq named, run, begun, Bool.not_true, Bool.false_eq_true,
    if_false, settled]
  exact ⟨_, _, rfl⟩

end

theorem startPulse_low {d : Device} (low : d.time.pulseEnd = none) : startPulse d =
    emit (.syncOut true) { d with
      pins := { d.pins with syncOut := true }, time := { d.time with pulseEnd := some (d.now + syncWidth d) } } := by
  simp [startPulse, low]

theorem cadencePulse_idle {d : Device} (idle : (syncPaced d && syncCadence d) = false) : cadencePulse d = d := by
  simp only [cadencePulse, idle]
  rfl

theorem endPulse_low {d : Device} (low : d.time.pulseEnd = none) : endPulse d = d := by simp [endPulse, low]

theorem endPulse_high {d : Device} {e : Nat} (high : d.time.pulseEnd = some e) : endPulse d =
    emit (.syncOut false) { advanceTo e d with pins := { d.pins with syncOut := false }, time := { d.time with pulseEnd := none } } := by
  simp [endPulse, high]

/-! ### Conditions of the Gutter (R643, R646) -/

theorem sourceEvent_cond (s : SourceId) (insts : List Nat) (charge : Option TenantId) (d : Device) :
    (sourceEvent s insts charge d).gutter.cond = d.gutter.cond := by
  have reacted : ∀ l e, (reactingEvent s l charge e).gutter.cond = e.gutter.cond := fun l e => by
    unfold reactingEvent
    extract_lets k n esc d1 d2 g d3 d4 d5
    have escalated : d2.gutter.cond = e.gutter.cond := by
      unfold d2
      split <;> rfl
    have acted : KeepsFaults d4 d5 := .ite (react_keepsFaults ..) (.refl d4)
    exact ((chargeStep_keepsFaults s charge d5).cond.trans acted.cond).trans escalated
  unfold sourceEvent
  split
  · extract_lets cov open_ d1 d2
    have covered : d2.gutter.cond = d.gutter.cond := by
      unfold d2
      split <;> rfl
    split
    · exact covered
    · exact (reacted open_ d2).trans covered
  · rfl

theorem condBegin_present (s : SourceId) (inst : Nat) (charge : Option TenantId) (d : Device) :
    (s.val, inst) ∈ (condBegin s inst charge d).gutter.cond := by
  unfold condBegin
  split
  next present => exact List.contains_iff_mem.mp present
  · dsimp only
    split
    · rw [(endCycle_keepsFaults _).cond]
      exact List.mem_append_right _ (List.mem_singleton_self _)
    · rw [(endCycle_keepsFaults _).cond, sourceEvent_cond]
      exact List.mem_append_right _ (List.mem_singleton_self _)

theorem condEnd_absent (s : SourceId) (inst : Nat) (d : Device) : (s.val, inst) ∉ (condEnd s inst d).gutter.cond := by
  unfold condEnd
  rw [(endCycle_keepsFaults _).cond]
  simp

end Sys2Proof.Machine
end

section
/-! CERTIFICATE. The time base follows its reference, FRAME_SYNC moves boundaries, and the links of the intake begin and end conditions
(R574, R575, R581, R582, R586, R590, R754, R773). -/

set_option Elab.async false

namespace Sys2Proof.Machine

open Sys2Proof

theorem exec_timePpsEdge (at_ : Nat) (s : State) : exec (.timePpsEdge at_) s = done s (timePpsEdge at_ s.dev) := rfl
theorem exec_gptpMessage (p : Fin 4) (o : Int) (at_ : Nat) (s : State) :
    exec (.gptpMessage p o at_) s = done s (gptpMessage p.val o at_ s.dev) := rfl
theorem exec_timeLockAcquired (s : State) : exec .timeLockAcquired s = done s (timeLockAcquired s.dev) := rfl
theorem exec_timeLock (s : State) : exec .timeLock s = done s (timeLockLost s.dev) := rfl
theorem exec_rtcUpdate (s : State) : exec .rtcUpdate s = done s (rtcUpdate s.dev) := rfl
theorem exec_frameSyncEdge (at_ : Nat) (s : State) : exec (.frameSyncEdge at_) s = done s (frameSyncEdge at_ s.dev) := rfl
theorem exec_syncOutCadencePulse (s : State) : exec .syncOutCadencePulse s = done s (cadencePulse s.dev) := rfl
theorem exec_syncOutPulseEnd (s : State) : exec .syncOutPulseEnd s = done s (endPulse s.dev) := rfl

/-! ### The links of the intake (R590) -/

/-- INTAKE_LINK: the link of a port is lost, which is a condition where a context uses the port. -/
def loseLink (csi : Bool) (port : Nat) (d : Device) : Device :=
  match portUser d csi port with
  | some c => condBegin 22 (linkInst csi port) (some (ctxTenant d c)) (setLink csi port false d)
  | none => setLink csi port false d

theorem exec_intakeLink (csi : Bool) (p : Fin 16) (s : State) : exec (.intakeLink csi p) s = done s (loseLink csi p.val s.dev) := by
  cases csi <;> rfl

theorem exec_intakeLinkRestored (csi : Bool) (p : Fin 16) (s : State) :
    exec (.intakeLinkRestored csi p) s = done s (condEnd 22 (linkInst csi p.val) (setLink csi p.val true s.dev)) := rfl

theorem loseLink_intake (csi : Bool) (port : Nat) (d : Device) : (loseLink csi port d).intake = (setLink csi port false d).intake := by
  unfold loseLink
  split
  · exact (condBegin_aside ..).intake
  · rfl

theorem loseLink_present {csi : Bool} {port inst : Nat} {d : Device} (named : linkInst csi port = inst)
    (used : (portUser d csi port).isSome = true) : (22, inst) ∈ (loseLink csi port d).gutter.cond := by
  obtain ⟨c, user⟩ := Option.isSome_iff_exists.mp used
  simp only [loseLink, user, named]
  exact condBegin_present 22 ..

theorem condEnd_link_absent {csi : Bool} {port inst : Nat} (named : linkInst csi port = inst) (d : Device) :
    (22, inst) ∉ (condEnd 22 (linkInst csi port) d).gutter.cond := by
  rw [named]
  exact condEnd_absent 22 inst d

theorem setLink_csi (p : Fin 16) (up : Bool) (d : Device) : (setLink true p.val up d).intake.csiLock[p.val] = up := by
  have same : (⟨p.val % 16, Nat.mod_lt _ (by decide)⟩ : Fin 16) = p := Fin.ext (Nat.mod_eq_of_lt p.isLt)
  exact (vset_get d.intake.csiLock _ p up).trans (if_pos same)

theorem setLink_eth {n : Nat} (h : n < 4) (up : Bool) (d : Device) : (setLink false n up d).intake.ethLink[n] = up := by
  have same : (⟨n % 4, Nat.mod_lt _ (by decide)⟩ : Fin 4) = ⟨n, h⟩ := Fin.ext (Nat.mod_eq_of_lt h)
  exact (vset_get d.intake.ethLink _ ⟨n, h⟩ up).trans (if_pos same)

theorem linkInst_csi (p : Fin 16) : linkInst true p.val = p.val := Nat.mod_eq_of_lt p.isLt

theorem linkInst_eth {n : Nat} (h : n < 4) : linkInst false n = 16 + n := congrArg (16 + ·) (Nat.mod_eq_of_lt h)

/-- Settles O40: `ppsDiscipline_steps` and `discipline_slews` for the references, the lemmas on TIME_LOCK for the lock,
`nominalAhead_next` for the boundary that an edge moves, and `condBegin_present` and `condEnd_absent` for the links. The slew of the time
base, the window of an edge and the seconds of a lock are the model's choices (log entries 18, 91 and 92). -/
theorem theTimeBaseFollowsItsReference : Obligations.TheTimeBaseFollowsItsReference := by
  unfold Obligations.TheTimeBaseFollowsItsReference
  refine ⟨fun at_ s runs => ⟨fun early => completes_of_done (exec_timePpsEdge at_ s) ?rejected,
      fun due other => completes_of_done (exec_timePpsEdge at_ s) ?other, fun due pps later set => ?pps⟩,
    fun p o at_ s runs => ⟨fun other => completes_of_done (exec_gptpMessage p o at_ s) ?elsewhere,
      fun source port => completes_of_done (exec_gptpMessage p o at_ s) ?gptp⟩,
    fun s t r good ref => ⟨fun free long => completes_of_done (exec_timeLockAcquired s) ?acquired,
      fun short => exec_idle (exec_timeLockAcquired s) (timeLockAcquired_early good ref short),
      fun locked => completes_of_done (exec_timeLock s) ?lost⟩,
    fun s => ⟨fun locked => completes_of_done (exec_rtcUpdate s) ?rtc,
      fun free => exec_idle (exec_rtcUpdate s) (if_neg (by simp [free]))⟩,
    fun at_ s => ⟨fun free => completes_of_done (exec_frameSyncEdge at_ s) ?unpaced,
      fun t r paced named run begun alone next still near => completes_of_done (exec_frameSyncEdge at_ s) ?moves⟩,
    fun s => ⟨fun idle => exec_idle (exec_syncOutCadencePulse s) (cadencePulse_idle idle),
      fun t r paced cadence named run begun low => completes_of_done (exec_syncOutCadencePulse s) ?pulse,
      fun low => exec_idle (exec_syncOutPulseEnd s) (endPulse_low low),
      fun e high => completes_of_done (exec_syncOutPulseEnd s) ?pulseEnd⟩,
    fun p s => ⟨completes_of_done (exec_intakeLink true p s) ?csiLost, completes_of_done (exec_intakeLinkRestored true p s) ?csiBack,
      fun h => ⟨completes_of_done (exec_intakeLink false p s) ?ethLost,
        completes_of_done (exec_intakeLinkRestored false p s) ?ethBack⟩⟩⟩
  case rejected =>
    rw [timePpsEdge_rejected runs early]
    exact ⟨bump_counted .ppsRejected 0 (advanceTo at_ s.dev), rfl⟩
  case other =>
    rw [timePpsEdge_accepted runs due, if_neg other]
    exact ⟨rfl, bump_counted .ppsAccepted 0 (advanceTo at_ s.dev)⟩
  case pps =>
    intro sec_ far
    have now : (acceptEdge at_ s.dev).now = at_ := max_eq_right later
    have time : moduleTime (acceptEdge at_ s.dev) = moduleTimeAt s.dev at_ := congrArg (moduleTimeAt s.dev) now
    have second : ppsSecond (acceptEdge at_ s.dev) = sec_ := by
      unfold ppsSecond
      rw [time]
      rfl
    have steps := ppsDiscipline_steps (d := acceptEdge at_ s.dev) (by rwa [time]) (by rwa [time, second])
    obtain ⟨same, unset, ref⟩ := ppsDiscipline_sets (acceptEdge at_ s.dev)
    refine completes_of_done (exec_timePpsEdge at_ s) ?_
    rw [timePpsEdge_accepted runs due, if_pos pps]
    exact ⟨steps.trans (by rw [second]), same.trans now, unset, ref.trans (congrArg some now)⟩
  case elsewhere =>
    rw [gptpMessage_running runs, if_neg fun both => other.elim (absurd both.1) (absurd both.2)]
    rfl
  case gptp =>
    obtain ⟨now, slew⟩ := discipline_slews o (advanceTo at_ s.dev)
    obtain ⟨-, ref, known⟩ := discipline_sets o (advanceTo at_ s.dev)
    rw [gptpMessage_running runs, if_pos ⟨source, port⟩, slew, now]
    refine ⟨rfl, ref, known, fun large => ?_, fun small => ?_⟩
    · rw [if_neg (by omega)]
    · rw [if_pos small]
  case acquired =>
    rw [timeLockAcquired_due good ref free long]
    exact ⟨rfl, rfl, le_max_right _ _⟩
  case lost =>
    have event := occur_aside 65 0 none (holdTime r s.dev)
    rw [timeLockLost_locked ref locked, event.time, event.now]
    exact ⟨rfl, rfl, le_max_right _ _, occur_raised {} 65 0 none⟩
  case rtc =>
    rw [rtcUpdate, if_pos locked]
    exact ⟨rfl, rfl⟩
  case unpaced =>
    rw [frameSyncEdge_unpaced free]
    exact ⟨bump_counted .syncIgnored 0 (advanceTo at_ s.dev), rfl⟩
  case moves =>
    rw [frameSyncEdge_moves paced named run begun alone next still near]
    refine ⟨_, (modRun_run ..).trans (congrArg (Option.map _) run), rfl, rfl, rfl, ?_⟩
    exact bump_counted .syncAccepted 0 (modRun t _ (advanceTo at_ s.dev))
  case pulse =>
    obtain ⟨from_, n, starts⟩ := cadencePulse_starts paced named run begun cadence low
    rw [starts, startPulse_low (d := noteCadence from_ n s.dev) low]
    exact ⟨rfl, rfl, rfl, rfl⟩
  case pulseEnd =>
    rw [endPulse_high high]
    exact ⟨rfl, rfl, le_max_right _ _, rfl⟩
  case csiLost =>
    simp only [loseLink_intake]
    exact ⟨setLink_csi .., loseLink_present (linkInst_csi p)⟩
  case csiBack =>
    simp only [(condEnd_aside ..).intake]
    exact ⟨setLink_csi .., condEnd_link_absent (linkInst_csi p) _⟩
  case ethLost =>
    simp only [loseLink_intake]
    exact ⟨setLink_eth h .., loseLink_present (linkInst_eth h)⟩
  case ethBack =>
    simp only [(condEnd_aside ..).intake]
    exact ⟨setLink_eth h .., condEnd_link_absent (linkInst_eth h) _⟩

end Sys2Proof.Machine
end
